-- ==== Sys2Proof/Word.lean ====
section
/-! DEFINITION. The word types of the model: bytes, register words and byte strings. -/

namespace Sys2Proof

/-- One byte. -/
abbrev Byte := BitVec 8

/-- A 32-bit register word (R8). -/
abbrev Word32 := BitVec 32

/-- A 64-bit register (R8). -/
abbrev Word64 := BitVec 64

/-- A byte string: an in-memory structure, a digest, a signature, a packet. -/
abbrev Bytes := List Byte

end Sys2Proof
end

