-- ==== Sys2Proof/Config.lean ====
section
/-! DEFINITION. What silicon revision A1 fixes as constants, and the free values: opaque
constants without a body, of which nothing can be proved (log 9). -/

namespace Sys2Proof.Config

/-- ID.VENDOR (R31). -/
def vendorId : Nat := 0x1D4B
/-- ID.DEVICE (R31). -/
def deviceId : Nat := 0x2048
/-- Device ID of the VFs in the SR-IOV capability (R438). -/
def vfDeviceId : Nat := 0x2049
/-- Class code: processing accelerator (R438). -/
def classCode : Nat := 0x120000
/-- Subsystem ID of every function; the subsystem vendor ID is the vendor ID (R438). -/
def subsystemId : Nat := 0
/-- REVISION.SILICON_REV (R31). -/
def siliconRev : Nat := 0xA1
/-- REVISION.CONTRACT_MAJOR (R31). -/
def contractMajor : Nat := 1
/-- REVISION.CONTRACT_MINOR (R31). -/
def contractMinor : Nat := 0
/-- FLOOR_COEF.P_FIXED_W (R420), in W. -/
def pFixedW : Nat := 140
/-- FLOOR_COEF.PRISM_CW (R420), in 0.01 W. -/
def prismCw : Nat := 55
/-- FLOOR_COEF.E_FC_PJ10 (R420), in 10 pJ per facet-cycle. -/
def eFcPj10 : Nat := 20
/-- The key that RESET_CONTROL and the MCTP message carry (R408, R429). -/
def warmKey : Nat := 0x5752
/-- Weight store of one facet in bytes (R59). -/
def weightStoreBytes : Nat := 384 * 1024
/-- State store of one facet in bytes (R59). -/
def stateStoreBytes : Nat := 64 * 1024
/-- Cycles that zeroing a prism takes (R191). -/
def zeroingCycles : Nat := 6144
/-- Bytes of T1 that pins may hold (R241). -/
def t1PinLimit : Nat := 896 * 2 ^ 20
/-- Bytes of the geode (R238). -/
def t1Bytes : Nat := 2 ^ 30
/-- Bytes of away state that the geode may hold (R163). -/
def awayGeodeLimit : Nat := 64 * 2 ^ 20

/-- FREE VALUE (log 9): the k-th value that the spec leaves open, of any width. -/
opaque freeNat : Nat → Nat
/-- FREE VALUE (log 81): what a function reads at an address that still holds another function's byte (R4, R411). -/
opaque staleByte : Nat → Nat
/-- FREE VALUE (log 9): the unique device secret, fuses (R421). -/
opaque deviceSecret : Bytes
/-- FREE VALUE (log 9): the digest of the vendor root key in ROM (R421). -/
opaque vendorRootRom : Bytes
/-- FREE VALUE (log 9): the digest of the vendor root key in fuses (R421). -/
opaque vendorRootFuse : Bytes
/-- FREE VALUE (log 9): the vendor root certificate and device certificate (R421, R429). -/
opaque certificates : Bytes
/-- FREE VALUE (log 9): the register stages of a fall-through queue, fixed in the silicon (R380). -/
opaque queueDepth : Nat → Nat → Nat
/-- FREE VALUE (log 9): the voltage in mV that the fuses give for a compute die at 1.000 GHz and the readings that
tell its temperature (R415). -/
opaque fuseMv : Nat → List Int → Nat
/-- FREE VALUE (log 9): the completion timeout in µs, within its range, for a programmed value (R442). -/
opaque timeoutUs : Nat → Nat
/-- FREE VALUE (log 9): bytes of packets that a fabric flit of 256 bytes carries (R360). -/
opaque flitPayload : Nat
/-- FREE VALUE (log 9): the credits of each virtual channel that a sender holds when its link has trained (R360). -/
opaque linkCredits : Nat → Nat
/-- FREE VALUE (log 9): the L1 exit latency in µs, at most 8 (R437). -/
opaque l1ExitUs : Nat
/-- FREE VALUE (log 9): the prediction of the PRBS13Q checker, which IEEE 802.3 defines (R453). -/
opaque prbs13qPredicts : List Bool → Bool
/-- FREE VALUE (log 11): the operand-transfer cycles of a group's placement in a partition (R106, R213). -/
opaque transferCycles : Nat → Nat → Nat
/-- FREE VALUE (log 11): the path that the best placement of a group over several facets gives, from the path
where each role runs on one (R106, R213). -/
opaque placedPath : Nat → Nat → Nat → Nat
/-- FREE VALUE (log 11): bytes that an occurrence of some streams moves over a resource, from STEPS, CHUNK_MAX
and the voice and KV_POSITIONS of each stream (R213 check 7). -/
opaque resourceBytes : Nat → Nat → Nat → List (List Nat × Nat) → Nat
/-- FREE VALUE (log 11): bytes over a resource that stage the first kernel of such an occurrence (R213 check
7). -/
opaque stagingBytes : Nat → Nat → Nat → List (List Nat × Nat) → Nat
/-- FREE VALUE (log 73): an output of the diagonal mapping over frequency rows of different scales,
from the codes less their zero points and the scales (R122, R232). -/
opaque mixedRows : List Int → List (Int × Int) → Int
/-- FREE VALUE (log 78): byte k of the padding of a stream's output element of a base step (R89, R119). -/
opaque padByte : Nat → Nat → Nat → Byte

end Sys2Proof.Config
end

