-- ==== Sys2Proof/Syntax.lean ====
section
/-! DEFINITION. The commands of the block: one constructor of `Instr` for each row of
spec/opcode_table.json, with the operands its rule names. A packet opcode of R279 names the accepted
command by the number that PACKET_ACCEPT gave it (log 15). -/

namespace Sys2Proof

/-- The header of a fabric request or response (R370); TYPE is the command's own row. -/
structure FabHdr where
  vc : Nat := 0
  hops : Nat := 0
  source : Nat := 0
  dest : Nat := 0
  minor : Nat := 0
  status : Nat := 0
  tag : Nat := 0
  length : Nat := 0
  address : Nat := 0
  sinkId : Nat := 0
  generation : Nat := 0
  sink : Bool := false
  poison : Bool := false
deriving DecidableEq, Repr

/-- Where a kernel met the poisoned word that it consumed (R64, R392, R143). -/
inductive PoisonSource where
  | scratchpad
  | weightStore (role : Nat)
  | stateStore
deriving DecidableEq, Repr

/-- The privileged units of R390 whose fault resets a partition. -/
inductive PrivUnit where
  | culet
  | dma
  | latticeSequencer
deriving DecidableEq, Repr

/-- What is wrong with a word written into a queue (R386, R387); `good` is an intact word. -/
inductive WordFault where
  | good
  | single
  | double
  | parity
deriving DecidableEq, Repr

/-- One item of a fall-through queue (R380, R383, R388). -/
structure QItem where
  word : BitVec 64 := 0
  eop : Bool := true
  header : Bool := false
  poison : Bool := false
  fault : WordFault := .good
deriving DecidableEq, Repr

/-- One request that a shared resource has before it at an arbitration round (R210). -/
structure BwReq where
  resource : Nat
  partition : Nat
  lc : Bool
  bytes : Nat
  /-- Virtual channel of a request on a fabric port (R364). -/
  vc : Nat := 2
deriving DecidableEq, Repr

/-- How LPDDR5X training came out at each rate tried, fastest first (R350). -/
structure TrainResult where
  storedOk : Bool := false
  passed : List Bool := []
  /-- Capacity of each package in GiB, from the mode registers (R348, R349). -/
  packages : List Nat := List.replicate 16 8
deriving DecidableEq, Repr

/-- What a flit carries besides its payload (R360): the symbols corrected in its codeword, its sequence number, the
flits it acknowledges and asks for again, and the credits it returns for each virtual channel. -/
structure FlitHead where
  corrected : Nat := 0
  seq : Nat := 0
  acks : List Nat := []
  replay : Option Nat := none
  credits : List Nat := []
deriving DecidableEq, Repr

/-- The PCIe completion status of a device read (R443). -/
inductive CplStatus where
  | ok
  | poisoned
  | unsupported
  | aborted
deriving DecidableEq, Repr

/-- SPDM requests that R429 names; `other` is any request it does not. -/
inductive SpdmReq where
  | getVersion
  | getCapabilities
  | negotiateAlgorithms
  | getDigests
  | getCertificate (slot : Nat)
  | challenge (nonce : Bytes)
  | getMeasurements (index : Nat)
  | other (code : Nat)
deriving DecidableEq, Repr

/-- How an SPDM request reaches the device: DOE of a PCIe function, or MCTP on SMBus at a 7-bit address (R429). -/
inductive SpdmPath where
  | doe (fn : Nat)
  | smbus (address : Nat)
deriving DecidableEq, Repr

/-- An SPDM request and its path (R429). -/
structure SpdmCall where
  path : SpdmPath
  req : SpdmReq
deriving DecidableEq, Repr

/-- A vendor-defined message on MCTP: SMBus address, message type, vendor, command and key (R408, R429). -/
structure MctpMsg where
  address : Nat
  type : Nat
  vendor : Nat
  command : Nat
  key : Nat
deriving DecidableEq, Repr

/-- TAP instructions (R460). -/
inductive TapInstr where
  | bypass
  | idcode
  | samplePreload
  | extest
  | clamp
  | highz
  | extestPulse
  | extestTrain
deriving DecidableEq, Repr

/-- Counts of one checked lane of a LINK_PATTERN (R454). -/
structure LaneCount where
  lane : Nat
  bits : Nat
  errors : Nat
deriving DecidableEq, Repr

/-- Registers of a function's configuration space that software programs (R441 to R444). -/
inductive CfgReg where
  | maxPayload
  | maxRead
  | tenBitTags
  | timeoutRange
  | timeoutDisable
  | aerStatus
  | aerMask
  | aerSeverity
  | bar2Size
  | bar (index : Nat)
  | bandwidthStatus
deriving DecidableEq, Repr

/-- What a register write names: a byte offset in BAR0, with the EP bit of the packet, or a register of configuration
space (R9, R443). -/
inductive RegTarget where
  | bar0 (off : Nat) (ep : Bool)
  | config (reg : CfgReg)
deriving DecidableEq, Repr

/-- A change of the link's width, and whether the device or its partner makes it (R437). -/
structure WidthChange where
  width : Nat
  byDevice : Bool
deriving DecidableEq, Repr

/-- What a register read names: a byte offset in BAR0 and a size of 4 or 8 bytes (R8, R445). -/
structure RegRead where
  off : Nat
  size : Nat
deriving DecidableEq, Repr

/-- A checked lane of the link whose LINK_PATTERN is command `cid` (R454). -/
structure PatternLane where
  cid : Nat
  lane : Nat
deriving DecidableEq, Repr

/-- The counts of the lanes that the LINK_PATTERN with command `cid` checked (R455). -/
structure PatternCounts where
  cid : Nat
  lanes : List LaneCount
deriving DecidableEq, Repr

/-- A failing word of a MEMORY_TEST (R458): its address and whether the failure was uncorrectable. -/
structure BistWord where
  address : Nat
  facet : Nat
  sram : Nat
  uncorrectable : Bool
deriving DecidableEq, Repr

/-- The failing words that the MEMORY_TEST with command `cid` found (R458). -/
structure BistResult where
  cid : Nat
  words : List BistWord
deriving DecidableEq, Repr

/-- The commands of the block. -/
inductive Instr where
  -- packet opcodes of R279, each naming an accepted command
  | nop (cid : Nat)
  | fence (cid : Nat)
  | deviceQuery (cid : Nat)
  | countersRead (cid : Nat)
  | partitionCreate (cid : Nat)
  | partitionDestroy (cid : Nat)
  | partitionYield (cid : Nat)
  | partitionReset (cid : Nat)
  | latticeLoad (cid : Nat)
  | latticeSwitch (cid : Nat)
  | shareTableLoad (cid : Nat)
  | modelRegister (cid : Nat)
  | modelPrefetch (cid : Nat)
  | modelPin (cid : Nat)
  | modelUnpin (cid : Nat)
  | modelEvict (cid : Nat)
  | modelQuery (cid : Nat)
  | streamOpen (cid : Nat)
  | streamClose (cid : Nat)
  | streamSeed (cid : Nat)
  | streamReset (cid : Nat)
  | run (cid : Nat)
  | stateSave (cid : Nat)
  | stateRestore (cid : Nat)
  | stateEvict (cid : Nat)
  | streamMigrate (cid : Nat)
  | checkpointSet (cid : Nat)
  | portConfig (cid : Nat)
  | portBind (cid : Nat)
  | portArm (cid : Nat)
  | portStop (cid : Nat)
  | alignGroupSet (cid : Nat)
  | windowExport (cid : Nat)
  | windowImport (cid : Nat)
  | copy (cid : Nat)
  | fabricStatus (cid : Nat)
  | powerCapSet (cid : Nat)
  | powerQuery (cid : Nat)
  | attest (cid : Nat)
  | fwStage (cid : Nat)
  | fwActivate (cid : Nat)
  | keyProvision (cid : Nat)
  | linkPattern (cid : Nat)
  | memoryTest (cid : Nat)
  | loopback (cid : Nat)
  -- rings and doorbells
  | sqTailWrite (fn ring : Nat) (value : Word32)
  | packetAccept (fn ring : Nat)
  | deferredCommandStart (cid : Nat)
  | cqHeadWrite (fn ring : Nat) (value : Word32)
  | sqEnable (fn ring : Nat) (on : Bool)
  | cqEnable (fn ring : Nat) (on : Bool)
  | abort (fn ring : Nat)
  | abortDone (fn ring : Nat)
  | ringReset (fn ring : Nat)
  | completionBurstWrite (fn ring : Nat) (written : Bool)
  | coalesceTimeExpiry (fn ring : Nat)
  | queueTailTimeout (cls inst : Nat)
  | dropPacket (cls inst : Nat)
  -- registers
  | registerWrite (fn : Nat) (target : RegTarget) (size : Nat) (value : Word64)
  | regLowWordRead (fn : Nat) (off : RegRead)
  | globalLock (value : Word32)
  | numberValid (value : Word32)
  | intArm (fn : Nat) (value : Word32)
  | msixUnmask (fn : Nat)
  | acctClear (fn part : Nat) (value : Word32)
  | localRangeWrite (index : Nat) (sizeReg : Bool) (value : Word64)
  | unreachableClear (index : Nat) (value : Word32)
  | inject (cls : Nat) (value : Word32)
  | queueItemWrite (cls inst : Nat) (item : QItem)
  | resetControlWarm (value : Word32)
  | go (value : Word32)
  -- facets, containment, lattice
  | kernelStart (facet : Nat)
  | kernelEnd (facet corrected : Nat)
  | kernelPoisonFault (facet : Nat) (source : PoisonSource)
  | watchdog (facet : Nat) (poison : Option PoisonSource)
  | teardownComplete (part group : Nat)
  | partitionFault (part : Nat) (unit : PrivUnit)
  | partitionResetDone (part : Nat)
  | deviceFatalFault (code link : Nat)
  | latticeTick (part : Nat)
  | latticeSwitchInstant (part : Nat)
  | fill (part facet : Nat)
  | stateFetchBackDone (stream : Nat)
  | modelPlacementDone (part model : Nat)
  | modelT1CopyDone (model : Nat)
  | stagedFetchLand (part stream generation : Nat) (landingZone : Bool)
  | prismZeroingDone (prism : Nat)
  | runComplete (cid : Nat)
  | checkpointWrite (stream : Nat) (written : Bool)
  | migrateAck (stream status : Nat) (key sigR sigS : Bytes)
  | migrateAckTimeout (stream : Nat)
  | jumpPrepare (prism facet : Nat) (parityError : Bool)
  | arbitrationRound (reqs : List BwReq)
  -- audio ports
  | sinkWriteTx (port slot : Nat) (poisoned : Bool)
  | portFrameBoundary (port bclks periodPs : Nat) (received : List Int)
  | portArmAction (port : Nat)
  | prerollEnd (port : Nat)
  | portArmTimeout (port : Nat)
  | startInEdge (port : Nat)
  | portStopAction (port : Nat)
  | postrollEnd (port : Nat)
  | portCommit (port : Nat)
  | clockLost (port : Nat)
  | clockReturned (port first second : Nat)
  -- memory and fabric
  | scrubPass (corrected uncorrectable : List Nat)
  | linkDown (port : Nat)
  | linkTrainAttempt (port : Nat)
  | linkUp (port width major minor peerDevice peerPort : Nat)
  | versionAnnounce (port major minor : Nat)
  | read (hdr : FabHdr)
  | write (hdr : FabHdr) (data : Bytes)
  | message (hdr : FabHdr) (data : Bytes)
  | fetchObject (hdr : FabHdr) (identity : Bytes)
  | register (hdr : FabHdr)
  | deregister (hdr : FabHdr)
  | probe (hdr : FabHdr)
  | response (hdr : FabHdr) (data : Bytes)
  | fabricForward (hdr : FabHdr) (type : Nat) (data : Bytes)
  | fabricRequestTimeout (tag : Nat)
  | probeTimer
  -- PCI Express
  | bar2Access (off : Nat) (isWrite : Bool) (len : Nat) (data : Bytes) (ep : Bool)
  | pcieCompletionTimeout (tag : Nat)
  | l1Entry
  | linkWidthChange (change : WidthChange)
  | functionLevelReset (fn : Nat)
  | vfEnableClear
  | d3hotToD0 (fn : Nat)
  -- security, resets, boot, power
  | spdmRequest (call : SpdmCall)
  | mctpWarmReset (msg : MctpMsg)
  | perstN
  | porNAssert
  | porNRelease (trayPos bootSel : BitVec 2)
  | rootPllLock
  | firstStageVerified
  | lpddrTrainingDone (result : TrainResult)
  | bootReady
  | refclkLoss
  | refclkReturn
  | pmuControlStep (temps : List Int)
  | railSample (rails : List Nat) (railFault avsError : Bool)
  | pmbAlert
  | thermtrip (temperature : Int)
  | prismGate (prism : Nat)
  | fwActivateTimeout
  | debugChallenge
  | debugUnlock (level : Nat) (block : Bytes)
  | jtagInstruction (instr : TapInstr)
  -- test engines and completions of long work
  | linkPatternEnd (counts : PatternCounts)
  | checkerLockTimeout (counts : PatternCounts)
  | memoryTestDone (failing : BistResult)
  | flitArrival (port : Nat) (head : FlitHead) (decoded crcOk : Bool)
  | checkerLock (lane : PatternLane) (bits : List Bool)
  | lostLock (lane : PatternLane) (count : LaneCount) (window : List Bool)
  | prismWake (prism : Nat)
  | activateDone
  | stageDone
  | imageCopyDone (cid : Nat)
  | stateCopyOutDone (stream : Nat)
  | pcieReadCompletion (tag : Nat) (status : CplStatus) (data : Bytes)
  | d3hotEntry (fn : Nat)
  | vfEnableSet (numVfs : Nat)
  | perstNRelease
  | l1Exit
  | pmbAlertRelease
deriving DecidableEq, Repr

end Sys2Proof
end

