-- ==== Sys2Proof/Machine/State.lean ====
section
/-! DEFINITION. The state of the U2048 as plain data: every register, memory, queue, mode and pin
that the spec gives the block, the queue of waiting commands, and the state after reset. A default
value in a structure is the reset value of that field (R11); where the spec gives none the assumption
log names it. INVENTORY.md cites the rule of each field. -/

namespace Sys2Proof.Machine

/-- Reasons for which a run stops with a fault. -/
inductive Fault where
  /-- Raised by no command: the spec makes every error of the block an effect on its state (safe). -/
  | noFault
deriving DecidableEq, Repr

/-- Reasons for which a command has no meaning. -/
inductive Refusal where
  /-- Raised for a row that has no meaning yet (safe). -/
  | notModelled (mnemonic : String)
deriving DecidableEq, Repr

/-- A table with a default: pairs of key and value, keys strictly rising, no value equal to the
default. A key that is not listed holds the default. -/
abbrev Tab (α : Type) := List (Nat × α)

/-! ### Identification, modes and pins -/

/-- What the device as a whole is doing (R407 to R413, R419, R395, R452, R460). -/
inductive Mode where
  /-- POR_N is low. -/
  | porLow
  /-- POR_N was released and the root PLL is starting. -/
  | starting
  /-- The crown ROM runs and waits for or reads the first stage. -/
  | rom
  /-- LPDDR5X is being trained. -/
  | training
  /-- Training has ended and the main firmware is loading. -/
  | loading
  /-- READY: commands are accepted. -/
  | ready
  /-- The test state with training done: the ROM serves the admin ring. -/
  | test
  /-- Boot stopped with ERROR. -/
  | stopped
  /-- A warm reset is held by PERST_N or by loss of REFCLK. -/
  | held
  /-- A device-fatal fault has stopped the device. -/
  | fatal
  /-- The thermal comparator has stopped the compute clocks. -/
  | tripped
  /-- An EXTEST-class instruction is loaded. -/
  | scan
deriving DecidableEq, Repr

structure Ident where
  trayPos : BitVec 2 := 0
  bootSel : BitVec 2 := 0
  number : BitVec 10 := 0
  numberValid : Bool := false
  lock : Bool := false
  cycleCount : BitVec 64 := 0
deriving DecidableEq, Repr

structure Pins where
  porLow : Bool := true
  perstLow : Bool := false
  refclkLost : Bool := false
  pmbAlertLow : Bool := false
  thermtrip : Bool := false
  fatalInt : Bool := false
  tap : TapInstr := .idcode
  /-- The mode to return to when a scan instruction is replaced (R460). -/
  scanFrom : Mode := .porLow
deriving DecidableEq, Repr

structure Clocks where
  refclkOk : Bool := false
  rootLocked : Bool := false
  audio24 : Bool := false
  audio22 : Bool := false
  pcieRefOk : Bool := false
  resetCause : BitVec 4 := 1
  stage : BitVec 4 := 0
  ready : Bool := false
  bootError : Bool := false
  slot : Bool := false
  errorCode : BitVec 8 := 0
  hostAddr : BitVec 64 := 0
  hostBytes : BitVec 23 := 0
  go : Bool := false
  capW : BitVec 10 := 650
  nextCap : Option (BitVec 10) := none
  meanW : BitVec 10 := 0
  fBe : BitVec 7 := 64
  fLc : BitVec 7 := 64
  thermal : Bool := false
  alert : Bool := false
  tj : BitVec 8 := 0
  tjSensor : BitVec 6 := 0
  temps : Tab (BitVec 8) := []
  pmuCause : BitVec 7 := 0
  pmuEn : BitVec 7 := 0x7E
  crownCause : BitVec 3 := 0
  crownEn : BitVec 3 := 1
  gpioOut : BitVec 8 := 0
  gpioOe : BitVec 8 := 0
  gpioIn : BitVec 8 := 0
  rails : List Nat := []
  bootCap : BitVec 10 := 650
  /-- Cycles of the last control step and of the last rail sample (R415, R417). -/
  stepAt : Nat := 0
  railAt : Nat := 0
  /-- Voltages in mV that VDD_CMP0 and VDD_CMP1 are set to (R415). -/
  vddMv : List Nat := []
  /-- PMBUS_ADDR of the boot configuration (R414). -/
  pmbusAddr : Bytes := []
deriving DecidableEq, Repr

/-- The firmware header fields that the device uses (R423). -/
structure FwInfo where
  version : BitVec 32 := 0
  protoMajor : BitVec 8 := 1
  protoMinor : BitVec 8 := 0
  floor : Nat := 0
  crownHeader : Bytes := []
deriving DecidableEq, Repr

/-- What manufacture writes into the device: the unique device secret, both copies of the vendor root digest, and
the certificates (R421). Their values are free (log 9). -/
structure Made where
  secret : Bytes := Config.deviceSecret
  vendorRom : Bytes := Config.vendorRootRom
  vendorFuse : Bytes := Config.vendorRootFuse
  certificates : Bytes := Config.certificates
deriving DecidableEq, Repr

structure Security where
  made : Made := {}
  ownerRows : List Bytes := []
  policy : BitVec 2 := 0
  counter : BitVec 7 := 0
  debugLevel : BitVec 2 := 0
  unlockFails : Nat := 0
  challenge : Option Bytes := none
  activeSlot : Bool := false
  stagedValid : Bool := false
  fwVersion : BitVec 32 := 0
  stagedVersion : BitVec 32 := 0
  cause : BitVec 7 := 0
  causeEn : BitVec 7 := 0x69
  mrs : Tab Bytes := []
  idKeySet : Bool := false
  slotA : Bytes := []
  slotB : Bytes := []
  control : Bool := false
  staged : Option Bytes := none
  /-- FW_STAGE in progress: its command, the package being copied (R426). -/
  staging : Option (Nat × Bytes) := none
  /-- FW_ACTIVATE in progress: its command, and the cycle at which the switch began (R433). -/
  activating : Option Nat := none
  switchAt : Option Nat := none
  /-- The running firmware came from the host: its slots are the two areas of crown-reserved LPDDR5X
  (R425). -/
  hostBoot : Bool := false
  hostA : Bytes := []
  hostB : Bytes := []
  hostControl : Bool := false
  running : FwInfo := {}
deriving DecidableEq, Repr

structure FatalRegs where
  cause : BitVec 3 := 0
  record : BitVec 64 := 0
deriving DecidableEq, Repr

/-! ### Functions, interrupts and rings -/

/-- The interrupt page, MSI-X entry and view selection of one function (R401, R448, R449). -/
structure FuncPage where
  summaryEn : BitVec 13 := 0
  armed : Bool := true
  pinMask : BitVec 13 := 0x1300
  /-- GROUP_EN words, keyed 5·g + w, as the difference from their reset value. -/
  groupEn : Tab Word32 := []
  view : BitVec 11 := 0
  msixAddr : Word64 := 0
  msixData : Word32 := 0
  msixMask : Bool := true
  msixPending : Bool := false
  /-- A message that waits for D0 (R450). -/
  msixHeld : Bool := false
deriving DecidableEq, Repr

/-- A finished command whose entry the coalescer holds (R263, R267). -/
structure CplEntry where
  tag : Nat := 0
  opcode : Nat := 0
  sq : Nat := 0
  status : Nat := 0
  detail : Nat := 0
  result : Nat := 0
  waitNs : Nat := 0
  runNs : Nat := 0
  sequence : Nat := 0
  signalled : Bool := false
  /-- Cycle at which it was written into the coalescer's queue (R384). -/
  since : Nat := 0
deriving DecidableEq, Repr

/-- One ring pair (R250 to R273). -/
structure Ring where
  sqTail : BitVec 20 := 0
  sqHead : BitVec 20 := 0
  cqHead : BitVec 19 := 0
  cqTail : BitVec 19 := 0
  phase : Bool := true
  sqBase : Word64 := 0
  cqBase : Word64 := 0
  sqLog2 : BitVec 5 := 12
  cqLog2 : BitVec 5 := 12
  cqSelect : BitVec 4 := 0
  sqEnable : Bool := false
  cqEnable : Bool := false
  abort : Bool := false
  reset : Bool := false
  error : Bool := false
  errorCode : BitVec 8 := 0
  errorHead : BitVec 20 := 0
  coCount : BitVec 8 := 1
  coTime : BitVec 16 := 0
  cause : BitVec 4 := 0
  causeEn : BitVec 4 := 3
  /-- Doorbells not yet passed by SQ_HEAD: the tail written and the cycle (R263). -/
  bells : List (Nat × Nat) := []
  /-- Entries that the coalescer holds, in completion order (R267). -/
  coalescer : List CplEntry := []
  /-- Cycle from which the coalescer's tail timer runs (R384). -/
  coTimer : Nat := 0
  /-- A flush of the coalescer in progress: its entries, and the cycle of their write (R384). -/
  burst : Option (Nat × Nat) := none
  /-- Signalled entries written since COMPLETION was last cleared, and the cycle of the first. -/
  signalled : Nat := 0
  firstSignalled : Option Nat := none
  /-- Entries are no longer written (R266, R272). -/
  cqStopped : Bool := false
  /-- A ring error has stopped the pair (R257). -/
  stopped : Bool := false
  /-- Pending units that reads of host memory have brought (R255, R441). -/
  unitsIn : Nat := 0
deriving DecidableEq, Repr

/-- A stream's sink (R156). -/
inductive Sink where
  | port (port slot sinkId : Nat)
  | host (addr log2 sinkId : Nat)
deriving DecidableEq, Repr

/-- An accepted command that has not completed (R255 to R264). -/
structure Cmd where
  cid : Nat
  fn : Nat
  ring : Nat
  cq : Nat
  packet : Bytes
  /-- Streams that a RUN names, by index (R259). -/
  members : List Nat := []
  /-- The structures a RUN read at acceptance: descriptors, member list, bitmap (R299). -/
  descTable : Bytes := []
  memberList : Bytes := []
  bitmap : Bytes := []
  /-- The status that reading a structure at acceptance ended with; 0 while none has failed. -/
  readStatus : Nat := 0
  /-- The member list of a RUN is still being read from another device (R259). -/
  listing : Bool := false
  bellCycle : Nat := 0
  /-- Cycle of its acceptance (R261). -/
  accepted : Nat := 0
  /-- A function-level reset has discarded its entry (R271). -/
  orphaned : Bool := false
  /-- Held behind an earlier command (R259 to R261). -/
  held : Bool := false
  /-- The status with which it completes once nothing holds it: it failed a check at acceptance (R258, R259). -/
  refused : Option Nat := none
  started : Option Nat := none
  /-- Waits for the executing run of this stream (R162, R165, R178, R181). -/
  waitStream : Option Nat := none
  /-- Structure bytes that have arrived from another device, by fabric address (R276). -/
  fetched : List (Nat × Bytes) := []
  /-- Fabric requests of the command that have no response yet. -/
  wanting : Nat := 0
  /-- Every structure byte has arrived: the command goes on when its row comes again. -/
  resume : Bool := false
  /-- Pieces of a COPY from the host that wait for a free tag (R441). -/
  rest : List (Nat × Nat) := []
  /-- The sink that a PORT_BIND replaces, and whether it was registered, until the new one is (R303). -/
  oldSink : Option (Option Sink × Bool) := none
  /-- Status, DETAIL and RESULT to post when the last write of the command is answered. -/
  final : Option (Nat × Nat × Nat) := none
deriving DecidableEq, Repr

/-! ### Tensors and carried state -/

/-- The descriptor of one A8 group: S16 mantissa and exponent, zero point (R39, R40). -/
structure GroupDesc where
  m : Int := 0
  e : Int := 0
  z : Int := 0
deriving DecidableEq, Repr

/-- The value of an edge at one step or position: integer elements, and for A8 the group
descriptors (R39). -/
structure Tensor where
  x : List Int := []
  g : List GroupDesc := []
deriving DecidableEq, Repr

/-- One carried quantity (R93, R174). Tap entries are newest first, `none` standing for an absent one;
a KV record holds its next position and the rows of the positions before it. -/
inductive CarriedVal where
  | gru (h : List Int)
  | modal (h : List (Int × Int))
  | feedback (value : Nat) (valid : Bool)
  | tracker (delta : Int) (quiet : Nat)
  | taps (entries : List (Option Tensor))
  | kv (next : Nat) (rows : List (Tensor × Tensor))
deriving DecidableEq, Repr

/-- A carried quantity with the identity it has in a portable context (R173). -/
structure Carried where
  role : Nat
  op : Nat
  sub : Nat
  val : CarriedVal
deriving DecidableEq, Repr

/-- The latest output of a producer on a stepped edge (R480). -/
structure EdgeVal where
  role : Nat
  edge : Nat
  val : Tensor
deriving DecidableEq, Repr

/-! ### Streams and runs -/

/-- Where a stream's state slots are (R160); `moving` is a copy in progress, away from or back to the
facets. -/
inductive Residency where
  | resident
  | awayGeode
  | awayLpddr
  | movingOut (geode : Bool)
  | fetching (geode : Bool)
deriving DecidableEq, Repr

/-- Whether a stream is migrating or fenced (R181, R182). -/
inductive MigState where
  | none
  | draining (cid : Nat)
  | delivered (cid captured : Nat) (digest : Bytes) (since : Nat)
  | fenced (device handle : Nat)
deriving DecidableEq, Repr

/-- A state slot of a stream on a facet: the row that the stream has there, and the slot's bytes (R65,
R159). -/
structure Seat where
  facet : Nat
  row : Nat
  bytes : Nat
deriving DecidableEq, Repr

structure Stream where
  part : Nat := 0
  voice : List Nat := []
  lc : Bool := false
  group : Nat := 0
  awaitContext : Bool := false
  maxPrompt : Nat := 0
  kvPositions : Nat := 0
  sourceKey : Bytes := []
  step : Nat := 0
  resetAt : Nat := 0
  noiseAt : Nat := 0
  seed : Nat := 0
  noiseStream : Nat := 0
  placementGen : BitVec 16 := 0
  sink : Option Sink := none
  pendSeed : Option (Nat × Nat) := none
  pendReset : Option Bool := none
  carried : List Carried := []
  edges : List EdgeVal := []
  resid : Residency := .resident
  /-- Its state slots on the facets; none while they are away (R159). -/
  seats : List Seat := []
  mig : MigState := .none
  lastSequence : Nat := 0
  runsDone : Nat := 0
  ckptSeq : Nat := 0
  /-- Contexts captured for checkpoints that are due and not yet written, oldest first (R184, R185). -/
  ckptCopies : List Bytes := []
  /-- Cycle at which its last run ended (R161). -/
  lastRun : Nat := 0
  /-- The registration of a remote sink is acknowledged (R169). -/
  sinkRegistered : Bool := false
  /-- The generation of the context it was last restored from, for a repeated delivery (R182). -/
  restoredFrom : Option Nat := none
  /-- Its state slots hold a poisoned word (R389). -/
  poison : Bool := false
deriving DecidableEq, Repr

/-- An input descriptor of a RUN (R300). -/
structure InDesc where
  address : Nat := 0
  format : Nat := 0
  port : Nat := 0
  slot : Nat := 0
  scale : Nat := 0
  positions : Nat := 0
  stride : Nat := 0
deriving DecidableEq, Repr

/-- A reset mark of a RUN (R107). -/
structure Mark where
  step : Nat
  member : Nat
  reseed : Bool
deriving DecidableEq, Repr

/-- The values of a whole edge in the current RUN (R118, R477). -/
structure WholeVal where
  member : Nat
  role : Nat
  edge : Nat
  val : List Tensor
deriving DecidableEq, Repr

/-- A RUN that has been queued and has not completed (R299, R300). `order` is its place among the accepted commands
(R261). Work inside a run is counted in
items: item s·n + i is operator i of the voice's n operators at run step s (log 10). -/
structure Run where
  cid : Nat
  order : Nat := 0
  fn : Nat := 0
  ring : Nat := 0
  part : Nat := 0
  group : Nat := 0
  lc : Bool := false
  members : List Nat := []
  steps : Nat := 0
  chunk : Nat := 1
  descs : List InDesc := []
  marks : List Mark := []
  indexData : List (Nat × Nat × List Int) := []
  dispatched : Bool := false
  /-- STEP of each member at dispatch. -/
  bases : List Nat := []
  nops : Nat := 1
  prefillTotal : Nat := 0
  prefillPlanned : Nat := 0
  prefillDone : Nat := 0
  /-- The entry in whose occurrence the prefill ended, and the occurrences of it still to pass before the
  output phase (R202). -/
  leadLeft : Option (Nat × Nat) := none
  planned : Nat := 0
  done : Nat := 0
  whole : List WholeVal := []
  /-- Run step before which an out-of-range index ends the run (R87), and the failing member. -/
  stopAt : Option (Nat × Nat) := none
  /-- Cycle at which its first kernel started. -/
  first : Option Nat := none
  stateMiss : Bool := false
  modelMiss : Bool := false
  longPrompt : Bool := false
  streamed : Bool := false
  /-- Every input has been staged and its stepped indices checked (R87, R20). -/
  staged : Bool := false
  /-- Kernels already made of the range that is planned, when it takes several: the passes of a chunk (R105), or the
  pieces of an item that exceeds KERNEL_BOUND (R211). -/
  piece : Nat := 0
  /-- The members of each batch, by the facet that holds their rows, once they are resident (R65). -/
  batches : List (List Nat) := []
  /-- The batch of members that is planned next, the end of the range that is planned, and the batch that commits next
  (R65). -/
  planBatch : Nat := 0
  planHi : Nat := 0
  doneBatch : Nat := 0
  /-- Samples taken from receive slots, by descriptor, one per base step (R342). -/
  rx : List (Nat × List Int) := []
deriving DecidableEq, Repr

/-- A sink write in flight (R158, R168). -/
structure SinkWrite where
  cid : Nat
  stream : Nat
  group : Nat
  part : Nat
  gen : BitVec 16
  sink : Sink
  value : Int
  poison : Bool := false
deriving DecidableEq, Repr

/-- A kernel descriptor (R71): the items [lo, hi) of a run, or prefill positions [lo, hi) (log 10). -/
structure Kernel where
  cid : Nat
  part : Nat := 0
  group : Nat := 0
  lc : Bool := false
  prefill : Bool := false
  lo : Nat := 0
  hi : Nat := 0
  /-- Which batch of at most ROWS members it processes (R65). -/
  batch : Nat := 0
  /-- The items or positions that it works on, of which it commits only [lo, hi): a kernel before the last of a range
  commits nothing. The pass of a chunk that it belongs to (R105), and the end of the range it is planned with. -/
  wlo : Nat := 0
  whi : Nat := 0
  pass : Option Nat := none
  goal : Nat := 0
  dur : Nat := 0
  /-- For the first kernel of an LC occurrence: the cycle of its tick (R216, R223). -/
  tick : Option Nat := none
  /-- Starting states of noise that have not landed (R142). -/
  noise : Nat := 0
  /-- A starting state that landed carried poison (R143). -/
  poison : Bool := false
deriving DecidableEq, Repr

structure Facet where
  cause : BitVec 4 := 0
  causeEn : BitVec 4 := 0xB
  ceCount : Word32 := 0
  kernels : Word64 := 0
  busyCycles : Word64 := 0
  running : Option Kernel := none
  since : Nat := 0
  queue : List Kernel := []
  /-- No kernel of the class starts before this cycle (R417): best-effort, latency-critical. -/
  gapBe : Nat := 0
  gapLc : Nat := 0
  /-- Claimed by LC windows until this cycle (R212). -/
  claimed : Nat := 0
  /-- Cycle at which descriptors were last withdrawn from its queue (R416). -/
  emptied : Nat := 0
deriving DecidableEq, Repr

structure Prism where
  /-- Its SRAMs are being zeroed before it leaves a partition or during a reset (R191). -/
  zeroing : Bool := false
  zeroSince : Nat := 0
  /-- A yield waits for its running kernels to end (R219). -/
  leaving : Bool := false
  /-- Cycle since which its facets have held no kernel (R416). -/
  idleSince : Nat := 0
  /-- Its PRISM_GATED bit (R416, R420). -/
  gated : Bool := true
  /-- It is waking, and awake from this cycle on (R416). -/
  waking : Option Nat := none
  jumpCause : BitVec 1 := 0
  jumpCauseEn : BitVec 1 := 1
  jumpApplied : Word64 := 0
deriving DecidableEq, Repr

/-! ### Partitions -/

/-- A lattice entry (R195). -/
structure LEntry where
  tick : Nat
  lc : Bool
  lead : Nat
  budget : Nat
  group : Nat
  steps : Nat
  maxStreams : Nat
deriving DecidableEq, Repr

/-- A lattice table (R194). -/
structure Lattice where
  frameSync : Bool
  port : Nat
  periodN : Nat
  entries : List LEntry
deriving DecidableEq, Repr

structure AcctSet where
  waitSum : Word64 := 0
  runs : Word64 := 0
  deferrals : Word64 := 0
  waitMax : Word32 := 0
  hist : Tab Word32 := []
deriving DecidableEq, Repr

/-- A checkpoint ring of a stream group (R183). -/
structure CkptRing where
  base : Nat := 0
  entries : Nat := 0
  entryBytes : Nat := 0
  periodK : Nat := 0
  sign : Bool := false
  next : Nat := 0
deriving DecidableEq, Repr

/-- A model copy in T0 of a partition (R238): placed, or being placed for the commands and runs
that wait. -/
structure T0Copy where
  identity : Bytes
  bytes : Nat := 0
  placed : Bool := false
  arrived : Nat := 0
  lastUse : Nat := 0
  /-- It is being placed for a pin command. -/
  waiters : List Nat := []
  fromT1 : Bool := false
  /-- The facets whose weight stores hold it, with the bytes on each (R59, R206). -/
  shares : List (Nat × Nat) := []
  /-- MODEL_EVICT commands with FORCE that wait until it is no longer in use (R243). -/
  forced : List Nat := []
  /-- It holds a word that every read reports as uncorrectable (R389). -/
  poison : Bool := false
  /-- It has delivered poison and is discarded: its regions are free again once no running kernel reads them (R62,
  R392). -/
  dead : Bool := false
deriving DecidableEq, Repr

/-- A fetch that the culet issued for staging: its stream, the placement generation it carries, its
RUN, and what it reads (R220). -/
structure Stage where
  stream : Nat
  gen : Nat
  cid : Nat
  addr : Nat
  len : Nat
deriving DecidableEq, Repr

structure Partition where
  valid : Bool := false
  rows : BitVec 2 := 0
  function : BitVec 6 := 0
  kernelBound : BitVec 5 := 25
  chunkMax : Nat := 64
  prisms : BitVec 128 := 0
  partCause : BitVec 6 := 0
  partEn : BitVec 6 := 0x39
  streamCause : BitVec 5 := 0
  streamEn : BitVec 5 := 7
  modelCause : BitVec 4 := 0
  modelEn : BitVec 4 := 3
  faultCause : BitVec 5 := 0
  faultEn : BitVec 5 := 0x1F
  faultRecord : Word64 := 0
  teardowns : Word64 := 0
  partResets : Word32 := 0
  active : Option Lattice := none
  shadow : Option Lattice := none
  /-- LATTICE_SWITCH commands that await the switch instant (R199). -/
  switch : List Nat := []
  /-- The new table waits for the first period boundary of its source (R199). -/
  awaitBoundary : Bool := false
  ticking : Bool := false
  tickIndex : Nat := 0
  lastTick : Option Nat := none
  periods : Word64 := 0
  lcStartMax : Word32 := 0
  staleStages : Word32 := 0
  acct : Tab AcctSet := []
  stateMisses : Word64 := 0
  staleDrops : Word64 := 0
  ckptWritten : Word64 := 0
  ckptSkipped : Word32 := 0
  modelMisses : Word64 := 0
  streamedRuns : Word64 := 0
  ckpts : Tab CkptRing := []
  /-- Rings that replace those of their groups once the entry being written is complete, oldest first
  (R298). -/
  ckptNext : List (Nat × CkptRing) := []
  culetQ : List Kernel := []
  t0 : List T0Copy := []
  /-- Groups whose teardown waits for running kernels (R391). -/
  tearing : List Nat := []
  /-- A partition reset in progress: the commands that it completes at its end (R393). -/
  resetting : Option (List Nat) := none
  resetSince : Nat := 0
  /-- A yield in progress: its command and the prisms still to be released (R219). -/
  yielding : Option (Nat × BitVec 128) := none
  /-- Staged fetches outstanding (R220). -/
  stages : List Stage := []
  /-- A forced PARTITION_DESTROY that waits for running kernels: its command (R190). -/
  destroying : Option Nat := none
deriving DecidableEq, Repr

/-- An entry of the share table (R208). -/
structure ShareEntry where
  resource : Nat
  partition : Nat
  share : Nat
deriving DecidableEq, Repr

/-! ### Models -/

/-- A registration (R234). -/
structure ModelReg where
  part : Nat := 0
  identity : Bytes := []
  pinT0 : Bool := false
  pinT1 : Bool := false
  /-- A streamed run of it has begun (R247). -/
  streamedOnce : Bool := false
deriving DecidableEq, Repr

/-- The copy of an identity in T2 (R239). -/
structure T2Copy where
  identity : Bytes
  image : Bytes
  /-- It is still being copied for this command; overlapping registrations wait (R236). -/
  copying : Option Nat := none
  waiters : List Nat := []
  /-- Pieces still missing, with the replica asked, for a fetch from the fabric (R246). -/
  missing : List (Nat × Nat) := []
  /-- It holds a poisoned word, until its last registration goes (R392). -/
  poison : Bool := false
deriving DecidableEq, Repr

/-- The copy of an identity in T1 (R238, R244). -/
structure T1Copy where
  identity : Bytes
  bytes : Nat
  copying : Bool := false
  waiters : List Nat := []
  arrived : Nat := 0
  lastUse : Nat := 0
  /-- It holds a poisoned word (R389, R392). -/
  poison : Bool := false
deriving DecidableEq, Repr

structure CacheRegs where
  t2Gib : BitVec 10 := 16
  t1Hits : Word64 := 0
  t1Misses : Word64 := 0
  fetchRetries : Word64 := 0
deriving DecidableEq, Repr

/-! ### Audio ports -/

/-- One slot of a port (R335 to R347). -/
structure Slot where
  bound : Bool := false
  stream : Nat := 0
  sinkId : Word32 := 0
  regGen : BitVec 16 := 0
  started : Bool := false
  debt : BitVec 16 := 0
  txq : List Int := []
  last : Int := 0
  txRepeats : Word32 := 0
  txDiscards : Word32 := 0
  txFlushed : Word32 := 0
  /-- Alignment group, plus 16 when its REALIGN is 1 (R306, R338). -/
  group : Option Nat := none
  /-- Staged binding: `some none` removes the binding, `some (some (stream, sink identifier))` sets it. -/
  staged : Option (Option (Nat × Nat)) := none
  /-- The binding goes at the next frame boundary (R346). -/
  release : Bool := false
  rxReader : Option Nat := none
  rxq : List Int := []
  rxLast : Int := 0
  rxFills : Word32 := 0
  owed : BitVec 16 := 0
deriving DecidableEq, Repr

/-- A PORT_CONFIG that awaits its action frame (R339). -/
structure Commit where
  cid : Nat
  since : Nat
  params : Bytes
deriving DecidableEq, Repr

structure Port where
  format : BitVec 2 := 0
  clock : BitVec 2 := 0
  rate : BitVec 4 := 0
  slots : BitVec 6 := 2
  width : BitVec 2 := 0
  sample : BitVec 3 := 0
  fsync : BitVec 2 := 0
  mclkOut : Bool := false
  sharedClock : Bool := false
  configured : Bool := false
  preroll : BitVec 16 := 0
  postroll : BitVec 16 := 0
  startOffset : BitVec 16 := 0
  owner : BitVec 16 := 0xFFFF
  txShadow : Word32 := 0
  rxShadow : Word32 := 0
  txMask : Word32 := 0
  rxMask : Word32 := 0
  state : BitVec 3 := 0
  /-- The state to which HOLD returns (R344). -/
  heldState : BitVec 3 := 0
  clockOk : Bool := false
  startMaster : Bool := false
  immediate : Bool := false
  rateOut : Bool := false
  /-- Number of the next frame to begin; FRAME_COUNT is one less (R329). -/
  nextFrame : Nat := 0
  startFrame : Word64 := 0
  dataFrame : Word64 := 0
  /-- The first data frame is fixed (R331, R332). -/
  dataKnown : Bool := false
  commitFrame : Word64 := 0
  lastCommit : Option Nat := none
  periodPs : Word32 := 0
  /-- Lengths of the last 64 frames in ps, newest first (R345). -/
  lengths : List Nat := []
  cause : BitVec 11 := 0
  causeEn : BitVec 11 := 0x389
  staleDrops : Word32 := 0
  framingErrors : Word32 := 0
  clockLosses : Word32 := 0
  /-- PORT_ARM in progress: its command and the cycle of its acceptance (R304). -/
  arm : Option (Nat × Nat) := none
  armed : Bool := false
  /-- First frame of the arm (R331). -/
  armFrame : Option Nat := none
  /-- A stop in progress, by PORT_STOP (its command) or by PARTITION_DESTROY, with the cycle of its
  acceptance (R334, R346). -/
  stop : Option (Option Nat × Nat) := none
  stopFrame : Option Nat := none
  commits : List Commit := []
  slotTab : Tab Slot := []
  /-- Words of SLOT_WIDTH bits sent in the frame in progress, by slot; `none` is high impedance (R323, R325,
  R330). -/
  sdo : List (Option Nat) := []
  /-- The frame in progress carries the START_OUT pulse (R333). -/
  startOut : Bool := false
  /-- Slaves: cycle of the last active FSYNC edge (R344). -/
  lastEdge : Nat := 0
  /-- Slaves: the clocks have been lost since they first appeared (R344). -/
  everOk : Bool := false
  /-- The owner's partition was destroyed: the port returns to 0xFFFF when idle (R301). -/
  orphan : Bool := false
  /-- ALIGN_GROUP_SET changes that apply at the next frame boundary: slot and group (R306). -/
  regroup : List (Nat × Option Nat) := []
deriving DecidableEq, Repr

/-! ### Memory, fabric, queues -/

structure MemRegs where
  rate : BitVec 2 := 0
  inlineEcc : Bool := true
  trained : Bool := false
  fastTrained : Bool := false
  installedGib : BitVec 10 := 0
  poolGib : BitVec 10 := 32
  scrubH : BitVec 8 := 24
  cause : BitVec 7 := 0
  causeEn : BitVec 7 := 0x7A
  ceCount : Word64 := 0
  ueCount : Word32 := 0
  scrubPasses : Word32 := 0
  chCe : Tab Word32 := []
  trainFailed : Bool := false
  /-- The training results in flash (rate and capacity, by xSPI byte offset) and in the retention SRAM (R350,
  R407, R414). -/
  stored : Tab (Nat × Nat) := []
  retention : Option (Nat × Nat) := none
  /-- TRAIN_STORE: the xSPI byte offset of stored results, none when it names no place (R414). -/
  trainStore : Option Nat := none
  /-- Memory that was last assigned to a function other than the PF, as function, first address and end (R411). -/
  held : List (Nat × Nat × Nat) := []
  /-- Sectors in which bits have flipped: 1 where the code corrects it, 2 where it does not (R352). Data of the outside
  world (log 7). -/
  flips : Tab Nat := []
  /-- Cycle at which training ended or the last pass of the scrub did (R354). -/
  scrubAt : Nat := 0
deriving DecidableEq, Repr

/-- LOCAL_RANGE[i] (R357, R379): base and size in units of 2 MiB. -/
structure LocalRange where
  valid : Bool := false
  function : BitVec 6 := 0
  base : BitVec 21 := 0
  size : BitVec 21 := 0
deriving DecidableEq, Repr

/-- A flit in the replay buffer of a fabric port: its sequence number, and how often in a row it has been sent again
(R360, R362). -/
structure Flit where
  seq : Nat
  vc : Nat
  replays : Nat := 0
deriving DecidableEq, Repr

/-- A packet before the transmitter of a fabric port: its virtual channel, whether a latency-critical partition sends
it, and its flits still to be sent (R360, R364). -/
structure OutPacket where
  vc : Nat
  lc : Bool
  flits : Nat
deriving DecidableEq, Repr

structure FabPort where
  trained : Bool := false
  width : BitVec 2 := 0
  versionRefused : Bool := false
  linkMinor : BitVec 8 := 0
  peerDevice : BitVec 10 := 0
  peerPort : BitVec 3 := 0
  fecCorrected : Word64 := 0
  fecUncorrected : Word32 := 0
  replays : Word32 := 0
  linkDowns : Word32 := 0
  replaysInRow : Nat := 0
  /-- A training attempt is in progress (R361, R362). -/
  attempting : Bool := false
  /-- Cycle from which the port may try to train (again) (R362). -/
  nextAttempt : Nat := 0
  /-- MINOR of the peer as it last announced it (R363). -/
  peerMinor : BitVec 8 := 0
  /-- Sequence numbers of the next flit to send and of the next to receive, credits held for each virtual channel,
  packets before the transmitter, and flits without an acknowledgement (R360). -/
  txSeq : Nat := 0
  rxSeq : Nat := 0
  credits : List Nat := []
  outq : List OutPacket := []
  replayBuf : List Flit := []
deriving DecidableEq, Repr

/-- An exported window (R368). -/
structure Window where
  owner : Nat
  writable : Bool
  base : Nat
  bytes : Nat
  /-- Readers as a device mask; `none` is every device. -/
  readers : Option Nat
  /-- Identities indexed, with offset and length of each image (R368). -/
  images : List (Bytes × Nat × Nat)
deriving DecidableEq, Repr

/-- A context that this device has captured, with the values of the stepped edges and the carried state at the capture:
what a restore of it goes on with, so that the bits continue (R35, R180, log 29). -/
structure Capture where
  bytes : Bytes
  edges : List EdgeVal
  carried : List Carried
deriving DecidableEq, Repr

/-- What a fabric request was issued for (R376). -/
inductive ReqPurpose where
  | staging (cid addr : Nat)
  | structRead (cid addr : Nat)
  | structWrite (cid : Nat)
  | sinkWrite (cid stream : Nat)
  /-- Write `stage` of a checkpoint entry: prefix, context, prefix again (R184). -/
  | checkpoint (stream stage : Nat)
  | migrate (stream : Nat)
  | fetchPiece (cid piece : Nat)
  | registerSink (cid stream : Nat)
  | registerInbox (stream : Nat)
  | releaseSink
  | copyRead (cid : Nat)
  | copyWrite (cid : Nat)
  | windowImport (cid : Nat)
  | probe
deriving DecidableEq, Repr

structure FabReq where
  tag : Nat
  type : Nat
  dest : Nat
  vc : Nat
  port : Nat
  since : Nat
  purpose : ReqPurpose
  /-- Held for a route change (R366). -/
  heldBack : Bool := false
  hdr : FabHdr := {}
  data : Bytes := []
deriving DecidableEq, Repr

structure Vertex where
  timeoutUs : BitVec 16 := 2000
  hopLimit : BitVec 4 := 8
  portEnable : BitVec 8 := 0xFF
  protoMajor : BitVec 8 := 1
  protoMinor : BitVec 8 := 0
  cause : BitVec 10 := 0
  causeEn : BitVec 10 := 0x23D
  timeouts : Word64 := 0
  staleDrops : Word64 := 0
  hopDrops : Word32 := 0
  lateResponses : Word32 := 0
  unreachable : Tab Word32 := []
  ports : Tab FabPort := []
  /-- ROUTE[d], the eight low bits. -/
  routes : Tab (BitVec 8) := []
  /-- Registration table: (window or 4,096 + function for a host buffer, sink identifier), generation. -/
  regs : List ((Nat × Nat) × BitVec 16) := []
  windows : List (Nat × Window) := []
  reqs : List FabReq := []
  nextTag : Nat := 0
  peerMinor : Tab Nat := []
  /-- Context inboxes: stream handle, bytes, source device and request tag (R371). -/
  inbox : List (Nat × Bytes × Nat × Nat) := []
  captures : List Capture := []
  /-- Cycle from which the next probes are due (R375). -/
  probeAt : Nat := 0
  /-- Entries of the record of what was sent that have reached the transmitters. -/
  noted : Nat := 0
deriving DecidableEq, Repr

structure QClass where
  ceCount : Word64 := 0
  ueCount : Word32 := 0
  parityErrors : Word32 := 0
  /-- TAIL_TIMEOUT as written; `none` is the reset value of the class. -/
  tailTimeout : Option (BitVec 16) := none
  flushes : Word32 := 0
  drops : Word32 := 0
deriving DecidableEq, Repr

/-- A fall-through queue (R381): the items at stages 0 to N − 1. -/
structure FtQueue where
  stages : List (Option QItem) := []
  timer : Nat := 0
  dropping : Nat := 0
  /-- A coalescer reads a burst, a packet or a flush: the items still to read, and those read so far (R384). -/
  flushing : Nat := 0
  read : List QItem := []
  /-- Cycles of its clock that it has already run of the present FACET_CLK cycle (R381). -/
  ahead : Nat := 0
deriving DecidableEq, Repr

/-- A device read on PCIe that has no completion yet (R441 to R443). -/
inductive ReadPurpose where
  | units (fn ring : Nat)
  | copy (cid : Nat)
  /-- Its ring has been stopped since: what it brings is not used (R255, R270). -/
  | stale
deriving DecidableEq, Repr

structure PcieRead where
  tag : Nat
  fn : Nat
  addr : Nat
  len : Nat
  since : Nat
  purpose : ReadPurpose
deriving DecidableEq, Repr

structure PcieRegs where
  rate : BitVec 3 := 0
  width : BitVec 5 := 0
  l0pWidth : BitVec 5 := 0
  flit : Bool := false
  l1 : Bool := false
  bar2Gib : BitVec 9 := 0
  /-- Size of BAR2 in GiB: a power of two from 1 to 512, 16 after POR_N (R444). -/
  bar2Size : BitVec 10 := 16
  l0pAllow : Bool := false
  l1Allow : Bool := true
  l1IdleUs : BitVec 16 := 100
  idleSince : Nat := 0
  vfEnable : Bool := false
  numVfs : BitVec 6 := 0
  /-- Functions in D3hot. -/
  d3 : List Nat := []
  maxPayload : Nat := 512
  maxRead : Nat := 4096
  /-- 10-bit tags are enabled (R441). -/
  tenBitTags : Bool := false
  /-- Completion Timeout Value as programmed: ranges A to D, 0 for the device's own 10 ms (R442). -/
  completionTimeout : BitVec 4 := 0
  completionTimeoutOff : Bool := false
  /-- BAR registers as programmed, in pairs of 64 bits (R444). -/
  bars : Tab Word64 := []
  /-- Uncorrectable error mask and severity of advanced error reporting (R443, log 16). -/
  aerMask : Word32 := 0x00400000
  aerSeverity : Word32 := 0x00462030
  /-- Packets sent on the link of which the idle timer has taken note (R437). -/
  noted : Nat := 0
  aerPoisonedTlp : Bool := false
  aerCompletionTimeout : Bool := false
  aerUnsupported : Bool := false
  aerInternal : Bool := false
  bandwidthChanged : Bool := false
  released : Bool := false
deriving DecidableEq, Repr

/-! ### Test unit -/

structure Inject where
  kind : BitVec 2 := 0
  header : Bool := false
  count : BitVec 8 := 0
deriving DecidableEq, Repr

structure LaneSlot where
  errors : BitVec 48 := 0
  relocks : BitVec 16 := 0
  bits : BitVec 48 := 0
deriving DecidableEq, Repr

/-- A checker while its LINK_PATTERN runs (R454). -/
structure Checker where
  lane : Nat
  locked : Bool := false
  everLocked : Bool := false
  lost : Bool := false
  errors : Nat := 0
  bits : Nat := 0
  relocks : Nat := 0
deriving DecidableEq, Repr

structure Pattern where
  cid : Nat
  fn : Nat
  target : Nat
  index : Nat
  pattern : Nat
  mode : Nat
  lanes : List Nat
  durationUs : Nat
  user : Nat
  report : Nat
  since : Nat
  checkers : List Checker
deriving DecidableEq, Repr

structure Bist where
  cid : Nat
  target : Nat
  index : Nat
  base : Nat
  bytes : Nat
deriving DecidableEq, Repr

structure TestUnit where
  testState : Bool := false
  cause : BitVec 5 := 0
  causeEn : BitVec 5 := 0x0A
  bistFail : Word64 := 0
  inject : Tab Inject := []
  lanes : Tab LaneSlot := []
  loops : List (Nat × Nat) := []
  /-- LINK_PATTERN commands that run, each on its own link (R317, R453). -/
  patterns : List Pattern := []
  /-- MEMORY_TEST commands that run (R318). -/
  bists : List Bist := []
deriving DecidableEq, Repr

/-! ### What has left the device -/

/-- The algorithms of the SPDM responder (R429). -/
inductive SpdmAlg where
  | sm2
  | sm3
deriving DecidableEq, Repr

/-- The answers of the SPDM responder (R429, log 17). -/
inductive SpdmAnswer where
  /-- The versions: major and minor number. -/
  | version (entries : List (Nat × Nat))
  | capabilities (certificates challenge measurements keyExchange : Bool)
  | algorithms (names : List SpdmAlg)
  | digests (chain : Bytes)
  | certificate (chain : Bytes)
  | challengeAuth (nonce signature : Bytes)
  | measurements (values : List Bytes)
  | unsupportedRequest
deriving DecidableEq, Repr

/-- A message, packet or transfer that the device has sent (log 14). The bytes of a fabric packet are `fabPacket` of its
header and data (R5, R370). -/
inductive Sent where
  | msix (fn : Nat) (addr : Nat) (data : Word32)
  | fabric (type : Nat) (hdr : FabHdr) (data : Bytes)
  | forwarded (type port : Nat) (hdr : FabHdr) (data : Bytes)
  /-- A flit leaves a port: its sequence number and virtual channel (R360). -/
  | flit (port seq vc : Nat)
  | flitAck (port seq : Nat)
  | flitReplay (port seq : Nat)
  /-- The announcement on a port: device number, port number, MAJOR and MINOR (R361, R363). -/
  | announce (port device major minor : Nat)
  | bar2Data (data : Bytes) (ep : Bool)
  | unsupported
  | regData (fn off : Nat) (value : Word32)
  /-- The answer to one 8-byte read (R8). -/
  | regData64 (fn off : Nat) (value : Word64)
  /-- A write or read request to host memory, with the function of its requester ID (R358, R359). -/
  | hostWrite (fn addr bytes : Nat) (ep : Bool)
  | hostRead (fn addr bytes : Nat)
  | queueOut (cls inst : Nat) (items : List QItem)
  /-- The request that a dropped packet carried completes as a read that returned poison (R388). -/
  | poisonedRead (cls inst : Nat)
  | spdm (path : SpdmPath) (answer : SpdmAnswer)
  /-- The regulators at these PMBus addresses are programmed (R413, R414). -/
  | pmbus (addresses : Bytes)
  | jtag (data : Bytes)
  | internalError (fatal : Bool)
  | served (req : BwReq) (bytes : Nat)
deriving DecidableEq, Repr

/-- The state of the block. -/
structure State where
  mode : Mode := .porLow
  ident : Ident := {}
  pins : Pins := {}
  clk : Clocks := {}
  sec : Security := {}
  fatal : FatalRegs := {}
  pcie : PcieRegs := {}
  memc : MemRegs := {}
  cache : CacheRegs := {}
  vertex : Vertex := {}
  test : TestUnit := {}
  /-- Latched high words, keyed by function and offset (R8). -/
  latches : List (Nat × Word32) := []
  funcs : Tab FuncPage := []
  /-- Ring pairs, keyed 16·function + pair. -/
  rings : Tab Ring := []
  cmds : List Cmd := []
  nextCid : Nat := 0
  parts : Tab Partition := []
  prisms : Tab Prism := []
  facets : Tab Facet := []
  share : List ShareEntry := []
  shareNext : Option (List ShareEntry) := none
  bwReqs : List BwReq := []
  /-- Open streams, by index; a stream is open when its voice is not empty. -/
  streams : Tab Stream := []
  /-- Times that each stream index has been freed, modulo 2,047 (R153). -/
  streamGens : Tab Nat := []
  runs : List Run := []
  sinkWrites : List SinkWrite := []
  models : Tab ModelReg := []
  /-- Times that each registration index has been freed, modulo 511 (R234). -/
  modelGens : Tab Nat := []
  t2 : List T2Copy := []
  t1 : List T1Copy := []
  ports : Tab Port := []
  ranges : Tab LocalRange := []
  /-- HOST_BASE[f] (R359). -/
  hostBase : Tab Word64 := []
  /-- LPDDR5X bytes and poisoned sectors (R352). -/
  mem : List Host.Cell := []
  poison : Tab Bool := []
  /-- Host memory as the device reads and writes it, its poisoned sectors, and the sectors whose
  write fails (log 7). -/
  hostMem : List Host.Cell := []
  hostPoison : Tab Bool := []
  hostBroken : Tab Bool := []
  pcieReads : List PcieRead := []
  queueCause : Word32 := 0
  queueEn : Word32 := 0x03FF0000
  classes : Tab QClass := []
  /-- Fall-through queues, keyed 65,536·class + instance. -/
  ftqs : Tab FtQueue := []
  sent : List Sent := []
  freeCtr : Nat := 0
  pending : List Instr := []
deriving DecidableEq, Repr

/-- The state right after reset: POR_N is low and every field holds its reset value (R407, R411,
log 3). -/
def State.reset : State := {}

end Sys2Proof.Machine
end

