-- ==== Sys2Proof/Machine/Bits.lean ====
section
/-! DEFINITION. Bits, bytes and tables: little-endian structures (R5), bit fields, two's complement,
and the sorted tables in which the state keeps its registers, memories and units. -/

namespace Sys2Proof.Machine

/-- Bits hi to lo of a number, both included (R5). -/
def bits (v hi lo : Nat) : Nat := v / 2 ^ lo % 2 ^ (hi + 1 - lo)

/-- Bit `i` of a number as 0 or 1. -/
def bitAt (v i : Nat) : Bool := v.testBit i

/-- A flag as a number. -/
def b2n (b : Bool) : Nat := if b then 1 else 0

/-- Two's-complement value of an `n`-bit field. -/
def signed (n v : Nat) : Int :=
  let w := v % 2 ^ n
  if w < 2 ^ (n - 1) then (w : Int) else (w : Int) - 2 ^ n

/-- The `n`-bit field of an integer. -/
def field (n : Nat) (i : Int) : Nat := (i % 2 ^ n).toNat

/-- The number that a little-endian byte string holds (R5). -/
def leNat : Bytes → Nat
  | [] => 0
  | b :: bs => b.toNat + 256 * leNat bs

/-- `n` little-endian bytes of a number (R5). -/
def toLE : Nat → Nat → Bytes
  | 0, _ => []
  | n + 1, v => BitVec.ofNat 8 v :: toLE n (v / 256)

/-- `n` big-endian bytes of a number. -/
def toBE (n v : Nat) : Bytes := (toLE n v).reverse

/-- The number that a big-endian byte string holds. -/
def beNat (b : Bytes) : Nat := leNat b.reverse

/-- `n` bytes from offset `off`. -/
def slice (b : Bytes) (off n : Nat) : Bytes := (b.drop off).take n

/-- The `n`-byte little-endian field at offset `off` (R5). -/
def rd (b : Bytes) (off n : Nat) : Nat := leNat (slice b off n)

/-- `n` zero bytes. -/
def zeros (n : Nat) : Bytes := List.replicate n 0

/-- Every byte is zero. -/
def allZero (b : Bytes) : Bool := b.all (· == 0)

/-- Zero bytes up to a multiple of `n`. -/
def padTo (n : Nat) (b : Bytes) : Bytes := b ++ zeros ((n - b.length % n) % n)

/-- Quotient rounded up. -/
def cdiv (a b : Nat) : Nat := (a + b - 1) / b

/-- Round up to a multiple of `n`. -/
def alignUp (n a : Nat) : Nat := cdiv a n * n

/-- 0, 1, ..., n − 1. -/
def upTo (n : Nat) : List Nat := List.range n

/-- Sum of a list of numbers. -/
def sumN : List Nat → Nat
  | [] => 0
  | x :: xs => x + sumN xs

/-- Greatest of a list of numbers, 0 for none. -/
def maxN : List Nat → Nat
  | [] => 0
  | x :: xs => max x (maxN xs)

/-- Set bits of a mask, lowest first, among the low `n`. -/
def maskBits (n v : Nat) : List Nat := (upTo n).filter fun i => v.testBit i

/-- Number of set bits among the low `n`. -/
def popCount (n v : Nat) : Nat := (maskBits n v).length

/-- The least element that satisfies a test, among 0 to n − 1. -/
def firstBelow (n : Nat) (p : Nat → Bool) : Option Nat := (upTo n).find? p

/-- A list cut into pieces of `n`; the first argument bounds the number of pieces. -/
def chunksN {α : Type} (n : Nat) : Nat → List α → List (List α)
  | 0, _ => []
  | _ + 1, [] => []
  | k + 1, x :: xs => (x :: xs).take n :: chunksN n k ((x :: xs).drop n)

/-- A list cut into pieces of `n`. -/
def chunks {α : Type} (n : Nat) (l : List α) : List (List α) := chunksN n l.length l

/-- Insert into an ascending list. -/
def insertNat (x : Nat) : List Nat → List Nat
  | [] => [x]
  | y :: r => if x ≤ y then x :: y :: r else y :: insertNat x r

/-- A list of numbers in ascending order. -/
def sortNat : List Nat → List Nat
  | [] => []
  | x :: r => insertNat x (sortNat r)

/-- Put an element into a list that is sorted by a relation, before its equals. -/
def insertBy {α : Type} (le : α → α → Bool) (x : α) : List α → List α
  | [] => [x]
  | y :: r => if le x y then x :: y :: r else y :: insertBy le x r

/-- A list sorted by a relation, stable. -/
def sortBy {α : Type} (le : α → α → Bool) : List α → List α
  | [] => []
  | x :: r => insertBy le x (sortBy le r)

/-- The least number from `k` on that an ascending list does not hold. -/
def gapFrom : Nat → List Nat → Nat
  | k, [] => k
  | k, x :: r => if x = k then gapFrom (k + 1) r else k

/-! ### Tables with a default -/

/-- The value of a key. -/
def tabGet {α : Type} (d : α) : Tab α → Nat → α
  | [], _ => d
  | (k', v) :: r, k => if k = k' then v else tabGet d r k

/-- A table without a key. -/
def tabDel {α : Type} (t : Tab α) (k : Nat) : Tab α := t.filter fun kv => kv.1 != k

/-- A table with an entry at its place. -/
def tabPut {α : Type} : Tab α → Nat → α → Tab α
  | [], k, v => [(k, v)]
  | (k', v') :: r, k, v =>
    if k < k' then (k, v) :: (k', v') :: r
    else if k = k' then (k, v) :: r
    else (k', v') :: tabPut r k v

/-- Set the value of a key; setting the default removes the entry. -/
def tabSet {α : Type} [DecidableEq α] (d : α) (t : Tab α) (k : Nat) (v : α) : Tab α :=
  if v = d then tabDel t k else tabPut t k v

/-- Change the value of a key. -/
def tabMod {α : Type} [DecidableEq α] (d : α) (t : Tab α) (k : Nat) (f : α → α) : Tab α :=
  tabSet d t k (f (tabGet d t k))

/-- Set every listed key to a function of its key and value. -/
def tabMapAll {α : Type} [DecidableEq α] (d : α) (f : Nat → α → α) : Tab α → Tab α → Tab α
  | [], u => u
  | kv :: r, u => tabMapAll d f r (tabSet d u kv.1 (f kv.1 kv.2))

/-- Change every listed entry of a table. -/
def tabMapV {α : Type} [DecidableEq α] (d : α) (t : Tab α) (f : Nat → α → α) : Tab α := tabMapAll d f t t

/-- The canonical form: keys strictly rising from a bound, no value equal to the default. -/
def tabWfFrom {α : Type} [DecidableEq α] (d : α) : Nat → Tab α → Bool
  | _, [] => true
  | b, (k, v) :: r => decide (b ≤ k) && decide (v ≠ d) && tabWfFrom d (k + 1) r

/-- The canonical form of a table. -/
def tabWf {α : Type} [DecidableEq α] (d : α) (t : Tab α) : Bool := tabWfFrom d 0 t

/-- The keys a table lists. -/
def tabKeys {α : Type} (t : Tab α) : List Nat := t.map (·.1)

end Sys2Proof.Machine
end

