-- ==== Sys2Proof/Machine/Ops.lean ====
section
/-! DEFINITION. The named operations over the parts of the state: units by number, the cycle counter,
saturating and wrapping counters, LPDDR5X and host memory with their poison (R352 to R359), and free
values. -/

namespace Sys2Proof.Machine

/-! ### Units by number -/

def State.func (s : State) (f : Nat) : FuncPage := tabGet {} s.funcs f
def State.modFunc (s : State) (f : Nat) (g : FuncPage → FuncPage) : State :=
  { s with funcs := tabMod {} s.funcs f g }

/-- Ring pair r of function f (R250). -/
def State.ring (s : State) (f r : Nat) : Ring := tabGet {} s.rings (16 * f + r)
def State.modRing (s : State) (f r : Nat) (g : Ring → Ring) : State :=
  { s with rings := tabMod {} s.rings (16 * f + r) g }

def State.part (s : State) (k : Nat) : Partition := tabGet {} s.parts k
def State.modPart (s : State) (k : Nat) (g : Partition → Partition) : State :=
  { s with parts := tabMod {} s.parts k g }

def State.prism (s : State) (p : Nat) : Prism := tabGet {} s.prisms p
def State.modPrism (s : State) (p : Nat) (g : Prism → Prism) : State :=
  { s with prisms := tabMod {} s.prisms p g }

/-- Facet by its device number, 16 · prism + facet (R20). -/
def State.facet (s : State) (f : Nat) : Facet := tabGet {} s.facets f
def State.modFacet (s : State) (f : Nat) (g : Facet → Facet) : State :=
  { s with facets := tabMod {} s.facets f g }

def State.stream (s : State) (i : Nat) : Stream := tabGet {} s.streams i
def State.modStream (s : State) (i : Nat) (g : Stream → Stream) : State :=
  { s with streams := tabMod {} s.streams i g }
/-- A stream is open. -/
def Stream.isOpen (t : Stream) : Bool := !t.voice.isEmpty

def State.port (s : State) (p : Nat) : Port := tabGet {} s.ports p
def State.modPort (s : State) (p : Nat) (g : Port → Port) : State :=
  { s with ports := tabMod {} s.ports p g }
def Port.slot (p : Port) (k : Nat) : Slot := tabGet {} p.slotTab k
def Port.modSlot (p : Port) (k : Nat) (g : Slot → Slot) : Port :=
  { p with slotTab := tabMod {} p.slotTab k g }
def State.modSlot (s : State) (p k : Nat) (g : Slot → Slot) : State :=
  s.modPort p fun q => q.modSlot k g

def State.model (s : State) (i : Nat) : ModelReg := tabGet {} s.models i
def State.modModel (s : State) (i : Nat) (g : ModelReg → ModelReg) : State :=
  { s with models := tabMod {} s.models i g }

def State.fabPort (s : State) (p : Nat) : FabPort := tabGet {} s.vertex.ports p
def State.modFabPort (s : State) (p : Nat) (g : FabPort → FabPort) : State :=
  { s with vertex := { s.vertex with ports := tabMod {} s.vertex.ports p g } }

def State.qclass (s : State) (c : Nat) : QClass := tabGet {} s.classes c
def State.modQclass (s : State) (c : Nat) (g : QClass → QClass) : State :=
  { s with classes := tabMod {} s.classes c g }

def State.runOf (s : State) (cid : Nat) : Option Run := s.runs.find? (·.cid == cid)
def State.modRun (s : State) (cid : Nat) (g : Run → Run) : State :=
  { s with runs := s.runs.map fun r => if r.cid = cid then g r else r }

def State.cmd (s : State) (cid : Nat) : Option Cmd := s.cmds.find? (·.cid == cid)
def State.modCmd (s : State) (cid : Nat) (g : Cmd → Cmd) : State :=
  { s with cmds := s.cmds.map fun c => if c.cid = cid then g c else c }

/-- CYCLE_COUNT (R31). One cycle is 1 ns (R7). -/
def State.now (s : State) : Nat := s.ident.cycleCount.toNat

/-- Append to the record of what has left the device (log 14). -/
def State.emit (s : State) (x : Sent) : State := { s with sent := s.sent ++ [x] }

/-- The next free value (log 9). -/
def State.free (s : State) : Nat := Config.freeNat s.freeCtr
/-- Advance past the free values used. -/
def State.used (s : State) (n : Nat) : State := { s with freeCtr := s.freeCtr + n }

/-- FW_ACTIVATE is at its switch: every command that had started has completed (R315, R433). -/
def switching (s : State) : Bool :=
  s.sec.activating.isSome && s.cmds.all fun c => c.started.isNone || s.sec.activating == some c.cid

/-- `n` free bytes from the k-th free value on (log 9). -/
def freeBytes (k n : Nat) : Bytes := (upTo n).map fun i => BitVec.ofNat 8 (Config.freeNat (k + i))

/-! ### Counters -/

/-- A counter that saturates at its greatest value (R90, R378, R404). -/
def addSat {w : Nat} (b : BitVec w) (n : Nat) : BitVec w :=
  BitVec.ofNat w (min (b.toNat + n) (2 ^ w - 1))

/-- A counter that wraps. -/
def addWrap {w : Nat} (b : BitVec w) (n : Nat) : BitVec w := b + BitVec.ofNat w n

/-- Set bit `i`. -/
def setBit {w : Nat} (b : BitVec w) (i : Nat) : BitVec w := b ||| BitVec.ofNat w (2 ^ i)

/-- Clear bit `i`. -/
def clearBit {w : Nat} (b : BitVec w) (i : Nat) : BitVec w := b &&& ~~~ BitVec.ofNat w (2 ^ i)

/-- Write of `v` to a W1C field: every bit written 1 is cleared (R9). -/
def w1c {w : Nat} (b : BitVec w) (v : Nat) : BitVec w := b &&& ~~~ BitVec.ofNat w v

/-! ### Local memory -/

/-- Usable LPDDR5X bytes U (R352, R353). -/
def usable (s : State) : Nat :=
  let g := s.memc.installedGib.toNat * 2 ^ 30
  if s.memc.inlineEcc then g / 8 * 7 else g

/-- First address above function memory (R356). -/
def functionTop (s : State) : Nat :=
  usable s - (s.cache.t2Gib.toNat + s.memc.poolGib.toNat) * 2 ^ 30

/-- Bytes of the device pool (R356). -/
def poolBytes (s : State) : Nat := s.memc.poolGib.toNat * 2 ^ 30

/-- The canonical form of a memory: addresses strictly rising, no entry that holds what an unlisted address
reads as (log 6). -/
def Memory.wf (m : List Host.Cell) : Bool := tabWf 0 m

/-- The byte at an address. -/
def byteAt (m : List Host.Cell) (a : Nat) : Byte := tabGet 0 m a

/-- `n` bytes from an address. -/
def readBytes (m : List Host.Cell) (a n : Nat) : Bytes := (upTo n).map fun i => byteAt m (a + i)

/-- Bytes written from an address on. -/
def writeBytes (m : List Host.Cell) : Nat → Bytes → List Host.Cell
  | _, [] => m
  | a, b :: bs => tabSet 0 (writeBytes m (a + 1) bs) a b

/-- The 32-byte sectors that `n` bytes from `a` touch (R352). -/
def sectors (a n : Nat) : List Nat :=
  if n = 0 then [] else (upTo ((a + n - 1) / 32 - a / 32 + 1)).map (a / 32 + ·)

/-- A sector lies wholly within the bytes. -/
def covers (a n k : Nat) : Bool := decide (a ≤ 32 * k ∧ 32 * k + 32 ≤ a + n)

/-- Some sector of the bytes is poisoned. -/
def anyPoison (t : Tab Bool) (a n : Nat) : Bool := (sectors a n).any fun k => tabGet false t k

/-- The poison tags after a write: a poisoned write poisons every sector it touches; any other write
clears the sectors it replaces whole (R352). -/
def poisonAfter (t : Tab Bool) (a n : Nat) (p : Bool) : Tab Bool :=
  (sectors a n).foldl (fun u k => if p then tabSet false u k true
    else if covers a n k then tabSet false u k false else u) t

def State.setMemCause (s : State) (i : Nat) : State :=
  { s with memc := { s.memc with cause := setBit s.memc.cause i } }

/-- Channel of a sector (R351). -/
def channelOf (k : Nat) : Nat := (32 * k / 2 ^ 8 ^^^ 32 * k / 2 ^ 14) % 64

/-- A corrected error of a sector (R352). -/
def correctSector (s : State) (k : Nat) : State :=
  ({ s with memc := { s.memc with
    ceCount := addWrap s.memc.ceCount 1, chCe := tabMod 0 s.memc.chCe (channelOf k) fun n => addSat n 1 } }).setMemCause 0

/-- An uncorrectable error is counted (R352). -/
def countUe (s : State) : State :=
  ({ s with memc := { s.memc with ueCount := addSat s.memc.ueCount 1 } }).setMemCause 1

/-- A sector that the scrub or the read of a partial write finds uncorrectable takes the poison code (R352, R354). -/
def loseSector (s : State) (k : Nat) : State :=
  ({ s with poison := tabSet false s.poison k true, memc := { s.memc with ueCount := addSat s.memc.ueCount 1 } }).setMemCause 1

/-- A sector lies among those that `n` bytes from `a` touch. -/
def touchesSector (a n k : Nat) : Bool := decide (n ≠ 0 ∧ a / 32 ≤ k ∧ k ≤ (a + n - 1) / 32)

/-- The sectors with flipped bits that a read of `n` bytes meets; errors are not detected with inline ECC off (R352,
R353). -/
def flipsIn (s : State) (a n : Nat) : List (Nat × Nat) :=
  if s.memc.inlineEcc then s.memc.flips.filter fun q => touchesSector a n q.1 else []

/-- A read of LPDDR5X counts the errors that it meets (R352). -/
def lpReadEff (s : State) (a n : Nat) : State :=
  (flipsIn s a n).foldl (fun s q => if q.2 = 1 then correctSector s q.1 else countUe s) s

/-- A read of LPDDR5X delivers poison: a poison code, or an uncorrectable error (R352, R353). -/
def lpPoison (s : State) (a n : Nat) : Bool :=
  s.memc.inlineEcc && (anyPoison s.poison a n || (flipsIn s a n).any fun q => q.2 != 1)

/-- What a write of `n` bytes at `a` leaves of a piece of memory that a function held. -/
def heldOutside (a n : Nat) (h : Nat × Nat × Nat) : List (Nat × Nat × Nat) :=
  if n = 0 then [h]
  else ([(h.1, h.2.1, min h.2.2 a), (h.1, max h.2.1 (a + n), h.2.2)]).filter fun q => decide (q.2.1 < q.2.2)

/-- Memory is overwritten: the sectors are free of flipped bits, and the bytes are no former holder's (R352, R411). -/
def overwritten (s : State) (a n : Nat) : State :=
  { s with memc := { s.memc with
    flips := s.memc.flips.filter fun q => !touchesSector a n q.1
    held := s.memc.held.flatMap (heldOutside a n) } }

/-- The reads of the sectors that a write replaces in part: a corrected sector is written back, an uncorrectable one
keeps the poison code (R352). -/
def partialReads (s : State) (a n : Nat) : State :=
  overwritten (((flipsIn s a n).filter fun q => !covers a n q.1).foldl
    (fun s q => if q.2 = 1 then correctSector s q.1 else loseSector s q.1) s) a n

/-- A write into LPDDR5X, with its poison tag (R352, R353). -/
def lpWrite (s0 : State) (a : Nat) (b : Bytes) (p : Bool) : State :=
  let s := partialReads s0 a b.length
  if s.memc.inlineEcc then
    { s with mem := writeBytes s.mem a b, poison := poisonAfter s.poison a b.length p }
  else
    let s1 := { s with mem := writeBytes s.mem a b }
    if p then s1.setMemCause 6 else s1

/-- The packets of a request for `n` bytes from `a`: at most `lim` bytes each, none across a 4 KiB boundary (R441); the
first argument bounds their number. -/
def tlpsN : Nat → Nat → Nat → Nat → List (Nat × Nat)
  | 0, _, _, _ => []
  | k + 1, lim, a, n => if n = 0 then [] else
    let m := min n (min lim (4096 - a % 4096))
    (a, m) :: tlpsN k lim (a + m) (n - m)

def tlps (lim a n : Nat) : List (Nat × Nat) := tlpsN (n / 64 + 2) (min 4096 (max 128 lim)) a n

/-- A write to host memory with the requester ID of function f, in packets of Max_Payload_Size; data tagged poison
leaves with EP set (R358, R389, R441, R443). -/
def hostStore (s : State) (f a : Nat) (b : Bytes) (p : Bool) : State :=
  { s with
    hostMem := writeBytes s.hostMem a b, hostPoison := poisonAfter s.hostPoison a b.length p
    sent := s.sent ++ (tlps s.pcie.maxPayload a b.length).map fun q => .hostWrite f q.1 q.2 p }

/-- A read of host memory with the requester ID of function f, in requests of Max_Read_Request_Size (R358, R441). Where
it ends in an error, the spec leaves open whether in a packet with EP set, a timeout or UR or CA (R443, log 7). -/
def hostReadEff (s : State) (f a n : Nat) : State :=
  let s1 := { s with sent := s.sent ++ (tlps s.pcie.maxRead a n).map fun q => .hostRead f q.1 q.2 }
  if anyPoison s.hostPoison a n then
    { s1 with pcie := { s1.pcie with
      aerPoisonedTlp := s1.pcie.aerPoisonedTlp || s.free % 3 == 0
      aerCompletionTimeout := s1.pcie.aerCompletionTimeout || s.free % 3 == 1 } }.used 1
  else s1

/-- A host write ends in a PCIe error (log 7). -/
def hostFails (s : State) (a n : Nat) : Bool := (sectors a n).any fun k => tabGet false s.hostBroken k

/-! ### The local address map (R355) -/

/-- What a local address belongs to (R355). -/
inductive Region where
  | lpddr
  | geode
  | registers
  | host (f off : Nat)
  | absent
deriving DecidableEq, Repr

def regionOf (s : State) (a : Nat) : Region :=
  if a < usable s then .lpddr
  else if 0x10000000000 ≤ a ∧ a < 0x10040000000 then .geode
  else if 0x20000000000 ≤ a ∧ a < 0x20010000000 then .registers
  else if 0x30000000000 ≤ a ∧ a < 0x40000000000 then
    .host ((a - 0x30000000000) / 2 ^ 34) ((a - 0x30000000000) % 2 ^ 34)
  else .absent

/-- Whole ranges of `n` bytes that lie in one area (R358). -/
def State.rangeOf (s : State) (i : Nat) : LocalRange := tabGet {} s.ranges i

def LocalRange.lo (r : LocalRange) : Nat := r.base.toNat * 2 ^ 21
def LocalRange.hi (r : LocalRange) : Nat := (r.base.toNat + r.size.toNat) * 2 ^ 21

/-- The bytes lie within one valid LOCAL_RANGE entry of the function (R357). -/
def inOwnRange (s : State) (f a n : Nat) : Bool :=
  (upTo 256).any fun i =>
    let r := s.rangeOf i
    r.valid && decide (r.function.toNat = f ∧ r.lo ≤ a ∧ a + n ≤ r.hi)

/-- The bytes lie within the function's outbound host window (R355). -/
def inOwnWindow (f a n : Nat) : Bool :=
  decide (0x30000000000 + f * 2 ^ 34 ≤ a ∧ a + n ≤ 0x30000000000 + (f + 1) * 2 ^ 34)

/-- The bytes lie within the geode diagnostic window (R355). -/
def inGeode (a n : Nat) : Bool := decide (0x10000000000 ≤ a ∧ a + n ≤ 0x10040000000)

/-- Bus address behind the outbound host window of function f (R359). -/
def busAddr (s : State) (f off : Nat) : Nat := ((tabGet 0 s.hostBase f).toNat + off) % 2 ^ 64

/-- A byte that a function left in memory now assigned to another one, and that nothing has overwritten since: it is
never shown (R4, R411, log 81). -/
def veiled (s : State) (a : Nat) : Bool :=
  s.memc.held.any fun h => decide (h.2.1 ≤ a ∧ a < h.2.2) &&
    s.ranges.any fun kv => kv.2.valid && decide (kv.2.lo ≤ a ∧ a < kv.2.hi ∧ kv.2.function.toNat ≠ h.1)

/-- A byte of LPDDR5X as an access reads it. -/
def lpByte (s : State) (a : Nat) : Byte := if veiled s a then BitVec.ofNat 8 (Config.staleByte a) else byteAt s.mem a
def lpBytes (s : State) (a n : Nat) : Bytes := (upTo n).map fun i => lpByte s (a + i)

/-- A read of local addresses: the bytes and whether they are poisoned (R352, R355, R359). -/
def localRead (s : State) (a n : Nat) : Bytes × Bool :=
  match regionOf s a with
  | .lpddr => if a + n ≤ usable s then (lpBytes s a n, lpPoison s a n) else (zeros n, true)
  | .host f off => (readBytes s.hostMem (busAddr s f off) n, anyPoison s.hostPoison (busAddr s f off) n)
  | .geode => (freeBytes s.freeCtr n, false)
  | _ => (zeros n, true)

/-- The effect of a local read on the state: an absent address sets DECODE (R355), a host window reads on PCIe (R359),
and a read of the geode window uses free values (log 9). -/
def localReadEff (s : State) (a n : Nat) : State :=
  match regionOf s a with
  | .lpddr => if a + n ≤ usable s then lpReadEff s a n else s.setMemCause 4
  | .host f off => hostReadEff s f (busAddr s f off) n
  | .geode => s.used n
  | _ => s.setMemCause 4

/-- A write to local addresses; `false` when it ended in a PCIe error (R353, R355, R358, R359). -/
def localWrite (s : State) (a : Nat) (b : Bytes) (p : Bool) : State × Bool :=
  match regionOf s a with
  | .lpddr => if a + b.length ≤ usable s then (lpWrite s a b p, true) else (s.setMemCause 4, true)
  | .host f off =>
    if hostFails s (busAddr s f off) b.length then (s, false)
    else (hostStore s f (busAddr s f off) b p, true)
  | .geode => (s, true)
  | _ => (s.setMemCause 4, true)

/-! ### ADDR fields (R275, R358) -/

/-- Space of an ADDR (R275). -/
def addrSpace (v : Nat) : Nat := v / 2 ^ 62
/-- Address bits of an ADDR (R275). -/
def addrBits (v : Nat) : Nat :=
  match addrSpace v with
  | 0 => v % 2 ^ 62
  | 1 => v % 2 ^ 42
  | _ => v % 2 ^ 52

/-- The space is defined and every bit outside its width is zero (R275). -/
def addrValid (v : Nat) : Bool :=
  match addrSpace v with
  | 0 => true
  | 1 => v % 2 ^ 62 == v % 2 ^ 42
  | 2 => v % 2 ^ 62 == v % 2 ^ 52
  | _ => false

/-- Device number of a fabric ADDR (R367). -/
def addrDevice (v : Nat) : Nat := bits v 51 42

/-- An ADDR of space 2 that names another device. -/
def addrRemote (s : State) (v : Nat) : Bool := addrSpace v == 2 && addrDevice v != s.ident.number.toNat

/-- A channel whose PHY is looped back lies under some of the bytes that a local ADDR names (R351,
R457). -/
def memLooped (s : State) (v n : Nat) : Bool :=
  let a := v % 2 ^ 42
  let k := (a + n - 1) / 256 + 1 - a / 256
  addrSpace v != 0 && !addrRemote s v && decide (n ≠ 0 ∧ a < usable s) &&
  (upTo (min 128 k)).any fun i => s.test.loops.contains (2, ((a / 256 + i) ^^^ (256 * (a / 256 + i) / 2 ^ 14)) % 64)

/-- The issuing function may name the bytes (R358). `geodeOk` marks the source of a COPY. -/
def mayName (s : State) (f v n : Nat) (geodeOk : Bool) : Bool :=
  match addrSpace v with
  | 0 => true
  | 1 | 2 =>
    if addrRemote s v then true
    else
      let a := v % 2 ^ 42
      inOwnRange s f a n || inOwnWindow f a n ||
        (geodeOk && f == 0 && decide (s.sec.debugLevel ≠ 0) && inGeode a n)
  | _ => false

/-- A read through a non-remote ADDR: bytes and poison (R358, R359). -/
def addrRead (s : State) (v n : Nat) : Bytes × Bool :=
  if addrSpace v = 0 then (readBytes s.hostMem (addrBits v) n, anyPoison s.hostPoison (addrBits v) n)
  else localRead s (v % 2 ^ 42) n

/-- The effect on the state of a read that function f makes through a non-remote ADDR (R358). -/
def addrReadEff (s : State) (f v n : Nat) : State :=
  if addrSpace v = 0 then hostReadEff s f (addrBits v) n else localReadEff s (v % 2 ^ 42) n

/-- A write of function f through a non-remote ADDR; `false` when it ended in a PCIe error. -/
def addrWrite (s : State) (f v : Nat) (b : Bytes) (p : Bool) : State × Bool :=
  if addrSpace v = 0 then
    if hostFails s (addrBits v) b.length then (s, false) else (hostStore s f (addrBits v) b p, true)
  else localWrite s (v % 2 ^ 42) b p

/-- A later write of accepted work of function f to memory of this device: the range may have lost its VALID bit
since, and the access is then refused (R357, R358). -/
def namedWrite (s : State) (f v : Nat) (b : Bytes) : State × Bool :=
  if mayName s f v b.length false then localWrite s (v % 2 ^ 42) b false else (s, false)

end Sys2Proof.Machine
end

