-- ==== Sys2Proof/Machine/PciConfig.lean ====
section
/-! DEFINITION. The configuration headers, capabilities and BARs of the PCIe functions (R438, R439, R444), as
the state of the device gives them. -/

namespace Sys2Proof.Machine

/-- Capabilities of a function (R438). -/
inductive PciCap
  | pciExpress
  | powerManagement
  | msix
  | aer
  | ari
  | sriov
  | doe
  | resizableBar
  | dataLinkFeature
  | phy16
  | phy32
  | phy64
  | laneMargining
  | flitLogging
deriving DecidableEq, Repr

/-- The configuration header of a function. -/
structure CfgHeader where
  vendor : Nat
  device : Nat
  revision : Nat
  classCode : Nat
  subVendor : Nat
  subId : Nat
  /-- Interrupt Pin: INTx is not offered (R435). -/
  interruptPin : Nat := 0
  caps : List PciCap
deriving DecidableEq, Repr

/-- What a function's header reads (R438); a VF reads 0xFFFF for both IDs, as SR-IOV defines its read value, and the
SR-IOV capability of PF0 holds the VF Device ID. -/
def cfgHeader (f : Nat) : CfgHeader :=
  if f = 0 then
    { vendor := Config.vendorId, device := Config.deviceId, revision := Config.siliconRev, classCode := Config.classCode
      subVendor := Config.vendorId, subId := Config.subsystemId
      caps := [.pciExpress, .powerManagement, .msix, .aer, .ari, .sriov, .doe, .resizableBar, .dataLinkFeature,
        .phy16, .phy32, .phy64, .laneMargining, .flitLogging] }
  else
    { vendor := 0xFFFF, device := 0xFFFF, revision := Config.siliconRev, classCode := Config.classCode
      subVendor := Config.vendorId, subId := Config.subsystemId, caps := [.pciExpress, .msix, .ari] }

/-- The SR-IOV capability of PF0. -/
structure SriovCap where
  totalVfs : Nat
  initialVfs : Nat
  firstOffset : Nat
  stride : Nat
  vfDevice : Nat
  numVfs : Nat
  enable : Bool
  /-- Bit n: pages of 2^(12 + n) bytes. -/
  pageSizes : Nat
deriving DecidableEq, Repr

/-- The values of R438 and R439. -/
def sriov (s : State) : SriovCap :=
  { totalVfs := 63, initialVfs := 63, firstOffset := 1, stride := 1, vfDevice := Config.vfDeviceId
    numVfs := s.pcie.numVfs.toNat, enable := s.pcie.vfEnable, pageSizes := 0x1F }

/-- Routing ID of VFn, from that of PF0 (R439). -/
def vfRoutingId (s : State) (pf n : Nat) : Nat := pf + (sriov s).firstOffset + (n - 1) * (sriov s).stride

/-- A BAR of a function. -/
structure BarInfo where
  bar : Nat
  prefetch : Bool
  bytes : Nat
deriving DecidableEq, Repr

/-- The 64-bit BARs of a function; every other BAR and the Expansion ROM BAR read as 0. BAR2 of PF0 is resizable
from 1 GiB to 512 GiB (R444). -/
def barsOf (s : State) (f : Nat) : List BarInfo :=
  if f = 0 then [⟨0, false, 256 * 2 ^ 20⟩, ⟨2, true, s.pcie.bar2Size.toNat * 2 ^ 30⟩] else [⟨0, false, 64 * 2 ^ 10⟩]

/-- What BAR register i of a function reads as: a 64-bit BAR has its address above its size and its type bits in the low
word; every other BAR reads as 0 (R444). A VF's BARs are those of the SR-IOV capability of PF0. -/
def barReads (s : State) (f i : Nat) : Nat :=
  match if f = 0 then (barsOf s 0).find? fun b => b.bar == i / 2 * 2 else none with
  | none => 0
  | some b =>
    let v := (tabGet 0 s.pcie.bars (i / 2)).toNat / b.bytes * b.bytes + 4 + 8 * b2n b.prefetch
    if i % 2 = 0 then v % 2 ^ 32 else v / 2 ^ 32

/-- What the Expansion ROM BAR reads as (R444). -/
def romReads : Nat := 0

/-- The link capabilities that the device reports (R435, R437). -/
structure LinkCap where
  rates : List Nat
  widths : List Nat
  l0s : Bool
  l1 : Bool
  l1Substates : Bool
  /-- L1 exit latency in µs. -/
  l1ExitUs : Nat
deriving DecidableEq, Repr

def linkCap : LinkCap :=
  { rates := [1, 2, 3, 4, 5, 6], widths := [4, 8, 16], l0s := false, l1 := true, l1Substates := false
    l1ExitUs := min 8 Config.l1ExitUs }

/-- Sizes that Resizable BAR offers for BAR2, in GiB (R444). -/
def bar2Sizes : List Nat := (upTo 10).map (2 ^ ·)

end Sys2Proof.Machine
end

