-- ==== Sys2Proof/Machine/Arith.lean ====
section
/-! DEFINITION. Integer arithmetic and quantisation (spec/02): rounding helpers, number formats,
the grouped product, and the DYNAMIC, TRACKED and STATIC conversions. Values are exact integers
(R15); only the helpers narrow them (R36). -/

namespace Sys2Proof.Machine

/-! ### Helpers (R37) -/

/-- `div_ta`: round_ta(a / b) for b > 0, ties away from zero (R37). -/
def divTa (a b : Int) : Int :=
  if 0 ≤ a then (2 * a + b) / (2 * b) else -((-(2 * a) + b) / (2 * b))

/-- `shift_ta`: a · 2^n, rounded when n < 0 (R37). -/
def shiftTa (a n : Int) : Int :=
  if 0 ≤ n then a * 2 ^ n.toNat else divTa a (2 ^ (-n).toNat)

/-- `clamp` (R37). -/
def clampI (v lo hi : Int) : Int :=
  if v < lo then lo else if hi < v then hi else v

/-- The smallest value of an integer type of `bits` bits. -/
def tyMin (signed : Bool) (bits : Nat) : Int :=
  if signed then -(2 ^ (bits - 1)) else 0

/-- The largest value of an integer type of `bits` bits. -/
def tyMax (signed : Bool) (bits : Nat) : Int :=
  if signed then 2 ^ (bits - 1) - 1 else 2 ^ bits - 1

/-- `sat` into a signed type (R37). -/
def satS (v : Int) (bits : Nat) : Int := clampI v (tyMin true bits) (tyMax true bits)

/-- `sat` into an unsigned type (R37). -/
def satU (v : Int) (bits : Nat) : Int := clampI v 0 (tyMax false bits)

/-- `bitlen` (R37). -/
def bitLen (x : Nat) : Nat := if x = 0 then 0 else Nat.log2 x + 1

/-- round_ta(x · 2^j / m) + 0 for an integer j of either sign (R37, R47). -/
def scaleTa (x j m : Int) : Int :=
  if 0 ≤ j then divTa (x * 2 ^ j.toNat) m else divTa x (m * 2 ^ (-j).toNat)

/-- `ceil` of a quotient, b > 0 (R37). -/
def ceilDiv (a b : Int) : Int := -((-a) / b)

/-! ### S16 scale words (R40) -/

/-- Mantissa of an S16 word. -/
def s16Mant (w : Nat) : Int := ((w % 1024 : Nat) : Int)

/-- Exponent of an S16 word, 6-bit two's complement. -/
def s16Exp (w : Nat) : Int :=
  let e : Nat := w / 1024 % 64
  if e < 32 then (e : Int) else (e : Int) - 64

/-- A valid word has bit 9 set (R40). -/
def s16Valid (w : Nat) : Bool := w.testBit 9

/-! ### Grouped products (R43 to R46) -/

/-- One weight group of one output channel: its codes, scale and zero point; Σq_w is computed,
which R228 requires the image's stored sum to equal. -/
structure WGroup where
  q : List Int
  m : Int
  e : Int
  z : Int
deriving DecidableEq, Repr

/-- Exact sum of the products of two lists. -/
def dotI : List Int → List Int → Int
  | x :: xs, y :: ys => x * y + dotI xs ys
  | _, _ => 0

/-- Sum of a list. -/
def sumI : List Int → Int
  | [] => 0
  | x :: xs => x + sumI xs

/-- One group's term of `grouped_dot`, narrowed to i48 (R43). -/
def groupTerm (w : WGroup) (qa : List Int) (za ma ea : Int) (f : Int) : Int :=
  let p := dotI w.q qa - za * sumI w.q - w.z * sumI qa + (qa.length : Int) * w.z * za
  satS (shiftTa (p * w.m * ma) (w.e + ea - 20 + f)) 48

/-- Terms of all groups, added exactly (R43, R44). -/
def groupTotal (f : Int) : List WGroup → List (List Int × Int × Int × Int) → Int
  | w :: ws, (qa, ma, ea, za) :: as => groupTerm w qa za ma ea f + groupTotal f ws as
  | _, _ => 0

/-- `grouped_dot`: the value of R43, saturated once at the end (R44). -/
def groupedDot (ws : List WGroup) (as : List (List Int × Int × Int × Int)) (bias fb f : Int) : Int :=
  satS (groupTotal f ws as + bias * 2 ^ (f - fb).toNat) 48

/-! ### DYNAMIC conversion (R47) -/

/-- The exponent k of `s16_ceil`: the first k from bitlen(r) − 19 with 260,865 · 2^k ≥ r. The loop
of R47 ends within two rounds, since r < 2^19 · 2^(bitlen(r) − 19). -/
def s16CeilK (r : Nat) : Int :=
  let k : Int := (bitLen r : Int) - 19
  let enough (k : Int) : Bool :=
    if 0 ≤ k then decide (r ≤ 260865 * 2 ^ k.toNat) else decide (r * 2 ^ (-k).toNat ≤ 260865)
  if enough k then k else if enough (k + 1) then k + 1 else k + 2

/-- `s16_ceil`: the smallest S16 value ≥ r · 2^e_src / 255 (R47). -/
def s16Ceil (r : Nat) (eSrc : Int) : Int × Int :=
  if r = 0 then (512, -32)
  else
    let k := s16CeilK r
    let m := if 0 ≤ k then ceilDiv r (255 * 2 ^ k.toNat) else ceilDiv (r * 2 ^ (-k).toNat) 255
    let e := k + 10 + eSrc
    if e < -32 then (512, -32) else (m, e)

/-- Least of a list and a bound. -/
def minL (b : Int) : List Int → Int
  | [] => b
  | x :: xs => minL (if x < b then x else b) xs

/-- Greatest of a list and a bound. -/
def maxL (b : Int) : List Int → Int
  | [] => b
  | x :: xs => maxL (if b < x then x else b) xs

/-- `dynamic_convert` of one group: mantissa, exponent, zero point and codes (R47). -/
def dynamicConvert (x : List Int) (eSrc : Int) : (Int × Int × Int) × List Int :=
  let lo := minL 0 x
  let hi := maxL 0 x
  let (m, e) := s16Ceil (hi - lo).toNat eSrc
  let j := eSrc - e + 10
  let num := if 0 ≤ j then -128 * m - lo * 2 ^ j.toNat else -128 * (m * 2 ^ (-j).toNat) - lo
  let den := if 0 ≤ j then m else m * 2 ^ (-j).toNat
  let z := clampI (divTa num den) (-128) 127
  ((m, e, z), x.map fun xi => clampI (scaleTa xi j m + z) (-128) 127)

/-! ### TRACKED and STATIC conversion (R49 to R51) -/

/-- Stored scale of one group of a TRACKED or STATIC edge (R50). -/
structure GroupSpec where
  m : Int
  e : Int
  z : Int
deriving DecidableEq, Repr

/-- Codes of one group under an offset, the number that clamped, and whether one is loud (R50). -/
def trackedGroup (x : List Int) (eSrc delta : Int) (g : GroupSpec) : List Int × Nat × Bool :=
  let j := eSrc - (g.e + delta) + 10
  let v := x.map fun xi => scaleTa xi j g.m + g.z
  let q := v.map fun vi => clampI vi (-128) 127
  (q, (v.filter fun vi => decide (vi < -128 ∨ 127 < vi)).length,
    q.any fun qi => decide (64 ≤ (qi - g.z).natAbs))

/-- The tracker after a step (R50). -/
def trackedAdapt (delta : Int) (quiet : Nat) (rise loud : Bool) (maxE minE : Int) (window : Nat) :
    Int × Nat :=
  if rise then (if delta < 7 ∧ maxE + delta < 31 then delta + 1 else delta, 0)
  else if loud then (delta, 0)
  else if window ≤ quiet + 1 then
    (if -2 < delta ∧ -32 < minE + delta then delta - 1 else delta, 0)
  else (delta, quiet + 1)

/-- `tracked_step` over all groups of an edge: codes by group, and the tracker after (R50). -/
def trackedStep (x : List (List Int)) (eSrc delta : Int) (quiet satLimit window : Nat)
    (specs : List GroupSpec) : List (List Int) × Int × Nat :=
  let r := (x.zip specs).map fun (xs, g) => trackedGroup xs eSrc delta g
  let rise := r.any fun (_, n, _) => decide (satLimit < n)
  let loud := r.any fun (_, _, l) => l
  let es := specs.map (·.e)
  let (d', q') := trackedAdapt delta quiet rise loud (maxL (-64) es) (minL 64 es) window
  (r.map (·.1), d', q')

/-- A STATIC edge: the same listing with offset 0 and no adaptation (R50). -/
def staticStep (x : List (List Int)) (eSrc : Int) (specs : List GroupSpec) : List (List Int) :=
  (x.zip specs).map fun (xs, g) => (trackedGroup xs eSrc 0 g).1

/-! ### Host input (R52, R53) -/

/-- An I16 or I32 host element with scale (m, e) into Qa.n (R52). -/
def hostFixed (x m e n : Int) (signed : Bool) (bits : Nat) : Int :=
  clampI (shiftTa (x * m) (e - 10 + n)) (tyMin signed bits) (tyMax signed bits)

/-- A binary16 host element into Qa.n (R53). -/
def f16ToFixed (h : Nat) (n : Int) (signed : Bool) (bits : Nat) : Int :=
  let neg := h.testBit 15
  let ex : Nat := h / 1024 % 32
  let fr : Nat := h % 1024
  if ex = 31 then
    if fr ≠ 0 then 0 else if neg then tyMin signed bits else tyMax signed bits
  else
    let v := if ex = 0 then shiftTa (fr : Int) (n - 24)
      else shiftTa ((1024 + fr : Nat) : Int) ((ex : Int) - 25 + n)
    clampI (if neg then -v else v) (tyMin signed bits) (tyMax signed bits)

/-- Cut a list into groups of `n` consecutive elements; the last may be shorter (R42). The first
argument bounds the number of groups. -/
def groupsOf (n : Nat) : Nat → List Int → List (List Int)
  | 0, _ => []
  | _ + 1, [] => []
  | k + 1, x :: xs => ((x :: xs).take n) :: groupsOf n k ((x :: xs).drop n)

end Sys2Proof.Machine
end

