-- ==== Sys2Proof/Machine/Tables.lean ====
section
/-! DEFINITION. The knots of the table functions (R54, R56, R145), each value of the rule's formula
rounded by round_ta (log 13). -/

namespace Sys2Proof.Machine

def knotsSigmoidPart0 : List Int :=
  [11, 12, 12, 13, 14, 15, 16, 17,
   18, 19, 21, 22, 23, 25, 26, 28,
   30, 32, 34, 36, 38, 41, 43, 46,
   49, 52, 56, 59, 63, 67, 72, 76]

def knotsSigmoidPart1 : List Int :=
  [81, 86, 92, 98, 104, 111, 118, 125,
   133, 142, 151, 161, 171, 182, 194, 206,
   219, 233, 248, 264, 281, 299, 318, 338,
   360, 383, 407, 433, 461, 490, 521, 554]

def knotsSigmoidPart2 : List Int :=
  [589, 627, 666, 708, 753, 800, 851, 904,
   961, 1021, 1084, 1152, 1223, 1299, 1379, 1464,
   1554, 1649, 1750, 1856, 1969, 2088, 2213, 2346,
   2486, 2633, 2789, 2952, 3124, 3306, 3496, 3696]

def knotsSigmoidPart3 : List Int :=
  [3906, 4126, 4357, 4599, 4851, 5115, 5391, 5678,
   5978, 6289, 6613, 6949, 7297, 7658, 8031, 8416,
   8813, 9221, 9641, 10072, 10513, 10964, 11424, 11894,
   12371, 12856, 13348, 13845, 14347, 14852, 15361, 15872]

def knotsSigmoidPart4 : List Int :=
  [16384, 16896, 17407, 17916, 18421, 18923, 19420, 19912,
   20397, 20874, 21344, 21804, 22255, 22696, 23127, 23547,
   23955, 24352, 24737, 25110, 25471, 25819, 26155, 26479,
   26790, 27090, 27377, 27653, 27917, 28169, 28411, 28642]

def knotsSigmoidPart5 : List Int :=
  [28862, 29072, 29272, 29462, 29644, 29816, 29979, 30135,
   30282, 30422, 30555, 30680, 30799, 30912, 31018, 31119,
   31214, 31304, 31389, 31469, 31545, 31616, 31684, 31747,
   31807, 31864, 31917, 31968, 32015, 32060, 32102, 32141]

def knotsSigmoidPart6 : List Int :=
  [32179, 32214, 32247, 32278, 32307, 32335, 32361, 32385,
   32408, 32430, 32450, 32469, 32487, 32504, 32520, 32535,
   32549, 32562, 32574, 32586, 32597, 32607, 32617, 32626,
   32635, 32643, 32650, 32657, 32664, 32670, 32676, 32682]

def knotsSigmoidPart7 : List Int :=
  [32687, 32692, 32696, 32701, 32705, 32709, 32712, 32716,
   32719, 32722, 32725, 32727, 32730, 32732, 32734, 32736,
   32738, 32740, 32742, 32743, 32745, 32746, 32747, 32749,
   32750, 32751, 32752, 32753, 32754, 32755, 32756, 32756]

/-- Knots of sigmoid at −8 + i/16, F = 15 (R56). -/
def knotsSigmoid : List Int :=
  knotsSigmoidPart0 ++ knotsSigmoidPart1 ++ knotsSigmoidPart2 ++ knotsSigmoidPart3 ++ knotsSigmoidPart4 ++ knotsSigmoidPart5 ++ knotsSigmoidPart6 ++ knotsSigmoidPart7

def knotsTanhPart0 : List Int :=
  [-32746, -32745, -32743, -32741, -32740, -32738, -32736, -32734,
   -32732, -32729, -32727, -32724, -32721, -32718, -32715, -32712,
   -32708, -32704, -32700, -32696, -32691, -32686, -32681, -32676,
   -32670, -32663, -32657, -32649, -32642, -32634, -32625, -32616]

def knotsTanhPart1 : List Int :=
  [-32606, -32596, -32584, -32573, -32560, -32547, -32532, -32517,
   -32501, -32484, -32466, -32447, -32426, -32404, -32381, -32356,
   -32329, -32301, -32271, -32240, -32206, -32170, -32132, -32091,
   -32048, -32002, -31953, -31901, -31846, -31788, -31726, -31659]

def knotsTanhPart2 : List Int :=
  [-31589, -31515, -31435, -31351, -31262, -31167, -31067, -30960,
   -30847, -30727, -30600, -30465, -30322, -30170, -30010, -29840,
   -29660, -29470, -29268, -29055, -28830, -28592, -28341, -28076,
   -27797, -27502, -27191, -26864, -26519, -26157, -25776, -25376]

def knotsTanhPart3 : List Int :=
  [-24956, -24516, -24054, -23571, -23066, -22538, -21986, -21411,
   -20813, -20189, -19542, -18870, -18173, -17452, -16706, -15936,
   -15143, -14326, -13486, -12625, -11743, -10840, -9919, -8980,
   -8025, -7056, -6073, -5079, -4075, -3063, -2045, -1024]

def knotsTanhPart4 : List Int :=
  [0, 1024, 2045, 3063, 4075, 5079, 6073, 7056,
   8025, 8980, 9919, 10840, 11743, 12625, 13486, 14326,
   15143, 15936, 16706, 17452, 18173, 18870, 19542, 20189,
   20813, 21411, 21986, 22538, 23066, 23571, 24054, 24516]

def knotsTanhPart5 : List Int :=
  [24956, 25376, 25776, 26157, 26519, 26864, 27191, 27502,
   27797, 28076, 28341, 28592, 28830, 29055, 29268, 29470,
   29660, 29840, 30010, 30170, 30322, 30465, 30600, 30727,
   30847, 30960, 31067, 31167, 31262, 31351, 31435, 31515]

def knotsTanhPart6 : List Int :=
  [31589, 31659, 31726, 31788, 31846, 31901, 31953, 32002,
   32048, 32091, 32132, 32170, 32206, 32240, 32271, 32301,
   32329, 32356, 32381, 32404, 32426, 32447, 32466, 32484,
   32501, 32517, 32532, 32547, 32560, 32573, 32584, 32596]

def knotsTanhPart7 : List Int :=
  [32606, 32616, 32625, 32634, 32642, 32649, 32657, 32663,
   32670, 32676, 32681, 32686, 32691, 32696, 32700, 32704,
   32708, 32712, 32715, 32718, 32721, 32724, 32727, 32729,
   32732, 32734, 32736, 32738, 32740, 32741, 32743, 32745]

/-- Knots of tanh at −4 + i/32, F = 15 (R56). -/
def knotsTanh : List Int :=
  knotsTanhPart0 ++ knotsTanhPart1 ++ knotsTanhPart2 ++ knotsTanhPart3 ++ knotsTanhPart4 ++ knotsTanhPart5 ++ knotsTanhPart6 ++ knotsTanhPart7

def knotsGeluPart0 : List Int :=
  [0, 0, 0, 0, 0, 0, 0, 0,
   0, 0, 0, 0, 0, 0, 0, 0,
   0, 0, 0, 0, 0, 0, 0, 0,
   0, 0, 0, 0, 0, 0, 0, 0]

def knotsGeluPart1 : List Int :=
  [0, 0, 0, 0, 0, 0, 0, 0,
   0, 0, 0, 0, 0, 0, 0, 0,
   0, 0, 0, 0, 0, 0, 0, 0,
   0, 0, 0, 0, 0, 0, 0, 0]

def knotsGeluPart2 : List Int :=
  [0, 0, 0, -1, -1, -1, -1, -1,
   -2, -2, -3, -3, -4, -5, -6, -7,
   -8, -10, -12, -14, -17, -20, -23, -27,
   -32, -37, -43, -49, -56, -64, -73, -83]

def knotsGeluPart3 : List Int :=
  [-93, -105, -117, -130, -144, -158, -173, -189,
   -205, -222, -238, -254, -270, -286, -300, -313,
   -325, -335, -342, -347, -348, -346, -340, -330,
   -316, -296, -272, -241, -205, -163, -115, -61]

def knotsGeluPart4 : List Int :=
  [0, 67, 141, 221, 307, 399, 496, 600,
   708, 822, 940, 1062, 1188, 1317, 1450, 1585,
   1723, 1863, 2004, 2146, 2290, 2434, 2578, 2722,
   2867, 3011, 3155, 3298, 3440, 3582, 3723, 3863]

def knotsGeluPart5 : List Int :=
  [4003, 4141, 4279, 4416, 4552, 4687, 4821, 4955,
   5088, 5221, 5353, 5484, 5615, 5746, 5876, 6006,
   6136, 6265, 6394, 6523, 6652, 6781, 6909, 7038,
   7166, 7295, 7423, 7551, 7679, 7807, 7936, 8064]

def knotsGeluPart6 : List Int :=
  [8192, 8320, 8448, 8576, 8704, 8832, 8960, 9088,
   9216, 9344, 9472, 9600, 9728, 9856, 9984, 10112,
   10240, 10368, 10496, 10624, 10752, 10880, 11008, 11136,
   11264, 11392, 11520, 11648, 11776, 11904, 12032, 12160]

def knotsGeluPart7 : List Int :=
  [12288, 12416, 12544, 12672, 12800, 12928, 13056, 13184,
   13312, 13440, 13568, 13696, 13824, 13952, 14080, 14208,
   14336, 14464, 14592, 14720, 14848, 14976, 15104, 15232,
   15360, 15488, 15616, 15744, 15872, 16000, 16128, 16256]

/-- Knots of GELU at −8 + i/16, F = 11 (R56). -/
def knotsGelu : List Int :=
  knotsGeluPart0 ++ knotsGeluPart1 ++ knotsGeluPart2 ++ knotsGeluPart3 ++ knotsGeluPart4 ++ knotsGeluPart5 ++ knotsGeluPart6 ++ knotsGeluPart7

def knotsSoftplusPart0 : List Int :=
  [1, 1, 1, 1, 1, 1, 1, 1,
   1, 1, 1, 1, 1, 2, 2, 2,
   2, 2, 2, 2, 2, 3, 3, 3,
   3, 3, 3, 4, 4, 4, 4, 5]

def knotsSoftplusPart1 : List Int :=
  [5, 5, 6, 6, 7, 7, 7, 8,
   8, 9, 9, 10, 11, 11, 12, 13,
   14, 15, 16, 17, 18, 19, 20, 21,
   23, 24, 26, 27, 29, 31, 33, 35]

def knotsSoftplusPart2 : List Int :=
  [37, 40, 42, 45, 48, 51, 54, 57,
   61, 65, 69, 73, 78, 83, 88, 94,
   100, 106, 112, 119, 127, 135, 143, 152,
   162, 172, 182, 193, 205, 218, 231, 245]

def knotsSoftplusPart3 : List Int :=
  [260, 276, 292, 310, 328, 348, 368, 390,
   412, 436, 462, 488, 516, 545, 576, 608,
   642, 677, 714, 752, 792, 834, 878, 924,
   971, 1020, 1071, 1124, 1180, 1237, 1296, 1357]

def knotsSoftplusPart4 : List Int :=
  [1420, 1485, 1552, 1621, 1692, 1764, 1839, 1916,
   1995, 2076, 2158, 2242, 2328, 2416, 2506, 2597,
   2690, 2784, 2880, 2977, 3076, 3176, 3278, 3380,
   3484, 3590, 3696, 3804, 3912, 4022, 4132, 4244]

def knotsSoftplusPart5 : List Int :=
  [4356, 4469, 4583, 4698, 4813, 4929, 5046, 5164,
   5282, 5400, 5519, 5639, 5759, 5879, 6000, 6122,
   6244, 6366, 6488, 6611, 6734, 6857, 6981, 7105,
   7229, 7353, 7478, 7603, 7728, 7853, 7978, 8104]

def knotsSoftplusPart6 : List Int :=
  [8229, 8355, 8481, 8607, 8733, 8859, 8986, 9112,
   9239, 9365, 9492, 9619, 9746, 9873, 10000, 10127,
   10254, 10381, 10508, 10635, 10763, 10890, 11017, 11145,
   11272, 11400, 11527, 11655, 11783, 11910, 12038, 12165]

def knotsSoftplusPart7 : List Int :=
  [12293, 12421, 12548, 12676, 12804, 12932, 13059, 13187,
   13315, 13443, 13571, 13699, 13826, 13954, 14082, 14210,
   14338, 14466, 14594, 14722, 14849, 14977, 15105, 15233,
   15361, 15489, 15617, 15745, 15873, 16001, 16129, 16257]

/-- Knots of softplus at −8 + i/16, F = 11 (R56). -/
def knotsSoftplus : List Int :=
  knotsSoftplusPart0 ++ knotsSoftplusPart1 ++ knotsSoftplusPart2 ++ knotsSoftplusPart3 ++ knotsSoftplusPart4 ++ knotsSoftplusPart5 ++ knotsSoftplusPart6 ++ knotsSoftplusPart7

def knotsExp2Part0 : List Int :=
  [1073741824, 1076653033, 1079572136, 1082499153, 1085434106, 1088377016, 1091327906, 1094286796,
   1097253708, 1100228665, 1103211687, 1106202798, 1109202018, 1112209370, 1115224875, 1118248556,
   1121280436, 1124320536, 1127368878, 1130425485, 1133490379, 1136563583, 1139645120, 1142735011,
   1145833280, 1148939949, 1152055042, 1155178580, 1158310587, 1161451085, 1164600099, 1167757650]

def knotsExp2Part1 : List Int :=
  [1170923762, 1174098458, 1177281762, 1180473697, 1183674286, 1186883552, 1190101520, 1193328213,
   1196563654, 1199807867, 1203060876, 1206322705, 1209593378, 1212872918, 1216161350, 1219458698,
   1222764986, 1226080238, 1229404479, 1232737732, 1236080024, 1239431376, 1242791816, 1246161366,
   1249540052, 1252927899, 1256324931, 1259731174, 1263146652, 1266571390, 1270005413, 1273448747]

def knotsExp2Part2 : List Int :=
  [1276901417, 1280363448, 1283834865, 1287315695, 1290805962, 1294305692, 1297814910, 1301333643,
   1304861917, 1308399756, 1311947188, 1315504238, 1319070932, 1322647296, 1326233356, 1329829140,
   1333434672, 1337049980, 1340675091, 1344310030, 1347954824, 1351609500, 1355274085, 1358948606,
   1362633090, 1366327563, 1370032052, 1373746586, 1377471191, 1381205894, 1384950723, 1388705706]

def knotsExp2Part3 : List Int :=
  [1392470869, 1396246240, 1400031848, 1403827719, 1407633882, 1411450365, 1415277195, 1419114401,
   1422962010, 1426820052, 1430688553, 1434567544, 1438457051, 1442357104, 1446267730, 1450188960,
   1454120821, 1458063343, 1462016553, 1465980482, 1469955159, 1473940611, 1477936870, 1481943963,
   1485961921, 1489990772, 1494030547, 1498081275, 1502142985, 1506215708, 1510299473, 1514394310]

def knotsExp2Part4 : List Int :=
  [1518500250, 1522617322, 1526745556, 1530884983, 1535035634, 1539197537, 1543370725, 1547555228,
   1551751076, 1555958300, 1560176931, 1564406999, 1568648537, 1572901575, 1577166143, 1581442275,
   1585730000, 1590029350, 1594340357, 1598663052, 1602997467, 1607343634, 1611701585, 1616071351,
   1620452965, 1624846459, 1629251865, 1633669214, 1638098541, 1642539877, 1646993254, 1651458706]

def knotsExp2Part5 : List Int :=
  [1655936265, 1660425963, 1664927835, 1669441912, 1673968228, 1678506817, 1683057710, 1687620943,
   1692196547, 1696784557, 1701385007, 1705997930, 1710623359, 1715261330, 1719911875, 1724575029,
   1729250827, 1733939301, 1738640488, 1743354420, 1748081133, 1752820662, 1757573041, 1762338305,
   1767116489, 1771907628, 1776711757, 1781528911, 1786359126, 1791202437, 1796058879, 1800928489]

def knotsExp2Part6 : List Int :=
  [1805811301, 1810707353, 1815616678, 1820539314, 1825475297, 1830424663, 1835387448, 1840363688,
   1845353420, 1850356681, 1855373507, 1860403934, 1865448001, 1870505744, 1875577199, 1880662405,
   1885761398, 1890874216, 1896000896, 1901141476, 1906295993, 1911464486, 1916646992, 1921843549,
   1927054196, 1932278970, 1937517909, 1942771053, 1948038440, 1953320108, 1958616096, 1963926443]

def knotsExp2Part7 : List Int :=
  [1969251188, 1974590370, 1979944027, 1985312200, 1990694927, 1996092249, 2001504204, 2006930832,
   2012372174, 2017828268, 2023299156, 2028784876, 2034285470, 2039800978, 2045331439, 2050876895,
   2056437387, 2062012954, 2067603638, 2073209480, 2078830522, 2084466803, 2090118366, 2095785251,
   2101467502, 2107165158, 2112878262, 2118606857, 2124350982, 2130110682, 2135885998, 2141676973]

def knotsExp2Part8 : List Int :=
  [2147483648]

/-- Knots of exp2 at i/256, F = 30, with the closing knot (R56). -/
def knotsExp2 : List Int :=
  knotsExp2Part0 ++ knotsExp2Part1 ++ knotsExp2Part2 ++ knotsExp2Part3 ++ knotsExp2Part4 ++ knotsExp2Part5 ++ knotsExp2Part6 ++ knotsExp2Part7 ++ knotsExp2Part8

def knotsLog2Part0 : List Int :=
  [0, 369, 736, 1102, 1466, 1829, 2190, 2551,
   2909, 3267, 3623, 3978, 4331, 4683, 5034, 5384,
   5732, 6079, 6425, 6769, 7112, 7454, 7795, 8134,
   8473, 8810, 9146, 9480, 9814, 10146, 10477, 10807]

def knotsLog2Part1 : List Int :=
  [11136, 11464, 11791, 12116, 12440, 12764, 13086, 13407,
   13727, 14046, 14363, 14680, 14996, 15310, 15624, 15937,
   16248, 16559, 16868, 17177, 17484, 17791, 18096, 18401,
   18704, 19007, 19308, 19609, 19909, 20207, 20505, 20802]

def knotsLog2Part2 : List Int :=
  [21098, 21393, 21687, 21980, 22272, 22564, 22854, 23144,
   23433, 23720, 24007, 24293, 24579, 24863, 25146, 25429,
   25711, 25992, 26272, 26551, 26830, 27108, 27384, 27660,
   27936, 28210, 28484, 28757, 29029, 29300, 29571, 29840]

def knotsLog2Part3 : List Int :=
  [30109, 30378, 30645, 30912, 31178, 31443, 31707, 31971,
   32234, 32496, 32758, 33019, 33279, 33538, 33797, 34055,
   34312, 34569, 34825, 35080, 35334, 35588, 35841, 36094,
   36346, 36597, 36847, 37097, 37346, 37595, 37842, 38090]

def knotsLog2Part4 : List Int :=
  [38336, 38582, 38827, 39072, 39316, 39559, 39802, 40044,
   40286, 40527, 40767, 41006, 41246, 41484, 41722, 41959,
   42196, 42432, 42667, 42902, 43137, 43370, 43603, 43836,
   44068, 44300, 44530, 44761, 44990, 45220, 45448, 45676]

def knotsLog2Part5 : List Int :=
  [45904, 46131, 46357, 46583, 46809, 47034, 47258, 47482,
   47705, 47928, 48150, 48372, 48593, 48813, 49034, 49253,
   49472, 49691, 49909, 50127, 50344, 50560, 50776, 50992,
   51207, 51422, 51636, 51850, 52063, 52276, 52488, 52700]

def knotsLog2Part6 : List Int :=
  [52911, 53122, 53332, 53542, 53751, 53960, 54169, 54377,
   54584, 54791, 54998, 55204, 55410, 55615, 55820, 56025,
   56229, 56432, 56635, 56838, 57040, 57242, 57443, 57644,
   57845, 58045, 58245, 58444, 58643, 58841, 59039, 59237]

def knotsLog2Part7 : List Int :=
  [59434, 59631, 59827, 60023, 60219, 60414, 60609, 60803,
   60997, 61190, 61384, 61576, 61769, 61961, 62152, 62343,
   62534, 62725, 62915, 63104, 63294, 63483, 63671, 63859,
   64047, 64234, 64421, 64608, 64794, 64980, 65166, 65351]

def knotsLog2Part8 : List Int :=
  [65536]

/-- Knots of log2 at 1 + i/256, F = 16, with the closing knot (R56). -/
def knotsLog2 : List Int :=
  knotsLog2Part0 ++ knotsLog2Part1 ++ knotsLog2Part2 ++ knotsLog2Part3 ++ knotsLog2Part4 ++ knotsLog2Part5 ++ knotsLog2Part6 ++ knotsLog2Part7 ++ knotsLog2Part8

def knotsRsqrtPart0 : List Int :=
  [1073741824, 1065450257, 1057347856, 1049427536, 1041682578, 1034106604, 1026693558, 1019437682,
   1012333500, 1005375799, 998559613, 991880210, 985333074, 978913898, 972618566, 966443148,
   960383883, 954437177, 948599586, 942867814, 937238702, 931709222, 926276469, 920937655,
   915690104, 910531246, 905458609, 900469818, 895562589, 890734723, 885984104, 881308694]

def knotsRsqrtPart1 : List Int :=
  [876706528, 872175715, 867714429, 863320910, 858993459, 854730438, 850530263, 846391405,
   842312387, 838291779, 834328203, 830420321, 826566842, 822766514, 819018128, 815320510,
   811672525, 808073073, 804521086, 801015531, 797555404, 794139734, 790767575, 787438013,
   784150157, 780903145, 777696137, 774528319, 771398898, 768307107, 765252196, 762233438]

def knotsRsqrtPart2 : List Int :=
  [759250125, 756301570, 753387102, 750506070, 747657839, 744841792, 742057327, 739303858,
   736580814, 733887640, 731223792, 728588743, 725981977, 723402992, 720851298, 718326417,
   715827883, 713355240, 710908045, 708485864, 706088274, 703714861, 701365222, 699038963,
   696735698, 694455052, 692196655, 689960150, 687745184, 685551414, 683378504, 681226125]

def knotsRsqrtPart3 : List Int :=
  [679093957, 676981684, 674889000, 672815603, 670761200, 668725501, 666708225, 664709095,
   662727842, 660764199, 658817909, 656888716, 654976372, 653080633, 651201261, 649338020,
   647490682, 645659022, 643842818, 642041856, 640255922, 638484810, 636728315, 634986237,
   633258380, 631544551, 629844563, 628158229, 626485368, 624825801, 623179354, 621545853]

def knotsRsqrtPart4 : List Int :=
  [619925131, 618317022, 616721362, 615137993, 613566757, 612007499, 610460069, 608924318,
   607400100, 605887270, 604385689, 602895216, 601415717, 599947056, 598489102, 597041726,
   595604800, 594178200, 592761802, 591355485, 589959130, 588572620, 587195840, 585828677,
   584471019, 583122756, 581783781, 580453988, 579133272, 577821530, 576518662, 575224566]

def knotsRsqrtPart5 : List Int :=
  [573939147, 572662306, 571393950, 570133983, 568882316, 567638856, 566403514, 565176202,
   563956835, 562745326, 561541591, 560345548, 559157115, 557976212, 556802759, 555636678,
   554477894, 553326329, 552181909, 551044561, 549914212, 548790791, 547674226, 546564450,
   545461392, 544364986, 543275165, 542191864, 541115017, 540044561, 538980433, 537922570]

def knotsRsqrtPart6 : List Int :=
  [536870912, 535825398, 534785969, 533752565, 532725129, 531703603, 530687931, 529678058,
   528673928, 527675487, 526682682, 525695460, 524713768, 523737556, 522766772, 521801366,
   520841289, 519886492, 518936927, 517992546, 517053302, 516119149, 515190041, 514265932,
   513346779, 512432536, 511523161, 510618610, 509718841, 508823812, 507933480, 507047807]

def knotsRsqrtPart7 : List Int :=
  [506166750, 505290270, 504418328, 503550884, 502687899, 501829337, 500975159, 500125328,
   499279807, 498438560, 497601550, 496768744, 495940105, 495115599, 494295191, 493478848,
   492666537, 491858224, 491053876, 490253462, 489456949, 488664306, 487875501, 487090503,
   486309283, 485531810, 484758053, 483987985, 483221574, 482458793, 481699612, 480944005]

/-- Knots of the reciprocal square root at 1 + i/64, F = 30 (R56). -/
def knotsRsqrt : List Int :=
  knotsRsqrtPart0 ++ knotsRsqrtPart1 ++ knotsRsqrtPart2 ++ knotsRsqrtPart3 ++ knotsRsqrtPart4 ++ knotsRsqrtPart5 ++ knotsRsqrtPart6 ++ knotsRsqrtPart7

def knotsGumPart0 : List Int :=
  [0, -64, -128, -192, -257, -321, -386, -451,
   -515, -580, -645, -710, -776, -841, -906, -972,
   -1038, -1103, -1169, -1235, -1301, -1368, -1434, -1500,
   -1567, -1634, -1700, -1767, -1834, -1901, -1969, -2036]

def knotsGumPart1 : List Int :=
  [-2103, -2171, -2239, -2307, -2374, -2443, -2511, -2579,
   -2647, -2716, -2785, -2853, -2922, -2991, -3061, -3130,
   -3199, -3269, -3338, -3408, -3478, -3548, -3618, -3689,
   -3759, -3829, -3900, -3971, -4042, -4113, -4184, -4255]

def knotsGumPart2 : List Int :=
  [-4327, -4398, -4470, -4542, -4614, -4686, -4758, -4831,
   -4903, -4976, -5049, -5122, -5195, -5268, -5341, -5415,
   -5488, -5562, -5636, -5710, -5784, -5859, -5933, -6008,
   -6083, -6158, -6233, -6308, -6383, -6459, -6534, -6610]

def knotsGumPart3 : List Int :=
  [-6686, -6762, -6839, -6915, -6992, -7068, -7145, -7222,
   -7299, -7377, -7454, -7532, -7610, -7688, -7766, -7844,
   -7923, -8001, -8080, -8159, -8238, -8318, -8397, -8477,
   -8556, -8636, -8717, -8797, -8877, -8958, -9039, -9120]

def knotsGumPart4 : List Int :=
  [-9201, -9282, -9364, -9445, -9527, -9609, -9692, -9774,
   -9857, -9939, -10022, -10105, -10189, -10272, -10356, -10440,
   -10524, -10608, -10693, -10777, -10862, -10947, -11032, -11118,
   -11203, -11289, -11375, -11461, -11547, -11634, -11721, -11808]

def knotsGumPart5 : List Int :=
  [-11895, -11982, -12070, -12158, -12246, -12334, -12422, -12511,
   -12600, -12689, -12778, -12868, -12958, -13047, -13138, -13228,
   -13319, -13409, -13500, -13592, -13683, -13775, -13867, -13959,
   -14051, -14144, -14237, -14330, -14423, -14517, -14611, -14705]

def knotsGumPart6 : List Int :=
  [-14799, -14894, -14988, -15083, -15179, -15274, -15370, -15466,
   -15562, -15659, -15755, -15852, -15950, -16047, -16145, -16243,
   -16341, -16440, -16539, -16638, -16737, -16837, -16937, -17037,
   -17138, -17239, -17340, -17441, -17543, -17645, -17747, -17849]

def knotsGumPart7 : List Int :=
  [-17952, -18055, -18158, -18262, -18366, -18470, -18575, -18680,
   -18785, -18890, -18996, -19102, -19209, -19316, -19423, -19530,
   -19638, -19746, -19854, -19963, -20072, -20181, -20291, -20401,
   -20511, -20622, -20733, -20844, -20956, -21068, -21180, -21293]

def knotsGumPart8 : List Int :=
  [-21406]

/-- Knots of the Gumbel table at i/512 with the closing knot (R145). -/
def knotsGum : List Int :=
  knotsGumPart0 ++ knotsGumPart1 ++ knotsGumPart2 ++ knotsGumPart3 ++ knotsGumPart4 ++ knotsGumPart5 ++ knotsGumPart6 ++ knotsGumPart7 ++ knotsGumPart8

/-- Knot `i` of the reciprocal at 1 + i/256, F = 30: round_ta(2^38 / (256 + i)) (R54, R56). -/
def knotRecip (i : Nat) : Int := divTa (2 ^ 38) (256 + i)

/-- A table by its knots. -/
def knot (t : List Int) (i : Nat) : Int := t.getD i 0

end Sys2Proof.Machine
end

