-- ==== Sys2Proof/Machine/Nonlinear.lean ====
section
/-! DEFINITION. Table interpolation and the table functions (R55 to R57), and the Gumbel
transform (R144). -/

namespace Sys2Proof.Machine

/-- `lerp` of R55 over a table with a closing knot, or without one (`closing` false). -/
def lerp (t : Nat → Int) (closing : Bool) (u k : Nat) : Int :=
  let i := u / 2 ^ k
  if 255 ≤ i ∧ closing = false then t 255
  else t i + divTa ((t (i + 1) - t i) * ((u % 2 ^ k : Nat) : Int)) (2 ^ k)

/-- Offset above the first knot, 0 below it (R56). -/
def offsetU (x base : Int) : Nat := (x + base).toNat

/-- sigmoid: Q4.11 to uQ0.15 (R56). -/
def sigmoidT (x : Int) : Int := lerp (knot knotsSigmoid) false (offsetU x 16384) 7

/-- tanh: Q4.11 to Q0.15 (R56). -/
def tanhT (x : Int) : Int := lerp (knot knotsTanh) false (offsetU x 8192) 6

/-- GELU: Q4.11 to Q4.11, the input itself at i ≥ 255 (R56). -/
def geluT (x : Int) : Int :=
  let u := offsetU x 16384
  if 255 ≤ u / 128 then x else lerp (knot knotsGelu) false u 7

/-- softplus: Q4.11 to Q4.11, the input itself at i ≥ 255 (R56). -/
def softplusT (x : Int) : Int :=
  let u := offsetU x 16384
  if 255 ≤ u / 128 then x else lerp (knot knotsSoftplus) false u 7

/-- exp2: Q15.16 to uQ2.30 (R57). -/
def exp2T (x : Int) : Int :=
  let n := x / 65536
  let l := lerp (knot knotsExp2) true (x % 65536).toNat 8
  if 2 ≤ n then 2 ^ 32 - 1 else if n = 1 then 2 * l else shiftTa l n

/-- `mant` of R57: digits of x > 0, and the offset (m − 1) · 2^31. -/
def mantOf (x : Nat) : Nat × Nat :=
  (bitLen x, x * 2 ^ (32 - bitLen x) - 2 ^ 31)

/-- log2 of a u32 with n_in fraction bits, in Q15.16; x = 0 gives −2^31 (R56, R57). -/
def log2T (x : Nat) (nIn : Int) : Int :=
  if x = 0 then -(2 ^ 31)
  else
    let (b, u) := mantOf x
    ((b : Int) - 1 - nIn) * 65536 + lerp (knot knotsLog2) true u 23

/-- Reciprocal of a u32, as an i32 with n_out fraction bits; x = 0 gives 2^31 − 1 (R56, R57). -/
def recipT (x : Nat) (nIn nOut : Int) : Int :=
  if x = 0 then 2 ^ 31 - 1
  else
    let (b, u) := mantOf x
    satS (shiftTa (lerp knotRecip true u 23) (nOut - 30 - ((b : Int) - 1 - nIn))) 32

/-- Reciprocal square root of a u32 as an i32; x = 0 gives 2^31 − 1 (R56, R57). -/
def rsqrtT (x : Nat) (nIn nOut : Int) : Int :=
  if x = 0 then 2 ^ 31 - 1
  else
    let (b, u) := mantOf x
    let ex := (b : Int) - 1 - nIn
    let (ex, u) := if ex % 2 = 1 then (ex - 1, 2 * u + 2 ^ 31) else (ex, u)
    satS (shiftTa (lerp (knot knotsRsqrt) false u 25) (nOut - 30 - ex / 2)) 32

/-- L2E of R81: round_ta(log2(e) · 2^30). -/
def l2e : Int := 1549082005

/-- LN2 of R144. -/
def ln2C : Int := 45426
/-- LNLN2 of R144. -/
def lnln2C : Int := 24020

/-- The Gumbel transform of a draw, Q8.16 (R144). -/
def gumbelT (d : Nat) : Int :=
  let v := d / 2 ^ 40
  if v < 2 ^ 23 then
    let l := -(log2T (2 * v + 1) 25)
    lnln2C - shiftTa (ln2C * log2T l.toNat 16) (-16)
  else
    let y := 2 ^ 25 - 2 * v - 1
    shiftTa (-ln2C * log2T y 25) (-16) + lerp (knot knotsGum) true y 16

end Sys2Proof.Machine
end

