-- ==== Sys2Proof/Machine/Noise.lean ====
section
/-! DEFINITION. The noise generator (R136, R137), its skip-ahead (R140 to R142) and the sampling
operators (R146 to R150). -/

namespace Sys2Proof.Machine

/-- C_SEED of R136. -/
def cSeed : Nat := 0x6A3C91E50F27D48B
/-- K_MUL of R136. -/
def kMul : Nat := 0x8F5C28F1B3A1D6E5

/-- One step of the shift register (R136). -/
def lfsrStep (s : Nat) : Nat :=
  let fb := (s ^^^ (s >>> 99) ^^^ (s >>> 101) ^^^ (s >>> 126)) % 2
  (s >>> 1) ||| (fb <<< 127)

/-- `rotl64` (R136). -/
def rotl64 (a r : Nat) : Nat := ((a <<< r) ||| (a >>> (64 - r))) % 2 ^ 64

/-- The 64-bit scrambler (R136). -/
def scramble (s : Nat) : Nat :=
  let x := (s % 2 ^ 64) ^^^ rotl64 (s >>> 64) 23
  let x := x ^^^ (x >>> 32)
  let x := (x * kMul) % 2 ^ 64
  x ^^^ (x >>> 29)

/-- The state that a seed gives (R136). -/
def seedState (S : Nat) : Nat := (S ^^^ (2 ^ 64 - 1) ^^^ cSeed) * 2 ^ 64 + S

/-! ### Skip-ahead

A jump by k register steps is the matrix A^k. The powers of A are polynomials in A, so A^k is held
as the polynomial x^k modulo the feedback polynomial of R136, bit i being the coefficient of x^i. -/

/-- Bits 0 to 127 of the feedback polynomial x^128 + x^126 + x^101 + x^99 + 1. -/
def feedbackLow : Nat := 2 ^ 126 + 2 ^ 101 + 2 ^ 99 + 1

/-- x · c modulo the feedback polynomial. -/
def polyX (c : Nat) : Nat :=
  if c.testBit 127 then ((c <<< 1) % 2 ^ 128) ^^^ feedbackLow else c <<< 1

/-- Product of two polynomials modulo the feedback polynomial: the low `n` coefficients of `c`. -/
def polyMulN : Nat → Nat → Nat → Nat → Nat
  | 0, _, _, acc => acc
  | n + 1, c, d, acc => polyMulN n (c >>> 1) (polyX d) (if c.testBit 0 then acc ^^^ d else acc)

/-- Product modulo the feedback polynomial. -/
def polyMul (c d : Nat) : Nat := polyMulN 128 c d 0

/-- x^(2^k) modulo the feedback polynomial. -/
def polyPow2 : Nat → Nat
  | 0 => 2
  | k + 1 => let p := polyPow2 k; polyMul p p

/-- The matrix M_k = A^(64·2^k) of R140. -/
def jumpM (k : Nat) : Nat := polyPow2 (k + 6)

/-- A polynomial in A applied to a state: the sum of the states after i steps, over its terms. -/
def polyApplyN : Nat → Nat → Nat → Nat → Nat
  | 0, _, _, acc => acc
  | n + 1, c, s, acc =>
    polyApplyN n (c >>> 1) (lfsrStep s) (if c.testBit 0 then acc ^^^ s else acc)

/-- A matrix applied to a state. -/
def polyApply (c s : Nat) : Nat := polyApplyN 128 c s 0

/-- A^(64·d) as a matrix, from the `n` low bits of d: the product of M_k for every set bit k
(R140), where `m` is M_k for the lowest of them. -/
def jumpPolyN : Nat → Nat → Nat → Nat → Nat
  | 0, _, _, acc => acc
  | n + 1, d, m, acc =>
    jumpPolyN n (d >>> 1) (polyMul m m) (if d.testBit 0 then polyMul acc m else acc)

/-- A state moved forward by `d` draws, d < 2^128 (R140). -/
def jumpDraws (d s : Nat) : Nat := polyApply (jumpPolyN 128 d (jumpM 0) 1) s

/-- Draw number d of seed S (R136), reached by skip-ahead. -/
def drawAt (S d : Nat) : Nat := scramble (jumpDraws d (seedState S))

/-- 64 register steps. -/
def lfsr64 (s : Nat) : Nat := Nat.iterate lfsrStep 64 s

/-- The state of element e0 of noise step t of noise stream n (R137, R141, R142). -/
def noiseState (S n t e0 : Nat) : Nat :=
  jumpDraws (n * 2 ^ 64 + t * 2 ^ 20 + e0) (seedState S)

/-- `count` consecutive draws from a state, as the vector unit generates them (R142). -/
def drawsFrom : Nat → Nat → List Nat
  | _, 0 => []
  | s, c + 1 => scramble s :: drawsFrom (lfsr64 s) c

/-- The first element index of a role's quarter (R139). -/
def roleQuarter (role : Nat) : Nat := 2 ^ 18 * role

/-! ### Sampling operators -/

/-- Index of the largest score, the lowest index among equals, from position `i` on (R146). -/
def argMaxFrom : List Int → Nat → Int → Nat → Nat
  | [], _, _, bi => bi
  | x :: xs, i, b, bi => if b < x then argMaxFrom xs (i + 1) x i else argMaxFrom xs (i + 1) b bi

/-- Index of the largest element, the lowest index among equals. -/
def argMax : List Int → Nat
  | [] => 0
  | x :: xs => argMaxFrom xs 1 x 0

/-- A pair (score, index) put into a list of the best, best first, lower index first (R146). -/
def insertBest (x : Int) (j : Nat) : List (Int × Nat) → List (Int × Nat)
  | [] => [(x, j)]
  | (y, i) :: r => if y < x then (x, j) :: (y, i) :: r else (y, i) :: insertBest x j r

/-- The kk best scores with their indices (R146). -/
def topK (kk : Nat) : List Int → Nat → List (Int × Nat) → List (Int × Nat)
  | [], _, acc => acc
  | x :: xs, j, acc => topK kk xs (j + 1) ((insertBest x j acc).take kk)

/-- The largest perturbed score among chosen indices, the lowest index among equals (R146). -/
def bestOf : List (Int × Nat) → Option (Int × Nat) → Nat
  | [], b => match b with | some (_, j) => j | none => 0
  | (z, j) :: r, none => bestOf r (some (z, j))
  | (z, j) :: r, some (y, i) =>
    if y < z ∨ (y = z ∧ j < i) then bestOf r (some (z, j)) else bestOf r (some (y, i))

/-- One part of a divided Gumbel-max row, the elements from index `j0` on: with top-k its kk best scores
(lq, j) (R147). -/
def partBest (kk : Nat) (lq : List Int) (j0 : Nat) : List (Int × Nat) := topK kk lq j0 []

/-- The elements of `live` with their perturbed scores (R146). -/
def perturbed (tau : Nat) (dr : List Nat) (live : List (Int × Nat)) : List (Int × Nat) :=
  live.map fun (x, j) => (divTa (x * 256) tau + gumbelT (dr.getD j 0), j)

/-- The winner (z, j) of one part (R147). -/
def partWinner : List (Int × Nat) → Option (Int × Nat)
  | [] => none
  | (z, j) :: r =>
    match partWinner r with
    | none => some (z, j)
    | some (y, i) => if z < y ∨ (z = y ∧ i < j) then some (y, i) else some (z, j)

/-- The candidate merge: the index of the largest z, the lowest index among equals (R147). -/
def candidateMerge (ws : List (Int × Nat)) : Nat := ((partWinner ws).map (·.2)).getD 0

/-- A Gumbel-max row divided at every `n` indices among facets (R147): each part's kk best join in `live`,
or each part returns its winner, and a candidate merge answers. -/
def gumbelDivided (n : Nat) (lg : List Int) (f : Int) (tau kk : Nat) (dr : List Nat) : Nat :=
  let lq := lg.map fun x => satS (shiftTa x (16 - f)) 32
  let parts := (chunks n (lq.zip (upTo lq.length)))
  let live := (parts.flatMap fun p => partBest kk (p.map (·.1)) ((p.head?.map (·.2)).getD 0)).foldl
    (fun acc q => (insertBest q.1 q.2 acc).take kk) []
  if tau = 0 then candidateMerge (parts.filterMap partWinner)
  else if kk = 0 then candidateMerge (parts.filterMap fun p => partWinner (perturbed tau dr p))
  else candidateMerge (perturbed tau dr live)

/-- `gumbel_max` of R146: `dr` holds the draw of every element. -/
def gumbelMax (lg : List Int) (f : Int) (tau : Nat) (kk : Nat) (dr : List Nat) : Nat :=
  let lq := lg.map fun x => satS (shiftTa x (16 - f)) 32
  if tau = 0 then argMax lq
  else if kk = 0 then
    argMax ((lq.zip dr).map fun (x, d) => divTa (x * 256) tau + gumbelT d)
  else
    bestOf ((topK kk lq 0 []).map fun (x, j) =>
      (divTa (x * 256) tau + gumbelT (dr.getD j 0), j)) none

/-- `mol_sample` of R148: one output element from K components and its K + 1 draws. -/
def molSample (pi : List Int) (f : Int) (mu : List Int) (nmu : Int) (ls : List Int)
    (dr : List Nat) (ny : Int) (signed : Bool) (bits : Nat) : Int :=
  let kN := pi.length
  let k := gumbelMax pi f 256 0 dr
  let x := 2 * (dr.getD kN 0 / 2 ^ 40) + 1
  let lq := shiftTa (ln2C * (log2T x 25 - log2T (2 ^ 25 - x) 25)) (-16)
  let s := exp2T (satS (shiftTa (ls.getD k 0 * l2e) (-25)) 32)
  -- the exact sum over the common denominator 2^(46 + max(n_μ, 0)), rounded once
  let up := nmu.toNat
  clampI (shiftTa (mu.getD k 0 * 2 ^ (46 + (-nmu).toNat) + s * lq * 2 ^ up) (ny - up - 46))
    (tyMin signed bits) (tyMax signed bits)

/-- Bernoulli mask (R149). -/
def bernoulli (p : Nat) (dr : List Nat) : List Int :=
  dr.map fun d => if d / 2 ^ 40 < p then 1 else 0

end Sys2Proof.Machine
end

