-- ==== Sys2Proof/Machine/Image.lean ====
section
/-! DEFINITION. Model images (R224 to R232): the layout of an image and the reading of its header,
section table, operator, edge, tensor, TRACKED and COSTS records. -/

namespace Sys2Proof.Machine

/-- An operator record (R227). -/
structure OpRec where
  type : Nat := 0
  flags : Nat := 0
  dec : Nat := 1
  ins : List Nat := []
  outs : List Nat := []
  tens : List Nat := []
  params : List Nat := []
  noiseBase : Nat := 0
  noiseCount : Nat := 0
  stateBytes : Nat := 0
deriving DecidableEq, Repr

/-- An edge record (R230). -/
structure EdgeRec where
  format : Nat := 0
  frac : Nat := 0
  convert : Nat := 0
  flags : Nat := 0
  elements : Nat := 0
  group : Nat := 0
  rowsF : Nat := 1
  producer : Nat := 0
  tracker : Nat := 0
  source : Nat := 0
deriving DecidableEq, Repr

/-- A tensor record (R231). -/
structure TensorRec where
  format : Nat := 0
  group : Nat := 0
  outDim : Nat := 0
  redDim : Nat := 0
  offset : Nat := 0
  bytes : Nat := 0
deriving DecidableEq, Repr

/-- A record of the TRACKED section (R232). -/
structure TrackRec where
  window : Nat := 0
  satLimit : Nat := 0
  words : List Nat := []
  zps : List Int := []
deriving DecidableEq, Repr

/-- An image as its header and sections give it (R224 to R232). -/
structure Image where
  levelMajor : Nat := 0
  levelMinor : Nat := 0
  flags : Nat := 0
  baseId : Bytes := []
  weightBytes : Nat := 0
  maxContext : Nat := 0
  stateBytes : Nat := 0
  kvBytes : Nat := 0
  outputEdge : Nat := 0
  outputRate : Nat := 0
  ops : List OpRec := []
  edges : List EdgeRec := []
  tensors : List TensorRec := []
  tracked : List TrackRec := []
  costs : List (Nat × Nat × Nat × Nat) := []
  /-- The TENSORS section. -/
  data : Bytes := []
deriving DecidableEq, Repr

/-- 0xFFFF_FFFF, which marks an absent index (R227, R230). -/
def none32 : Nat := 0xFFFFFFFF

def defOp : OpRec := {}
def defEdge : EdgeRec := {}
def defTensor : TensorRec := {}

def Image.op (m : Image) (i : Nat) : OpRec := m.ops.getD i defOp
def Image.edge (m : Image) (i : Nat) : EdgeRec := m.edges.getD i defEdge
def Image.tensor (m : Image) (i : Nat) : TensorRec := m.tensors.getD i defTensor

/-- Parameter word `i` of an operator, unsigned (R229). -/
def OpRec.p (o : OpRec) (i : Nat) : Nat := o.params.getD i 0
/-- Parameter word `i` in two's complement (R229). -/
def OpRec.pi (o : OpRec) (i : Nat) : Int := signed 32 (o.p i)
def OpRec.trailing (o : OpRec) : Bool := o.flags.testBit 0
def OpRec.inLoop (o : OpRec) : Bool := o.flags.testBit 1
def OpRec.causal (o : OpRec) : Bool := o.flags.testBit 2
def OpRec.inE (o : OpRec) (k : Nat) : Nat := o.ins.getD k none32
def OpRec.outE (o : OpRec) (k : Nat) : Nat := o.outs.getD k none32

def EdgeRec.whole (e : EdgeRec) : Bool := e.flags.testBit 0
def EdgeRec.cab6 (e : EdgeRec) : Bool := e.flags.testBit 1
def EdgeRec.cab4 (e : EdgeRec) : Bool := e.flags.testBit 2
def EdgeRec.feedback (e : EdgeRec) : Bool := e.flags.testBit 3
def EdgeRec.spectro (e : EdgeRec) : Bool := e.flags.testBit 5
/-- Groups of one frequency row of an A8 edge. -/
def EdgeRec.groupsPerRow (e : EdgeRec) : Nat := cdiv e.elements e.group

/-! ### The header and the section table -/

/-- Offset and length of section `i` (R226). -/
def secOf (b : Bytes) (i : Nat) : Nat × Nat := (rd b (128 + 24 * i + 8) 8, rd b (128 + 24 * i + 16) 8)

/-- End of the COSTS section where the header locates it within the bytes read (R235 check 4). -/
def costsEnd (b : Bytes) : Option Nat :=
  let e := (secOf b 4).1 + (secOf b 4).2
  if 248 ≤ b.length ∧ rd b 0 4 = 0x554D4431 ∧ rd b 16 4 = 5 ∧ rd b (128 + 96) 2 = 5
      ∧ 248 ≤ (secOf b 4).1 ∧ e ≤ b.length then
    some e
  else none

/-- Words of an array of 32-bit words. -/
def words32 (b : Bytes) : Nat → Nat → List Nat
  | _, 0 => []
  | off, n + 1 => rd b off 4 :: words32 b (off + 4) n

/-- Length in bytes of the operator record at `off`, unpadded (R227). -/
def opRecLen (b : Bytes) (off : Nat) : Nat :=
  48 + 4 * (rd b (off + 8) 2 + rd b (off + 10) 2 + rd b (off + 12) 2 + rd b (off + 14) 2)

/-- The operator record at `off` (R227). -/
def parseOp (b : Bytes) (off : Nat) : OpRec :=
  let nIn := rd b (off + 8) 2
  let nOut := rd b (off + 10) 2
  let nT := rd b (off + 12) 2
  let nP := rd b (off + 14) 2
  { type := rd b off 2
    flags := rd b (off + 2) 2
    dec := rd b (off + 4) 4
    ins := words32 b (off + 48) nIn
    outs := words32 b (off + 48 + 4 * nIn) nOut
    tens := words32 b (off + 48 + 4 * (nIn + nOut)) nT
    params := words32 b (off + 48 + 4 * (nIn + nOut + nT)) nP
    noiseBase := rd b (off + 16) 4
    noiseCount := rd b (off + 20) 4
    stateBytes := rd b (off + 24) 4 }

/-- `n` operator records, each padded to a multiple of 8, with the offset after them; `ok` says that
reserved fields and padding are zero and the records lie before `fin` (R224, R227). -/
def parseOps (b : Bytes) (fin : Nat) : Nat → Nat → Option (List OpRec × Nat)
  | 0, off => some ([], off)
  | n + 1, off =>
    let len := opRecLen b off
    let next := off + alignUp 8 len
    if off + 48 ≤ fin ∧ next ≤ fin ∧ allZero (slice b (off + 28) 20)
        ∧ allZero (slice b (off + len) (alignUp 8 len - len)) ∧ rd b (off + 2) 2 < 8 then
      (parseOps b fin n next).map fun r => (parseOp b off :: r.1, r.2)
    else none

/-- The edge record at `off` (R230). -/
def parseEdge (b : Bytes) (off : Nat) : EdgeRec :=
  { format := rd b off 1, frac := rd b (off + 1) 1, convert := rd b (off + 2) 1
    flags := rd b (off + 3) 1, elements := rd b (off + 4) 4, group := rd b (off + 8) 2
    rowsF := rd b (off + 10) 2, producer := rd b (off + 12) 4, tracker := rd b (off + 16) 4
    source := rd b (off + 20) 4 }

/-- The tensor record at `off` (R231). -/
def parseTensor (b : Bytes) (off : Nat) : TensorRec :=
  { format := rd b off 1, group := rd b (off + 2) 2, outDim := rd b (off + 4) 4
    redDim := rd b (off + 8) 4, offset := rd b (off + 16) 8, bytes := rd b (off + 24) 8 }

/-- TRACKED records up to the end of their section (R232); the first argument bounds their number. -/
def parseTracked (b : Bytes) (fin : Nat) : Nat → Nat → Option (List TrackRec)
  | 0, off => if off = fin then some [] else none
  | n + 1, off =>
    if off = fin then some []
    else
      let g := rd b (off + 4) 4
      let len := 8 + 3 * g
      let next := off + alignUp 8 len
      if off + 8 ≤ fin ∧ next ≤ fin ∧ allZero (slice b (off + len) (alignUp 8 len - len)) then
        (parseTracked b fin n next).map fun r =>
          { window := rd b off 2, satLimit := rd b (off + 2) 2
            words := (upTo g).map fun i => rd b (off + 8 + 2 * i) 2
            zps := (upTo g).map fun i => signed 8 (rd b (off + 8 + 2 * g + i) 1) } :: r
      else none

/-- Section `i` starts on a 64-byte boundary at or after `prev`, the bytes between are zero, and its
table entry is right (R224, R226). -/
def secOk (b : Bytes) (i prev : Nat) : Bool :=
  let (off, _) := secOf b i
  rd b (128 + 24 * i) 2 == i + 1 && allZero (slice b (128 + 24 * i + 2) 6)
    && decide (prev ≤ off) && off % 64 == 0 && allZero (slice b prev (off - prev))

/-- An image's parts, when its header, section table and records are laid out as R224 to R232 say
and every reserved and fill byte is zero; `b` holds the whole image, the signature block of a SIGNED
image included. -/
def parseImage (b : Bytes) : Option Image :=
  let s := fun i => secOf b i
  let fin := fun i => (s i).1 + (s i).2
  let nOps := rd b 20 4
  let nEdges := rd b 24 4
  let nTens := rd b 28 4
  let signedF := bitAt (rd b 6 2) 0
  if 248 ≤ b.length ∧ rd b 0 4 = 0x554D4431 ∧ rd b 16 4 = 5 ∧ rd b 6 2 < 4
      ∧ allZero (slice b 92 36) ∧ rd b 8 8 = fin 4 + (if signedF then 128 else 0)
      ∧ rd b 8 8 ≤ b.length ∧ 1 ≤ nOps ∧ nOps ≤ 65535 ∧ 1 ≤ nEdges ∧ nEdges ≤ 1048576
      ∧ secOk b 0 248 = true ∧ secOk b 1 (fin 0) = true ∧ secOk b 2 (fin 1) = true
      ∧ secOk b 3 (fin 2) = true ∧ secOk b 4 (fin 3) = true
      ∧ (s 1).2 = 32 * nEdges ∧ 32 * nTens ≤ (s 2).2 ∧ (s 4).2 = 16 * nOps then
    match parseOps b (fin 0) nOps (s 0).1, parseTracked b (fin 3) (s 3).2 (s 3).1 with
    | some (ops, endOps), some tracked =>
      let edges := (upTo nEdges).map fun i => parseEdge b ((s 1).1 + 32 * i)
      let edgesZero := (upTo nEdges).all fun i =>
        allZero (slice b ((s 1).1 + 32 * i + 24) 8) && decide (rd b ((s 1).1 + 32 * i + 3) 1 < 64)
      let tens := (upTo nTens).map fun i => parseTensor b ((s 2).1 + 32 * i)
      let tensZero := (upTo nTens).all fun i =>
        allZero (slice b ((s 2).1 + 32 * i + 1) 1) && allZero (slice b ((s 2).1 + 32 * i + 12) 4)
      let costs := (upTo nOps).map fun i =>
        let o := (s 4).1 + 16 * i
        (rd b o 4, rd b (o + 4) 4, rd b (o + 8) 4, rd b (o + 12) 4)
      if endOps = fin 0 ∧ edgesZero ∧ tensZero ∧ (costs.map (·.1)) = upTo nOps then
        some { levelMajor := rd b 4 1, levelMinor := rd b 5 1, flags := rd b 6 2
               baseId := slice b 32 32, weightBytes := rd b 64 8, maxContext := rd b 72 4
               stateBytes := rd b 76 4, kvBytes := rd b 80 4, outputEdge := rd b 84 4
               outputRate := rd b 88 4, ops := ops, edges := edges, tensors := tens
               tracked := tracked, costs := costs, data := slice b (s 2).1 (s 2).2 }
      else none
    | _, _ => none
  else none

def Image.adapter (m : Image) : Bool := m.flags.testBit 1
def Image.isSigned (m : Image) : Bool := m.flags.testBit 0

/-! ### Tensors (R231) -/

/-- Bytes of the codes of one output channel. -/
def TensorRec.rowBytes (t : TensorRec) : Nat := if t.format = 2 then cdiv t.redDim 2 else t.redDim

/-- Groups of one output channel when the reduction is made of segments of `seg` elements. -/
def TensorRec.groupCount (t : TensorRec) (seg : Nat) : Nat :=
  cdiv t.redDim seg * cdiv seg t.group

/-- Offsets of the scales, zero points and sums, and the end (R231). -/
def TensorRec.arrays (t : TensorRec) (seg : Nat) : Nat × Nat × Nat × Nat :=
  let g := t.groupCount seg
  let sc := alignUp 64 (t.offset + t.outDim * t.rowBytes)
  let zp := alignUp 64 (sc + 2 * t.outDim * g)
  let sq := alignUp 64 (zp + t.outDim * (if t.format = 2 then cdiv g 2 else g))
  (sc, zp, sq, sq + 4 * t.outDim * g)

/-- A 4-bit two's-complement element of a packed array (R41). -/
def nibble (b : Bytes) (off i : Nat) : Int :=
  let v := rd b (off + i / 2) 1
  signed 4 (if i % 2 = 0 then v % 16 else v / 16)

/-- The codes of output channel `o`. -/
def wCodes (data : Bytes) (t : TensorRec) (o : Nat) : List Int :=
  let base := t.offset + o * t.rowBytes
  if t.format = 2 then (upTo t.redDim).map (nibble data base)
  else (slice data base t.redDim).map fun x => signed 8 x.toNat

/-- The zero point of group `g` of output channel `o`. -/
def wZero (data : Bytes) (t : TensorRec) (seg o g : Nat) : Int :=
  let n := t.groupCount seg
  let zp := (t.arrays seg).2.1
  if t.format = 2 then nibble data (zp + o * cdiv n 2) g else signed 8 (rd data (zp + o * n + g) 1)

/-- The S16 word of group `g` of output channel `o`. -/
def wScale (data : Bytes) (t : TensorRec) (seg o g : Nat) : Nat :=
  rd data ((t.arrays seg).1 + 2 * (o * t.groupCount seg + g)) 2

/-- The stored Σq_w of group `g` of output channel `o`. -/
def wSum (data : Bytes) (t : TensorRec) (seg o g : Nat) : Int :=
  signed 32 (rd data ((t.arrays seg).2.2.1 + 4 * (o * t.groupCount seg + g)) 4)

/-- The groups of output channel `o`, restarting at every segment of `seg` elements (R231). -/
def wGroups (data : Bytes) (t : TensorRec) (seg o : Nat) : List WGroup :=
  let codes := (chunks seg (wCodes data t o)).flatMap (chunks t.group)
  (codes.zip (upTo codes.length)).map fun (q, g) =>
    let s := wScale data t seg o g
    { q := q, m := s16Mant s, e := s16Exp s, z := wZero data t seg o g }

/-- The values of an I16, I32 or C32 tensor in element order (R231). -/
def tValues (data : Bytes) (t : TensorRec) : List Int :=
  let w := if t.format = 3 then 2 else 4
  let n := t.bytes / w
  (upTo n).map fun i => signed (8 * w) (rd data (t.offset + w * i) w)

/-- The complex values of a C32 tensor. -/
def tComplex (data : Bytes) (t : TensorRec) : List (Int × Int) :=
  (chunks 2 (tValues data t)).map fun p => (p.getD 0 0, p.getD 1 0)

/-- The group scales of a TRACKED record (R232). -/
def TrackRec.specs (r : TrackRec) : List GroupSpec :=
  (r.words.zip r.zps).map fun (w, z) => { m := s16Mant w, e := s16Exp w, z := z }

/-- The scale record of a STATIC or TRACKED edge. -/
def Image.trackRec (m : Image) (e : EdgeRec) : TrackRec := m.tracked.getD e.tracker {}

end Sys2Proof.Machine
end

