-- ==== Sys2Proof/Machine/Dense.lean ====
section
/-! DEFINITION. Output conversions and the dense operators (R45, R76 to R89, R478, R479): each
definition is one application of an operator to one vector or one position. -/

namespace Sys2Proof.Machine

/-! ### A8 tensors and output conversion -/

/-- The groups of an A8 tensor of `c` channels per frequency row: codes, mantissa, exponent and zero
point of each, in (frequency row, channel group) order (R119, R230). -/
def a8Groups (c g : Nat) (t : Tensor) : List (List Int × Int × Int × Int) :=
  (((chunks c t.x).flatMap (chunks g)).zip t.g).map fun (q, d) => (q, d.m, d.e, d.z)

/-- The expansion of R88 of an A8 tensor to `n` fraction bits, saturated to `w` bits. -/
def expandTo (c g : Nat) (t : Tensor) (n : Int) (w : Nat) : List Int :=
  (a8Groups c g t).flatMap fun (q, m, e, z) => q.map fun x => satS (shiftTa ((x - z) * m) (e - 10 + n)) w

/-- The elements of an edge as fixed-point values with `n` fraction bits: A8 through the expansion of
R88 to i16, other formats as they are. -/
def fixedIn (e : EdgeRec) (t : Tensor) (n : Int) : List Int :=
  if e.format = 1 then expandTo e.elements e.group t n 16 else t.x

/-- Saturation to the integer type of an edge format (R38, R230). -/
def satFmt (fmt : Nat) (v : Int) : Int :=
  if fmt = 2 then satS v 16
  else if fmt = 4 then satS v 48
  else if fmt = 6 then satU v 32
  else satS v 32

/-- The conversion of R45 of values with `f` fraction bits to an edge, with the tracker of a TRACKED
edge and its value afterwards. DESIGN CHOICE (log 88): a WIDE edge whose FRACTION is not f takes the values rescaled from
f to it (R39). -/
def convOut (m : Image) (e : EdgeRec) (trk : Int × Nat) (x : List Int) (f : Int) : Tensor × (Int × Nat) :=
  if e.format = 1 then
    let gs := (chunks e.elements x).flatMap (chunks e.group)
    if e.convert = 2 then
      let r := gs.map fun g => dynamicConvert g (-f)
      ({ x := r.flatMap (·.2), g := r.map fun ((gm, ge, gz), _) => { m := gm, e := ge, z := gz } }, trk)
    else
      let rec' := m.trackRec e
      let specs := rec'.specs
      if e.convert = 3 then
        let (q, d, n) := trackedStep gs (-f) trk.1 trk.2 rec'.satLimit rec'.window specs
        ({ x := q.flatten, g := specs.map fun s => { m := s.m, e := s.e + trk.1, z := s.z } }, (d, n))
      else
        ({ x := (staticStep gs (-f) specs).flatten
           g := specs.map fun s => { m := s.m, e := s.e, z := s.z } }, trk)
  else ({ x := x.map fun v => satFmt e.format (shiftTa v ((e.frac : Int) - f)), g := [] }, trk)

/-- The start value of a stepped edge: real value 0 in every element (R480). -/
def startValue (m : Image) (e : EdgeRec) : Tensor :=
  let n := e.elements * e.rowsF
  if e.format = 1 then
    let ds : List GroupDesc :=
      if e.convert = 2 then List.replicate (e.rowsF * e.groupsPerRow) { m := 512, e := -32, z := 0 }
      else (m.trackRec e).specs.map fun s => { m := s.m, e := s.e, z := s.z }
    { x := (((chunks e.elements (List.replicate n (0 : Int))).flatMap (chunks e.group)).zip ds).flatMap
        fun (q, d) => q.map fun _ => d.z
      g := ds }
  else { x := List.replicate n 0, g := [] }

/-! ### Matrix products (R76 to R78) -/

/-- One product: a weight tensor against the groups of one vector, one WIDE(f) value per output
channel (R43, R76). -/
def matVec (data : Bytes) (t : TensorRec) (seg : Nat) (as : List (List Int × Int × Int × Int))
    (bias : List Int) (fb f : Int) : List Int :=
  (upTo t.outDim).map fun o => groupedDot (wGroups data t seg o) as (bias.getD o 0) fb f

/-- The values of a bias tensor, none where the operator reads no tensor `k`. -/
def biasOf (m : Image) (o : OpRec) (k : Nat) : List Int :=
  if k < o.tens.length then tValues m.data (m.tensor (o.tens.getD k 0)) else []

/-- Matmul, in WIDE(f) (R76): tensor 0 is W, tensor 1 the bias. -/
def opMatmul (m : Image) (o : OpRec) (x : Tensor) : List Int :=
  let t := m.tensor (o.tens.getD 0 0)
  let e := m.edge (o.inE 0)
  matVec m.data t t.redDim (a8Groups e.elements e.group x) (biasOf m o 1) (o.pi 3) (o.pi 2)

/-- The groups of a stationary A8 vector as weight groups (R77). -/
def asWGroups (as : List (List Int × Int × Int × Int)) : List WGroup :=
  as.map fun (q, wm, we, wz) => { q := q, m := wm, e := we, z := wz }

/-- Batched matmul, in WIDE(f), against stationary A8 rows (R77). DESIGN CHOICE (log 89): on a stepped edge the
stationary operand lies as N blocks of K elements, and the product takes no bias. -/
def opBatched (f : Int) (rows : List (List (List Int × Int × Int × Int)))
    (as : List (List Int × Int × Int × Int)) : List Int :=
  rows.map fun r => groupedDot (asWGroups r) as 0 0 f

/-- The adapter's addition to a base product: base and adapter product in WIDE(f), and the tracker of
spec_u (R78). The first product A·x takes the adapter's own fraction f, since no word of 0x30 gives another
(R48, R78, log 75). `m` is the adapter image and `o` its adapter point. -/
def opAdapter (m : Image) (o : OpRec) (trk : Int × Nat) (as : List (List Int × Int × Int × Int))
    (base : List Int) : List Int × (Int × Nat) :=
  let ta := m.tensor (o.tens.getD 0 0)
  let tb := m.tensor (o.tens.getD 1 0)
  let eu := m.edge (o.outE 0)
  let f := o.pi 2
  let (u, trk') := convOut m eu trk (matVec m.data ta ta.redDim as [] 0 f) f
  let d := matVec m.data tb tb.redDim (a8Groups eu.elements eu.group u) [] 0 f
  ((base.zip d).map fun (b, x) => satS (b + x) 48, trk')

/-! ### The gated recurrent cell (R79) -/

/-- The update of one unit: gate values of Wx and Uh, and h (R79). -/
def gruUnit (f wr wz wn ur uz un h : Int) : Int :=
  let r := sigmoidT (satS (shiftTa (wr + ur) (11 - f)) 16)
  let z := sigmoidT (satS (shiftTa (wz + uz) (11 - f)) 16)
  let a := satS (shiftTa (wn * 2 ^ 15 + r * un) (11 - f - 15)) 16
  let n := tanhT a
  satS (n + shiftTa (z * (h - n)) (-15)) 16

/-- One step of a cell: the next h, the state edge and its tracker (R79). Tensors 0 and 1 are W and U,
2 and 3 their biases; gate rows are ordered r, z, n; output 1 is the state edge (log 19). -/
def opGru (m : Image) (o : OpRec) (h : List Int) (trk : Int × Nat) (x : Tensor) :
    List Int × Tensor × (Int × Nat) :=
  let hN := o.p 1
  let f := o.pi 2
  let e := m.edge (o.inE 0)
  let es := m.edge (o.outE 1)
  let tw := m.tensor (o.tens.getD 0 0)
  let tu := m.tensor (o.tens.getD 1 0)
  let (hs, trk') := convOut m es trk h 15
  let wx := matVec m.data tw tw.redDim (a8Groups e.elements e.group x) (biasOf m o 2) f f
  let uh := matVec m.data tu tu.redDim (a8Groups es.elements es.group hs) (biasOf m o 3) f f
  let at' := fun (l : List Int) (g u : Nat) => l.getD (g * hN + u) 0
  let h' := (h.zip (upTo hN)).map fun (hu, u) =>
    gruUnit f (at' wx 0 u) (at' wx 1 u) (at' wx 2 u) (at' uh 0 u) (at' uh 1 u) (at' uh 2 u) hu
  (h', hs, trk')

/-! ### Normalisation and softmax (R80, R81) -/

/-- Layer or RMS normalisation of one vector, into the output type (R80). -/
def normVec (x : List Int) (n fg fb : Int) (eps : Nat) (nInv nY : Int) (g b : List Int) (rms : Bool)
    (fmt : Nat) : List Int :=
  let c : Int := x.length
  let mu := if rms then 0 else divTa (sumI x) c
  let d := x.map fun xi => xi - mu
  let v := divTa (sumI (d.map fun di => di * di)) c
  let inv := rsqrtT (v + eps).toNat (2 * n) nInv
  let s := n + nInv + fg
  let q := if s < fb then fb else s
  (d.zip (upTo d.length)).map fun (di, i) =>
    -- the exact sum over the common denominator 2^q, rounded once
    satFmt fmt (shiftTa (di * inv * g.getD i 0 * 2 ^ (q - s).toNat + b.getD i 0 * 2 ^ (q - fb).toNat) (nY - q))

/-- The scores of the valid positions of a softmax row, as `exp2` values (R81). -/
def softExp (mx f : Int) (s : Int) (valid : Bool) : Int :=
  if valid then exp2T (satS (shiftTa ((s - mx) * l2e) (16 - f - 30)) 32) else 0

/-- Softmax of a row of scores in WIDE(f) under a validity mask: uQ1.15 (R81). -/
def softmaxRow (s : List Int) (valid : List Bool) (f : Int) : List Int :=
  let live := (s.zip valid).filterMap fun (x, v) => if v then some x else none
  match live with
  | [] => s.map fun _ => 0
  | x :: xs =>
    let mx := maxL x xs
    let e := (s.zip valid).map fun (y, v) => softExp mx f y v
    let tot := sumI e
    e.map fun y => divTa (y * 2 ^ 15) tot

/-! ### Attention (R83 to R85) -/

/-- One entry of a KV head: key and value rows as A8 groups. -/
structure KvRow where
  key : List (List Int × Int × Int × Int)
  val : List (List Int × Int × Int × Int)

/-- Value accumulation over visible rows, in Q of 15 + n_v fraction bits (R84). -/
def valueAcc (d : Nat) (nv : Int) (p : List Int) (rows : List KvRow) : List Int :=
  let vq := rows.map fun r => r.val.flatMap fun (q, m, e, z) =>
    q.map fun x => satS (shiftTa ((x - z) * m) (e - 10 + nv)) 16
  (upTo d).map fun c => dotI p (vq.map fun v => v.getD c 0)

/-- One query head over its visible rows: d values with n_o fraction bits before conversion, held
with 15 + n_v fraction bits (R83, R84). -/
def attHead (d : Nat) (fs nv : Int) (q : List (List Int × Int × Int × Int)) (rows : List KvRow) :
    List Int :=
  let s := rows.map fun r => groupedDot (asWGroups r.key) q 0 0 fs
  valueAcc d nv (softmaxRow s (rows.map fun _ => true) fs) rows

/-- The part of head `h` of an A8 vector whose heads have `d` elements in groups of `g`. -/
def headOf (d g h : Nat) (as : List (List Int × Int × Int × Int)) :
    List (List Int × Int × Int × Int) := (as.drop (h * (d / g))).take (d / g)

/-- Position j is visible to the query at position t (R83). -/
def attVisible (causal : Bool) (w t j : Nat) : Bool :=
  (!causal || decide (j ≤ t)) && (decide (w = 0) || decide (t < j + w))

/-- All query heads of one query vector over the visible rows of each KV head (R83). -/
def attQuery (o : OpRec) (gq : Nat) (q : List (List Int × Int × Int × Int)) (rows : Nat → List KvRow) :
    List Int :=
  let d := o.p 0
  let nq := o.p 1
  let nkv := o.p 2
  (upTo nq).flatMap fun h =>
    attHead d (o.pi 5) (o.pi 6) (headOf d gq h q) (rows (h / (nq / nkv)))

/-! ### Embedding, elementwise, convert (R87, R88, R478, R479) -/

/-- Row `i` of an embedding table (R87). -/
def opEmbed (m : Image) (o : OpRec) (i : Nat) : Tensor :=
  let t := m.tensor (o.tens.getD 0 0)
  if t.format = 3 then
    { x := (upTo (o.p 1)).map fun c => signed 16 (rd m.data (t.offset + 2 * (i * o.p 1 + c)) 2) }
  else
    let g := t.groupCount t.redDim
    { x := wCodes m.data t i
      g := (upTo g).map fun k =>
        let s := wScale m.data t t.redDim i k
        { m := s16Mant s, e := s16Exp s, z := wZero m.data t t.redDim i k } }

/-- a · 2^−na ± b · 2^−nb with n_z fraction bits, rounded once (R88). -/
def addTa (a na b nb nz : Int) : Int :=
  let n := if na < nb then nb else na
  shiftTa (a * 2 ^ (n - na).toNat + b * 2 ^ (n - nb).toNat) (nz - n)

/-- A table function of R478 on one element, before saturation. -/
def tableFn (sub : Nat) (a na nz : Int) : Int :=
  if sub = 16 then sigmoidT a
  else if sub = 17 then tanhT a
  else if sub = 18 then geluT a
  else if sub = 19 then softplusT a
  else if sub = 20 then exp2T a
  else if sub = 21 then log2T a.toNat na
  else if sub = 22 then recipT a.toNat na nz
  else rsqrtT a.toNat na nz

/-- An elementwise operator on one element, before saturation (R88, R478). -/
def elemFn (o : OpRec) (lim : List Int) (a b mask : Int) : Int :=
  let sub := o.p 0
  let na := o.pi 1
  let nb := o.pi 2
  let nz := o.pi 3
  let n := if na < nb then nb else na
  let a' := a * 2 ^ (n - na).toNat
  let b' := b * 2 ^ (n - nb).toNat
  if sub = 0 then addTa a na b nb nz
  else if sub = 1 then addTa a na (-b) nb nz
  else if sub = 2 then shiftTa (if b' < a' then b' else a') (nz - n)
  else if sub = 3 then shiftTa (if a' < b' then b' else a') (nz - n)
  else if sub = 4 then shiftTa (if a < 0 then -a else a) (nz - na)
  else if sub = 5 then shiftTa (-a) (nz - na)
  else if sub = 6 then shiftTa (clampI a (lim.getD 0 0) (lim.getD 1 0)) (nz - na)
  else if sub = 7 then if mask ≠ 0 then shiftTa a (nz - na) else shiftTa b (nz - nb)
  else if sub = 8 then shiftTa a (o.pi 4)
  else if sub = 9 then shiftTa (a * b) (nz - na - nb)
  else tableFn sub a na nz

/-- An elementwise operator on whole vectors: operands a and b and the mask (R478). -/
def opElem (m : Image) (o : OpRec) (ins : List Tensor) : Tensor :=
  let ez := m.edge (o.outE 0)
  let v := fun (k : Nat) (n : Int) => fixedIn (m.edge (o.inE k)) (ins.getD k {}) n
  let a := v 0 (o.pi 1)
  let b := v 1 (o.pi 2)
  let mask := (ins.getD 2 {}).x
  let lim := biasOf m o 0
  { x := (a.zip (upTo a.length)).map fun (ai, i) =>
      satFmt ez.format (elemFn o lim ai (b.getD i 0) (mask.getD i 0)) }

/-- The value that a convert operator hands to its output rule, with its fraction (R479). -/
def convertIn (m : Image) (o : OpRec) (x : Tensor) : List Int × Int :=
  let e := m.edge (o.inE 0)
  let nw := o.pi 1
  if e.format = 1 then
    if o.p 0 = 0 then
      let ez := m.edge (o.outE 0)
      -- the expansion taken straight into t; the output edge's fraction is n_w
      ((a8Groups e.elements e.group x).flatMap fun (q, gm, ge, gz) =>
        q.map fun c => satFmt ez.format (shiftTa ((c - gz) * gm) (ge - 10 + nw)), nw)
    else (expandTo e.elements e.group x nw 48, nw)
  else (x.x, (e.frac : Int))

/-! ### Layout operators (R89)

Subcodes and axes have no encoding in the spec: 0 concatenate, 1 slice, 2 transpose, 3 pad; axis 0
positions, 1 channels, 2 frequency rows (log 20). -/

/-- A tensor as frequency rows of channels. -/
def rowsOf (c : Nat) (t : Tensor) : List (List Int) := chunks c t.x

/-- Descriptors of a tensor by frequency row. -/
def descOf (n : Nat) (t : Tensor) : List (List GroupDesc) := chunks n t.g

/-- Rows of a matrix as columns. -/
def transposeI (cols : Nat) (rows : List (List Int)) : List (List Int) :=
  (upTo cols).map fun c => rows.map fun r => r.getD c 0

/-- A layout operator along channels or frequency rows, on one position (R89); the elements that padding inserts
hold the start value, the real 0 (log 78). -/
def opLayoutPos (m : Image) (o : OpRec) (ins : List Tensor) : Tensor :=
  let e := m.edge (o.inE 0)
  let ez := m.edge (o.outE 0)
  let x := ins.getD 0 {}
  let st := o.p 2
  let len := o.p 3
  let sub := o.p 0
  let a8 := e.format = 1
  if o.p 1 = 2 then
    if sub = 0 then { x := ins.flatMap (·.x), g := ins.flatMap (·.g) }
    else if sub = 1 then
      { x := (((rowsOf e.elements x).drop st).take len).flatten
        g := (((descOf e.groupsPerRow x).drop st).take len).flatten }
    else if sub = 2 then { x := (transposeI e.elements (rowsOf e.elements x)).flatten }
    else
      let z := startValue m ez
      let c := ez.elements
      { x := (z.x.take (st * c)) ++ x.x ++ z.x.drop (st * c + x.x.length)
        g := (z.g.take (st * ez.groupsPerRow)) ++ x.g ++ z.g.drop (st * ez.groupsPerRow + x.g.length) }
  else if sub = 0 then
    let cat := fun (r : Nat) => (o.ins.zip ins).flatMap fun (ei, t) =>
      (rowsOf (m.edge ei).elements t).getD r []
    let catG := fun (r : Nat) => (o.ins.zip ins).flatMap fun (ei, t) =>
      (descOf (m.edge ei).groupsPerRow t).getD r []
    { x := (upTo ez.rowsF).flatMap cat, g := if a8 then (upTo ez.rowsF).flatMap catG else [] }
  else if sub = 1 then
    { x := (rowsOf e.elements x).flatMap fun r => (r.drop st).take len
      g := if a8 then (descOf e.groupsPerRow x).flatMap fun r =>
          (r.drop (st / e.group)).take (cdiv len e.group) else [] }
  else
    let z := startValue m ez
    let zr := rowsOf ez.elements z
    let zg := descOf ez.groupsPerRow z
    { x := ((rowsOf e.elements x).zip zr).flatMap fun (r, zz) =>
        zz.take st ++ r ++ zz.drop (st + r.length)
      g := if a8 then ((descOf e.groupsPerRow x).zip zg).flatMap fun (r, zz) =>
          zz.take (st / e.group) ++ r ++ zz.drop (st / e.group + r.length) else [] }

/-- A layout operator along the positions of whole edges (R89). A transposition exchanges the channels with the axis that
it names, or, where it names the channels, the positions with the frequency rows (log 20). -/
def opLayoutWhole (m : Image) (o : OpRec) (ins : List (List Tensor)) : List Tensor :=
  let e := m.edge (o.inE 0)
  let ez := m.edge (o.outE 0)
  let x := ins.getD 0 []
  let st := o.p 2
  let len := o.p 3
  let sub := o.p 0
  if sub = 2 ∧ o.p 1 = 0 then
    (upTo e.elements).map fun c =>
      { x := (upTo e.rowsF).flatMap fun f => x.map fun t => t.x.getD (f * e.elements + c) 0 }
  else if sub = 2 ∧ o.p 1 = 1 then
    (upTo e.rowsF).map fun f => { x := x.flatMap fun t => (t.x.drop (f * e.elements)).take e.elements }
  else if o.p 1 = 0 then
    if sub = 0 then ins.flatten
    else if sub = 1 then (x.drop st).take len
    else List.replicate st (startValue m ez) ++ x
      ++ List.replicate (len - st - x.length) (startValue m ez)
  else (upTo (maxN (ins.map (·.length)))).map fun p =>
    opLayoutPos m o (ins.map fun v => v.getD p {})

end Sys2Proof.Machine
end

