-- ==== Sys2Proof/Machine/Seq.lean ====
section
/-! DEFINITION. Stateful sequence operators (R95, R96, R99) and the sampling operators' inputs
(R146 to R150). -/

namespace Sys2Proof.Machine

/-- Explicit-tap causal convolution in WIDE(f) (R95): `taps` holds input steps e(t), e(t) − 1, ...,
an absent one contributing no term. Tensor 0 holds the weights, tensor 1 the bias. -/
def opCausalTaps (m : Image) (o : OpRec) (taps : List (Option Tensor)) : List Int :=
  let c := o.p 1
  let f := o.pi 4
  let t := m.tensor (o.tens.getD 0 0)
  let g := o.p 3
  let ng := cdiv c g
  let bias := biasOf m o 1
  (upTo (o.p 2)).map fun ch =>
    let ws := chunks ng (wGroups m.data t c ch)
    let total := sumI ((ws.zip taps).map fun (w, x) =>
      match x with
      | some v => groupTotal f w (a8Groups c g v)
      | none => 0)
    satS (total + bias.getD ch 0) 48

/-- One step of one mode (R99). -/
def modalMode (nx nh : Int) (lam b h : Int × Int) (x : Int) : Int × Int :=
  -- both terms over the common denominator 2^d, d = max(30, 30 + n_x − n_h)
  let s := 30 + nx - nh
  let d := if 30 < s then s else 30
  let up := fun (v : Int) (n : Int) => v * 2 ^ (d - n).toNat
  (satS (shiftTa (up (lam.1 * h.1 - lam.2 * h.2) 30 + up (b.1 * x) s) (-d)) 32,
   satS (shiftTa (up (lam.1 * h.2 + lam.2 * h.1) 30 + up (b.2 * x) s) (-d)) 32)

/-- One step of a modal operator: the new h and the output values with their fraction (R98, R99).
Tensors are λ, b and, in SUM form, c and d. -/
def opModal (m : Image) (o : OpRec) (h : List (Int × Int)) (x : List Int) :
    List (Int × Int) × List Int × Int :=
  let form := o.p 0
  let mc := if form = 0 then o.p 1 else 1
  let nx := o.pi 3
  let nh := o.pi 4
  let f := o.pi 5
  let tv := fun k => tComplex m.data (m.tensor (o.tens.getD k 0))
  let lam := tv 0
  let b := tv 1
  let h' := (h.zip (upTo h.length)).map fun (hm, i) =>
    modalMode nx nh (lam.getD i (0, 0)) (b.getD i (0, 0)) hm (x.getD (i / mc) 0)
  if form = 1 then (h', h'.flatMap fun (re, im) => [re, im], nh)
  else
    let c := tv 2
    let dd := tValues m.data (m.tensor (o.tens.getD 3 0))
    let q := if nh < nx then nx else nh
    let y := (upTo (o.p 2)).map fun k =>
      let s := sumI ((upTo mc).map fun i =>
        let ck := c.getD (k * mc + i) (0, 0)
        let hk := h'.getD (k * mc + i) (0, 0)
        ck.1 * hk.1 - ck.2 * hk.2)
      satS (shiftTa (s * 2 ^ (q - nh).toNat + dd.getD k 0 * x.getD k 0 * 2 ^ (q - nx).toNat)
        (f - 30 - q)) 48
    (h', y, f)

/-- The value of a parameter that is a word of the image, or arrives on the last input edge and is
converted to `n` fraction bits between two limits (R150, R229). -/
def lateParam (m : Image) (o : OpRec) (ins : List Tensor) (word : Nat) (n : Int) (lo hi : Int) : Nat :=
  if o.p word = none32 then
    let k := o.ins.length - 1
    let e := m.edge (o.inE k)
    (clampI (shiftTa ((ins.getD k {}).x.getD 0 0) (n - e.frac)) lo hi).toNat
  else o.p word

/-- Gumbel-max over the scores of input edge 0 (R146). -/
def opGumbel (m : Image) (o : OpRec) (ins : List Tensor) (dr : List Nat) : Nat :=
  let e := m.edge (o.inE 0)
  gumbelMax (ins.getD 0 {}).x e.frac (lateParam m o ins 2 8 0 65535) (o.p 1) dr

/-- Mixture of logistics: inputs π, μ and ls, each E rows of K components (R148). -/
def opMol (m : Image) (o : OpRec) (ins : List Tensor) (dr : List Nat) : List Int :=
  let k := o.p 0
  let en := o.p 1
  let ez := m.edge (o.outE 0)
  let row := fun (j : Nat) (x : List Int) => (x.drop (j * k)).take k
  let es := m.edge (o.inE 2)
  let ls := (ins.getD 2 {}).x.map fun v => satS (shiftTa v (11 - (es.frac : Int))) 16
  (upTo en).map fun j =>
    molSample (row j (ins.getD 0 {}).x) (m.edge (o.inE 0)).frac (row j (ins.getD 1 {}).x) (o.pi 2)
      (row j ls) ((dr.drop ((k + 1) * j)).take (k + 1)) (o.pi 3) (ez.format != 6)
      (if ez.format = 2 then 16 else if ez.format = 4 then 48 else 32)

/-- Bernoulli mask (R149). -/
def opBernoulli (m : Image) (o : OpRec) (ins : List Tensor) (dr : List Nat) : List Int :=
  bernoulli (lateParam m o ins 1 24 0 (2 ^ 24)) (dr.take (o.p 0))

end Sys2Proof.Machine
end

