-- ==== Sys2Proof/Machine/Windows.lean ====
section
/-! DEFINITION. Sliding-window operators (R119 to R127): convolution, transposed convolution, pooling
and reshaping. An operator reads its input through a function from a time position to the slice at
that position, absent positions giving none; the two modes differ only in that function. -/

namespace Sys2Proof.Machine

/-- The parameter words of a convolution from word `b` on (R229). -/
structure ConvP where
  c : Nat
  n : Nat
  gc : Nat
  kt : Nat
  kf : Nat
  st : Nat
  sf : Nat
  dt : Nat
  df : Nat
  ptl : Nat
  ptr : Nat
  pfl : Nat
  pfr : Nat
  diag : Bool

def convP (o : OpRec) (b : Nat) : ConvP :=
  { c := o.p b, n := o.p (b + 1), gc := o.p (b + 2), kt := o.p (b + 3), kf := o.p (b + 4)
    st := o.p (b + 5), sf := o.p (b + 6), dt := o.p (b + 7), df := o.p (b + 8), ptl := o.p (b + 9)
    ptr := o.p (b + 10), pfl := o.p (b + 11), pfr := o.p (b + 12), diag := o.p (b + 13) = 1 }

/-- Output length of an axis (R121): floor((T + left + right − δ(K − 1) − 1) / s) + 1, 0 when less
than 1. -/
def convLen (t left right k d s : Nat) : Nat :=
  if d * (k - 1) + 1 ≤ t + left + right then (t + left + right - d * (k - 1) - 1) / s + 1 else 0

/-- Output length of a transposed axis (R125), 0 when less than 1. -/
def upLen (t left right k d s : Nat) : Nat :=
  (t - 1) * s + d * (k - 1) + 1 - left - right

/-- A slice of an A8 tensor: the groups of frequency row `f`. -/
def rowGroups (c g f : Nat) (t : Tensor) : List (List Int × Int × Int × Int) :=
  let n := cdiv c g
  ((a8Groups c g t).drop (f * n)).take n

/-- The STATIC descriptor of frequency row `fr` and the channel group that holds channel `c` (R232). -/
def staticSpec (m : Image) (e : EdgeRec) (fr c : Nat) : GroupSpec :=
  (m.trackRec e).specs.getD (fr * e.groupsPerRow + c / e.group) { m := 512, e := -32, z := 0 }

/-- One output of the diagonal mapping (R122): each code less its own zero point, an absent position
adding 0. Frequency rows of different scales cannot share one group: that value the spec leaves open,
and it is free (log 73). -/
def diagDot (m : Image) (t : TensorRec) (p : ConvP) (e : EdgeRec) (bias f : Int) (o : Nat)
    (freq : Nat → Option Nat) (time : Nat → Option Tensor) : Int :=
  let cg := p.c / p.gc
  let c0 := o / (p.n / p.gc) * cg
  let scales := ((upTo p.kf).filterMap fun kf => (freq kf).map fun fr =>
    let s := staticSpec m e fr c0
    (s.m, s.e)).eraseDups
  let code := fun (c kf kt : Nat) =>
    match freq kf, time kt with
    | some fr, some v => v.x.getD (fr * p.c + c0 + c) 0 - (staticSpec m e fr c0).z
    | _, _ => 0
  let qa := (upTo cg).flatMap fun c => (upTo p.kf).flatMap fun kf => (upTo p.kt).map (code c kf)
  match scales with
  | _ :: _ :: _ => Config.mixedRows qa scales
  | _ =>
    let s := scales.headD (512, -32)
    groupedDot (wGroups m.data t t.redDim o) [(qa, s.1, s.2, 0)] bias f f

/-- One output of a grouped product over taps: `freq` gives the frequency row of tap kf and `time` the
input slice of tap kt, none for an absent position (R122). -/
def convDot (m : Image) (t : TensorRec) (p : ConvP) (e : EdgeRec) (bias f : Int) (o : Nat)
    (freq : Nat → Option Nat) (time : Nat → Option Tensor) : Int :=
  let cg := p.c / p.gc
  let gi := o / (p.n / p.gc)
  if p.diag then diagDot m t p e bias f o freq time
  else
    let ng := cg / e.group
    let taps := (upTo p.kf).flatMap fun kf => (upTo p.kt).map fun kt =>
      match freq kf, time kt with
      | some fr, some v => some (v, fr)
      | _, _ => none
    let ws := chunks ng (wGroups m.data t cg o)
    satS (sumI ((ws.zip taps).map fun (w, x) =>
      match x with
      | some (v, fr) => groupTotal f w (((rowGroups p.c e.group fr v).drop (gi * ng)).take ng)
      | none => 0) + bias) 48

/-- A convolution's values at one output position, over (f′, o), in WIDE(f); `time kt` gives the input
slice that tap kt reads (R121, R122). -/
def convAt (m : Image) (o : OpRec) (fw : Int) (time : Nat → Option Tensor) : List Int :=
  let p := convP o 0
  let e := m.edge (o.inE 0)
  let t := m.tensor (o.tens.getD 0 0)
  let bias := biasOf m o 1
  (upTo (m.edge (o.outE 0)).rowsF).flatMap fun f' => (upTo p.n).map fun ch =>
    convDot m t p e (bias.getD ch 0) fw ch (fun kf =>
      let fi : Int := (f' * p.sf + kf * p.df : Nat) - (p.pfl : Int)
      if 0 ≤ fi ∧ fi < e.rowsF then some fi.toNat else none) time

/-- A transposed convolution's values at one output position; `time kt` gives the input slice that
contributes through tap kt (R125). -/
def upConvAt (m : Image) (o : OpRec) (fw : Int) (time : Nat → Option Tensor) : List Int :=
  let p := convP o 5
  let e := m.edge (o.inE 0)
  let t := m.tensor (o.tens.getD 0 0)
  let bias := biasOf m o 1
  (upTo (m.edge (o.outE 0)).rowsF).flatMap fun f' => (upTo p.n).map fun ch =>
    convDot m t p e (bias.getD ch 0) fw ch (fun kf =>
      let fi : Int := (f' + p.pfl : Nat) - (kf * p.df : Int)
      if 0 ≤ fi ∧ fi % p.sf = 0 ∧ fi / p.sf < e.rowsF then some (fi / p.sf).toNat else none) time

/-- Pooling's values at one output position, over (f′, c), in the output type (R126). -/
def poolAt (m : Image) (o : OpRec) (time : Nat → Option Tensor) : List Int :=
  let e := m.edge (o.inE 0)
  let ez := m.edge (o.outE 0)
  let kt := o.p 2
  let kf := o.p 3
  let sf := o.p 5
  let pfl := o.p 8
  let nx : Int := if e.format = 1 then o.pi 10 else e.frac
  let ny := o.pi 10
  let vals := fun (v : Tensor) => fixedIn e v nx
  (upTo ez.rowsF).flatMap fun f' => (upTo ez.elements).map fun c =>
    let xs := (upTo kf).flatMap fun kfi => (upTo kt).filterMap fun kti =>
      let fi : Int := (f' * sf + kfi : Nat) - (pfl : Int)
      if 0 ≤ fi ∧ fi < e.rowsF then
        (time kti).map fun v => (vals v).getD (fi.toNat * e.elements + c) 0
      else none
    match xs with
    | [] => 0
    | x :: r =>
      if o.p 0 = 0 then satFmt ez.format (shiftTa (maxL x r) (ny - nx))
      else
        let cnt : Int := if o.p 1 = 0 then (xs.length : Int) else ((kt * kf : Nat) : Int)
        satFmt ez.format (scaleTa (sumI xs) (ny - nx) cnt)

/-- The slices of a whole edge at a signed position. -/
def wholeAt (x : List Tensor) (t : Int) : Option Tensor :=
  if 0 ≤ t then x[t.toNat]? else none

/-- The number of output positions of a WINDOW operator over `t` input positions, 0 when less than 1
(R121, R125 to R127). -/
def windowLen (o : OpRec) (t : Nat) : Nat :=
  if o.type = 0x18 then
    let p := convP o 0
    convLen t p.ptl p.ptr p.kt p.dt p.st
  else if o.type = 0x19 then upLen t (o.p 3) (o.p 4) (o.p 1) (o.p 2) (o.p 0)
  else if o.type = 0x1A then convLen t (o.p 6) (o.p 7) (o.p 2) 1 (o.p 4)
  else if o.p 0 = 0 then t * o.p 1
  else t / o.p 1

/-- A convolution in WINDOW mode: the values at every output position (R121). -/
def convWhole (m : Image) (o : OpRec) (fw : Int) (x : List Tensor) : List (List Int) :=
  let p := convP o 0
  (upTo (windowLen o x.length)).map fun t' =>
    convAt m o fw fun kt => wholeAt x ((t' * p.st + kt * p.dt : Nat) - (p.ptl : Int))

/-- A transposed convolution in WINDOW mode (R125). -/
def upConvWhole (m : Image) (o : OpRec) (fw : Int) (x : List Tensor) : List (List Int) :=
  let s := o.p 0
  (upTo (windowLen o x.length)).map fun t' =>
    upConvAt m o fw fun kt =>
      let i : Int := (t' + o.p 3 : Nat) - ((kt * o.p 2 : Nat) : Int)
      if i % s = 0 then wholeAt x (i / s) else none

/-- Pooling in WINDOW mode (R126). -/
def poolWhole (m : Image) (o : OpRec) (x : List Tensor) : List (List Int) :=
  (upTo (windowLen o x.length)).map fun t' =>
    poolAt m o fun kt => wholeAt x ((t' * o.p 4 + kt : Nat) - (o.p 6 : Int))

/-- Part φ of the channels of a slice: channels c·r + φ of every frequency row (R127). -/
def chanPart (c r ph : Nat) (t : Tensor) : List Int :=
  (rowsOf c t).flatMap fun row => (upTo (c / r)).map fun k => row.getD (k * r + ph) 0

/-- Slices joined into channels: channel c·r + φ from slice φ (R127). -/
def chanJoin (c rows : Nat) (ts : List Tensor) : List Int :=
  (upTo rows).flatMap fun f => (upTo c).flatMap fun k => ts.map fun t => t.x.getD (f * c + k) 0

/-- Reshaping a whole edge (R127). -/
def reshapeWhole (m : Image) (o : OpRec) (x : List Tensor) : List Tensor :=
  let e := m.edge (o.inE 0)
  let r := o.p 1
  if o.p 0 = 0 then
    (upTo (x.length * r)).map fun t => { x := chanPart e.elements r (t % r) (x.getD (t / r) {}) }
  else
    (upTo (x.length / r)).map fun t =>
      { x := chanJoin e.elements e.rowsF ((upTo r).map fun ph => x.getD (t * r + ph) {}) }

/-! ### Cabochon (R130 to R134) -/

/-- Element (c, p) of an 8 × 8 block held row by row. -/
def blk (y : List Int) (c p : Nat) : Int := y.getD (8 * c + p) 0

/-- The low half and the high half of the pairs of a line (R131). -/
def liftLine (v : List Int) : List Int :=
  let ps := chunks 2 v
  let d := fun (q : List Int) => q.getD 1 0 - q.getD 0 0
  (ps.map fun q => q.getD 0 0 + d q / 2) ++ ps.map d

/-- The inverse of `liftLine` (R131). -/
def unliftLine (v : List Int) : List Int :=
  let h := v.length / 2
  ((v.take h).zip (v.drop h)).flatMap fun (s, d) => [s - d / 2, s - d / 2 + d]

/-- Apply a line function to the first `n` positions of the first `n` rows. -/
def onRows (n : Nat) (f : List Int → List Int) (y : List Int) : List Int :=
  ((chunks 8 y).zip (upTo 8)).flatMap fun (row, c) =>
    if c < n then f (row.take n) ++ row.drop n else row

/-- The block with channels and positions exchanged. -/
def flip8 (y : List Int) : List Int := (upTo 8).flatMap fun c => (upTo 8).map fun p => blk y p c

/-- One forward level: positions, then channels (R131). -/
def levelFwd (n : Nat) (y : List Int) : List Int :=
  flip8 (onRows n liftLine (flip8 (onRows n liftLine y)))

/-- One inverse level: channels, then positions (R131). -/
def levelInv (n : Nat) (y : List Int) : List Int :=
  onRows n unliftLine (flip8 (onRows n unliftLine (flip8 y)))

/-- A sub-band of R132: first row, first column, size, and (A, o) for CAB6 and CAB4. -/
structure Band where
  r : Nat
  c : Nat
  n : Nat
  a6 : Nat
  o6 : Int
  a4 : Nat
  o4 : Int

/-- The sub-bands after LL3, in the order of R132. -/
def cabBands : List Band :=
  [⟨0, 1, 1, 9, 0, 9, 0⟩, ⟨1, 0, 1, 9, 0, 9, 0⟩, ⟨1, 1, 1, 9, 0, 9, 0⟩, ⟨0, 2, 2, 8, 0, 8, 0⟩,
   ⟨2, 0, 2, 8, 0, 8, 0⟩, ⟨2, 2, 2, 6, 1, 6, 1⟩, ⟨0, 4, 4, 6, 1, 4, 2⟩, ⟨4, 0, 4, 6, 1, 4, 2⟩,
   ⟨4, 4, 4, 4, 2, 0, 0⟩]

def bandA (four : Bool) (b : Band) : Nat := if four then b.a4 else b.a6
def bandO (four : Bool) (b : Band) : Int := if four then b.o4 else b.o6

/-- Positions of a band in raster order. -/
def bandCells (b : Band) : List (Nat × Nat) :=
  (upTo b.n).flatMap fun i => (upTo b.n).map fun j => (b.r + i, b.c + j)

/-- `fits` of R133. -/
def cabFits (four : Bool) (y : List Int) (ex : Nat) : Bool :=
  cabBands.all fun b => bandA four b == 0 || (bandCells b).all fun (c, p) =>
    let v := shiftTa (blk y c p) (-((ex : Int) + bandO four b))
    decide (tyMin true (bandA four b) ≤ v) && decide (v ≤ tyMax true (bandA four b))

/-- The block exponent: the least that fits (R133). -/
def cabExp (four : Bool) (y : List Int) : Nat := (firstBelow 16 (cabFits four y)).getD 0

/-- `n` bits of a number, least significant first (R134). -/
def lsbBits (n v : Nat) : List Bool := (upTo n).map fun i => v.testBit i

/-- The number that bits spell, least significant first. -/
def bitsNat : List Bool → Nat
  | [] => 0
  | b :: r => b2n b + 2 * bitsNat r

/-- Bits as bytes, bit i in bit i % 8 of byte i // 8 (R134). -/
def bitsToBytes (bs : List Bool) : Bytes := (chunks 8 bs).map fun c => BitVec.ofNat 8 (bitsNat c)

/-- `cab_encode` of R133 over 64 codes held row by row. -/
def cabEncode (four : Bool) (x : List Int) : Bytes :=
  let y := levelFwd 2 (levelFwd 4 (levelFwd 8 x))
  let ex := cabExp four y
  let coded := cabBands.flatMap fun b => (bandCells b).flatMap fun (c, p) =>
    let a := bandA four b
    let v := clampI (shiftTa (blk y c p) (-((ex : Int) + bandO four b))) (tyMin true a) (tyMax true a)
    if a = 0 then [] else lsbBits a (field a v)
  bitsToBytes (lsbBits 4 ex ++ lsbBits 8 (field 8 (blk y 0 0)) ++ coded ++ [false])

/-- The coefficients that a bit stream codes, as (row, column, value), from the bands on (R133). -/
def cabCoefs (four : Bool) (ex : Nat) : List Band → List Bool → List (Nat × Int)
  | [], _ => []
  | b :: r, bs =>
    let a := bandA four b
    let cells := bandCells b
    let vals := (cells.zip (upTo cells.length)).map fun ((c, p), i) =>
      (8 * c + p, if a = 0 then 0 else
        signed a (bitsNat ((bs.drop (a * i)).take a)) * 2 ^ ((ex : Int) + bandO four b).toNat)
    vals ++ cabCoefs four ex r (bs.drop (a * cells.length))

/-- `cab_decode` of R133. -/
def cabDecode (four : Bool) (b : Bytes) : List Int :=
  let bs := b.flatMap fun x => lsbBits 8 x.toNat
  let ex := bitsNat (bs.take 4)
  let co := (0, signed 8 (bitsNat ((bs.drop 4).take 8))) :: cabCoefs four ex cabBands (bs.drop 12)
  let y := (upTo 64).map fun i => ((co.find? fun q => q.1 == i).map (·.2)).getD 0
  (levelInv 8 (levelInv 4 (levelInv 2 y))).map fun v => clampI v (-128) 127

/-- Bytes that a marked edge of `t` positions occupies (R135). -/
def cabBytes (four : Bool) (c rows g t : Nat) : Nat :=
  rows * cdiv c 8 * cdiv t 8 * (if four then 32 else 48) + 3 * rows * t * cdiv c g

/-- What the consumers of a marked whole edge read: every block of 8 channels by 8 positions coded
and decoded, the descriptors unchanged (R129, R130). -/
def cabWhole (four : Bool) (c rows : Nat) (x : List Tensor) : List Tensor :=
  let t := x.length
  let code := fun (f ch p : Nat) => (x.getD (min p (t - 1)) {}).x.getD (f * c + min ch (c - 1)) 0
  let dec := fun (f bc bp : Nat) =>
    cabDecode four (cabEncode four ((upTo 8).flatMap fun i => (upTo 8).map fun j =>
      code f (8 * bc + i) (8 * bp + j)))
  let blocks := (upTo rows).map fun f => (upTo (cdiv c 8)).map fun bc =>
    (upTo (cdiv t 8)).map fun bp => dec f bc bp
  let out := fun (p f ch : Nat) =>
    blk (((blocks.getD f []).getD (ch / 8) []).getD (p / 8) []) (ch % 8) (p % 8)
  (x.zip (upTo t)).map fun (v, p) =>
    { x := (upTo rows).flatMap fun f => (upTo c).map fun ch => out p f ch, g := v.g }

end Sys2Proof.Machine
end

