-- ==== Sys2Proof/Machine/Graph.lean ====
section
/-! DEFINITION. The graph of a voice (R91 to R93, R102, R103, R109 to R115, R118, R155, R228, R477,
R480): anchors, edge values, carried state, one operator step, whole-edge operators, and the end of a
base step. -/

namespace Sys2Proof.Machine

/-- A voice: the images of its acoustic, vocoder and post-filter roles in role order with their role
numbers, and the adapter's image (R155). -/
structure Voice where
  imgs : List (Nat × Image) := []
  adapter : Option Image := none

def defImage : Image := {}

/-- The image of a role. -/
def Voice.img (v : Voice) (role : Nat) : Image :=
  if role = 1 then v.adapter.getD defImage
  else ((v.imgs.find? fun q => q.1 == role).map (·.2)).getD defImage

/-- The role whose output edge feeds the sink (R155). -/
def Voice.outRole (v : Voice) : Nat := (v.imgs.getLast?.map (·.1)).getD 0
/-- The image whose output edge feeds the sink. -/
def Voice.outImg (v : Voice) : Image := v.img v.outRole
/-- The output edge of the voice (R155). -/
def Voice.outEdge (v : Voice) : EdgeRec := v.outImg.edge v.outImg.outputEdge

/-- The role before a role in the voice, whose output edge SOURCE 0x100 names (R230). -/
def Voice.prevRole (v : Voice) (role : Nat) : Option Nat :=
  ((v.imgs.takeWhile fun q => q.1 != role).getLast?).map (·.1)

/-- The operators of a voice in the reference order, as (role, index); an adapter point runs with the
base operator that it names (R228). -/
def Voice.order (v : Voice) : List (Nat × Nat) :=
  v.imgs.flatMap fun (r, m) => (upTo m.ops.length).map fun i => (r, i)

/-- The adapter points that name operator `i` of the base (R78, R229). -/
def adapterPoints (m : Image) (i : Nat) : List Nat :=
  (upTo m.ops.length).filter fun k => (m.op k).type == 0x30 && (m.op k).p 0 == i

/-! ### Anchors (R91, R92) -/

/-- Offset of the anchors of an operator. -/
def OpRec.off (o : OpRec) : Nat := if o.trailing then o.dec - 1 else 0

/-- A step with decimation d and offset f is anchored at base step a. -/
def anchoredAt (d f a : Nat) : Bool := decide (f ≤ a) && (a - f) % d == 0

/-- The first step anchored at or after base step a. -/
def firstStep (d f a : Nat) : Nat := cdiv (a - f) d

/-- Number of steps anchored before base step a. -/
def stepsBefore (d f a : Nat) : Nat := cdiv (a - f) d

/-- Whether an operator's outputs are whole edges (R118). -/
def isWholeOp (m : Image) (o : OpRec) : Bool := (m.edge (o.outE 0)).whole

/-- Decimation and anchor offset of the elements of a RUN input that an operator reads: its own steps, but those of a
sliding window or a reshaping are slower or faster by its stride or factor (R121, R125 to R127, R300, log 94). -/
def OpRec.inStep (o : OpRec) : Nat × Nat :=
  let faster (n : Nat) : Nat × Nat := let d := o.dec / max 1 n; (d, if o.trailing then d - 1 else 0)
  let slower (n : Nat) : Nat × Nat := (o.dec * n, o.off)
  match o.type with
  | 0x18 => faster (o.p 5)
  | 0x19 => slower (o.p 0)
  | 0x1A => faster (o.p 4)
  | 0x1B => if o.p 0 = 0 then slower (o.p 1) else faster (o.p 1)
  | _ => (o.dec, o.off)

/-- An operator reads a RUN input whose elements are slower than its own steps: the latest one is held (R127, R480). -/
def holdsInput (m : Image) (o : OpRec) : Bool :=
  let ed := m.edge (o.inE 0)
  ed.producer == none32 && decide (ed.source < 16) && !ed.whole && decide (o.dec < o.inStep.1)

/-- Decimation and anchor offset of the steps in which edge `e` delivers values to operator `o` of a
role: those of its producer, or of the reader for an image input (R91, R300). -/
def edgeAnchor (v : Voice) (role : Nat) (o : OpRec) (e : Nat) : Nat × Nat :=
  let m := v.img role
  let ed := m.edge e
  if ed.producer ≠ none32 then ((m.op ed.producer).dec, (m.op ed.producer).off)
  else if ed.source = 0x100 then
    match v.prevRole role with
    | some r =>
      let mp := v.img r
      let ep := mp.edge mp.outputEdge
      if ep.producer ≠ none32 then ((mp.op ep.producer).dec, (mp.op ep.producer).off) else (o.dec, o.off)
    | none => (o.dec, o.off)
  else o.inStep

/-! ### Carried state (R93) -/

/-- Kind of a carried quantity, as R174 numbers record kinds. -/
def CarriedVal.kind : CarriedVal → Nat
  | .gru _ => 1
  | .modal _ => 2
  | .feedback _ _ => 3
  | .tracker _ _ => 4
  | .taps _ => 5
  | .kv _ _ => 6

/-- The carried quantity of a kind. -/
def findCarried (cs : List Carried) (role op kind sub : Nat) : Option CarriedVal :=
  (cs.find? fun c => c.role == role && c.op == op && c.sub == sub && c.val.kind == kind).map (·.val)

/-- Replace a carried quantity. -/
def putCarried (cs : List Carried) (role op sub : Nat) (v : CarriedVal) : List Carried :=
  cs.map fun c =>
    if c.role = role ∧ c.op = op ∧ c.sub = sub ∧ c.val.kind = v.kind then { c with val := v } else c

/-- History entries that an operator keeps (R96, R123, R125); pooling and reshaping keep the input
steps that their windows read (log 21). -/
def historyLen (o : OpRec) : Nat :=
  if o.type = 0x10 then o.p 0 - 1
  else if o.type = 0x18 then (o.p 3 - 1) * o.p 7
  else if o.type = 0x19 then cdiv (o.p 2 * (o.p 1 - 1)) (o.p 0)
  else if o.type = 0x1A then o.p 2 - 1
  else if o.type = 0x1B ∧ o.p 0 = 1 then o.p 1 - 1
  else 0

/-- An operator keeps a history: explicit-tap convolution, or a CAUSAL sliding window. -/
def keepsHistory (o : OpRec) : Bool :=
  o.type == 0x10 || ((o.type == 0x18 || o.type == 0x19 || o.type == 0x1A) && o.causal)
    || (o.type == 0x1B && o.p 0 == 1)

/-- Attention keeps a KV cache when its keys come from a stepped edge (R85). -/
def keepsKv (m : Image) (o : OpRec) : Bool := o.type == 0x07 && !(m.edge (o.inE 1)).whole

/-- The carried quantities of one operator, each at the value of an all-zero state slot (R93). The
history holds one entry more than R96 counts, the one dropped last (log 22). -/
def zeroOp (m : Image) (role i : Nat) : List Carried :=
  let o := m.op i
  let mk := fun (sub : Nat) (v : CarriedVal) => ({ role := role, op := i, sub := sub, val := v } : Carried)
  let nModes := if o.p 0 = 0 then o.p 1 * o.p 2 else o.p 1
  (if o.type = 0x03 then [mk 0 (.gru (List.replicate (o.p 1) 0))] else [])
  ++ (if o.type = 0x11 then [mk 0 (.modal (List.replicate nModes (0, 0)))] else [])
  ++ (if o.outs.any fun e => (m.edge e).feedback then [mk 0 (.feedback 0 false)] else [])
  ++ ((o.outs.zip (upTo o.outs.length)).filterMap fun (e, k) =>
      if (m.edge e).format = 1 ∧ (m.edge e).convert = 3 then some (mk k (.tracker 0 0)) else none)
  ++ (if keepsHistory o then [mk 0 (.taps (List.replicate (historyLen o + 1) none))] else [])
  ++ (if keepsKv m o then (upTo (o.p 2)).map fun h => mk h (.kv 0 []) else [])

/-- The carried state of a new stream: every operator on stepped edges, in record order (R174). -/
def zeroCarried (v : Voice) : List Carried :=
  let part := fun (r : Nat) (m : Image) =>
    (upTo m.ops.length).flatMap fun i => if isWholeOp m (m.op i) then [] else zeroOp m r i
  (v.imgs.flatMap fun (r, m) => if r = 0 then part r m else [])
  ++ (match v.adapter with
    | some m => (upTo m.ops.length).flatMap fun i =>
        if isWholeOp (v.img 0) ((v.img 0).op ((m.op i).p 0)) then [] else zeroOp m 1 i
    | none => [])
  ++ v.imgs.flatMap fun (r, m) => if r = 0 then [] else part r m

/-- The value of a quantity after a reset mark (R109): a reshaping buffer is no filter history and
stays. -/
def resetVal (v : Voice) (c : Carried) : CarriedVal :=
  match c.val with
  | .gru h => .gru (h.map fun _ => 0)
  | .modal h => .modal (h.map fun _ => (0, 0))
  | .feedback x _ => .feedback x false
  | .tracker _ _ => .tracker 0 0
  | .taps e => if ((v.img c.role).op c.op).type = 0x1B then .taps e else .taps (e.map fun _ => none)
  | .kv _ _ => .kv 0 []

/-- The carried state after a reset mark (R109). -/
def resetCarried (v : Voice) (cs : List Carried) : List Carried :=
  cs.map fun c => { c with val := resetVal v c }

/-! ### Edge values (R480) -/

/-- The latest output on an edge. -/
def findEdge (es : List EdgeVal) (role e : Nat) : Option Tensor :=
  (es.find? fun q => q.role == role && q.edge == e).map (·.val)

/-- Set the latest output on an edge. -/
def putEdge (es : List EdgeVal) (role e : Nat) (t : Tensor) : List EdgeVal :=
  { role := role, edge := e, val := t } :: es.filter fun q => !(q.role == role && q.edge == e)

/-- The input data of a run for one member: the element of an operator step or position, and the
number of positions of a whole edge (R300). -/
structure Inputs where
  elem : Nat → EdgeRec → Nat → Tensor
  positions : Nat → Nat

/-- What one member of a run holds while its steps run. -/
structure MemberSt where
  carried : List Carried := []
  edges : List EdgeVal := []
  /-- Values of whole edges: role, edge and positions. -/
  whole : List (Nat × Nat × List Tensor) := []
  resetAt : Nat := 0
  noiseAt : Nat := 0
  seed : Nat := 0
  nstream : Nat := 0

/-- A fed-back value as an element of its edge (R93, R230). -/
def feedbackElem (e : EdgeRec) (value : Nat) : Int :=
  if e.format = 6 then (value : Int) else signed 32 value

/-- The value that an operator step anchored at `a` reads on a stepped input edge (R480, R93, R300).
The start value of a feedback edge is 0 (log 23). -/
def readEdge (v : Voice) (inp : Inputs) (ms : MemberSt) (first a role : Nat) (o : OpRec) (e : Nat) :
    Tensor :=
  let m := v.img role
  let ed := m.edge e
  if ed.producer ≠ none32 then
    if ed.feedback then
      match findCarried ms.carried role ed.producer 3 0 with
      | some (.feedback x true) => { x := [feedbackElem ed x] }
      | _ => { x := List.replicate ed.elements 0 }
    else (findEdge ms.edges role e).getD (startValue m ed)
  else if ed.source = 0x100 then
    match v.prevRole role with
    | some r => (findEdge ms.edges r (v.img r).outputEdge).getD
        (startValue (v.img r) ((v.img r).edge (v.img r).outputEdge))
    | none => startValue m ed
  else
    let n (x : Nat) := stepsBefore o.inStep.1 o.inStep.2 x
    if n (a + 1) ≤ n first then (findEdge ms.edges role e).getD (startValue m ed)
    else inp.elem ed.source ed (n (a + 1) - 1 - n first)

/-- What the consumers of a whole edge read of its positions: a marked edge is decoded from cabochon
(R129). -/
def cabDecoded (ed : EdgeRec) (y : List Tensor) : List Tensor :=
  if ed.cab6 || ed.cab4 then cabWhole ed.cab4 ed.elements ed.rowsF y else y

/-- The positions of a whole input edge (R118, R129, R230). DESIGN CHOICE (log 93): a tensor that passes two marked edge
records, the output edge of a role and the input edge of the next, is coded and decoded at each. -/
def readWhole (v : Voice) (inp : Inputs) (ms : MemberSt) (role e : Nat) : List Tensor :=
  let m := v.img role
  let ed := m.edge e
  let held := fun (r k : Nat) =>
    ((ms.whole.find? fun q => q.1 == r && q.2.1 == k).map (·.2.2)).getD []
  if ed.producer ≠ none32 then held role e
  else if ed.source = 0x100 then
    match v.prevRole role with
    | some r => cabDecoded ed (held r (v.img r).outputEdge)
    | none => []
  else cabDecoded ed ((upTo (inp.positions ed.source)).map fun p => inp.elem ed.source ed p)

/-! ### One operator step -/

/-- What one operator step or position reads. -/
structure OpEnv where
  ins : List Tensor := []
  /-- Positions of each whole input edge. -/
  mem : List (List Tensor) := []
  /-- A step of the input operator is anchored with this step (R96). -/
  fresh : Bool := true
  /-- Age of the step (R92), or position of a whole edge. -/
  age : Nat := 0
  /-- Number of this step, and of the latest input step e(t′) (R121, R125). -/
  stepNo : Nat := 0
  lastIn : Nat := 0
  draws : List Nat := []
  /-- Queries stand on a whole edge (R83). -/
  wholeQ : Bool := false

def trkOf (cs : List Carried) (role i k : Nat) : Int × Nat :=
  match findCarried cs role i 4 k with
  | some (.tracker d q) => (d, q)
  | _ => (0, 0)

/-- Convert values to output edge `k` and keep its tracker (R45, R49). -/
def outConv (m : Image) (role i k : Nat) (cs : List Carried) (x : List Int) (f : Int) :
    Tensor × List Carried :=
  let e := m.edge ((m.op i).outE k)
  let (t, trk) := convOut m e (trkOf cs role i k) x f
  (t, if e.convert = 3 then putCarried cs role i k (.tracker trk.1 trk.2) else cs)

/-- The slices that a history operator's taps read: entry k is input step e(t) − k (R95, R96). -/
def tapsOf (cs : List Carried) (role i : Nat) (env : OpEnv) : List (Option Tensor) :=
  match findCarried cs role i 5 0 with
  | some (.taps es) => if env.fresh then some (env.ins.getD 0 {}) :: es else es
  | _ => [some (env.ins.getD 0 {})]

/-- The base product with the stream's adapter, and the adapter's trackers (R78). -/
def adapted (v : Voice) (i : Nat) (as : List (List Int × Int × Int × Int)) (cs : List Carried)
    (base : List Int) : List Int × List Carried :=
  match v.adapter with
  | none => (base, cs)
  | some ma =>
    (adapterPoints ma i).foldl (fun (b, c) k =>
      let (y, trk) := opAdapter ma (ma.op k) (trkOf c 1 k 0) as b
      (y, putCarried c 1 k 0 (.tracker trk.1 trk.2))) (base, cs)

/-- The rows of a KV head, split by group. -/
def kvRow (m : Image) (o : OpRec) (h : Nat) (kv : Tensor × Tensor) : KvRow :=
  let d := o.p 0
  let ek := m.edge (o.inE 1)
  let ev := m.edge (o.inE 2)
  { key := headOf d ek.group h (a8Groups ek.elements ek.group kv.1)
    val := headOf d ev.group h (a8Groups ev.elements ev.group kv.2) }

/-- The part of head `h` of an A8 tensor, as a tensor. -/
def headTensor (d g h : Nat) (t : Tensor) : Tensor :=
  { x := (t.x.drop (h * d)).take d, g := (t.g.drop (h * (d / g))).take (d / g) }

/-- One attention step over the KV cache: the new cache of head `h` and its visible rows (R83, R85). -/
def kvStep (m : Image) (o : OpRec) (env : OpEnv) (h : Nat) (next : Nat) (rows : List (Tensor × Tensor)) :
    Nat × List (Tensor × Tensor) :=
  let d := o.p 0
  let gk := (m.edge (o.inE 1)).group
  let gv := (m.edge (o.inE 2)).group
  let rows' := rows ++ [(headTensor d gk h (env.ins.getD 1 {}), headTensor d gv h (env.ins.getD 2 {}))]
  (next + 1, if o.p 3 = 0 then rows' else rows'.drop (rows'.length - o.p 3))

/-- A stored row of one head, split by group. -/
def storedRow (m : Image) (o : OpRec) (kv : Tensor × Tensor) : KvRow :=
  let d := o.p 0
  { key := a8Groups d (m.edge (o.inE 1)).group kv.1, val := a8Groups d (m.edge (o.inE 2)).group kv.2 }

/-- Positions that the stream's length mask admits (R83). -/
def lengthMask (o : OpRec) (env : OpEnv) : Option Nat :=
  if 3 < o.ins.length then
    match env.mem.getD 3 [] with
    | t :: _ => some (t.x.getD 0 0).toNat
    | [] => some ((env.ins.getD 3 {}).x.getD 0 0).toNat
  else none

/-- Attention of one query vector: its values with n_o fraction bits and the carried state (R83 to
R85). Where the output edge is A8, the value accumulation saturates to i48 (R47, R84, log 72). -/
def attStep (m : Image) (role i : Nat) (o : OpRec) (env : OpEnv) (cs : List Carried) :
    List Int × List Carried :=
  let eq := m.edge (o.inE 0)
  let ez := m.edge (o.outE 0)
  let q := a8Groups eq.elements eq.group (env.ins.getD 0 {})
  let lim := lengthMask o env
  let seen := fun (j : Nat) => match lim with | some n => decide (j < n) | none => true
  let causal := o.p 4 = 1
  let w := o.p 3
  let cs' := if keepsKv m o then
      (upTo (o.p 2)).foldl (fun c h =>
        match findCarried c role i 6 h with
        | some (.kv n rows) => let r := kvStep m o env h n rows; putCarried c role i h (.kv r.1 r.2)
        | _ => c) cs
    else cs
  let rows : Nat → List KvRow := fun h =>
    if keepsKv m o then
      match findCarried cs' role i 6 h with
      | some (.kv n rs) =>
        ((rs.zip (upTo rs.length)).filter fun (_, k) =>
          let j := n - rs.length + k
          attVisible causal w env.age j && seen j).map fun (r, _) => storedRow m o r
      | _ => []
    else
      let ks := env.mem.getD 1 []
      let vs := env.mem.getD 2 []
      (((ks.zip vs).zip (upTo ks.length)).filter fun (_, j) =>
        (!env.wholeQ || attVisible causal w env.age j) && seen j).map fun (r, _) => kvRow m o h r
  let acc := attQuery o eq.group q rows
  (acc.map fun a => satFmt (if ez.format = 1 then 4 else ez.format)
      (shiftTa a (o.pi 7 - 15 - o.pi 6)), cs')

/-- Time position that tap kt of a CAUSAL sliding window reads, as an index into the taps (R121,
R125). -/
def causalTap (o : OpRec) (env : OpEnv) (kt : Nat) : Option Nat :=
  if o.type = 0x18 then some (kt * o.p 7)
  else if o.type = 0x19 then
    let n := kt * o.p 2
    if n ≤ env.stepNo ∧ (env.stepNo - n) % o.p 0 = 0 ∧ (env.stepNo - n) / o.p 0 ≤ env.lastIn then
      some (env.lastIn - (env.stepNo - n) / o.p 0)
    else none
  else some kt

/-- One step of operator `i` of a role: its outputs and the carried state after it. F of a convolution whose output
edge is not WIDE is that edge's FRACTION (R45, R229, log 71). -/
def runOp (v : Voice) (role i : Nat) (env : OpEnv) (cs : List Carried) : List Tensor × List Carried :=
  let m := v.img role
  let o := m.op i
  let x := env.ins.getD 0 {}
  let e0 := m.edge (o.inE 0)
  let ez := m.edge (o.outE 0)
  let one := fun (xs : List Int) (f : Int) =>
    let r := outConv m role i 0 cs xs f
    ([r.1], r.2)
  let direct := fun (xs : List Int) => ([({ x := xs } : Tensor)], cs)
  let tapAt := fun (ts : List (Option Tensor)) (kt : Nat) =>
    match causalTap o env kt with
    | some k => ts.getD k none
    | none => none
  match o.type with
  | 0x01 =>
    let b := opMatmul m o x
    let r := if role = 0 then adapted v i (a8Groups e0.elements e0.group x) cs b else (b, cs)
    let c := outConv m role i 0 r.2 r.1 (o.pi 2)
    ([c.1], c.2)
  | 0x02 =>
    let e1 := m.edge (o.inE 1)
    let stat := if e1.whole then
        (env.mem.getD 1 []).map fun t => a8Groups e1.elements e1.group t
      else
        let gs := a8Groups e1.elements e1.group (env.ins.getD 1 {})
        chunks (cdiv (o.p 0) e1.group) gs
    one (opBatched (o.pi 2) stat (a8Groups e0.elements e0.group x)) (o.pi 2)
  | 0x03 =>
    match findCarried cs role i 1 0 with
    | some (.gru h) =>
      let (h', hs, trk) := opGru m o h (trkOf cs role i 1) x
      let cs1 := putCarried (putCarried cs role i 0 (.gru h')) role i 1 (.tracker trk.1 trk.2)
      let r := outConv m role i 0 cs1 h' 15
      ([r.1, hs], r.2)
    | _ => ([], cs)
  | 0x04 | 0x05 =>
    direct (normVec (fixedIn e0 x (o.pi 1)) (o.pi 1) (o.pi 2) (o.pi 3) (o.p 4) (o.pi 5) (o.pi 6)
      (biasOf m o 0) (biasOf m o 1) (o.type = 0x05) ez.format)
  | 0x06 =>
    let mask := if 1 < o.ins.length then (env.ins.getD 1 {}).x.map fun y => decide (y ≠ 0)
      else x.x.map fun _ => true
    direct (softmaxRow x.x mask (o.pi 1))
  | 0x07 =>
    let (y, cs1) := attStep m role i o env cs
    let r := outConv m role i 0 cs1 y (o.pi 7)
    ([r.1], r.2)
  | 0x08 => ([opEmbed m o (x.x.getD 0 0).toNat], cs)
  | 0x09 => ([opElem m o env.ins], cs)
  | 0x0A => let c := convertIn m o x; one c.1 c.2
  | 0x0B => ([opLayoutPos m o env.ins], cs)
  | 0x10 => one (opCausalTaps m o ((tapsOf cs role i env).take (o.p 0))) (o.pi 4)
  | 0x11 =>
    match findCarried cs role i 2 0 with
    | some (.modal h) =>
      let (h', y, f) := opModal m o h (fixedIn e0 x (o.pi 3))
      let r := outConv m role i 0 (putCarried cs role i 0 (.modal h')) y f
      ([r.1], r.2)
    | _ => ([], cs)
  | 0x18 => let ts := tapsOf cs role i env; one (convAt m o ez.frac (tapAt ts)) ez.frac
  | 0x19 => let ts := tapsOf cs role i env; one (upConvAt m o ez.frac (tapAt ts)) ez.frac
  | 0x1A => let ts := tapsOf cs role i env; direct (poolAt m o (tapAt ts))
  | 0x1B =>
    let r := o.p 1
    if o.p 0 = 0 then direct (chanPart e0.elements r (env.stepNo % r) x)
    else
      let ts := (tapsOf cs role i env).take r
      direct (chanJoin e0.elements e0.rowsF
        ((upTo r).map fun ph => (ts.getD (r - 1 - ph) none).getD (startValue m e0)))
  | 0x20 => direct [(opGumbel m o env.ins env.draws : Nat)]
  | 0x21 => direct (opMol m o env.ins env.draws)
  | 0x22 => direct (opBernoulli m o env.ins env.draws)
  | _ => ([], cs)

/-- A new input step becomes entry 0 and the oldest entry is dropped (R96). -/
def pushTap (cs : List Carried) (role i : Nat) (t : Tensor) : List Carried :=
  match findCarried cs role i 5 0 with
  | some (.taps es) => putCarried cs role i 0 (.taps ((some t :: es).take es.length))
  | _ => cs

/-- Draws that an operator step reads: elements 2^18·role + B + j of its noise step (R137, R139). -/
def opDraws (o : OpRec) (ms : MemberSt) (role a : Nat) : List Nat :=
  if o.noiseBase = none32 then []
  else drawsFrom (noiseState ms.seed ms.nstream (a - ms.noiseAt) (roleQuarter role + o.noiseBase))
    o.noiseCount

/-- Operator `i` of a role at base step `a`, when one of its steps is anchored there (R103). -/
def opAt (v : Voice) (inp : Inputs) (first a role i : Nat) (ms : MemberSt) : MemberSt :=
  let m := v.img role
  let o := m.op i
  if isWholeOp m o || !anchoredAt o.dec o.off a then ms
  else
    let (d, f) := edgeAnchor v role o (o.inE 0)
    let j := stepsBefore o.dec o.off a
    let env : OpEnv :=
      { ins := o.ins.map fun e =>
          if (m.edge e).whole then {} else readEdge v inp ms first a role o e
        mem := o.ins.map fun e => if (m.edge e).whole then readWhole v inp ms role e else []
        fresh := anchoredAt d f a
        age := j - firstStep o.dec o.off ms.resetAt
        stepNo := j
        lastIn := (a - f) / d
        draws := opDraws o ms role a }
    let (outs, cs) := runOp v role i env ms.carried
    { ms with
      carried := cs
      edges := (o.outs.zip outs).foldl (fun es (e, t) => putEdge es role e t) ms.edges }

/-- The end of base step `a`: histories take the input steps anchored there (R96), and feedback
loops the values of their sampling operators (R93, R228). -/
def endStepOp (v : Voice) (inp : Inputs) (first a : Nat) (ms : MemberSt) (ri : Nat × Nat) : MemberSt :=
  let (role, i) := ri
  let m := v.img role
  let o := m.op i
  if isWholeOp m o then ms
  else
    let (d, f) := edgeAnchor v role o (o.inE 0)
    let cs := if keepsHistory o && anchoredAt d f a then
        pushTap ms.carried role i (readEdge v inp ms first a role o (o.inE 0))
      else ms.carried
    let cs := if anchoredAt o.dec o.off a then
        match o.outs.find? fun e => (m.edge e).feedback with
        | some e =>
          match findEdge ms.edges role e with
          | some t => putCarried cs role i 0 (.feedback (field 32 (t.x.getD 0 0)) true)
          | none => cs
        | none => cs
      else cs
    { ms with
      carried := cs
      edges := if holdsInput m o && anchoredAt d f a then
          putEdge ms.edges role (o.inE 0) (readEdge v inp ms first a role o (o.inE 0))
        else ms.edges }

/-- The end of base step `a` for every operator of the voice. -/
def endStep (v : Voice) (inp : Inputs) (first a : Nat) (ms : MemberSt) : MemberSt :=
  v.order.foldl (endStepOp v inp first a) ms

/-- The values of the output edge at a base step (R156). -/
def outValue (v : Voice) (ms : MemberSt) : Tensor :=
  (findEdge ms.edges v.outRole v.outImg.outputEdge).getD (startValue v.outImg v.outEdge)

/-- A reset mark at base step `a` (R109). -/
def markReset (v : Voice) (a : Nat) (reseed : Bool) (ms : MemberSt) : MemberSt :=
  { ms with carried := resetCarried v ms.carried, resetAt := a
            noiseAt := if reseed then a else ms.noiseAt }

/-! ### Whole-edge operators (R477) -/

/-- Convert the values of every position to an output edge, its tracker starting from the calibrated
defaults (R477). -/
def convPositions (m : Image) (e : EdgeRec) (trk : Int × Nat) (f : Int) : List (List Int) → List Tensor
  | [] => []
  | x :: r => let (t, trk') := convOut m e trk x f; t :: convPositions m e trk' f r

/-- Run an operator position by position from the all-zero state (R477): positions `p` to `p + n − 1`. -/
def runPositions (v : Voice) (role i : Nat) (ins : List (List Tensor)) (whole : List Bool) :
    Nat → Nat → List Carried → List (List Tensor)
  | 0, _, _ => []
  | n + 1, p, cs =>
    let o := (v.img role).op i
    let env : OpEnv :=
      { ins := ins.map fun x => x.getD p {}
        mem := (ins.zip whole).map fun (x, w) => if w then x else []
        fresh := true, age := p, stepNo := p, lastIn := p, wholeQ := true }
    let (outs, cs1) := runOp v role i env cs
    let cs2 := if keepsHistory o then pushTap cs1 role i (env.ins.getD 0 {}) else cs1
    outs :: runPositions v role i ins whole n (p + 1) cs2

/-- The outputs of a whole-edge operator over its positions (R118, R477), each marked edge decoded
from cabochon (R129). -/
def wholeOutputs (v : Voice) (inp : Inputs) (ms : MemberSt) (role i : Nat) : List (List Tensor) :=
  let m := v.img role
  let o := m.op i
  let ins := o.ins.map fun e => readWhole v inp ms role e
  let ez := m.edge (o.outE 0)
  let x := ins.getD 0 []
  let outs :=
    if o.type = 0x18 then [convPositions m ez (0, 0) ez.frac (convWhole m o ez.frac x)]
    else if o.type = 0x19 then [convPositions m ez (0, 0) ez.frac (upConvWhole m o ez.frac x)]
    else if o.type = 0x1A then [(poolWhole m o x).map fun y => { x := y }]
    else if o.type = 0x1B then [reshapeWhole m o x]
    else if o.type = 0x0B then [opLayoutWhole m o ins]
    else
      let r := runPositions v role i ins (o.ins.map fun e => (m.edge e).whole) x.length 0
        (zeroOp m role i ++ (match v.adapter with
          | some ma => (adapterPoints ma i).flatMap (zeroOp ma 1)
          | none => []))
      (upTo o.outs.length).map fun k => r.map fun y => y.getD k {}
  (o.outs.zip outs).map fun (e, y) => cabDecoded (m.edge e) y

/-- The whole edges of a member after its operator `i` has run over them (R477). -/
def wholeOpAt (v : Voice) (inp : Inputs) (role i : Nat) (ms : MemberSt) : MemberSt :=
  let m := v.img role
  let o := m.op i
  if isWholeOp m o then
    { ms with whole := ms.whole ++ (o.outs.zip (wholeOutputs v inp ms role i)).map fun (e, y) =>
        (role, e, y) }
  else ms

/-- The RUN's whole-edge work, in the reference order (R118). -/
def wholeWork (v : Voice) (inp : Inputs) (ms : MemberSt) : MemberSt :=
  v.order.foldl (fun s (r, i) => wholeOpAt v inp r i s) ms

/-- Operators that lie on a path from a sampling operator back to its input (R102). -/
def Voice.autoregressive (v : Voice) : Bool :=
  v.imgs.any fun (_, m) => m.ops.any fun o => o.inLoop

end Sys2Proof.Machine
end

