-- ==== Sys2Proof/Machine/Cost.lean ====
section
/-! DEFINITION. Timing formulas of the facet (R66, R69, R70, R72, R73, R94, R97, R101, R128, R135,
R142, R151): cost coefficients, cycles of an operator, and durations. -/

namespace Sys2Proof.Machine

/-- V(n): one sweep over n elements (R70). -/
def vSweep (n : Nat) : Nat := cdiv n 32

/-- pass(P): cycles that P vectors spend on one tile (R69). -/
def passCycles (p : Nat) : Nat := 64 * (p / 64) + (if p % 64 = 0 then 0 else max (p % 64) 16)

/-- conv(n) onto an edge (R70). -/
def convCycles (e : EdgeRec) (n : Nat) : Nat :=
  if e.format = 1 ∧ e.convert = 2 then 2 * vSweep n + 2 * cdiv n e.group else vSweep n

/-- T(K, N) for a tile depth (R73). -/
def tiles (k n kt : Nat) : Nat := cdiv k kt * cdiv n 16

/-- Tile depth k_t of a stationary tensor (R66). -/
def tileDepth (t : TensorRec) : Nat := if t.format = 2 then 32 else 16

/-- Cost coefficients of an operator (R73): c_fix, c_arr, c_vec. -/
structure Coef where
  fix : Nat := 0
  arr : Nat := 0
  vec : Nat := 0
deriving DecidableEq, Repr

/-- The blocks of the diagonal mapping: D, b and the slices S, D the largest among those of least
array time (R124). -/
def diagPlan (p : ConvP) : Nat × Nat × Nat :=
  let cg := p.c / p.gc
  let plan := fun (d : Nat) =>
    let b := 16 / d
    (d, b, if b = 1 then p.kt else cdiv (p.kt + b - 1) b)
  if p.st ≠ 1 ∨ p.dt ≠ 1 then plan 16
  else
    -- array cycles per 16 output steps
    let load := fun (q : Nat × Nat × Nat) => cdiv (p.n * cg) q.1 * p.kf * q.2.2 * q.1
    [8, 4, 2, 1].foldl (fun best d => if load (plan d) < load best then plan d else best) (plan 16)

/-- Coefficients of a convolution over `kt` of its taps (R128). -/
def convCoef (e ez : EdgeRec) (t : TensorRec) (p : ConvP) (kt : Nat) (causal : Bool) : Coef :=
  let cg := p.c / p.gc
  let hist := if causal then cdiv (e.rowsF * (p.c + 3 * cdiv p.c e.group)) 64 else 0
  if p.diag then
    let (d, b, s) := diagPlan { p with kt := kt }
    { fix := 48, arr := cdiv (p.n * cg) d * p.kf * s
      vec := b * (convCycles ez p.n + vSweep p.n) + hist }
  else
    { fix := 48, arr := p.gc * p.kf * kt * cdiv cg (tileDepth t) * cdiv p.n (16 * p.gc)
      vec := convCycles ez p.n + hist }

/-- Taps of phase `ph` of a transposed convolution: those with kt·δt ≡ φ (mod s) (R125). -/
def phaseTaps (o : OpRec) (ph : Nat) : Nat := ((upTo (o.p 1)).filter fun kt => kt * o.p 2 % o.p 0 == ph).length

/-- Outputs of phase `ph` among the output positions [first, first + n) of a transposed convolution (R125). -/
def phaseOutputs (o : OpRec) (first n ph : Nat) : Nat :=
  let l := if o.causal then 0 else o.p 3
  let below (x : Nat) := cdiv (x + l - ph) (o.p 0)
  below (first + n) - below first

/-- Coefficients computed from the shapes, attention at L positions (R73, R74). A modal operator holds
its cycles u of R101 as c_arr (log 24). Conv(H) of the gated recurrent cell is that of output edge 0
(log 76). The bytes per vector of a layout operator
on an A8 edge are its codes (log 77). -/
def coefOf (m : Image) (o : OpRec) (L : Nat) : Coef :=
  let ez := m.edge (o.outE 0)
  let e0 := m.edge (o.inE 0)
  let t0 := m.tensor (o.tens.getD 0 0)
  let t1 := m.tensor (o.tens.getD 1 0)
  match o.type with
  | 0x01 => { fix := 48, arr := tiles (o.p 0) (o.p 1) (tileDepth t0), vec := convCycles ez (o.p 1) }
  | 0x02 => { fix := 48, arr := tiles (o.p 0) (o.p 1) 16, vec := convCycles ez (o.p 1) }
  | 0x03 => { fix := 96
              arr := tiles (o.p 0) (3 * o.p 1) (tileDepth t0) + tiles (o.p 1) (3 * o.p 1) (tileDepth t1)
              vec := convCycles ez (o.p 1) + 10 * vSweep (o.p 1) }
  | 0x04 => { fix := 16, arr := 0, vec := 3 * vSweep (o.p 0) + 12 + convCycles ez (o.p 0) }
  | 0x05 => { fix := 16, arr := 0, vec := 2 * vSweep (o.p 0) + 12 + convCycles ez (o.p 0) }
  | 0x06 => { fix := 16, arr := 0, vec := 7 * vSweep (o.p 0) + 24 }
  | 0x07 => { fix := 64, arr := tiles (o.p 0) L 16
              vec := 7 * vSweep L + 24 + 2 * cdiv (o.p 0) 32 * L + convCycles ez (o.p 0) }
  | 0x08 => { fix := 8, arr := 0, vec := vSweep (o.p 1) }
  | 0x09 =>
    let n := ez.elements * ez.rowsF
    { fix := 8, arr := 0, vec := if 9 ≤ o.p 0 then 2 * vSweep n else vSweep n }
  | 0x0A => { fix := 8, arr := 0, vec := convCycles ez (ez.elements * ez.rowsF) }
  | 0x0B =>
    let w := if ez.format = 1 then 1 else if ez.format = 2 then 2 else if ez.format = 4 then 6 else 4
    { fix := 8, arr := 0, vec := cdiv (w * ez.elements * ez.rowsF) 64 }
  | 0x10 => { fix := 48, arr := o.p 0 * cdiv (o.p 1) (tileDepth t0) * cdiv (o.p 2) 16
              vec := convCycles ez (o.p 2) + cdiv (o.p 1 + 3 * cdiv (o.p 1) (o.p 3)) 64 }
  | 0x11 =>
    let nM := if o.p 0 = 0 then o.p 1 * o.p 2 else o.p 1
    { fix := 32, arr := if o.p 0 = 0 then 2 * cdiv nM 32 else cdiv nM 32
      vec := convCycles ez (if o.p 0 = 0 then o.p 2 else 2 * nM) }
  | 0x18 => convCoef e0 ez t0 (convP o 0) (o.p 3) o.causal
  | 0x19 =>
    -- the sum over the phases of R125, each over the taps with kt·δt ≡ φ (mod s)
    let p := { convP o 5 with st := 1 }
    (upTo (o.p 0)).foldl (fun c ph =>
      let k := convCoef e0 ez t0 p (phaseTaps o ph) o.causal
      { fix := c.fix + k.fix, arr := c.arr + k.arr, vec := c.vec + k.vec }) {}
  | 0x1A =>
    let v := o.p 2 * o.p 3 * vSweep ez.elements
    { fix := 8, arr := 0, vec := if o.p 0 = 0 then v else v + 4 * vSweep ez.elements }
  | 0x1B =>
    let w := if ez.format = 2 then 2 else if ez.format = 4 then 6 else 4
    { fix := 8, arr := 0, vec := cdiv (w * ez.elements * ez.rowsF) 64 }
  | 0x20 =>
    let n := o.p 0
    { fix := 24, arr := 0
      vec := 5 * vSweep n + 1 + (if o.p 1 = 0 then 0 else 3 * vSweep n + 2 * o.p 1) }
  | 0x21 => { fix := 24, arr := 0, vec := o.p 1 * (5 * vSweep (o.p 0) + 12) }
  | 0x22 => { fix := 24, arr := 0, vec := vSweep (o.p 0) }
  | 0x30 =>
    { fix := 96, arr := tiles t0.redDim t0.outDim (tileDepth t0) + tiles t1.redDim t1.outDim (tileDepth t1)
      vec := convCycles ez t0.outDim + vSweep t1.outDim }
  | _ => {}

/-- Coefficients of the four parts of a split gated recurrent cell over `h` units on a facet that reads `hIn` units:
input product, state-edge conversion, recurrent product, cell update (R94). The model's culet splits a cell that exceeds
KERNEL_BOUND by itself, and runs every other one as one operator (log 80). -/
def gruParts (m : Image) (o : OpRec) (h hIn : Nat) : List Coef :=
  let wide : EdgeRec := { m.edge (o.outE 0) with format := 4 }
  [{ fix := 48, arr := tiles (o.p 0) (3 * h) (tileDepth (m.tensor (o.tens.getD 0 0))), vec := convCycles wide (3 * h) },
   { fix := 8, arr := 0, vec := convCycles (m.edge (o.outE 1)) hIn },
   { fix := 48, arr := tiles hIn (3 * h) (tileDepth (m.tensor (o.tens.getD 1 0))), vec := convCycles wide (3 * h) },
   { fix := 8, arr := 0, vec := convCycles (m.edge (o.outE 0)) h + 10 * vSweep h }]

/-- The candidate merge of a divided Gumbel-max row over `c` candidates (R151). -/
def mergeCoef (c : Nat) : Coef := { fix := 8, arr := 0, vec := 2 * vSweep c }

/-- Output steps in a vector of phase `ph` of a transposed convolution: b of the phase's own blocks, or 1 in the channel
mapping (R124, R125). -/
def phaseWidth (o : OpRec) (ph : Nat) : Nat :=
  if o.p 18 = 1 then (diagPlan { convP o 5 with st := 1, kt := phaseTaps o ph }).2.1 else 1

/-- Vectors of an operator over `rows` rows and `steps` steps or positions (R65, R128); of a transposed convolution
those of its longest phase. -/
def vectorsOf (m : Image) (o : OpRec) (rows steps : Nat) : Nat :=
  let f := (m.edge (o.outE 0)).rowsF
  if o.type = 0x18 ∧ o.p 13 = 1 then rows * f * cdiv steps (diagPlan (convP o 0)).2.1
  else if o.type = 0x19 then
    rows * f * maxN ((upTo (o.p 0)).map fun ph => cdiv (cdiv steps (o.p 0)) (phaseWidth o ph))
  else if o.type = 0x18 ∨ o.type = 0x1A then rows * f * steps
  else rows * steps

/-- Cycles of an operator over rows and steps with given coefficients (R73, R101). -/
def opCycles (m : Image) (o : OpRec) (c : Coef) (rows steps : Nat) : Nat :=
  if steps = 0 then 0
  else if o.type = 0x11 then c.fix + steps * max (rows * c.arr) (c.arr + 8) + c.vec * rows * steps
  else if o.type = 0x07 then rows * o.p 1 * (c.fix + c.arr * passCycles steps + c.vec * steps)
  else
    let p := vectorsOf m o rows steps
    c.fix + c.arr * passCycles p + c.vec * p

/-- Cycles of a transposed convolution over the output positions [first, first + n): phase by phase, each over its own
taps and outputs (R125, R128). -/
def phaseCycles (m : Image) (o : OpRec) (rows first n : Nat) : Nat :=
  let z := m.edge (o.outE 0)
  sumN ((upTo (o.p 0)).map fun ph =>
    let outs := phaseOutputs o first n ph
    if outs = 0 then 0
    else
      let c := convCoef (m.edge (o.inE 0)) z (m.tensor (o.tens.getD 0 0)) { convP o 5 with st := 1 } (phaseTaps o ph) o.causal
      let p := rows * z.rowsF * cdiv outs (phaseWidth o ph)
      c.fix + c.arr * passCycles p + c.vec * p)

/-- Cycles of an operator over the steps or positions [first, first + n) of some rows, from the coefficients computed from
the shapes, attention at L positions (R73, R74, R128). -/
def shapeCycles (m : Image) (o : OpRec) (L rows first n : Nat) : Nat :=
  if o.type = 0x19 then phaseCycles m o rows first n else opCycles m o (coefOf m o L) rows n

/-- Blocks of 8 channels by 8 positions of a marked edge (R130, R135). -/
def cabBlocks (e : EdgeRec) (positions : Nat) : Nat :=
  if e.cab6 || e.cab4 then e.rowsF * cdiv e.elements 8 * cdiv positions 8 else 0

/-- Cabochon cycles of an operator: 20 per block written, 12 per block read; `posOf` gives the positions
of each edge that the kernel codes or decodes (R135). -/
def opCab (m : Image) (o : OpRec) (rows : Nat) (posOf : Nat → Nat) : Nat :=
  rows * (sumN (o.outs.map fun e => cabBlocks (m.edge e) (posOf e) * 20)
    + sumN (o.ins.map fun e => cabBlocks (m.edge e) (posOf e) * 12))

/-- Duration of a kernel whose operators cost `c` cycles (R72). -/
def kernelDuration (c : Nat) : Nat := 24 + c + 8

/-- L_max of an attention operator: its window, or the image's maximum context (R73). -/
def lMax (m : Image) (o : OpRec) : Nat := if o.p 3 = 0 then m.maxContext else o.p 3

/-- Jump-unit matrices that one row's noise takes in one step, all parts on one facet (R142). -/
def jumpOps (v : Voice) : Nat :=
  2 + sumN (v.imgs.map fun (r, m) => sumN (m.ops.map fun o =>
    if o.noiseBase = none32 then 0 else popCount 20 (roleQuarter r + o.noiseBase)))

end Sys2Proof.Machine
end

