-- ==== Sys2Proof/Machine/Pieces.lean ====
section
/-! DEFINITION. How the work of a run is divided among kernels (R72 to R74, R94, R105, R135, R151, R211): the passes of
a chunk of an autoregressive graph, the operators' shares of a kernel with their cycles, and the pieces of an operator
that exceeds KERNEL_BOUND by itself. No division changes a result bit (R35, R44, R82, R147; log 10). -/

namespace Sys2Proof.Machine

/-! ### The passes of a chunk (R105) -/

/-- Operator `q` of a voice reads what operator `p` puts out, directly or as the output edge of the role before its
own (R230). -/
def Voice.feeds (v : Voice) (p q : Nat × Nat) : Bool :=
  let m := v.img q.1
  let before := v.prevRole q.1
  ((m.op q.2).ins.any fun e => let r := m.edge e
    if r.producer = none32 then
      r.source == 0x100 && before == some p.1 && ((v.img p.1).edge (v.img p.1).outputEdge).producer == p.2
    else q.1 == p.1 && r.producer == p.2)

/-- The operators among `all` that a step relation reaches from a set, the set included. The first argument bounds the
steps. -/
def reached (step : Nat × Nat → Nat × Nat → Bool) (all : List (Nat × Nat)) : Nat → List (Nat × Nat) → List (Nat × Nat)
  | 0, xs => xs
  | n + 1, xs => reached step all n (all.filter fun q => xs.contains q || xs.any fun p => step p q)

/-- The operators that run step by step in a chunk: those inside the feedback loops and those that draw noise, with what
lies between them (R105, R142). -/
def Voice.stepwise (v : Voice) : List (Nat × Nat) :=
  let all := v.order.filter fun q => !isWholeOp (v.img q.1) ((v.img q.1).op q.2)
  let core := all.filter fun q => let o := (v.img q.1).op q.2; o.inLoop || o.noiseBase != none32
  let down := reached v.feeds all all.length core
  let up := reached (fun p q => v.feeds q p) all all.length core
  all.filter fun q => core.contains q || (down.contains q && up.contains q)

/-- The pass of a chunk in which an operator runs: 0 before the loops, 1 with them, step by step, 2 after them (R105). -/
def Voice.passOf (v : Voice) (mid : List (Nat × Nat)) (q : Nat × Nat) : Nat :=
  if mid.contains q then 1
  else if (reached v.feeds v.order v.order.length mid).contains q then 2 else 0

/-! ### The cycles of an operator's share (R73, R74, R78, R135) -/

/-- An operator's share of a kernel: its role and index, the attention positions of each of its rows, and its steps or
positions: the first and their number. -/
structure Work where
  op : Nat × Nat
  ls : List Nat
  first : Nat := 0
  n : Nat

/-- Cycles of an operator's share, from the coefficients computed from the shapes, with the adapter points that name it
(R73, R74, R78); `len` gives the positions of a whole edge. Of an input edge, a whole operator decodes the share that
corresponds to its own positions, and attention all of its keys (R135). -/
def opWork (v : Voice) (len : Nat → Nat) (w : Work) : Nat :=
  let role := w.op.1
  let i := w.op.2
  let m := v.img role
  let o := m.op i
  let rows := w.ls.length
  let own (e : Nat) : Bool := o.outs.contains e || (o.type == 0x07 && o.inE 0 == e)
  let share (e x : Nat) : Nat := len e * x / max 1 (len (o.outE 0))
  let posOf (e : Nat) : Nat :=
    if !isWholeOp m o || own e then w.n
    else if o.type = 0x07 then len e
    else share e (w.first + w.n) - share e w.first
  if w.n = 0 || rows = 0 then 0
  else
    (if o.type = 0x07 then sumN (w.ls.map fun L => shapeCycles m o L 1 w.first w.n)
     else shapeCycles m o 0 rows w.first w.n) + opCab m o rows posOf +
    (if role = 0 then
      match v.adapter with
      | some ma => sumN ((adapterPoints ma i).map fun a => shapeCycles ma (ma.op a) 0 rows w.first w.n)
      | none => 0
     else 0)

/-! ### The pieces of one operator (R94, R211) -/

/-- The parameter word that counts the output channels, units, heads or elements of a type, where one does (R229). -/
def cutWord (o : OpRec) : Option Nat :=
  match o.type with
  | 0x01 | 0x02 | 0x03 | 0x07 | 0x08 | 0x18 | 0x21 => some 1
  | 0x04 | 0x05 | 0x06 | 0x20 | 0x22 => some 0
  | 0x10 => some 2
  | 0x11 => some (if o.p 0 = 0 then 2 else 1)
  | 0x19 => some 6
  | _ => none

/-- Types of which a piece reads only its own channels of the inputs. -/
def cutsInputs (ty : Nat) : Bool := !(ty == 0x01 || ty == 0x02 || ty == 0x03 || ty == 0x10 || ty == 0x18 || ty == 0x19)

/-- What operator `o` of an image may be divided into along its channels. -/
def cutSize (m : Image) (o : OpRec) : Nat :=
  match cutWord o with
  | some w => o.p w
  | none => (m.edge (o.outE 0)).elements

/-- An image in which operator `i` has the shape of one of `n` pieces along its channels. -/
def Image.cut (m : Image) (i n : Nat) : Image :=
  let o := m.op i
  let es := o.outs ++ if cutsInputs o.type then o.ins else []
  { m with
    ops := m.ops.set i (match cutWord o with
      | some w => { o with params := o.params.set w (cdiv (o.p w) n) }
      | none => o)
    edges := es.eraseDups.foldl (fun xs e =>
      xs.set e { xs.getD e defEdge with elements := cdiv (xs.getD e defEdge).elements n }) m.edges }

/-- The adapter whose points at an operator have the output channels of one of `n` pieces. -/
def Image.cutPoints (m : Image) (i n : Nat) : Image :=
  let ts := (adapterPoints m i).map fun a => (m.op a).tens.getD 1 none32
  { m with tensors := ts.eraseDups.foldl (fun xs t =>
      xs.set t { xs.getD t defTensor with outDim := cdiv (xs.getD t defTensor).outDim n }) m.tensors }

/-- A voice in which an operator has the shape of one of `n` pieces along its channels. -/
def Voice.cut (v : Voice) (role i n : Nat) : Voice :=
  { imgs := v.imgs.map fun q => if q.1 = role then (q.1, q.2.cut i n) else q
    adapter := if role = 0 then v.adapter.map fun m => m.cutPoints i n else v.adapter }

/-- Cycles of one part of a split gated recurrent cell over `p` vectors (R94). -/
def partCycles (c : Coef) (p : Nat) : Nat := c.fix + c.arr * passCycles p + c.vec * p

/-- Cycles of the kernels into which an operator's share is divided: first along channels, units or heads, then along
rows, then along attention positions. A gated recurrent cell divides into the four parts of R94, a Gumbel-max row into
parts and the merge of their candidates (R147, R151). -/
def cutWork (v : Voice) (len : Nat → Nat) (w : Work) (count : Nat) : List Nat :=
  let role := w.op.1
  let i := w.op.2
  let m := v.img role
  let o := m.op i
  let nC := min count (max 1 (cutSize m o))
  let nR := min (max 1 w.ls.length) (cdiv count nC)
  let nL := cdiv count (nC * nR)
  let ls := (w.ls.take (cdiv w.ls.length nR)).map fun L => cdiv L nL
  let c := v.cut role i nC
  let one := opWork c len { w with ls := ls }
  let copies (k c : Nat) : List Nat := (upTo k).map fun _ => c
  if count ≤ 1 then [opWork v len w]
  else if o.type = 0x03 then
    let parts := (gruParts m o (cdiv (o.p 1) nC) (o.p 1)).map fun c => partCycles c (ls.length * w.n)
    let rest := one - shapeCycles (c.img role) ((c.img role).op i) 0 ls.length w.first w.n
    (copies nR 0).flatMap fun _ =>
      copies nC (parts.getD 0 0 + rest) ++ [parts.getD 1 0] ++ copies nC (parts.getD 2 0) ++ copies nC (parts.getD 3 0)
  else if o.type = 0x20 then
    (copies nR 0).flatMap fun _ =>
      copies nC one ++ [partCycles (mergeCoef (nC * max 1 (o.p 1))) (ls.length * w.n)]
  else copies (nC * nR * nL) one

/-- The least power of two, from 2^k on, of pieces that each fit a bound. The first argument bounds the search. -/
def cutCount (v : Voice) (len : Nat → Nat) (w : Work) (bound : Nat) : Nat → Nat → Nat
  | 0, k => 2 ^ k
  | n + 1, k =>
    if (cutWork v len w (2 ^ k)).all fun c => decide (kernelDuration c ≤ bound) then 2 ^ k
    else cutCount v len w bound n (k + 1)

/-- The pieces of an operator's share, each within the bound (R211). -/
def workPieces (v : Voice) (len : Nat → Nat) (bound : Nat) (w : Work) : List Nat :=
  if w.n = 0 || w.ls.isEmpty then [] else cutWork v len w (cutCount v len w bound 24 0)

end Sys2Proof.Machine
end

