-- ==== Sys2Proof/Machine/Codec.lean ====
section
/-! DEFINITION. Samples on the audio ports and in RUN input data: sample widths, transmit and receive
codes (R325 to R327), the zero of a port (R481), and ITU-T G.711 (log 12). -/

namespace Sys2Proof.Machine

/-- W of a SAMPLE code (R302, R325). -/
def sampleBits (c : Nat) : Nat := [16, 20, 24, 32, 8, 8].getD c 16

/-- BCLK periods of a slot by SLOT_WIDTH code (R347). -/
def widthBits (c : Nat) : Nat := [16, 24, 32].getD c 16

/-- A code in its slot: W bits at the most significant end, zeros below (R325, R481). -/
def slotWord (sample width : Nat) (code : Int) : Nat :=
  field (sampleBits sample) code * 2 ^ (widthBits width - sampleBits sample)

/-- The code that a received slot carries: the W bits at its most significant end, signed, or the 8 bits of G.711
(R325). -/
def slotCode (sample width : Nat) (word : Int) : Int :=
  let c := field (widthBits width) word / 2 ^ (widthBits width - sampleBits sample)
  if sample = 4 ∨ sample = 5 then (c : Int) else signed (sampleBits sample) c

/-- Sample rate of a RATE code in Hz (R302). -/
def rateHz (c : Nat) : Nat := [8000, 16000, 22050, 24000, 32000, 44100, 48000, 96000, 192000].getD c 0

/-- Segment of a magnitude: the first end that is not below it. -/
def segOf (x first : Nat) : Nat := ((List.range 8).find? fun k => decide (x < first * 2 ^ k)).getD 8

/-- The code with the bits of a mask inverted. -/
def xorCode (c m : Nat) : Int := ((c ^^^ m : Nat) : Int)

/-- G.711 μ-law of a 14-bit value (log 12). -/
def ulawEnc (x : Int) : Int :=
  let m := if x < 0 then 0x7F else 0xFF
  let y := min x.natAbs 8159 + 33
  let g := segOf y 64
  if 8 ≤ g then xorCode 0x7F m else xorCode (16 * g + y / 2 ^ (g + 1) % 16) m

/-- G.711 μ-law of a code, a 14-bit value (log 12). -/
def ulawDec (c : Nat) : Int :=
  let u := (c ^^^ 0xFF) % 256
  let t : Int := (((2 * (u % 16) + 33) * 2 ^ (u / 16 % 8) : Nat) : Int) - 33
  if 128 ≤ u then -t else t

/-- G.711 A-law of a 13-bit value (log 12). -/
def alawEnc (x : Int) : Int :=
  let m := if x < 0 then 0x55 else 0xD5
  let y := (if x < 0 then -x - 1 else x).toNat
  let g := segOf y 32
  if 8 ≤ g then xorCode 0x7F m
  else xorCode (16 * g + (if g < 2 then y / 2 else y / 2 ^ g) % 16) m

/-- G.711 A-law of a code, a 13-bit value (log 12). -/
def alawDec (c : Nat) : Int :=
  let a := (c ^^^ 0x55) % 256
  let g := a / 16 % 8
  let t : Nat := if g = 0 then 2 * (a % 16) + 1 else (2 * (a % 16) + 33) * 2 ^ (g - 1)
  if 128 ≤ a then t else -(t : Int)

/-- The transmit code of an output element with fraction n (R326). -/
def txCode (sample : Nat) (x n : Int) : Int :=
  let l := satS (shiftTa x (15 - n)) 16
  if sample = 4 then ulawEnc (l / 4)
  else if sample = 5 then alawEnc (l / 8)
  else satS (shiftTa x (sampleBits sample - 1 - n)) (sampleBits sample)

/-- A received code as an element with fraction n of a type (R327). -/
def rxElem (sample : Nat) (code n : Int) (signed : Bool) (bits : Nat) : Int :=
  let into (v : Int) := clampI v (tyMin signed bits) (tyMax signed bits)
  if sample = 4 then into (shiftTa (ulawDec code.toNat * 4) (n - 15))
  else if sample = 5 then into (shiftTa (alawDec code.toNat * 8) (n - 15))
  else into (shiftTa code (n - (sampleBits sample - 1)))

/-- What a port sends as zero (R481). -/
def zeroCode (sample : Nat) : Int := if sample = 4 then 0xFF else if sample = 5 then 0xD5 else 0

end Sys2Proof.Machine
end

