-- ==== Sys2Proof/Machine/ImageCheck.lean ====
section
/-! DEFINITION. Check 6 of R235: R58, R74, R78, R83, R88, R89, R95, R98, R100, R120 to R129, R139,
R150, R225, R228, R230 to R232, R477 to R479 over a parsed image. -/

namespace Sys2Proof.Machine

/-- Carried bytes per row of one operator (R93); whole-edge operators carry none (R477). -/
def stateBytesOf (m : Image) (o : OpRec) : Nat :=
  if isWholeOp m o then 0
  else
    let e0 := m.edge (o.inE 0)
    (if o.type = 0x03 then 2 * o.p 1 else 0)
    + (if o.type = 0x11 then 8 * (if o.p 0 = 0 then o.p 1 * o.p 2 else o.p 1) else 0)
    + (if o.type = 0x10 ∨ (keepsHistory o ∧ (o.type = 0x18 ∨ o.type = 0x19)) then
        historyLen o * (e0.rowsF * (e0.elements + 3 * cdiv e0.elements e0.group)) else 0)
    + sumN (o.outs.map fun e =>
        (if (m.edge e).format = 1 ∧ (m.edge e).convert = 3 then 3 else 0)
        + (if (m.edge e).feedback then 8 else 0))

/-- Bytes per stored position over the KV heads of one operator (R159). -/
def kvBytesOf (m : Image) (o : OpRec) : Nat :=
  if keepsKv m o then
    let d := o.p 0
    o.p 2 * (2 * d + 3 * (d / (m.edge (o.inE 1)).group + d / (m.edge (o.inE 2)).group))
  else 0

/-- Group size 32, 64 or 128 (R42, R58). -/
def groupOk (g : Nat) : Bool := g == 32 || g == 64 || g == 128

/-- One edge record (R230, R232, R58, R129, R477). A feedback edge carries one value of at most 32 bits (R36, R93, log 23). -/
def edgeOk (m : Image) (i : Nat) : Bool :=
  let e := m.edge i
  let r := m.trackRec e
  let g := e.rowsF * e.groupsPerRow
  let ng := e.elements - (e.groupsPerRow - 1) * e.group
  decide (1 ≤ e.format ∧ e.format ≤ 6 ∧ 1 ≤ e.elements ∧ 1 ≤ e.rowsF)
  && (if e.spectro then decide (e.rowsF ≤ 1024) else e.rowsF == 1)
  && (if e.format = 1 then
        decide (1 ≤ e.convert ∧ e.convert ≤ 3) && groupOk e.group && e.frac == 0
        && (if e.convert = 2 then e.tracker == none32
            else decide (e.tracker < m.tracked.length) && r.words.length == g
              && (if e.convert = 3 then
                    decide (1 ≤ r.window ∧ r.window ≤ 65535) && decide (r.satLimit ≤ ng - 1)
                  else r.window == 0 && r.satLimit == 0))
      else e.convert == 0 && e.tracker == none32 && e.group == 0 && !e.cab6 && !e.cab4)
  && (e.format != 4 || decide (e.frac ≤ 47))
  && !((e.cab6 || e.cab4) && !e.whole) && !(e.cab6 && e.cab4)
  && !(e.feedback && e.whole)
  && (!e.feedback || (decide (e.elements = 1) && e.rowsF == 1 && (e.format == 2 || e.format == 3 || e.format == 6)))
  && (if e.producer = none32 then
        !e.feedback && (decide (e.source < 16) || e.source == 0x100)
      else decide (e.producer < m.ops.length) && (m.op e.producer).outs.contains i)

/-- The zero pad nibbles of a W4 tensor: after an odd number of codes and after an odd number of zero
points of each output channel (R231). -/
def padsZero (m : Image) (t : TensorRec) (seg : Nat) : Bool :=
  let g := t.groupCount seg
  t.format != 2 || (upTo t.outDim).all fun o =>
    (t.redDim % 2 == 0 || nibble m.data (t.offset + o * t.rowBytes) t.redDim == 0)
    && (g % 2 == 0 || nibble m.data ((t.arrays seg).2.1 + o * cdiv g 2) g == 0)

/-- One tensor record: format, the data within the section, and for W8 and W4 the group size, aligned
arrays, pad nibbles, valid scales and true sums for segments of `seg` elements (R58, R231). -/
def tensorOk (m : Image) (t : TensorRec) (seg : Nat) : Bool :=
  decide (t.offset + t.bytes ≤ m.data.length)
  && (if t.format = 1 ∨ t.format = 2 then
        let g := t.groupCount seg
        t.offset % 64 == 0 && groupOk t.group && (t.arrays seg).2.2.2 == t.offset + t.bytes
        && padsZero m t seg
        && (upTo t.outDim).all fun o =>
          ((wGroups m.data t seg o).zip (upTo g)).all fun (w, k) =>
            s16Valid (wScale m.data t seg o k) && sumI w.q == wSum m.data t seg o k
      else decide (3 ≤ t.format ∧ t.format ≤ 5))

/-- Tensors that an operator type reads (R229). -/
def tensorSlots (o : OpRec) : Nat :=
  match o.type with
  | 0x01 | 0x04 | 0x10 | 0x18 | 0x19 | 0x30 => 2
  | 0x03 => 4
  | 0x05 | 0x08 => 1
  | 0x09 => if o.p 0 = 6 then 1 else 0
  | 0x11 => if o.p 0 = 0 then 4 else 2
  | _ => 0

/-- The tensors that operators read. -/
def readTensors (m : Image) : List Nat := m.ops.flatMap fun o => o.tens.take (tensorSlots o)

/-- The tensor record of an operator's tensor `k`. -/
def opTensor (m : Image) (o : OpRec) (k : Nat) : TensorRec := m.tensor (o.tens.getD k none32)

/-- A weight tensor of given dimensions: at most 65,536 groups and outputs (R44, R76). -/
def weightOk (m : Image) (o : OpRec) (k out red seg : Nat) : Bool :=
  let t := opTensor m o k
  decide (k < o.tens.length) && (t.format == 1 || t.format == 2) && t.outDim == out && t.redDim == red
  && decide (1 ≤ seg ∧ out ≤ 65536) && tensorOk m t seg && decide (t.groupCount seg ≤ 65536)

/-- The W8 table of an embedding: rows of the given width (R87). -/
def tableW8Ok (m : Image) (o : OpRec) : Bool :=
  let t := opTensor m o 0
  t.format == 1 && t.outDim == o.p 0 && t.redDim == o.p 1 && tensorOk m t (o.p 1)

/-- A tensor of plain values with a format and a number of values. -/
def valuesOk (m : Image) (o : OpRec) (k fmt n : Nat) : Bool :=
  let t := opTensor m o k
  decide (k < o.tens.length) && t.format == fmt && tensorOk m t 1
  && t.bytes == n * (if fmt = 3 then 2 else if fmt = 5 then 8 else 4)

/-- A bias: absent, or an I32 tensor of `n` values (R229). -/
def biasOk (m : Image) (o : OpRec) (k n : Nat) : Bool :=
  decide (o.tens.length ≤ k) || valuesOk m o k 4 n

/-- Input edge `k` is A8 with group size `g` (R58 group alignment). -/
def alignedIn (m : Image) (o : OpRec) (k g : Nat) : Bool :=
  (m.edge (o.inE k)).format == 1 && (m.edge (o.inE k)).group == g

/-- No DYNAMIC output edge is fed from WIDE(F) with F < 10, and F ≤ 47 (R48, R58). -/
def wideOk (m : Image) (o : OpRec) (f : Nat) : Bool :=
  decide (f ≤ 47) && !((m.edge (o.outE 0)).format == 1 && (m.edge (o.outE 0)).convert == 2 && decide (f < 10))

/-- An edge that holds fixed-point values: I16, I32 or FORMAT 6 (R230). -/
def EdgeRec.fixed (e : EdgeRec) : Bool := e.format == 2 || e.format == 3 || e.format == 6

/-- An edge that a WIDE value may end on: fixed point, A8, or WIDE itself (R45). -/
def wideEnds (z : EdgeRec) : Bool := z.fixed || z.format == 1 || z.format == 4

/-- A parameter that arrives on the last input edge comes on an edge of fixed-point values, beside
`n` other inputs (R150, R229). -/
def lateOk (m : Image) (o : OpRec) (word n : Nat) : Bool :=
  o.p word != none32 || (decide (n < o.ins.length) && (m.edge (o.inE (o.ins.length - 1))).fixed)

/-- Elements of input edge `k`, and of output edge `k`. -/
def inN (m : Image) (o : OpRec) (k : Nat) : Nat := (m.edge (o.inE k)).elements
def outN (m : Image) (o : OpRec) (k : Nat) : Nat := (m.edge (o.outE k)).elements

/-- The words that a subcode uses, beside the subcode (R478). -/
def elemWords (sub : Nat) : List Nat :=
  if sub = 0 ∨ sub = 1 ∨ sub = 2 ∨ sub = 3 ∨ sub = 7 ∨ sub = 9 then [1, 2, 3]
  else if sub = 8 then [1, 3, 4]
  else [1, 3]

/-- Formats of a table function's edges (R56, R58, R478): input and output format and fraction, none
where the edge's own fraction counts. The table names the edge's format, so an A8 edge, which R88 would
expand to i16, is none of them (log 74). -/
def tableIo (sub : Nat) : Nat × Option Nat × Nat × Option Nat :=
  if sub = 16 ∨ sub = 17 then (2, some 11, 2, some 15)
  else if sub = 18 ∨ sub = 19 then (2, some 11, 2, some 11)
  else if sub = 20 then (3, some 16, 6, some 30)
  else if sub = 21 then (6, none, 3, some 16)
  else (6, none, 3, none)

/-- An elementwise operator (R88, R478). -/
def elemOk (m : Image) (o : OpRec) : Bool :=
  let sub := o.p 0
  let a := m.edge (o.inE 0)
  let z := m.edge (o.outE 0)
  let nIn := if sub = 7 then 3 else if sub = 0 ∨ sub = 1 ∨ sub = 2 ∨ sub = 3 ∨ sub = 9 then 2 else 1
  let n := z.elements * z.rowsF
  (decide (sub ≤ 9) || decide (16 ≤ sub ∧ sub ≤ 23))
  && ([1, 2, 3, 4].all fun i => (elemWords sub).contains i || o.p i == 0)
  && decide (nIn ≤ o.ins.length) && z.fixed
  && (upTo nIn).all (fun k => let e := m.edge (o.inE k)
      (e.fixed || e.format == 1) && e.elements * e.rowsF == n)
  && (sub != 6 || (valuesOk m o 0 4 2 &&
        decide ((biasOf m o 0).getD 0 0 ≤ (biasOf m o 0).getD 1 0)))
  && (sub != 7 || (m.edge (o.inE 2)).fixed)
  && (decide (sub < 16) ||
      (let (fi, ni, fo, no) := tableIo sub
       a.format == fi && o.p 1 == a.frac && (match ni with | some x => x == a.frac | none => true)
       && z.format == fo && o.p 3 == z.frac && (match no with | some x => x == z.frac | none => true)))

/-- A convert operator (R45, R48, R479). -/
def convertOk (m : Image) (o : OpRec) : Bool :=
  let a := m.edge (o.inE 0)
  let z := m.edge (o.outE 0)
  let rule := o.p 0
  let nw := o.p 1
  a.elements == z.elements && a.rowsF == z.rowsF && decide (1 ≤ a.format ∧ a.format ≤ 4)
  && (if rule = 0 then (z.fixed || z.format == 4) && z.frac == nw
      else decide (rule ≤ 3) && z.format == 1 && z.convert == rule
        && (if a.format = 1 then decide (nw ≤ 47) && (rule != 2 || decide (10 ≤ nw))
            else nw == 0 && (rule != 2 || a.format != 4 || decide (10 ≤ a.frac))))

/-- Attention (R83). An A8 output is converted from the value accumulation held as WIDE(n_o), to which
R48 applies (log 72). -/
def attentionOk (m : Image) (o : OpRec) : Bool :=
  let d := o.p 0
  let nq := o.p 1
  let nkv := o.p 2
  let q := m.edge (o.inE 0)
  let k := m.edge (o.inE 1)
  let v := m.edge (o.inE 2)
  decide (32 ≤ d ∧ d ≤ 256 ∧ d % 32 = 0 ∧ 1 ≤ nq ∧ nq ≤ 64 ∧ 1 ≤ nkv ∧ nq % nkv = 0 ∧ o.p 4 ≤ 1 ∧ o.p 5 ≤ 47)
  && decide (3 ≤ o.ins.length) && q.format == 1 && k.format == 1 && v.format == 1
  && d % q.group == 0 && d % k.group == 0 && d % v.group == 0 && q.group == k.group
  && q.elements == nq * d && k.elements == nkv * d && v.elements == nkv * d && outN m o 0 == nq * d
  && k.whole == v.whole && (k.whole || !q.whole)
  && (q.whole || !k.whole || (o.p 4 == 0 && o.p 3 == 0))
  && wideEnds (m.edge (o.outE 0))
  && ((m.edge (o.outE 0)).format != 1 || (decide (0 ≤ o.pi 7) && wideOk m o (o.p 7)))

/-- A convolution's ranges and mapping, the mapping word at `b + 13` (R120 to R122, R229). F is the
FRACTION of the output edge, whichever format that has (log 71). -/
def convOk (m : Image) (o : OpRec) (b : Nat) (p : ConvP) : Bool :=
  let e := m.edge (o.inE 0)
  let z := m.edge (o.outE 0)
  let cg := p.c / p.gc
  decide (1 ≤ p.c ∧ p.c ≤ 65536 ∧ 1 ≤ p.n ∧ p.n ≤ 65536 ∧ 1 ≤ p.gc ∧ p.c % p.gc = 0 ∧ p.n % p.gc = 0)
  && decide (1 ≤ p.kt ∧ p.kt ≤ 8192 ∧ 1 ≤ p.kf ∧ p.kf ≤ 64 ∧ (e.spectro ∨ p.kf = 1))
  && decide (1 ≤ p.st ∧ p.st ≤ 64 ∧ 1 ≤ p.sf ∧ p.sf ≤ 64 ∧ 1 ≤ p.dt ∧ p.dt ≤ 1024 ∧ 1 ≤ p.df ∧ p.df ≤ 1024)
  && decide (p.ptl ≤ (p.kt - 1) * p.dt ∧ p.ptr ≤ (p.kt - 1) * p.dt ∧ p.pfl ≤ (p.kf - 1) * p.df
      ∧ p.pfr ≤ (p.kf - 1) * p.df)
  && (!o.causal || (p.ptl == 0 && p.ptr == 0 && decide ((p.kt - 1) * p.dt + 1 ≤ 8192)))
  && decide (o.p (b + 13) ≤ 1)
  && e.format == 1 && e.elements == p.c && z.elements == p.n && wideEnds z && wideOk m o z.frac && biasOk m o 1 p.n
  && (let t := opTensor m o 0
      if p.diag then
        (cg == 1 || cg == 2 || cg == 4 || cg == 8 || cg == 16) && decide (cg * p.kf * p.kt ≤ 128)
        && e.convert == 1 && decide (cg * p.kf * p.kt ≤ t.group)
        && weightOk m o 0 p.n (cg * p.kf * p.kt) (cg * p.kf * p.kt)
      else cg % e.group == 0 && t.group == e.group
        && weightOk m o 0 p.n (p.kf * p.kt * cg) cg)

/-- The decimation of what delivers input edge 0: that of its producer, or of the elements of a RUN input (R300). The
operator behind the output edge of the previous role is unknown to the image: none. -/
def inputDec (m : Image) (o : OpRec) : Option Nat :=
  let e := m.edge (o.inE 0)
  if e.producer ≠ none32 then some (m.op e.producer).dec
  else if e.source = 0x100 then none
  else some o.inStep.1

/-- The mode of a sliding-window operator and the decimations it needs (R121, R125 to R127). -/
def windowModeOk (m : Image) (o : OpRec) : Bool :=
  let e := m.edge (o.inE 0)
  let down (s : Nat) : Bool := (inputDec m o).all fun d => o.dec == s * d
  let up (s : Nat) : Bool := (inputDec m o).all fun d => d == s * o.dec
  if e.whole then !o.causal || o.type == 0x1B
  else
    if o.type = 0x18 then o.causal && down (o.p 5)
    else if o.type = 0x19 then o.causal && up (o.p 0)
    else if o.type = 0x1A then o.causal && down (o.p 4)
    else if o.p 0 = 0 then up (o.p 1)
    else o.trailing && down (o.p 1)

/-- Output rows of a frequency axis (R121, R125, R126). -/
def freqOk (m : Image) (o : OpRec) : Bool :=
  let f := (m.edge (o.inE 0)).rowsF
  let f' := (m.edge (o.outE 0)).rowsF
  if o.type = 0x18 then
    let p := convP o 0
    convLen f p.pfl p.pfr p.kf p.df p.sf == f'
  else if o.type = 0x19 then
    let p := convP o 5
    upLen f p.pfl p.pfr p.kf p.df p.sf == f'
  else convLen f (o.p 8) (o.p 9) (o.p 3) 1 (o.p 5) == f'

/-- A layout operator leaves the A8 groups of every input whole and the grouped axis in place (R89). -/
def layoutOk (m : Image) (o : OpRec) : Bool :=
  let e := m.edge (o.inE 0)
  let z := m.edge (o.outE 0)
  let a8 := e.format == 1
  let ax := o.p 1
  decide (o.p 0 ≤ 3 ∧ ax ≤ 2)
  && (z.format :: o.ins.map fun k => (m.edge k).format).all (· == e.format)
  && (z.group :: o.ins.map fun k => (m.edge k).group).all (· == e.group)
  && ((ax != 0 && (ax != 1 || o.p 0 != 2)) || e.whole) && (!a8 || o.p 0 != 2)
  && (o.p 0 != 2 || (if ax = 0 then z.rowsF == e.rowsF else if ax = 1 then z.elements == e.elements
        else z.elements == e.rowsF && z.rowsF == e.elements))
  && (!a8 || ax != 1 || (
        if o.p 0 = 0 then (o.ins.dropLast).all fun k => (m.edge k).elements % e.group == 0
        else if o.p 0 = 1 then o.p 2 % e.group == 0
          && (o.p 3 % e.group == 0 || o.p 2 + o.p 3 == e.elements)
        else o.p 2 % e.group == 0 && (e.elements % e.group == 0 || o.p 2 + e.elements == z.elements)))

/-- The conditions on one operator's own shapes (R76 to R100, R120 to R127, R146 to R150). DESIGN CHOICE (log 91): of
R120's ranges and R123's span, a transposed convolution is held to those of Kt, Kf, δt, δf and the CAUSAL span, and of the
words that its record gives twice, unequal Kt or δt are refused, pt_l and pt_r count where they stand first, and st is
ignored (R125, R229). -/
def opShapeOk (m : Image) (o : OpRec) : Bool :=
  let e0 := m.edge (o.inE 0)
  let z := m.edge (o.outE 0)
  match o.type with
  | 0x01 =>
    weightOk m o 0 (o.p 1) (o.p 0) (o.p 0) && alignedIn m o 0 (opTensor m o 0).group
    && inN m o 0 == o.p 0 && outN m o 0 == o.p 1 && biasOk m o 1 (o.p 1) && wideOk m o (o.p 2)
    && decide (o.pi 3 ≤ o.pi 2) && wideEnds z
  | 0x02 =>
    let e1 := m.edge (o.inE 1)
    decide (2 ≤ o.ins.length) && e0.format == 1 && e1.format == 1 && e0.group == e1.group
    && e0.elements == o.p 0 && outN m o 0 == o.p 1 && wideOk m o (o.p 2)
    && decide (cdiv (o.p 0) e0.group ≤ 65536) && wideEnds z
    && (if e1.whole then e1.elements == o.p 0 else e1.elements == o.p 0 * o.p 1 && o.p 0 % e1.group == 0)
  | 0x03 =>
    let es := m.edge (o.outE 1)
    decide (2 ≤ o.outs.length) && weightOk m o 0 (3 * o.p 1) (o.p 0) (o.p 0)
    && weightOk m o 1 (3 * o.p 1) (o.p 1) (o.p 1) && alignedIn m o 0 (opTensor m o 0).group
    && es.format == 1 && es.group == (opTensor m o 1).group && es.elements == o.p 1
    && inN m o 0 == o.p 0 && outN m o 0 == o.p 1 && decide (o.p 2 ≤ 47)
    && biasOk m o 2 (3 * o.p 1) && biasOk m o 3 (3 * o.p 1) && wideEnds z
  | 0x04 | 0x05 =>
    decide (1 ≤ o.p 0 ∧ o.p 0 ≤ 65536 ∧ o.p 4 ≤ 2 ^ 31 - 1) && e0.format == 2
    && inN m o 0 == o.p 0 && outN m o 0 == o.p 0 && (z.fixed || z.format == 4) && valuesOk m o 0 3 (o.p 0)
    && (if o.type = 0x05 then decide (o.tens.length ≤ 1) else valuesOk m o 1 3 (o.p 0))
  | 0x06 =>
    decide (1 ≤ o.p 0 ∧ o.p 0 ≤ 2 ^ 24 ∧ o.p 1 ≤ 47) && e0.format == 4 && inN m o 0 == o.p 0
    && outN m o 0 == o.p 0 && (z.fixed || z.format == 4)
  | 0x07 => attentionOk m o
  | 0x08 =>
    let t := opTensor m o 0
    decide (1 ≤ o.p 0 ∧ o.p 0 ≤ 2 ^ 20 ∧ 1 ≤ o.p 1) && outN m o 0 == o.p 1 && e0.format == 6 && e0.frac == 0
    && (if t.format = 1 then tableW8Ok m o && z.format == 1 && z.group == t.group
        else valuesOk m o 0 3 (o.p 0 * o.p 1) && z.format == 2)
  | 0x09 => elemOk m o
  | 0x0A => convertOk m o
  | 0x0B => layoutOk m o
  | 0x10 =>
    decide (2 ≤ o.p 0 ∧ o.p 0 ≤ 8192) && groupOk (o.p 3) && decide (o.p 0 * cdiv (o.p 1) (o.p 3) ≤ 65536)
    && weightOk m o 0 (o.p 2) (o.p 0 * o.p 1) (o.p 1) && (opTensor m o 0).group == o.p 3
    && alignedIn m o 0 (o.p 3) && inN m o 0 == o.p 1 && outN m o 0 == o.p 2 && wideOk m o (o.p 4)
    && biasOk m o 1 (o.p 2) && wideEnds z
  | 0x11 =>
    let nM := if o.p 0 = 0 then o.p 1 * o.p 2 else o.p 1
    decide (o.p 0 ≤ 1 ∧ o.pi 4 ≤ 30 ∧ 0 ≤ o.pi 4 ∧ 1 ≤ nM ∧ nM ≤ 65536) && valuesOk m o 0 5 nM
    && valuesOk m o 1 5 nM
    && (if o.p 0 = 0 then decide (1 ≤ o.p 1 ∧ o.p 1 ≤ 64) && valuesOk m o 2 5 nM
          && valuesOk m o 3 4 (o.p 2) && wideOk m o (o.p 5) && inN m o 0 == o.p 2 && outN m o 0 == o.p 2 && wideEnds z
        else inN m o 0 == nM && outN m o 0 == 2 * nM && z.format == 3)
    && (tComplex m.data (opTensor m o 0)).all fun (re, im) => decide (re * re + im * im ≤ 2 ^ 60 - 2 ^ 40)
  | 0x18 => convOk m o 0 (convP o 0) && freqOk m o && windowModeOk m o
  | 0x19 =>
    let p := convP o 5
    convOk m o 5 { p with st := 1, sf := 1, ptl := 0, ptr := 0, pfl := 0, pfr := 0 } && freqOk m o
    && windowModeOk m o
    && decide (1 ≤ o.p 0 ∧ 1 ≤ p.sf ∧ o.p 1 = p.kt ∧ o.p 2 = p.dt)
  | 0x1A =>
    decide (o.p 0 ≤ 1 ∧ o.p 1 ≤ 1 ∧ 1 ≤ o.p 2 ∧ 1 ≤ o.p 3 ∧ o.p 3 ≤ 64 ∧ (e0.spectro ∨ o.p 3 = 1)
      ∧ o.p 2 * o.p 3 ≤ 4096 ∧ 1 ≤ o.p 4 ∧ o.p 4 ≤ 64 ∧ 1 ≤ o.p 5 ∧ o.p 5 ≤ 64)
    && decide (o.p 6 < o.p 2 ∧ o.p 7 < o.p 2 ∧ o.p 8 < o.p 3 ∧ o.p 9 < o.p 3)
    && (!o.causal || (o.p 6 == 0 && o.p 7 == 0))
    && (e0.fixed || e0.format == 1)
    && outN m o 0 == inN m o 0 && z.fixed && freqOk m o && windowModeOk m o
  | 0x1B =>
    (o.p 1 == 2 || o.p 1 == 4 || o.p 1 == 8 || o.p 1 == 16) && decide (o.p 0 ≤ 1) && e0.fixed
    && z.format == e0.format && windowModeOk m o
    && (if o.p 0 = 0 then outN m o 0 * o.p 1 == inN m o 0 else outN m o 0 == inN m o 0 * o.p 1)
  | 0x20 =>
    decide (1 ≤ o.p 0 ∧ o.p 0 ≤ 2 ^ 18 ∧ o.p 1 ≤ 64) && (decide (o.p 2 ≤ 65535) || o.p 2 == none32)
    && e0.format == 4 && inN m o 0 == o.p 0 && outN m o 0 == 1 && o.noiseBase != none32
    && o.noiseCount == o.p 0 && lateOk m o 2 1 && z.format == 6 && z.frac == 0
  | 0x21 =>
    decide (1 ≤ o.p 0 ∧ o.p 0 ≤ 32 ∧ 1 ≤ o.p 1 ∧ 3 ≤ o.ins.length) && e0.format == 4
    && inN m o 0 == o.p 0 * o.p 1 && inN m o 1 == o.p 0 * o.p 1 && inN m o 2 == o.p 0 * o.p 1
    && outN m o 0 == o.p 1 && o.noiseBase != none32 && o.noiseCount == o.p 1 * (o.p 0 + 1)
    && (m.edge (o.inE 1)).format == 2 && (m.edge (o.inE 2)).fixed && (z.fixed || z.format == 4)
  | 0x22 =>
    (decide (o.p 1 ≤ 2 ^ 24) || o.p 1 == none32) && outN m o 0 == o.p 0 && o.noiseBase != none32
    && o.noiseCount == o.p 0 && lateOk m o 1 0 && z.fixed && (z.format != 6 || z.frac == 0)
  | 0x30 =>
    let a := opTensor m o 0
    let b := opTensor m o 1
    m.adapter && decide (1 ≤ o.p 1 ∧ o.p 1 ≤ 64) && weightOk m o 0 (o.p 1) a.redDim a.redDim
    && weightOk m o 1 b.outDim (o.p 1) (o.p 1) && z.format == 1 && z.elements == o.p 1
    && z.group == b.group && wideOk m o (o.p 2)
  | _ => false

/-- Parameter words of a type (R229). -/
def paramWords (ty : Nat) : Nat :=
  match ty with
  | 0x01 => 4 | 0x02 => 3 | 0x03 => 3 | 0x04 => 7 | 0x05 => 7 | 0x06 => 2 | 0x07 => 8 | 0x08 => 2
  | 0x09 => 5 | 0x0A => 2 | 0x0B => 4 | 0x10 => 5 | 0x11 => 6 | 0x18 => 14 | 0x19 => 19 | 0x1A => 11
  | 0x1B => 2 | 0x20 => 3 | 0x21 => 4 | 0x22 => 2 | 0x30 => 3 | _ => 0

/-- The outputs of an operator that reads a whole edge are whole edges, and it draws no noise (R477); attention follows
its queries. DESIGN CHOICE (log 90): an operator that reads whole and stepped edges is taken as one over whole edges, and
its stepped edges have no positions. -/
def wholeOk (m : Image) (o : OpRec) : Bool :=
  let reads := if o.type = 0x07 then o.ins.take 1 else o.ins
  let w := reads.any fun e => (m.edge e).whole
  o.outs.all (fun e => (m.edge e).whole == w)
  && !(w && (o.type == 0x20 || o.type == 0x21 || o.type == 0x22))

/-- Declared coefficients are at or above the computed ones (R74). -/
def costOk (m : Image) (i : Nat) : Bool :=
  let o := m.op i
  let c := coefOf m o (lMax m o)
  match m.costs.getD i (0, 0, 0, 0) with
  | (_, fix, arr, vec) => decide (c.fix ≤ fix ∧ c.arr ≤ arr ∧ c.vec ≤ vec)

/-- One operator record (R227 to R229). -/
def opOk (m : Image) (i : Nat) : Bool :=
  let o := m.op i
  decide (1 ≤ o.dec) && o.params.length == paramWords o.type && decide (1 ≤ o.outs.length)
  && (decide (1 ≤ o.ins.length) || o.type == 0x30 || o.type == 0x22)
  && (o.ins ++ o.outs).all (fun e => decide (e < m.edges.length))
  && o.outs.all (fun e => (m.edge e).producer == i)
  && o.tens.all (fun t => decide (t < m.tensors.length))
  && ((o.type == 0x20 || o.type == 0x21 || o.type == 0x22) || (o.noiseBase == none32 && o.noiseCount == 0))
  && o.ins.all (fun e => (m.edge e).producer == none32 || decide ((m.edge e).producer < i)
      || (m.edge e).feedback)
  && opShapeOk m o && wholeOk m o && costOk m i && o.stateBytes == stateBytesOf m o

/-- Noise ranges are disjoint and below 2^18 (R139, R150). -/
def noiseOk (m : Image) : Bool :=
  let rs := m.ops.filter fun o => o.noiseBase != none32
  rs.all (fun o => decide (o.noiseBase + o.noiseCount ≤ 2 ^ 18))
  && (rs.zip (upTo rs.length)).all fun (o, i) =>
    (rs.zip (upTo rs.length)).all fun (q, j) =>
      i == j || decide (o.noiseBase + o.noiseCount ≤ q.noiseBase)
      || decide (q.noiseBase + q.noiseCount ≤ o.noiseBase)

/-- The image as a whole passes check 6 (R235). -/
def imageOk (m : Image) : Bool :=
  decide (m.levelMajor < 1 ∨ (m.levelMajor = 1 ∧ m.levelMinor ≤ 0))
  && (m.adapter || allZero m.baseId) && decide (m.maxContext ≤ 2 ^ 24)
  && decide (m.outputEdge < m.edges.length) && (m.adapter || decide (1 ≤ m.outputRate))
  && (upTo m.edges.length).all (edgeOk m)
  && m.tracked.all (fun r => r.words.all s16Valid)
  && (let ts := (m.edges.map (·.tracker)).filter (· != none32)
      decide ts.Nodup && ts.length == m.tracked.length)
  && (let rs := readTensors m
      (upTo m.tensors.length).all fun i => rs.contains i || tensorOk m (m.tensor i) (m.tensor i).redDim)
  && (upTo m.ops.length).all (opOk m)
  && m.ops.all (fun o => (o.type == 0x30) == m.adapter)
  && (!m.adapter || (upTo m.tensors.length).all (readTensors m).contains)
  && noiseOk m
  && m.stateBytes == sumN (m.ops.map fun o => o.stateBytes)
  && m.kvBytes == sumN (m.ops.map (kvBytesOf m))

/-- The image at a byte string that passes check 6, none otherwise; `n` bytes are the image without
its signature block. -/
def checkedImage (b : Bytes) : Option Image :=
  match parseImage b with
  | some m => if imageOk m then some m else none
  | none => none

end Sys2Proof.Machine
end

