-- ==== Sys2Proof/Machine/Sm.lean ====
section
/-! DEFINITION. SM3 and SM2, which the spec names as standards (R421, R422, PRESUMED, log 8), and the
signature block of R177. -/

namespace Sys2Proof.Machine

/-! ### SM3 -/

/-- A 32-bit word rotated left. -/
def rotl32 (x n : Nat) : Nat :=
  let k := n % 32
  ((x <<< k) ||| (x >>> (32 - k))) % 2 ^ 32

def sm3Iv : List Nat :=
  [0x7380166F, 0x4914B2B9, 0x172442D7, 0xDA8A0600, 0xA96F30BC, 0x163138AA, 0xE38DEE4D, 0xB0FB0E4E]

def sm3P0 (x : Nat) : Nat := x ^^^ rotl32 x 9 ^^^ rotl32 x 17
def sm3P1 (x : Nat) : Nat := x ^^^ rotl32 x 15 ^^^ rotl32 x 23

/-- Message expansion: words newest first, `n` more of them. -/
def sm3Expand : Nat → List Nat → List Nat
  | 0, w => w
  | n + 1, w =>
    let at' := fun k => w.getD (k - 1) 0
    sm3Expand n ((sm3P1 (at' 16 ^^^ at' 9 ^^^ rotl32 (at' 3) 15) ^^^ rotl32 (at' 13) 7 ^^^ at' 6) :: w)

/-- The eight working words. -/
structure Sm3V where
  a : Nat
  b : Nat
  c : Nat
  d : Nat
  e : Nat
  f : Nat
  g : Nat
  h : Nat

/-- Complement of a 32-bit word. -/
def not32 (x : Nat) : Nat := x ^^^ (2 ^ 32 - 1)

/-- Round j with words W_j and W_j+4. -/
def sm3Round (j w w4 : Nat) (v : Sm3V) : Sm3V :=
  let t := if j < 16 then 0x79CC4519 else 0x7A879D8A
  let ss1 := rotl32 ((rotl32 v.a 12 + v.e + rotl32 t j) % 2 ^ 32) 7
  let ss2 := ss1 ^^^ rotl32 v.a 12
  let ff := if j < 16 then v.a ^^^ v.b ^^^ v.c
    else (v.a &&& v.b) ||| (v.a &&& v.c) ||| (v.b &&& v.c)
  let gg := if j < 16 then v.e ^^^ v.f ^^^ v.g else (v.e &&& v.f) ||| (not32 v.e &&& v.g)
  let tt1 := (ff + v.d + ss2 + (w ^^^ w4)) % 2 ^ 32
  let tt2 := (gg + v.h + ss1 + w) % 2 ^ 32
  { a := tt1, b := v.a, c := rotl32 v.b 9, d := v.c, e := sm3P0 tt2, f := v.e, g := rotl32 v.f 19, h := v.g }

/-- Rounds j, j + 1, ... over the expanded words. -/
def sm3Rounds : Nat → Nat → List Nat → Sm3V → Sm3V
  | 0, _, _, v => v
  | n + 1, j, ws, v => sm3Rounds n (j + 1) (ws.drop 1) (sm3Round j (ws.getD 0 0) (ws.getD 4 0) v)

/-- Compression of one 64-byte block. -/
def sm3Block (iv : List Nat) (blk : Bytes) : List Nat :=
  let w0 := (chunks 4 blk).map beNat
  let ws := (sm3Expand 52 w0.reverse).reverse
  let g := fun i => iv.getD i 0
  let v := sm3Rounds 64 0 ws
    { a := g 0, b := g 1, c := g 2, d := g 3, e := g 4, f := g 5, g := g 6, h := g 7 }
  [v.a ^^^ g 0, v.b ^^^ g 1, v.c ^^^ g 2, v.d ^^^ g 3, v.e ^^^ g 4, v.f ^^^ g 5, v.g ^^^ g 6, v.h ^^^ g 7]

/-- The SM3 digest of a byte string, 32 bytes. -/
def sm3 (m : Bytes) : Bytes :=
  let fill := (119 - m.length % 64) % 64
  let p := m ++ [0x80] ++ zeros fill ++ toBE 8 (8 * m.length)
  ((chunks 64 p).foldl sm3Block sm3Iv).flatMap (toBE 4)

/-! ### SM2 -/

def sm2P : Nat := 0xFFFFFFFEFFFFFFFFFFFFFFFFFFFFFFFFFFFFFFFF00000000FFFFFFFFFFFFFFFF
def sm2A : Nat := sm2P - 3
def sm2B : Nat := 0x28E9FA9E9D9F5E344D5A9E4BCF6509A7F39789F515AB8F92DDBCBD414D940E93
def sm2N : Nat := 0xFFFFFFFEFFFFFFFFFFFFFFFFFFFFFFFF7203DF6B21C6052B53BBF40939D54123
def sm2Gx : Nat := 0x32C4AE2C1F1981195F9904466A39C9948FE30BBFF2660BE1715A4589334C74C7
def sm2Gy : Nat := 0xBC3736A2F4F6779C59BDCEE36B692153D0A9877CC62A474002DF32E52139F0A0

/-- x^e mod m by the `n` low bits of e. -/
def powModN : Nat → Nat → Nat → Nat → Nat → Nat
  | 0, _, _, _, acc => acc
  | n + 1, x, e, m, acc => powModN n (x * x % m) (e / 2) m (if e % 2 = 1 then acc * x % m else acc)

/-- Inverse modulo a prime. -/
def invMod (x m : Nat) : Nat := powModN 256 (x % m) (m - 2) m 1

/-- x − y mod m for x, y < m. -/
def subMod (x y m : Nat) : Nat := (x + (m - y % m)) % m

/-- A point in Jacobian coordinates; z = 0 is the point at infinity. -/
structure JPoint where
  x : Nat
  y : Nat
  z : Nat

/-- Twice a point. -/
def jDouble (p : JPoint) : JPoint :=
  let q := sm2P
  let yy := p.y * p.y % q
  let s := 4 * p.x * yy % q
  let zz := p.z * p.z % q
  let m := (3 * p.x * p.x + sm2A * (zz * zz % q)) % q
  let x := subMod (m * m % q) (2 * s) q
  let y := subMod (m * subMod s x q % q) (8 * yy * yy % q) q
  { x := x, y := y, z := 2 * p.y * p.z % q }

/-- The sum of two points. -/
def jAdd (p r : JPoint) : JPoint :=
  if p.z = 0 then r
  else if r.z = 0 then p
  else
    let q := sm2P
    let z1 := p.z * p.z % q
    let z2 := r.z * r.z % q
    let u1 := p.x * z2 % q
    let u2 := r.x * z1 % q
    let s1 := p.y * (z2 * r.z % q) % q
    let s2 := r.y * (z1 * p.z % q) % q
    if u1 = u2 then
      if s1 = s2 then jDouble p else { x := 1, y := 1, z := 0 }
    else
      let h := subMod u2 u1 q
      let rr := subMod s2 s1 q
      let h2 := h * h % q
      let h3 := h2 * h % q
      let v := u1 * h2 % q
      let x := subMod (subMod (rr * rr % q) h3 q) (2 * v) q
      { x := x, y := subMod (rr * subMod v x q % q) (s1 * h3 % q) q, z := h * (p.z * r.z % q) % q }

/-- k times a point, by the `n` low bits of k. -/
def jMulN : Nat → Nat → JPoint → JPoint → JPoint
  | 0, _, _, acc => acc
  | n + 1, k, p, acc => jMulN n (k / 2) (jDouble p) (if k % 2 = 1 then jAdd acc p else acc)

def jMul (k : Nat) (p : JPoint) : JPoint := jMulN 256 k p { x := 1, y := 1, z := 0 }

/-- Affine coordinates. -/
def affine (p : JPoint) : Nat × Nat :=
  let i := invMod p.z sm2P
  let i2 := i * i % sm2P
  (p.x * i2 % sm2P, p.y * (i2 * i % sm2P) % sm2P)

def sm2G : JPoint := { x := sm2Gx, y := sm2Gy, z := 1 }

/-- The user identifier of R422. -/
def sm2Id : Bytes := [0x31, 0x32, 0x33, 0x34, 0x35, 0x36, 0x37, 0x38, 0x31, 0x32, 0x33, 0x34, 0x35, 0x36, 0x37, 0x38]

/-- The number that SM2 signs for a message under a public key (x then y). -/
def sm2E (key msg : Bytes) : Nat :=
  let za := sm3 ([0x00, 0x80] ++ sm2Id ++ toBE 32 sm2A ++ toBE 32 sm2B ++ toBE 32 sm2Gx ++ toBE 32 sm2Gy ++ key)
  beNat (sm3 (za ++ msg))

/-- A public key is a point of the curve. -/
def sm2KeyOk (key : Bytes) : Bool :=
  let x := beNat (key.take 32)
  let y := beNat (key.drop 32)
  key.length == 64 && decide (x < sm2P) && decide (y < sm2P)
    && (y * y % sm2P == (x * x % sm2P * x + sm2A * x + sm2B) % sm2P)

/-- Verification of an SM2 signature over a message. -/
def sm2Verify (key r s msg : Bytes) : Bool :=
  let rn := beNat r
  let sn := beNat s
  let t := (rn + sn) % sm2N
  let p : JPoint := { x := beNat (key.take 32), y := beNat (key.drop 32), z := 1 }
  let (x1, _) := affine (jAdd (jMul sn sm2G) (jMul t p))
  sm2KeyOk key && decide (1 ≤ rn) && decide (rn < sm2N) && decide (1 ≤ sn) && decide (sn < sm2N)
    && t != 0 && (sm2E key msg + x1) % sm2N == rn

/-- The signature components that private key d gives a message with the nonce k. -/
def sm2Sign (d : Nat) (key msg : Bytes) (k : Nat) : Bytes :=
  let (x1, _) := affine (jMul k sm2G)
  let r := (sm2E key msg + x1) % sm2N
  let s := invMod (1 + d) sm2N * subMod k (r * d) sm2N % sm2N
  toBE 32 r ++ toBE 32 s

/-! ### The device's own key and the signature block -/

/-- The identity private key of a unique device secret (R422); the label is "U2048-ID". -/
def identityPrivate (uds : Bytes) : Nat :=
  beNat (sm3 (uds ++ [0x55, 0x32, 0x30, 0x34, 0x38, 0x2D, 0x49, 0x44])) % (sm2N - 1) + 1

/-- The identity public key, x then y. -/
def identityKey (uds : Bytes) : Bytes :=
  let p := affine (jMul (identityPrivate uds) sm2G)
  toBE 32 p.1 ++ toBE 32 p.2

/-- SM3 of the identity public key (R434). -/
def identityDigest (uds : Bytes) : Bytes := sm3 (identityKey uds)

/-- The signature block of R177 that the device makes over a 32-byte digest with nonce k. -/
def signBlock (uds digest : Bytes) (k : Nat) : Bytes :=
  identityKey uds ++ sm2Sign (identityPrivate uds) (identityKey uds) digest k

/-- The signer key of a signature block (R177). -/
def blockKey (b : Bytes) : Bytes := b.take 64

/-- A signature block verifies over a 32-byte digest (R177). -/
def blockOk (b digest : Bytes) : Bool :=
  b.length == 128 && sm2Verify (b.take 64) (slice b 64 32) (slice b 96 32) digest

/-- A free SM2 nonce, 1 to n − 1 (log 9). -/
def freeNonce (c : Nat) : Nat := Config.freeNat c % (sm2N - 1) + 1

end Sys2Proof.Machine
end

