-- ==== Sys2Proof/Machine/Context.lean ====
section
/-! DEFINITION. The portable context (R170 to R180): its bytes from a stream's carried state, and the
checks and the reading of a context. -/

namespace Sys2Proof.Machine

/-- What a context's header, SINK and PENDING records carry (R171, R175). -/
structure CtxHead where
  step : Nat := 0
  resetAge : Nat := 0
  noiseStep : Nat := 0
  nstream : Nat := 0
  seed : Nat := 0
  gen : Nat := 0
  rows : Nat := 0
  facets : Nat := 0
  device : Nat := 0
  voiceId : Bytes := []
  sink : Bytes := []
  pending : Bytes := []
deriving DecidableEq, Repr

/-- The S16 word of a mantissa and exponent (R40). -/
def s16Word (m e : Int) : Nat := field 10 m + 1024 * field 6 e

/-- A group descriptor as 3 bytes: S16, then i8 zero point (R174). -/
def descBytes (d : GroupDesc) : Bytes := toLE 2 (s16Word d.m d.e) ++ toLE 1 (field 8 d.z)

/-- A group descriptor from 3 bytes. -/
def descOfBytes (b : Bytes) : GroupDesc :=
  { m := s16Mant (rd b 0 2), e := s16Exp (rd b 0 2), z := signed 8 (rd b 2 1) }

/-- Bytes of one element of an edge (R38, R156). -/
def elemWidth (fmt : Nat) : Nat :=
  if fmt = 1 then 1 else if fmt = 2 then 2 else if fmt = 4 then 6 else if fmt = 5 then 8 else 4

/-- Shape of a history entry: the input edge of its operator. -/
def tapEdge (v : Voice) (c : Carried) : EdgeRec :=
  (v.img c.role).edge (((v.img c.role).op c.op).inE 0)

/-- Bytes of one history entry (R174); entries of a fixed-point edge end in a byte that says whether
they are present (log 21). -/
def tapBytes (e : EdgeRec) : Nat :=
  if e.format = 1 then e.rowsF * (e.elements + 3 * e.groupsPerRow)
  else e.rowsF * e.elements * elemWidth e.format + 1

/-- A history entry as bytes. -/
def tapEncode (e : EdgeRec) : Option Tensor → Bytes
  | none => zeros (tapBytes e)
  | some t =>
    if e.format = 1 then
      ((chunks e.elements t.x).zip (descOf e.groupsPerRow t)).flatMap fun (r, ds) =>
        r.flatMap (fun q => toLE 1 (field 8 q)) ++ ds.flatMap descBytes
    else t.x.flatMap (fun q => toLE (elemWidth e.format) (field (8 * elemWidth e.format) q)) ++ [1]

/-- A history entry from its bytes; the first S16 word 0 marks an absent entry (R96). -/
def tapDecode (e : EdgeRec) (b : Bytes) : Option Tensor :=
  if e.format = 1 then
    if rd b e.elements 2 = 0 then none
    else
      let rows := chunks (e.elements + 3 * e.groupsPerRow) b
      some { x := rows.flatMap fun r => (r.take e.elements).map fun q => signed 8 q.toNat
             g := rows.flatMap fun r => (chunks 3 (r.drop e.elements)).map descOfBytes }
  else if rd b (tapBytes e - 1) 1 = 0 then none
  else
    let w := elemWidth e.format
    some { x := (chunks w (b.take (tapBytes e - 1))).map fun q => signed (8 * w) (leNat q) }

/-- Stored positions of a KV record whose next position is `p` (R174). -/
def kvStored (w p : Nat) : Nat := if w = 0 then p else min p (w - 1)

/-- Bytes of one stored position (R159). -/
def kvPosBytes (m : Image) (o : OpRec) : Nat :=
  2 * o.p 0 + 3 * (o.p 0 / (m.edge (o.inE 1)).group + o.p 0 / (m.edge (o.inE 2)).group)

/-- Codes and descriptors of one row. -/
def rowEncode (t : Tensor) : Bytes := t.x.flatMap (fun q => toLE 1 (field 8 q)) ++ t.g.flatMap descBytes

def rowDecode (d : Nat) (b : Bytes) : Tensor :=
  { x := (b.take d).map fun q => signed 8 q.toNat, g := (chunks 3 (b.drop d)).map descOfBytes }

/-- ITEMS of a record (R174). -/
def ctxItems (v : Voice) (c : Carried) : Nat :=
  let o := (v.img c.role).op c.op
  match c.val with
  | .gru h => h.length
  | .modal h => h.length
  | .feedback _ _ => 1
  | .tracker _ _ => 1
  | .taps _ => historyLen o
  | .kv n _ => kvStored (o.p 3) n

/-- Payload of a record (R174), unpadded. -/
def ctxPayload (v : Voice) (c : Carried) : Bytes :=
  match c.val with
  | .gru h => h.flatMap fun x => toLE 2 (field 16 x)
  | .modal h => h.flatMap fun (re, im) => toLE 4 (field 32 re) ++ toLE 4 (field 32 im)
  | .feedback x vd => toLE 4 x ++ [if vd then 1 else 0] ++ zeros 3
  | .tracker d q => toLE 1 (field 8 d) ++ toLE 2 q
  | .taps es => (es.take (ctxItems v c)).flatMap (tapEncode (tapEdge v c))
  | .kv _ rows =>
    (rows.drop (rows.length - ctxItems v c)).flatMap fun (k, x) => rowEncode k ++ rowEncode x

/-- A record with its header (R173). -/
def ctxRecord (op role kind sub items : Nat) (payload : Bytes) : Bytes :=
  toLE 2 op ++ toLE 1 role ++ toLE 1 kind ++ toLE 2 sub ++ zeros 2 ++ toLE 4 items ++ zeros 4
    ++ padTo 8 payload

/-- Section type of a record kind (R174). -/
def kindSection (k : Nat) : Nat :=
  if k ≤ 3 then 1 else if k = 4 then 2 else if k ≤ 6 then 3 else if k = 7 then 4 else 5

/-- The records of one section, and their number. -/
def ctxSection (v : Voice) (cs : List Carried) (s : Nat) : Bytes × Nat :=
  let mine := cs.filter fun c => kindSection c.val.kind == s
  (mine.flatMap fun c => ctxRecord c.op c.role c.val.kind c.sub (ctxItems v c) (ctxPayload v c), mine.length)

/-- The bytes of a context before its digest (R170 to R175). -/
def ctxBody (v : Voice) (cs : List Carried) (h : CtxHead) (sign : Bool) : Bytes :=
  let secs := [ctxSection v cs 1, ctxSection v cs 2, ctxSection v cs 3,
    (ctxRecord 0 0 7 0 1 h.sink, 1), (ctxRecord 0 0 8 0 1 h.pending, 1)]
  let head := toLE 4 0x55435831 ++ [1, 0] ++ toLE 2 (b2n sign) ++ toLE 8 h.step ++ toLE 6 h.resetAge
    ++ toLE 6 h.noiseStep ++ toLE 4 h.nstream ++ toLE 8 h.seed ++ toLE 2 h.gen ++ toLE 1 h.rows
    ++ [5] ++ toLE 2 h.facets ++ toLE 2 h.device ++ h.voiceId
  let dir := (secs.zip [1, 2, 3, 4, 5]).flatMap fun ((b, n), t) =>
    toLE 2 t ++ zeros 2 ++ toLE 4 n ++ toLE 8 b.length
  head ++ dir ++ secs.flatMap (·.1)

/-- A portable context: body, digest and, when signed, the signature block over the digest by the key of a device
secret with a nonce (R170, R177). -/
def ctxEncode (v : Voice) (cs : List Carried) (h : CtxHead) (sign : Option (Bytes × Nat)) : Bytes :=
  let body := ctxBody v cs h sign.isSome
  let d := sm3 body
  body ++ d ++ (match sign with | some k => signBlock k.1 d k.2 | none => [])

/-- The SINK record payload (R175). -/
def sinkPayload (k : Option Sink) (elem : Nat) : Bytes :=
  match k with
  | none => zeros 32
  | some (.port p s i) => [1] ++ toLE 1 p ++ toLE 1 s ++ zeros 1 ++ toLE 4 i ++ zeros 24
  | some (.host a l i) => [2] ++ zeros 3 ++ toLE 4 i ++ toLE 8 a ++ toLE 4 l ++ toLE 4 elem ++ zeros 8

/-- The PENDING record payload (R175). -/
def pendPayload (reset : Option Bool) (seed : Option (Nat × Nat)) (seq runs : Nat) : Bytes :=
  let f := (match reset with | some r => 1 + 2 * b2n r | none => 0) + (if seed.isSome then 4 else 0)
  let (s, n) := seed.getD (0, 0)
  toLE 1 f ++ zeros 7 ++ toLE 8 s ++ toLE 4 n ++ toLE 4 seq ++ toLE 8 runs

/-! ### Reading a context (R179) -/

/-- Offset and end of section `i` of a context, and the end of all sections. -/
def ctxSecs (b : Bytes) : List (Nat × Nat) :=
  ((upTo 5).foldl (fun (acc : List (Nat × Nat) × Nat) i =>
    let n := rd b (64 + 16 * i + 8) 8
    (acc.1 ++ [(acc.2, n)], acc.2 + n)) ([], 144)).1

/-- End of the QUEUE section. -/
def ctxEnd (b : Bytes) : Nat := 144 + sumN ((ctxSecs b).map (·.2))

/-- Check 1 of R179. -/
def ctxCheck1 (b : Bytes) : Bool :=
  decide (144 ≤ b.length) && rd b 0 4 == 0x55435831 && rd b 43 1 == 5 && decide (rd b 6 2 < 2)
  && decide (rd b 46 2 < 1024)
  && (upTo 5).all (fun i => rd b (64 + 16 * i) 2 == i + 1 && rd b (64 + 16 * i + 2) 2 == 0
      && rd b (64 + 16 * i + 8) 8 % 8 == 0)
  && decide (ctxEnd b + 32 + (if bitAt (rd b 6 2) 0 then 128 else 0) ≤ b.length)

/-- Check 2: the level is at or below 1.0. -/
def ctxCheck2 (b : Bytes) : Bool :=
  decide (rd b 4 1 < Config.contractMajor ∨
    (rd b 4 1 = Config.contractMajor ∧ rd b 5 1 ≤ Config.contractMinor))

/-- Digest field of a context. -/
def ctxDigest (b : Bytes) : Bytes := slice b (ctxEnd b) 32

/-- Check 3: the digest matches (R177). -/
def ctxCheck3 (b : Bytes) : Bool := sm3 (b.take (ctxEnd b)) == ctxDigest b

/-- Signature block of a context. -/
def ctxSig (b : Bytes) : Bytes := slice b (ctxEnd b + 32) 128

/-- Check 4, when a signature is required: a signed context whose signer has the expected digest; no
digest expected for a local target (R179, R181). -/
def ctxCheck4 (b expect : Bytes) : Bool :=
  bitAt (rd b 6 2) 0 && !(allZero expect) && blockOk (ctxSig b) (ctxDigest b)
  && sm3 (blockKey (ctxSig b)) == expect

/-- Header and payload length of the record that a carried quantity has, with `n` items. -/
def ctxLen (v : Voice) (c : Carried) (n : Nat) : Nat :=
  let m := v.img c.role
  let o := m.op c.op
  match c.val with
  | .gru _ => 2 * n
  | .modal _ => 8 * n
  | .feedback _ _ => 8
  | .tracker _ _ => 3
  | .taps _ => n * tapBytes (tapEdge v c)
  | .kv _ _ => n * kvPosBytes m o

/-- The value that a payload gives a carried quantity, none where a field is out of its range
(R179 check 5). -/
def ctxValue (v : Voice) (c : Carried) (next : Nat) (b : Bytes) : Option CarriedVal :=
  let m := v.img c.role
  let o := m.op c.op
  match c.val with
  | .gru _ => some (.gru ((chunks 2 b).map fun q => signed 16 (leNat q)))
  | .modal _ => some (.modal ((chunks 8 b).map fun q => (signed 32 (rd q 0 4), signed 32 (rd q 4 4))))
  | .feedback _ _ =>
    if rd b 4 1 ≤ 1 ∧ rd b 5 3 = 0 then some (.feedback (rd b 0 4) (rd b 4 1 == 1)) else none
  | .tracker _ _ => some (.tracker (signed 8 (rd b 0 1)) (rd b 1 2))
  | .taps _ => some (.taps ((chunks (tapBytes (tapEdge v c)) b).map (tapDecode (tapEdge v c)) ++ [none]))
  | .kv _ _ =>
    let d := o.p 0
    let kb := d + 3 * (d / (m.edge (o.inE 1)).group)
    some (.kv next ((chunks (kvPosBytes m o) b).map fun q => (rowDecode d (q.take kb), rowDecode d (q.drop kb))))

/-- Next position of an attention operator under a context's counters (R92). -/
def nextPosition (o : OpRec) (step resetAt : Nat) : Nat :=
  stepsBefore o.dec o.off step - firstStep o.dec o.off resetAt

/-- Read the records of one section against the quantities they must hold; the section must be filled
exactly (R179 check 5). -/
def ctxRead (v : Voice) (step resetAt kvPos : Nat) : List Carried → Bytes → Option (List Carried)
  | [], b => if b.isEmpty then some [] else none
  | c :: cs, b =>
    let o := (v.img c.role).op c.op
    let next := nextPosition o step resetAt
    let items := match c.val with | .kv _ _ => kvStored (o.p 3) next | _ => ctxItems v c
    let len := ctxLen v c items
    let pad := alignUp 8 len
    let room := match c.val with | .kv _ _ => decide (0 < o.p 3) || decide (items ≤ kvPos) | _ => true
    if rd b 0 2 = c.op ∧ rd b 2 1 = c.role ∧ rd b 3 1 = c.val.kind ∧ rd b 4 2 = c.sub ∧ rd b 6 2 = 0
        ∧ rd b 8 4 = items ∧ rd b 12 4 = 0 ∧ 16 + pad ≤ b.length
        ∧ allZero (slice b (16 + len) (pad - len)) = true ∧ room = true then
      match ctxValue v c next (slice b 16 len), ctxRead v step resetAt kvPos cs (b.drop (16 + pad)) with
      | some x, some r => some ({ c with val := x } :: r)
      | _, _ => none
    else none

/-- The header of a context. -/
def ctxHead (b : Bytes) : CtxHead :=
  { step := rd b 8 8, resetAge := rd b 16 6, noiseStep := rd b 22 6, nstream := rd b 28 4
    seed := rd b 32 8, gen := rd b 40 2, rows := rd b 42 1, facets := rd b 44 2, device := rd b 46 2
    voiceId := slice b 48 16
    sink := slice b (144 + sumN (((ctxSecs b).take 3).map (·.2)) + 16) 32
    pending := slice b (144 + sumN (((ctxSecs b).take 4).map (·.2)) + 16) 32 }

/-- A SINK or PENDING section holds its one record (R174). -/
def ctxOne (b : Bytes) (i kind : Nat) : Bool :=
  let (off, n) := (ctxSecs b).getD i (0, 0)
  n == 48 && rd b (64 + 16 * i + 4) 4 == 1 && rd b off 3 == 0 && rd b (off + 3) 1 == kind
  && rd b (off + 4) 4 == 0 && rd b (off + 8) 4 == 1 && rd b (off + 12) 4 == 0

/-- Every field of a SINK payload lies in its range (R175). -/
def sinkFieldsOk (b : Bytes) : Bool :=
  decide (rd b 0 1 ≤ 2) && rd b 3 1 == 0 && rd b 24 8 == 0 &&
  (rd b 0 1 != 1 || decide (rd b 1 1 ≤ 15 ∧ rd b 2 1 ≤ 31)) &&
  (rd b 0 1 != 2 || decide (rd b 8 8 < 2 ^ 52 ∧ 12 ≤ rd b 16 4 ∧ rd b 16 4 ≤ 30))

/-- Check 5 of R179: the carried state that the context gives a stream of the voice, none where the
context does not fit it. -/
def ctxCheck5 (v : Voice) (voiceId : Bytes) (kvPos : Nat) (b : Bytes) : Option (List Carried) :=
  let h := ctxHead b
  let z := zeroCarried v
  let secs := ctxSecs b
  let sec := fun i => let (o, n) := secs.getD i (0, 0); slice b o n
  let mine := fun s => z.filter fun c => kindSection c.val.kind == s
  let pf := rd h.pending 0 1
  if h.voiceId = voiceId ∧ h.resetAge < 2 ^ 40 ∧ h.noiseStep < 2 ^ 44 ∧ h.resetAge ≤ h.step
      ∧ h.noiseStep ≤ h.step ∧ ctxOne b 3 7 = true ∧ ctxOne b 4 8 = true
      ∧ sinkFieldsOk h.sink = true
      ∧ pf < 8 ∧ (bitAt pf 1 = true → bitAt pf 0 = true) ∧ rd h.pending 1 7 = 0
      ∧ ((upTo 3).all fun i => rd b (64 + 16 * i + 4) 4 == (mine (i + 1)).length) = true then
    let r := fun i => ctxRead v h.step (h.step - h.resetAge) kvPos (mine (i + 1)) (sec i)
    match r 0, r 1, r 2 with
    | some a, some c, some d =>
      -- back in the order of the stream's own list
      some (z.map fun q => ((a ++ c ++ d).find? fun w =>
        w.role == q.role && w.op == q.op && w.sub == q.sub && w.val.kind == q.val.kind).getD q)
    | _, _, _ => none
  else none

/-- VOICE_ID: bytes 0 to 15 of SM3 over the four identities in role order, zeros for an empty role
(R171). -/
def voiceIdOf (ids : List Bytes) : Bytes :=
  (sm3 (ids.flatMap fun i => if i.isEmpty then zeros 32 else i)).take 16

end Sys2Proof.Machine
end

