-- ==== Sys2Proof/Machine/Flags.lean ====
section
/-! DEFINITION. Cause bits and the interrupt tree (R396 to R400), and `settle`, by which every command
ends: an armed function whose masked summary is not zero sends its MSI-X message. -/

namespace Sys2Proof.Machine

/-! ### Setting cause bits -/

def State.setPartCause (s : State) (k i : Nat) : State :=
  s.modPart k fun p => { p with partCause := setBit p.partCause i }
def State.setStreamCause (s : State) (k i : Nat) : State :=
  s.modPart k fun p => { p with streamCause := setBit p.streamCause i }
def State.setModelCause (s : State) (k i : Nat) : State :=
  s.modPart k fun p => { p with modelCause := setBit p.modelCause i }
def State.setFaultCause (s : State) (k i : Nat) : State :=
  s.modPart k fun p => { p with faultCause := setBit p.faultCause i }
def State.setFacetCause (s : State) (f i : Nat) : State :=
  s.modFacet f fun c => { c with cause := setBit c.cause i }
def State.setPortCause (s : State) (p i : Nat) : State :=
  s.modPort p fun q => { q with cause := setBit q.cause i }
def State.setRingCause (s : State) (f r i : Nat) : State :=
  s.modRing f r fun q => { q with cause := setBit q.cause i }
def State.setVertexCause (s : State) (i : Nat) : State :=
  { s with vertex := { s.vertex with cause := setBit s.vertex.cause i } }
def State.setQueueCause (s : State) (i : Nat) : State :=
  { s with queueCause := setBit s.queueCause i }
def State.setPmuCause (s : State) (i : Nat) : State :=
  { s with clk := { s.clk with pmuCause := setBit s.clk.pmuCause i } }
def State.setCrownCause (s : State) (i : Nat) : State :=
  { s with clk := { s.clk with crownCause := setBit s.clk.crownCause i } }
def State.setSecCause (s : State) (i : Nat) : State :=
  { s with sec := { s.sec with cause := setBit s.sec.cause i } }
def State.setTestCause (s : State) (i : Nat) : State :=
  { s with test := { s.test with cause := setBit s.test.cause i } }

/-! ### The tree -/

/-- A leaf passes something to its group: its cause ANDed with its enable is not zero (R396). -/
def leaf {w : Nat} (cause en : BitVec w) : Bool := decide (cause &&& en ≠ 0)

/-- The partition that owns a port, or none for the PF (R301). -/
def Port.partOwner (p : Port) : Option Nat := if p.owner = 0xFFFF then none else some p.owner.toNat

/-- Function f owns partition k (R189). -/
def ownsPart (s : State) (f k : Nat) : Bool :=
  (s.part k).valid && decide ((s.part k).function.toNat = f)

/-- Function f owns the partition that owns port p (R301, R449). -/
def ownsPort (s : State) (f p : Nat) : Bool :=
  match (s.port p).partOwner with
  | none => f == 0
  | some k => ownsPart s f k

/-- Any FACET_CAUSE or JUMP_CAUSE asserts under its enable (R397). -/
def facetOrJump (s : State) : Bool :=
  s.facets.any (fun kv => leaf kv.2.cause kv.2.causeEn) ||
  s.prisms.any (fun kv => leaf kv.2.jumpCause kv.2.jumpCauseEn)

/-- A bit of a prism in FAULT_PRISMS (R402). -/
def faultPrism (s : State) (p : Nat) : Bool :=
  leaf (s.prism p).jumpCause (s.prism p).jumpCauseEn ||
  (upTo 16).any fun i => leaf (s.facet (16 * p + i)).cause (s.facet (16 * p + i)).causeEn

/-- Source k of group g in words 0 to 3, as function f sees it (R397, R398). -/
def sourceBit (s : State) (f g k : Nat) : Bool :=
  let part := f == 0 || ownsPart s f k
  match g with
  | 0 => decide (k < 16) && leaf (s.ring f k).cause (s.ring f k).causeEn
  | 1 => decide (k < 128) && part && leaf (s.part k).streamCause (s.part k).streamEn
  | 2 => decide (k < 128) && part && leaf (s.part k).partCause (s.part k).partEn
  | 3 => decide (k < 128) && part && leaf (s.part k).modelCause (s.part k).modelEn
  | 4 => decide (k < 16) && (f == 0 || ownsPort s f k) && leaf (s.port k).cause (s.port k).causeEn
  | 8 => decide (k < 128) && part && leaf (s.part k).faultCause (s.part k).faultEn
  | _ => false

/-- Word 4 of group g: the device sources, which only the PF sees (R397, R398). -/
def deviceWord (s : State) (f g : Nat) : Nat :=
  if f ≠ 0 then 0 else
  match g with
  | 5 => b2n (leaf s.vertex.cause s.vertex.causeEn)
  | 6 => b2n (leaf s.memc.cause s.memc.causeEn)
  | 7 => b2n (leaf s.queueCause s.queueEn)
  | 8 => b2n (facetOrJump s) + 2 * b2n (decide (s.fatal.cause ≠ 0))
  | 9 => b2n (leaf s.clk.pmuCause s.clk.pmuEn)
  | 10 => b2n (leaf s.sec.cause s.sec.causeEn)
  | 11 => b2n (leaf s.test.cause s.test.causeEn)
  | 12 => b2n (leaf s.clk.crownCause s.clk.crownEn)
  | _ => 0

/-- GROUP_CAUSE[g] word w (R397). -/
def groupCause (s : State) (f g w : Nat) : Nat :=
  if w = 4 then deviceWord s f g
  else sumN ((upTo 32).map fun j => if sourceBit s f g (32 * w + j) then 2 ^ j else 0)

/-- Reset value of GROUP_EN[g] word w: every source bit that R397 defines for the group (R401). -/
def groupEnReset (g w : Nat) : Nat :=
  if w = 4 then
    if g = 8 then 3 else if 5 ≤ g ∧ g ≤ 12 then 1 else 0
  else if g = 0 ∨ g = 4 then (if w = 0 then 0xFFFF else 0)
  else if g = 1 ∨ g = 2 ∨ g = 3 ∨ g = 8 then 0xFFFFFFFF
  else 0

/-- GROUP_EN[g] word w; the state keeps its difference from the reset value. -/
def groupEn (s : State) (f g w : Nat) : Nat :=
  (tabGet 0 (s.func f).groupEn (5 * g + w)).toNat ^^^ groupEnReset g w

/-- INT_SUMMARY bit g (R396). A VF's carries bits 0 to 4 and 8 only (R398). -/
def summaryBit (s : State) (f g : Nat) : Bool :=
  (f == 0 || decide (g ≤ 4) || g == 8) &&
  (upTo 5).any fun w => decide (groupCause s f g w &&& groupEn s f g w ≠ 0)

/-- INT_SUMMARY of a function (R401). -/
def intSummary (s : State) (f : Nat) : Nat :=
  sumN ((upTo 13).map fun g => if summaryBit s f g then 2 ^ g else 0)

/-- INT_SUMMARY ANDed with INT_SUMMARY_EN is not zero (R399). -/
def asserting (s : State) (f : Nat) : Bool :=
  (upTo 13).any fun g => (s.func f).summaryEn.getLsbD g && summaryBit s f g

/-- INT_N is driven low; a reset in progress releases it (R400, R395, R409). -/
def intNLow (s : State) : Bool :=
  s.mode != .porLow && s.mode != .starting && s.mode != .held &&
  (s.pins.fatalInt || (upTo 13).any fun g => (s.func 0).pinMask.getLsbD g && summaryBit s 0 g)

/-! ### Messages -/

/-- A function is in D3hot (R450). -/
def inD3 (s : State) (f : Nat) : Bool := s.pcie.d3.contains f

/-- The message of a function that is armed and asserting: sent, or pending while the vector is
masked, or held until D0 (R399, R450). ARMED clears. -/
def firePage (s : State) (f : Nat) (p : FuncPage) : FuncPage × List Sent :=
  if p.armed && asserting s f then
    if p.msixMask then ({ p with armed := false, msixPending := true }, [])
    else if inD3 s f then ({ p with armed := false, msixHeld := true }, [])
    else ({ p with armed := false }, [.msix f p.msixAddr.toNat p.msixData])
  else (p, [])

/-- Fire every function of a list. -/
def fireAll (s : State) : List Nat → Tab FuncPage × List Sent
  | [] => (s.funcs, [])
  | f :: fs =>
    let r := fireAll s fs
    let q := firePage s f (s.func f)
    if (s.func f).armed && asserting s f then (tabSet {} r.1 f q.1, q.2 ++ r.2) else r

/-- Functions whose masked summary can assert: INT_SUMMARY_EN is 0 at reset. -/
def enabledFuncs (s : State) : List Nat :=
  (s.funcs.filter fun kv => decide (kv.2.summaryEn ≠ 0) && kv.2.armed).map (·.1)

/-- Send what is due (R399). Only the interrupt pages and the record of what was sent change. -/
def settle (s : State) : State :=
  { s with funcs := (fireAll s (enabledFuncs s)).1, sent := s.sent ++ (fireAll s (enabledFuncs s)).2 }

/-- The end of every command: the effect on the state, then what the interrupt tree sends. -/
def done (s : State) : Host.Outcome State Fault Refusal := .next (settle s)

/-- Commands are accepted and the engines run: READY, or the test state with training done (R413,
R452). -/
def State.live (s : State) : Bool := s.mode == .ready || s.mode == .test

/-- What leaves the device on PCIe. -/
def Sent.onPcie : Sent → Bool
  | .msix _ _ _ | .bar2Data _ _ | .unsupported | .regData _ _ _ | .regData64 _ _ _ | .hostWrite _ _ _ _ | .hostRead _ _ _
  | .internalError _ => true
  | .fabric _ _ _ | .forwarded _ _ _ _ | .flit _ _ _ | .flitAck _ _ | .flitReplay _ _ | .announce _ _ _ _ | .queueOut _ _ _ | .poisonedRead _ _ | .spdm _ _
  | .pmbus _ | .jtag _ | .served _ _ => false

/-- Packets that the device has sent on PCIe. -/
def packetsSent (s : State) : Nat := (s.sent.filter Sent.onPcie).length

/-- The function exists: the PF, or an enabled VF (R187, R440). -/
def funcExists (s : State) (f : Nat) : Bool := f == 0 || (s.pcie.vfEnable && decide (f ≤ s.pcie.numVfs.toNat))

/-- The rings of a function are served: the device runs, the function exists, and it is in D0 (R413, R440, R450). -/
def State.serves (s : State) (f : Nat) : Bool := s.live && funcExists s f && !inD3 s f

/-- End of a command that acts only under a condition and otherwise changes nothing (log 1). -/
def doneIf (c : Bool) (s t : State) : Host.Outcome State Fault Refusal :=
  if c then done t else done s

end Sys2Proof.Machine
end

