-- ==== Sys2Proof/Machine/Operands.lean ====
section
/-! DEFINITION. The operand forms of the command packets (R256, R274 to R279): header fields, ADDR
fields, reserved bytes, handles, status codes, the opcode table of R279 with the checks 1 to 4 of R258,
and the objects that a command names (R259). -/

namespace Sys2Proof.Machine

/-! ### Status codes (R278) -/

def stOk : Nat := 0x00
def stBusy : Nat := 0x01
def stInvalidOpcode : Nat := 0x02
def stInvalidParameter : Nat := 0x03
def stNotPermitted : Nat := 0x04
def stNoResource : Nat := 0x05
def stNotFound : Nat := 0x06
def stStaleHandle : Nat := 0x07
def stAdmissionRefused : Nat := 0x08
def stModelUnsupported : Nat := 0x09
def stVersionMismatch : Nat := 0x0A
def stModelFetchFailed : Nat := 0x0B
def stFabricUnreachable : Nat := 0x0C
def stPoisonedData : Nat := 0x0D
def stContextTornDown : Nat := 0x0E
def stPartitionReset : Nat := 0x0F
def stAborted : Nat := 0x10
def stSecurityDenied : Nat := 0x11
def stTimeout : Nat := 0x12
def stIntegrityFailed : Nat := 0x13

/-! ### The packet (R256) -/

/-- The `n`-byte field of a packet at an offset from its first byte (R274). -/
def Cmd.f (c : Cmd) (off n : Nat) : Nat := rd c.packet off n
def Cmd.opcode (c : Cmd) : Nat := c.f 0 1
def Cmd.flags (c : Cmd) : Nat := c.f 1 1
def Cmd.fenceBefore (c : Cmd) : Bool := bitAt c.flags 0
def Cmd.completion (c : Cmd) : Bool := bitAt c.flags 1
def Cmd.interrupt (c : Cmd) : Bool := bitAt c.flags 2
def Cmd.force (c : Cmd) : Bool := bitAt c.flags 3
def Cmd.length (c : Cmd) : Nat := c.f 2 2
def Cmd.tag (c : Cmd) : Nat := c.f 4 2
def Cmd.partition (c : Cmd) : Nat := c.f 6 2
def Cmd.object (c : Cmd) : Nat := c.f 8 4
def Cmd.sequence (c : Cmd) : Nat := c.f 12 4

/-- Every parameter byte outside the listed fields (offset and size) is zero (R13, R274). -/
def Cmd.only (c : Cmd) (fs : List (Nat × Nat)) : Bool :=
  (upTo c.packet.length).all fun i =>
    decide (i < 16) || fs.any (fun q => decide (q.1 ≤ i ∧ i < q.1 + q.2)) || c.packet.getD i 0 == 0

/-! ### Handles (R152, R234) -/

def streamIndex (h : Nat) : Nat := bits h 13 0
def streamPart (h : Nat) : Nat := bits h 20 14
def streamGen (h : Nat) : Nat := bits h 31 21
def modelIndex (h : Nat) : Nat := bits h 15 0
def modelPart (h : Nat) : Nat := bits h 22 16
def modelGen (h : Nat) : Nat := bits h 31 23

/-- Current handle generation of a stream index, 1 to 2,047 (R153). -/
def State.streamGenOf (s : State) (i : Nat) : Nat := tabGet 0 s.streamGens i % 2047 + 1
/-- Current handle generation of a registration index, 1 to 511 (R234). -/
def State.modelGenOf (s : State) (i : Nat) : Nat := tabGet 0 s.modelGens i % 511 + 1

/-- The handle of an open stream (R152). -/
def State.streamHandle (s : State) (i : Nat) : Nat :=
  i + 2 ^ 14 * (s.stream i).part + 2 ^ 21 * s.streamGenOf i
/-- The handle of a registration (R234). -/
def State.modelHandle (s : State) (i : Nat) : Nat :=
  i + 2 ^ 16 * (s.model i).part + 2 ^ 23 * s.modelGenOf i

/-- A registration exists at an index: it holds an identity. -/
def ModelReg.used (r : ModelReg) : Bool := !r.identity.isEmpty

/-- The handle checks of R154: the status of the first check that fails. -/
def checkStream (s : State) (fn part h : Nat) : Option Nat :=
  if !ownsPart s fn (streamPart h) then some stNotPermitted
  else if part ≠ streamPart h then some stInvalidParameter
  else if (s.stream (streamIndex h)).isOpen && (s.stream (streamIndex h)).part == part
      && s.streamGenOf (streamIndex h) == streamGen h then none
  else some stStaleHandle

/-- The handle checks of R234, in the order of R154. -/
def checkModel (s : State) (fn part h : Nat) : Option Nat :=
  if !ownsPart s fn (modelPart h) then some stNotPermitted
  else if part ≠ modelPart h then some stInvalidParameter
  else if (s.model (modelIndex h)).used && (s.model (modelIndex h)).part == part
      && s.modelGenOf (modelIndex h) == modelGen h then none
  else some stStaleHandle

/-! ### The opcode table (R279) -/

/-- Who may issue an opcode. -/
inductive Issuer where
  | any
  | pf
  | owner
  | portOwner
deriving DecidableEq, Repr

/-- What the PARTITION field must hold. -/
inductive PartField where
  | device
  | number
  | either
  | byPort
deriving DecidableEq, Repr

/-- A row of R279: issuer, LENGTH (`none` for RUN), PARTITION and whether OBJECT must be 0. -/
structure OpRow where
  issuer : Issuer
  length : Option Nat
  part : PartField
  zeroObject : Bool

def opRow : Nat → Option OpRow
  | 0x00 => some ⟨.any, some 1, .either, true⟩
  | 0x01 => some ⟨.any, some 2, .either, true⟩
  | 0x02 => some ⟨.any, some 2, .device, true⟩
  | 0x03 => some ⟨.any, some 2, .either, true⟩
  | 0x10 => some ⟨.pf, some 3, .device, true⟩
  | 0x11 => some ⟨.pf, some 1, .number, true⟩
  | 0x12 => some ⟨.pf, some 2, .number, true⟩
  | 0x13 => some ⟨.pf, some 1, .number, true⟩
  | 0x14 => some ⟨.owner, some 2, .number, true⟩
  | 0x15 => some ⟨.owner, some 1, .number, true⟩
  | 0x16 => some ⟨.pf, some 2, .device, true⟩
  | 0x20 => some ⟨.owner, some 5, .number, true⟩
  | 0x21 => some ⟨.owner, some 1, .number, false⟩
  | 0x22 => some ⟨.owner, some 2, .number, false⟩
  | 0x23 => some ⟨.owner, some 2, .number, false⟩
  | 0x24 => some ⟨.owner, some 2, .number, false⟩
  | 0x25 => some ⟨.owner, some 2, .number, false⟩
  | 0x30 => some ⟨.owner, some 5, .number, true⟩
  | 0x31 => some ⟨.owner, some 1, .number, false⟩
  | 0x32 => some ⟨.owner, some 2, .number, false⟩
  | 0x33 => some ⟨.owner, some 2, .number, false⟩
  | 0x34 => some ⟨.owner, none, .number, false⟩
  | 0x35 => some ⟨.owner, some 3, .number, false⟩
  | 0x36 => some ⟨.owner, some 5, .number, false⟩
  | 0x37 => some ⟨.owner, some 2, .number, false⟩
  | 0x38 => some ⟨.owner, some 4, .number, false⟩
  | 0x39 => some ⟨.owner, some 3, .number, true⟩
  | 0x40 => some ⟨.portOwner, some 4, .byPort, false⟩
  | 0x41 => some ⟨.owner, some 2, .number, false⟩
  | 0x42 => some ⟨.portOwner, some 2, .byPort, false⟩
  | 0x43 => some ⟨.portOwner, some 1, .byPort, false⟩
  | 0x44 => some ⟨.any, some 6, .device, true⟩
  | 0x50 => some ⟨.owner, some 3, .number, false⟩
  | 0x51 => some ⟨.owner, some 2, .number, true⟩
  | 0x52 => some ⟨.owner, some 3, .number, true⟩
  | 0x53 => some ⟨.any, some 2, .device, true⟩
  | 0x60 => some ⟨.pf, some 2, .device, true⟩
  | 0x61 => some ⟨.any, some 1, .either, true⟩
  | 0x70 => some ⟨.any, some 4, .device, true⟩
  | 0x71 => some ⟨.pf, some 2, .device, true⟩
  | 0x72 => some ⟨.pf, some 1, .device, true⟩
  | 0x73 => some ⟨.pf, some 4, .device, true⟩
  | 0x80 => some ⟨.pf, some 3, .device, true⟩
  | 0x81 => some ⟨.pf, some 3, .device, true⟩
  | 0x82 => some ⟨.pf, some 2, .device, true⟩
  | _ => none

/-- LENGTH that a packet requires: for RUN it follows from MARKS (R274, R299). -/
def lengthOk (c : Cmd) (r : OpRow) : Bool :=
  match r.length with
  | some n => c.length == n
  | none => decide (4 ≤ c.length) && c.length == 4 + cdiv (c.f 25 1) 2

/-- Opcodes that the PF may issue for any partition (R189). -/
def pfAnyPart (op : Nat) : Bool := op == 0x11 || op == 0x12 || op == 0x13

/-- Check 4 of R258, with R279 and R301. -/
def partFieldOk (s : State) (c : Cmd) (r : OpRow) : Bool :=
  let k := c.partition
  let owned := ownsPart s c.fn k || (c.fn == 0 && pfAnyPart c.opcode && (s.part k).valid)
  match r.part with
  | .device => k == 0xFFFF
  | .number => k != 0xFFFF && owned
  | .either => k == 0xFFFF || owned
  | .byPort =>
    (c.fn == 0 && (k == 0xFFFF || (s.part k).valid)) ||
    (k == (s.port (c.object % 16)).owner.toNat && ownsPart s c.fn k)

/-- Checks 1 to 4 of R258, then the reserved OBJECT of R279: the status of the first that fails. -/
def packetCheck (s : State) (c : Cmd) : Option Nat :=
  match opRow c.opcode with
  | none => some stInvalidOpcode
  | some r =>
    if bits c.flags 7 4 ≠ 0 || !lengthOk c r then some stInvalidParameter
    else if r.issuer = .pf && !(c.fn == 0 && c.ring == 0) then some stNotPermitted
    else if !partFieldOk s c r then some stNotPermitted
    else if r.zeroObject && c.object ≠ 0 then some stInvalidParameter
    else none

/-! ### Named objects (R259, R279) -/

/-- An object that a command names. -/
inductive Obj where
  | part (k : Nat)
  | prism (p : Nat)
  | share
  | model (i : Nat)
  | stream (i : Nat)
  | group (k g : Nat)
  | port (p : Nat)
  | cap
  | firmware
  | ownerKey
  | test (target index : Nat)
deriving DecidableEq, Repr

/-- The objects that a command names besides FENCE's (R279). -/
def Cmd.names (c : Cmd) : List Obj :=
  match c.opcode with
  | 0x00 | 0x03 | 0x61 => if c.partition = 0xFFFF then [] else [.part c.partition]
  | 0x10 => (maskBits 128 (c.f 16 16)).map .prism
  | 0x11 | 0x12 | 0x13 | 0x14 | 0x15 | 0x20 | 0x50 | 0x51 | 0x52 => [.part c.partition]
  | 0x16 => [.share]
  | 0x21 | 0x22 | 0x23 | 0x24 | 0x25 => [.model (modelIndex c.object)]
  | 0x30 => .group c.partition (c.f 34 2) ::
      ((upTo 4).map fun i => c.f (16 + 4 * i) 4).filterMap fun h => if h = 0 then none else some (.model (modelIndex h))
  | 0x31 | 0x32 | 0x33 | 0x35 | 0x36 | 0x37 | 0x38 => [.stream (streamIndex c.object)]
  | 0x34 => if c.members.isEmpty then [.stream (streamIndex c.object)] else c.members.map .stream
  | 0x39 => [.group c.partition (c.f 16 2)]
  | 0x40 | 0x42 | 0x43 => [.port (c.object % 16)]
  | 0x41 => .stream (streamIndex c.object) :: (if c.f 16 1 = 1 then [.port (c.f 17 1)] else [])
  | 0x44 => ((upTo 16).filter fun p => c.f (32 + 4 * p) 4 ≠ 0).map .port
  | 0x60 => [.cap]
  | 0x71 | 0x72 => [.firmware]
  | 0x73 => [.ownerKey]
  | 0x80 => [.test (c.f 16 1) (c.f 17 1)]
  | 0x81 => if c.f 16 1 = 2 then [.prism (c.f 17 1)] else [.test (0x10 + c.f 16 1) (c.f 17 1)]
  | 0x82 => [.test (if c.f 16 1 < 2 then c.f 16 1 else c.f 16 1 + 1) (c.f 17 1)]
  | _ => []

/-- An object is a stream. -/
def Obj.isStream : Obj → Bool
  | .stream _ => true
  | _ => false

/-- Two commands name a common object. While the member list of a RUN is being read, the RUN may name any stream of
its partition (R259). -/
def Cmd.common (c e : Cmd) : Bool :=
  (c.names.any fun o => e.names.contains o) ||
  ((c.listing || e.listing) && c.partition == e.partition && c.names.any Obj.isStream && e.names.any Obj.isStream)

/-- Place of a command in the order of acceptance: the control cycle of 2 ns, then function and ring (R261). -/
def Cmd.order (c : Cmd) : Nat := c.accepted / 2 * 1024 + 16 * c.fn + c.ring

/-- The device accepted e before c (R261). -/
def Cmd.before (e c : Cmd) : Bool := decide (e.order < c.order ∨ (e.order = c.order ∧ e.cid < c.cid))

/-- The command has begun to act: for a RUN, it is queued at the culet. -/
def acted (s : State) (c : Cmd) : Bool := c.started.isSome || (s.runOf c.cid).isSome

/-- The command has taken effect as far as commands of other rings wait for it: it has begun to act and waits for no run,
and a COPY or a command whose structures are on their way has done so when it completes (R261). -/
def effected (s : State) (c : Cmd) : Bool :=
  acted s c && c.opcode != 0x52 && c.wanting == 0 && c.waitStream.isNone

/-- An earlier command e holds command c (R259 to R261, R281, R315). On one ring, a command that names
a common object waits for the earlier one to complete, but a RUN queues behind a RUN; across rings it
waits until the earlier one has taken effect. FW_ACTIVATE holds every later command from its acceptance. -/
def holds (s : State) (e c : Cmd) : Bool :=
  let fence := c.opcode == 0x01
  e.opcode == 0x72 ||
  if e.fn = c.fn && e.ring = c.ring && !e.orphaned then
    c.fenceBefore || fence || e.opcode == 0x01 ||
    (c.common e && (if c.opcode = 0x34 && e.opcode = 0x34 then !acted s e else true))
  else
    (fence && c.f 16 1 == 1 && decide (e.fn = c.fn) && !e.orphaned) || (c.common e && !effected s e)

/-- Some command accepted earlier holds c. -/
def blocked (s : State) (c : Cmd) : Bool :=
  (s.cmds.filter fun e => e.before c).any fun e => holds s e c

/-- A command was accepted before the one numbered `cid`. -/
def beforeCid (s : State) (e : Cmd) (cid : Nat) : Bool :=
  match s.cmd cid with
  | some c => e.before c
  | none => decide (e.cid < cid)

end Sys2Proof.Machine
end

