-- ==== Sys2Proof/Machine/Complete.lean ====
section
/-! DEFINITION. Completion of commands (R262 to R264, R277) and the guard under which a packet opcode
row acts on its accepted command. -/

namespace Sys2Proof.Machine

/-- The completion entry of a command (R263). -/
def cplEntry (s : State) (c : Cmd) (status detail result : Nat) : CplEntry :=
  let m := 0xFFFFFFFF
  let start := c.started.getD s.now
  { tag := c.tag, opcode := c.opcode, sq := c.ring, status := status, detail := detail % 2 ^ 16,
    result := result % 2 ^ 64, waitNs := min (start - c.bellCycle) m, runNs := min (s.now - start) m,
    sequence := c.sequence, signalled := c.interrupt || decide (status ≠ 0) }

/-- An entry joins the completion coalescer of its ring (R264, R267, R384); a ring that is disabled or
stopped by RESET discards it (R271). -/
def postEntry (s : State) (fn cq : Nat) (e : CplEntry) : State :=
  if (s.ring fn cq).cqEnable then
    s.modRing fn cq fun q =>
      { q with
        coalescer := q.coalescer ++ [{ e with since := s.now }]
        coTimer := if q.coalescer.isEmpty then s.now else q.coTimer }
  else s

/-- A command completes: it leaves the accepted commands, its reservation goes, and it posts an entry
when COMPLETION is set or its status is not OK, unless a reset has discarded it (R262, R264, R271). -/
def finish (s : State) (cid status detail result : Nat) : State :=
  match s.cmd cid with
  | none => s
  | some c =>
    let s1 := { s with
      cmds := s.cmds.filter (fun e => decide (e.cid ≠ cid))
      runs := s.runs.filter (fun r => decide (r.cid ≠ cid)) }
    if (c.completion || decide (status ≠ 0)) && !c.orphaned then postEntry s1 c.fn c.cq (cplEntry s c status detail result)
    else s1

/-- Complete with a status and nothing else (R277). -/
def fail (s : State) (cid status : Nat) : State := finish s cid status 0 0

/-- Complete a list of commands with one status, in order. -/
def finishAll (s : State) (status : Nat) : List Nat → State
  | [] => s
  | c :: cs => finishAll (fail s c status) status cs

/-- The row of an opcode acts on an accepted command: it has that opcode, nothing holds it, and it has
not begun, or it goes on after its structures have arrived or after the run it waits for (log 15). It begins after the
control cycle of its acceptance, so that every command accepted on that cycle is ordered first (R261, log 36). A command
that has not started waits for every FW_ACTIVATE accepted before it (R315). -/
def ready (s : State) (c : Cmd) (op : Nat) : Bool :=
  s.live && c.opcode == op && !c.held &&
  (if acted s c then c.resume || c.waitStream.isSome else decide (c.accepted / 2 < s.now / 2) && !blocked s c) &&
  (c.started.isSome || !((s.cmds.filter fun e => e.before c).any fun e => e.opcode == 0x72))

/-- Mark a command started (R263, R270). -/
def begin' (s : State) (cid : Nat) : State :=
  s.modCmd cid fun c =>
    { c with started := if c.started.isNone then some s.now else c.started, resume := false }

/-- The row of a packet opcode: it acts on its command when that is ready, and otherwise changes
nothing (log 15). -/
def onCmd (s : State) (cid op : Nat) (act : Cmd → State → State) : Host.Outcome State Fault Refusal :=
  match s.cmd cid with
  | none => done s
  | some c => if ready s c op then done (act c (begin' s cid)) else done s

end Sys2Proof.Machine
end

