-- ==== Sys2Proof/Machine/FabOut.lean ====
section
/-! DEFINITION. Requests that the vertex issues (R364 to R366, R370, R373 to R375), and the structures
that a command reads from or writes to memory of this or another device (R275, R276, R358). -/

namespace Sys2Proof.Machine

/-! ### Routing and issue -/

/-- The port on which a request to device d leaves, if any; the entry of the device's own number is ignored (R365). -/
def routePort (s : State) (d : Nat) : Option Nat :=
  let r := (tabGet 0 s.vertex.routes d).toNat
  let up (p : Nat) := (s.fabPort p).trained
  if d = s.ident.number.toNat then none
  else if bitAt r 3 && up (bits r 2 0) then some (bits r 2 0)
  else if bitAt r 7 && up (bits r 6 4) then some (bits r 6 4)
  else none

/-- A destination is marked unreachable (R374). -/
def unreachable (s : State) (d : Nat) : Bool :=
  (tabGet 0 s.vertex.unreachable (d / 32)).getLsbD (d % 32)

/-- FABRIC_TIMEOUT_US as it acts (R378). -/
def fabricTimeoutUs (s : State) : Nat := min 20000 (max 100 s.vertex.timeoutUs.toNat)

/-- HOP_LIMIT as it acts (R378). -/
def hopLimit (s : State) : Nat := max 1 s.vertex.hopLimit.toNat

/-- Virtual channel of a request (R364). -/
def vcOf (type : Nat) (model : Bool) : Nat :=
  if type = 5 ∨ type = 6 then 0 else if type = 4 ∨ model then 1 else if type = 7 then 3 else 2

/-- A request to d on a channel waits while another request to d on that channel, issued on another
port, has no answer (R366). -/
def mustHold (s : State) (d vc port : Nat) : Bool :=
  s.vertex.reqs.any fun q => q.dest == d && q.vc == vc && (q.heldBack || q.port != port)

/-- What a request carries besides its type and destination. -/
structure ReqBody where
  address : Nat := 0
  length : Nat := 0
  sinkId : Nat := 0
  generation : Nat := 0
  sink : Bool := false
  poison : Bool := false
  data : Bytes := []

/-- The header of a request (R370). -/
def reqHdr (s : State) (vc dest tag : Nat) (b : ReqBody) : FabHdr :=
  { vc := vc, hops := hopLimit s, source := s.ident.number.toNat, dest := dest,
    minor := s.vertex.protoMinor.toNat, status := 0, tag := tag, length := b.length,
    address := b.address, sinkId := b.sinkId, generation := b.generation, sink := b.sink, poison := b.poison }

/-- Issue a request; `false` when it completes at once with FABRIC_UNREACHABLE (R365, R375). A held
request leaves later (R366). -/
def issueReq (s : State) (type dest : Nat) (model : Bool) (b : ReqBody) (why : ReqPurpose) : State × Bool :=
  if unreachable s dest then (s, false)
  else match routePort s dest with
  | none => (s, false)
  | some p =>
    let vc := vcOf type model
    let tag := s.vertex.nextTag
    let hold := mustHold s dest vc p
    let h := reqHdr s vc dest tag b
    let q : FabReq := { tag := tag, type := type, dest := dest, vc := vc, port := p, since := s.now,
                        purpose := why, heldBack := hold, hdr := h, data := b.data }
    let s1 := { s with vertex := { s.vertex with
      reqs := s.vertex.reqs ++ [q], nextTag := (tag + 1) % 2 ^ 32 } }
    (if hold then s1 else s1.emit (.fabric type h b.data), true)

/-- The pieces of `n` bytes from `a` that lie within one 4 KiB block each (R371); the first argument
bounds their number. -/
def blocksN : Nat → Nat → Nat → List (Nat × Nat)
  | 0, _, _ => []
  | k + 1, a, n => if n = 0 then [] else
    let m := min n (4096 - a % 4096)
    (a, m) :: blocksN k (a + m) (n - m)

def blocks (a n : Nat) : List (Nat × Nat) := blocksN (n / 4096 + 2) a n

/-- Issue one READ per piece; `false` when one completes at once with FABRIC_UNREACHABLE. -/
def issueReads (s : State) (v : Nat) (why : Nat → ReqPurpose) : List (Nat × Nat) → State × Bool
  | [] => (s, true)
  | (a, n) :: r =>
    let q := issueReq s 1 (addrDevice v) false { address := a, length := n } (why a)
    if q.2 then issueReads q.1 v why r else (q.1, false)

/-- Issue one WRITE per piece; `false` when one completes at once with FABRIC_UNREACHABLE. -/
def issueWrites (s : State) (dest base : Nat) (data : Bytes) (b : ReqBody) (why : ReqPurpose) :
    List (Nat × Nat) → State × Bool
  | [] => (s, true)
  | (a, n) :: r =>
    let q := issueReq s 2 dest false { b with address := a, length := n, data := slice data (a - base) n } why
    if q.2 then issueWrites q.1 dest base data b why r else (q.1, false)

/-! ### Structures of a command -/

/-- The bytes that a command has fetched from a fabric address on, if all have arrived. -/
def assemble (fs : List (Nat × Bytes)) : List (Nat × Nat) → Option Bytes
  | [] => some []
  | (a, n) :: r =>
    match fs.find? (fun q => q.1 == a && q.2.length == n), assemble fs r with
    | some q, some rest => some (q.2 ++ rest)
    | _, _ => none

/-- A command reads `n` bytes at an ADDR and goes on with them (R276, R358). Bytes on another device
are requested first, and the command goes on when its row comes again (log 15). -/
def withStruct (s : State) (c : Cmd) (v n : Nat) (geodeOk : Bool) (k : State → Bytes → State) : State :=
  if !addrValid v then fail s c.cid stInvalidParameter
  else if !mayName s c.fn v n geodeOk then fail s c.cid stNotPermitted
  else if memLooped s v n then fail s c.cid stBusy
  else if addrRemote s v then
    match assemble c.fetched (blocks (addrBits v) n) with
    | some b => k s b
    | none =>
      let ps := blocks (addrBits v) n
      let q := issueReads s v (fun a => .structRead c.cid a) ps
      if q.2 then q.1.modCmd c.cid fun e => { e with wanting := e.wanting + ps.length }
      else fail q.1 c.cid stFabricUnreachable
  else
    let r := addrRead s v n
    let s1 := addrReadEff s c.fn v n
    if r.2 then fail s1 c.cid stPoisonedData else k s1 r.1

/-- A command writes a structure at an ADDR and completes (R276). -/
def writeOut (s : State) (c : Cmd) (v : Nat) (b : Bytes) (status detail result : Nat) : State :=
  if memLooped s v b.length then fail s c.cid stBusy
  else if addrRemote s v then
    let ps := blocks (addrBits v) b.length
    let q := issueWrites s (addrDevice v) (addrBits v) b {} (.structWrite c.cid) ps
    if q.2 then
      q.1.modCmd c.cid fun e => { e with wanting := e.wanting + ps.length, final := some (status, detail, result) }
    else fail q.1 c.cid stFabricUnreachable
  else
    let w := addrWrite s c.fn v b false
    if w.2 then finish w.1 c.cid status detail result else fail w.1 c.cid stPoisonedData

/-- A command writes a structure into a destination of `size` bytes (R276). -/
def writeSized (s : State) (c : Cmd) (v size : Nat) (b : Bytes) (result : Nat) : State :=
  if !addrValid v then fail s c.cid stInvalidParameter
  else if !mayName s c.fn v size false then fail s c.cid stNotPermitted
  else if size < b.length then finish s c.cid stNoResource 0 b.length
  else writeOut s c v b stOk 0 result

end Sys2Proof.Machine
end

