-- ==== Sys2Proof/WellFormed.lean ====
section
/-! DEFINITION. Which commands name something that the block has: functions 0 to 63, ring pairs 0 to
15, facets 0 to 2,047, prisms and partitions 0 to 127, ports 0 to 15, fabric ports 0 to 7 and the other
ranges of the rules. A command that is not well formed leaves the block as it is (log 25). -/

namespace Sys2Proof

/-- Well-formed bandwidth requests: a partition and a virtual channel. -/
def BwReq.wf (r : BwReq) : Bool := decide (r.partition < 128 ∧ r.vc < 4)

/-- An offset below 256 MiB, or a register of configuration space. -/
def RegTarget.wf : RegTarget → Bool
  | .bar0 off _ => decide (off < 2 ^ 28)
  | .config (.bar i) => decide (i < 6)
  | .config _ => true

/-- Every operand of the command names something that the block has. -/
def Instr.wf : Instr → Bool
  | .sqTailWrite f r _ => decide (f < 64 ∧ r < 16)
  | .packetAccept f r => decide (f < 64 ∧ r < 16)
  | .cqHeadWrite f r _ => decide (f < 64 ∧ r < 16)
  | .sqEnable f r _ => decide (f < 64 ∧ r < 16)
  | .cqEnable f r _ => decide (f < 64 ∧ r < 16)
  | .abort f r => decide (f < 64 ∧ r < 16)
  | .abortDone f r => decide (f < 64 ∧ r < 16)
  | .ringReset f r => decide (f < 64 ∧ r < 16)
  | .completionBurstWrite f r _ => decide (f < 64 ∧ r < 16)
  | .coalesceTimeExpiry f r => decide (f < 64 ∧ r < 16)
  | .queueTailTimeout c i => decide (c < 10 ∧ i < 65536)
  | .dropPacket c i => decide (c < 10 ∧ i < 65536)
  | .queueItemWrite c i _ => decide (c < 10 ∧ i < 65536)
  | .registerWrite f t _ _ => decide (f < 64) && t.wf
  | .regLowWordRead f a => decide (f < 64 ∧ a.off < 2 ^ 28)
  | .intArm f _ => decide (f < 64)
  | .msixUnmask f => decide (f < 64)
  | .acctClear f p _ => decide (f < 64 ∧ p < 128)
  | .localRangeWrite i _ _ => decide (i < 256)
  | .unreachableClear i _ => decide (i < 32)
  | .inject c _ => decide (c < 10)
  | .kernelStart f => decide (f < 2048)
  | .kernelEnd f _ => decide (f < 2048)
  | .kernelPoisonFault f _ => decide (f < 2048)
  | .watchdog f _ => decide (f < 2048)
  | .teardownComplete p _ => decide (p < 128)
  | .partitionFault p _ => decide (p < 128)
  | .partitionResetDone p => decide (p < 128)
  | .deviceFatalFault c l => decide (1 ≤ c ∧ c ≤ 6 ∧ l < 256)
  | .latticeTick p => decide (p < 128)
  | .latticeSwitchInstant p => decide (p < 128)
  | .fill p f => decide (p < 128 ∧ f < 2048)
  | .stateFetchBackDone s => decide (s < 16384)
  | .modelPlacementDone p m => decide (p < 128 ∧ m < 65536)
  | .modelT1CopyDone m => decide (m < 65536)
  | .stagedFetchLand p s _ _ => decide (p < 128 ∧ s < 16384)
  | .prismZeroingDone p => decide (p < 128)
  | .checkpointWrite s _ => decide (s < 16384)
  | .migrateAck s _ _ _ _ => decide (s < 16384)
  | .migrateAckTimeout s => decide (s < 16384)
  | .stateCopyOutDone s => decide (s < 16384)
  | .jumpPrepare p f _ => decide (p < 128 ∧ f < 16)
  | .arbitrationRound rs => rs.all BwReq.wf
  | .sinkWriteTx p s _ => decide (p < 16 ∧ s < 32)
  | .portFrameBoundary p _ _ _ => decide (p < 16)
  | .portArmAction p => decide (p < 16)
  | .prerollEnd p => decide (p < 16)
  | .portArmTimeout p => decide (p < 16)
  | .startInEdge p => decide (p < 16)
  | .portStopAction p => decide (p < 16)
  | .postrollEnd p => decide (p < 16)
  | .portCommit p => decide (p < 16)
  | .clockLost p => decide (p < 16)
  | .clockReturned p _ _ => decide (p < 16)
  | .linkDown p => decide (p < 8)
  | .linkTrainAttempt p => decide (p < 8)
  | .linkUp p w ma mi d q => decide (p < 8 ∧ w < 3 ∧ ma < 256 ∧ mi < 256 ∧ d < 1024 ∧ q < 8)
  | .versionAnnounce p ma mi => decide (p < 8 ∧ ma < 256 ∧ mi < 256)
  | .flitArrival p _ _ _ => decide (p < 8)
  | .functionLevelReset f => decide (f < 64)
  | .d3hotToD0 f => decide (f < 64)
  | .d3hotEntry f => decide (f < 64)
  | .vfEnableSet n => decide (n < 64)
  | .pmuControlStep ts => decide (ts.length = 64) && ts.all fun t => decide (-128 ≤ t ∧ t ≤ 127)
  | .thermtrip t => decide (-128 ≤ t ∧ t ≤ 127)
  | .lostLock l k _ => decide (l.lane < 32 ∧ k.lane = l.lane)
  | .bar2Access _ w n b _ => !w || b.length == n
  | .prismGate p => decide (p < 128)
  | .prismWake p => decide (p < 128)
  | .checkerLock l _ => decide (l.lane < 32)
  | .nop _ | .fence _ | .deviceQuery _ | .countersRead _ | .partitionCreate _ | .partitionDestroy _
  | .partitionYield _ | .partitionReset _ | .latticeLoad _ | .latticeSwitch _ | .shareTableLoad _
  | .modelRegister _ | .modelPrefetch _ | .modelPin _ | .modelUnpin _ | .modelEvict _ | .modelQuery _
  | .streamOpen _ | .streamClose _ | .streamSeed _ | .streamReset _ | .run _ | .stateSave _
  | .stateRestore _ | .stateEvict _ | .streamMigrate _ | .checkpointSet _ | .portConfig _ | .portBind _
  | .portArm _ | .portStop _ | .alignGroupSet _ | .windowExport _ | .windowImport _ | .copy _
  | .fabricStatus _ | .powerCapSet _ | .powerQuery _ | .attest _ | .fwStage _ | .fwActivate _
  | .keyProvision _ | .linkPattern _ | .memoryTest _ | .loopback _ | .deferredCommandStart _
  | .runComplete _ | .imageCopyDone _ => true
  | .globalLock _ | .numberValid _ | .resetControlWarm _ | .go _ | .scrubPass _ _ | .read _ | .write _ _
  | .message _ _ | .fetchObject _ _ | .register _ | .deregister _ | .probe _ | .response _ _
  | .fabricForward _ _ _ | .fabricRequestTimeout _ | .probeTimer
  | .pcieCompletionTimeout _ | .l1Entry | .linkWidthChange _ | .vfEnableClear | .spdmRequest _
  | .mctpWarmReset _ | .perstN | .porNAssert | .porNRelease _ _ | .rootPllLock | .firstStageVerified
  | .lpddrTrainingDone _ | .bootReady | .refclkLoss | .refclkReturn | .railSample _ _ _
  | .pmbAlert | .fwActivateTimeout | .debugChallenge | .debugUnlock _ _ | .jtagInstruction _
  | .linkPatternEnd _ | .checkerLockTimeout _ | .memoryTestDone _ | .activateDone | .stageDone
  | .pcieReadCompletion _ _ _ | .perstNRelease | .l1Exit | .pmbAlertRelease => true

end Sys2Proof
end

