-- ==== Sys2Proof/Machine/Rings.lean ====
section
/-! DEFINITION. Command rings and completion (R250 to R273): doorbells, acceptance, deferred starts,
enable, abort and reset of a ring pair, and the writing of completion entries. -/

namespace Sys2Proof.Machine

/-! ### Geometry (R251, R253, R273) -/

/-- Units of the submission ring. A size outside 12 to 24 acts as the nearer limit (log 26). -/
def Ring.units (q : Ring) : Nat := 2 ^ (min 24 (max 12 q.sqLog2.toNat) - 4)
/-- Entries of the completion ring. -/
def Ring.entries (q : Ring) : Nat := 2 ^ (min 24 (max 12 q.cqLog2.toNat) - 5)
/-- Units that are pending (R253). -/
def Ring.pending (q : Ring) : Nat := (q.sqTail.toNat + q.units - q.sqHead.toNat) % q.units
/-- LOCAL bit of a ring base (R273). -/
def baseLocal (b : Word64) : Bool := b.getLsbD 0
/-- Start of a ring (R273). -/
def baseAddr (b : Word64) : Nat :=
  let a := b.toNat / 4096 * 4096
  if baseLocal b then a % 2 ^ 42 else a

/-- Read bytes of a ring: poisoned where the function may not address them (R356 to R358, log 27). -/
def ringRead (s : State) (f : Nat) (loc : Bool) (a n : Nat) : Bytes × Bool :=
  if loc then
    if inOwnRange s f a n || inOwnWindow f a n then localRead s a n else (zeros n, true)
  else (readBytes s.hostMem a n, anyPoison s.hostPoison a n)

/-- `n` units from unit `u`, wrapping past the end of the ring (R253). -/
def readUnits (s : State) (f : Nat) (q : Ring) (u n : Nat) : Bytes × Bool :=
  let rs := (upTo n).map fun i => ringRead s f (baseLocal q.sqBase) (baseAddr q.sqBase + 16 * ((u + i) % q.units)) 16
  (rs.flatMap (·.1), rs.any (·.2))

/-- A ring error (R257). -/
def ringError (s : State) (f r code unit : Nat) : State :=
  s.modRing f r fun q =>
    { q with error := true, errorCode := BitVec.ofNat 8 code, errorHead := BitVec.ofNat 20 unit,
             cause := setBit q.cause 1, stopped := true }

/-! ### Doorbells -/

/-- A unit read of the ring is outstanding on PCIe. -/
def unitsReading (s : State) (f r : Nat) : Bool :=
  s.pcieReads.any fun p => p.purpose == .units f r

/-- A free tag for a device read on PCIe: one of the 256 tags of 8 bits, or, when 10-bit tags are enabled, of the 768
that they add (R441). -/
def nextPcieTag (s : State) : Option Nat :=
  let base := if s.pcie.tenBitTags then 256 else 0
  (firstBelow (if s.pcie.tenBitTags then 768 else 256) fun i => !s.pcieReads.any fun r => r.tag == base + i).map (base + ·)

/-- Pending units that the device has: those of a ring in local memory, and those that reads have brought from host
memory (R255, log 7). -/
def Ring.here (q : Ring) : Nat := if baseLocal q.sqBase then q.pending else min q.unitsIn q.pending

/-- The first pending unit that no read has brought. -/
def Ring.nextUnit (q : Ring) : Nat := (q.sqHead.toNat + q.unitsIn) % q.units

/-- The ring takes packets: it is enabled, not stopping, not stopped by an error, and its function exists
and is in D0; the ROM of the test state serves the admin ring only (R257, R269 to R271, R440, R450, R452). -/
def accepting (s : State) (f r : Nat) : Bool :=
  let q := s.ring f r
  s.serves f && q.sqEnable && !q.abort && !q.reset && !q.stopped &&
  (s.mode == .ready || (f == 0 && r == 0))

/-- The device asks for the next pending units of a ring in host memory that takes packets: up to 4 KiB, or
Max_Read_Request_Size, and not past the ring's end, where the next read begins again at its start (R253, R270, R441,
log 7). Without a free tag it asks later. -/
def askUnits (s : State) (f r : Nat) : State :=
  let q := s.ring f r
  if !accepting s f r || baseLocal q.sqBase || decide (q.pending ≤ q.unitsIn) || unitsReading s f r then s
  else match nextPcieTag s with
  | none => s
  | some t =>
    let n := min (min (16 * (q.pending - q.unitsIn)) (16 * (q.units - q.nextUnit))) (min 4096 s.pcie.maxRead)
    { s with pcieReads := s.pcieReads ++
        [{ tag := t, fn := f, addr := baseAddr q.sqBase + 16 * q.nextUnit, len := n,
           since := s.now, purpose := .units f r }] }

/-- Reads of units that are outstanding when the ring stops taking packets bring nothing (R255, R269, R270). -/
def staleReads (s : State) (f r : Nat) : State :=
  { s with pcieReads := s.pcieReads.map fun (p : PcieRead) =>
      if p.purpose == .units f r then { p with purpose := .stale } else p }

/-- A read of units brings `n` bytes from an address: they count where they follow what the device has, and the
next units are asked for (R255, R441). -/
def unitsArrive (s : State) (f r addr n : Nat) : State :=
  let q := s.ring f r
  if q.sqEnable && addr == baseAddr q.sqBase + 16 * q.nextUnit then
    askUnits (s.modRing f r fun q => { q with unitsIn := q.unitsIn + n / 16 }) f r
  else askUnits s f r

/-- The link has been used (R437). -/
def State.linkUsed (s : State) : State := { s with pcie := { s.pcie with idleSince := s.now } }

/-- A write of SQ_TAIL (R253, R273). -/
def sqTailEff (s : State) (f r : Nat) (v : Word32) : State :=
  let q := s.ring f r
  let t := bits v.toNat 19 0
  if q.units ≤ t then ringError s f r 6 q.sqHead.toNat
  else
    let s1 := s.modRing f r fun q =>
      { q with sqTail := BitVec.ofNat 20 t, bells := if q.sqEnable then q.bells ++ [(t, s.now)] else q.bells }
    askUnits s1 f r

/-- SQ_TAIL_WRITE (R253). -/
def execSqTailWrite (fn ring : Nat) (value : Word32) (s : State) : Host.Outcome State Fault Refusal :=
  if Instr.wf (.sqTailWrite fn ring value) then
    doneIf (s.serves fn) s (sqTailEff s fn ring value).linkUsed
  else done s

/-- A write of CQ_HEAD (R266). -/
def cqHeadEff (s : State) (f r : Nat) (v : Word32) : State :=
  let q := s.ring f r
  let n := q.entries
  let h := bits v.toNat 18 0
  let span := (q.cqTail.toNat + n - q.cqHead.toNat) % n
  if decide (n ≤ h) || decide (span < (h + n - q.cqHead.toNat) % n) then
    (ringError s f r 7 q.sqHead.toNat).modRing f r fun q => { q with cqStopped := true }
  else s.modRing f r fun q => { q with cqHead := BitVec.ofNat 19 h }

/-- CQ_HEAD_WRITE (R266). -/
def execCqHeadWrite (fn ring : Nat) (value : Word32) (s : State) : Host.Outcome State Fault Refusal :=
  if Instr.wf (.cqHeadWrite fn ring value) then
    doneIf (s.serves fn) s (cqHeadEff s fn ring value).linkUsed
  else done s

/-! ### Acceptance (R254 to R262) -/

/-- Written entries, entries that the coalescer holds and reservations of a completion ring (R262). -/
def cqLoad (s : State) (f r : Nat) : Nat :=
  let q := s.ring f r
  (q.cqTail.toNat + q.entries - q.cqHead.toNat) % q.entries + q.coalescer.length +
  (s.cmds.filter fun c => c.fn == f && c.cq == r && !c.orphaned).length

/-- An entry is free under R262. -/
def cqRoom (s : State) (f r : Nat) : Bool := decide (cqLoad s f r + 1 ≤ (s.ring f r).entries - 1)

/-- Cycle of the doorbell that made a packet of `len` units pending (R263). -/
def bellOf (q : Ring) (len now : Nat) : Nat :=
  ((q.bells.find? fun b => decide (len ≤ (b.1 + q.units - q.sqHead.toNat) % q.units)).map (·.2)).getD now

/-- A table of a RUN at an ADDR of this device or the host: its bytes, and whether the read failed. -/
def snapTable (s : State) (f v n : Nat) : Bytes × Bool :=
  if v = 0 || n = 0 || !addrValid v || addrRemote s v || !mayName s f v n false then ([], false)
  else addrRead s v n

/-- The effect of reading a table of a RUN (R358). -/
def snapTableEff (s : State) (f v n : Nat) : State :=
  if v = 0 || n = 0 || !addrValid v || addrRemote s v || !mayName s f v n false then s else addrReadEff s f v n

/-- Bytes of the mark bitmap (R107). -/
def bitmapBytes (members steps : Nat) : Nat := 2 * members * (32 * cdiv steps 32) / 8

/-- Fields of a RUN packet in range (R299, R13). -/
def runFieldsOk (c : Cmd) : Bool :=
  let n := c.f 16 4
  let m := c.f 22 2
  decide (1 ≤ n ∧ n ≤ 2 ^ 31 ∧ c.f 20 2 ≤ 4096 ∧ 1 ≤ m ∧ m ≤ 16384 ∧ c.f 24 1 ≤ 16 ∧ c.f 25 1 ≤ 8) &&
  c.only [(16, 4), (20, 2), (22, 2), (24, 1), (25, 1), (32, 8), (40, 8), (48, 8), (64, 8 * c.f 25 1)] &&
  (c.f 24 1 == 0) == (c.f 32 8 == 0) && (m == 1 || c.f 40 8 != 0)

/-- Streams that a member list names (R259, R299). -/
def listedStreams (b : Bytes) : List Nat := (chunks 4 b).map fun h => streamIndex (leNat h)

/-- The structures that the culet reads when it accepts a RUN (R259, R299): those on this device and in host memory. -/
def snapRun (s : State) (c : Cmd) : Cmd :=
  let d := snapTable s c.fn (c.f 32 8) (32 * c.f 24 1)
  let m := snapTable s c.fn (c.f 40 8) (4 * c.f 22 2)
  let b := snapTable s c.fn (c.f 48 8) (bitmapBytes (c.f 22 2) (c.f 16 4))
  { c with
    descTable := d.1, memberList := m.1, bitmap := b.1
    members := if m.2 then [] else listedStreams m.1
    readStatus := if d.2 || m.2 || b.2 then stPoisonedData else 0 }

/-- The effect of reading those structures. -/
def snapEff (s : State) (c : Cmd) : State :=
  snapTableEff (snapTableEff (snapTableEff s c.fn (c.f 32 8) (32 * c.f 24 1)) c.fn (c.f 40 8) (4 * c.f 22 2))
    c.fn (c.f 48 8) (bitmapBytes (c.f 22 2) (c.f 16 4))

/-- The culet asks another device for a structure of an accepted RUN (R276, R299). -/
def askTable (s : State) (cid v n : Nat) : State :=
  if v = 0 || n = 0 || !addrValid v || !addrRemote s v then s
  else
    let ps := blocks (addrBits v) n
    let q := issueReads s v (fun a => .structRead cid a) ps
    q.1.modCmd cid fun e =>
      if q.2 then { e with wanting := e.wanting + ps.length } else { e with readStatus := stFabricUnreachable }

/-- The structures of an accepted RUN that lie on other devices; until its member list has come the RUN may name any
stream (R259, R299). -/
def askTables (s : State) (c : Cmd) : State :=
  if c.opcode != 0x34 || (s.cmd c.cid).isNone || !runFieldsOk c then s
  else
    let s1 := askTable (askTable (askTable s c.cid (c.f 40 8) (4 * c.f 22 2)) c.cid (c.f 32 8) (32 * c.f 24 1))
      c.cid (c.f 48 8) (bitmapBytes (c.f 22 2) (c.f 16 4))
    s1.modCmd c.cid fun e => { e with
      listing := c.f 40 8 != 0 && addrValid (c.f 40 8) && addrRemote s (c.f 40 8) && e.readStatus == 0 }

/-- Opcodes that the ROM serves in the test state (R452). -/
def testOpcode (op : Nat) : Bool := [0x00, 0x02, 0x03, 0x80, 0x81, 0x82].contains op

/-- The status of an accepted packet that fails a check at acceptance (R258, R393, R452). -/
def admitStatus (s : State) (c : Cmd) : Option Nat :=
  match packetCheck s c with
  | some st => some st
  | none =>
    if s.mode == .test && !testOpcode c.opcode then some stNotPermitted
    else if decide (c.partition < 128) && (s.part c.partition).resetting.isSome && c.opcode != 0x13 then
      some stPartitionReset
    else none

/-- The accepted packet joins the accepted commands. One that fails a check completes, in its turn when an earlier
command holds it (R258, R259). -/
def admitCmd (s : State) (c : Cmd) : State :=
  let s1 := { s with cmds := s.cmds ++ [c], nextCid := s.nextCid + 1 }
  match admitStatus s c with
  | some st => if blocked s1 c then s1.modCmd c.cid fun e => { e with held := true, refused := some st } else fail s1 c.cid st
  | none => s1.modCmd c.cid fun e => { e with held := blocked s1 c }

/-- The command that a packet of `len` units with bytes `b` makes; of a RUN whose fields are in range the culet reads
the structures (R255, R259, R299). -/
def acceptedCmd (s : State) (f r len : Nat) (b : Bytes) : Cmd :=
  let q := s.ring f r
  let c0 : Cmd := { cid := s.nextCid, fn := f, ring := r, cq := q.cqSelect.toNat, packet := b,
                    bellCycle := bellOf q len s.now, accepted := s.now }
  if c0.opcode = 0x34 && runFieldsOk c0 then snapRun s c0 else c0

/-- Accept the packet at SQ_HEAD, of `len` units (R255). -/
def acceptPacket (s : State) (f r len : Nat) : State :=
  let q := s.ring f r
  let d := readUnits s f q q.sqHead.toNat len
  if d.2 then ringError s f r 2 q.sqHead.toNat
  else
    let c := acceptedCmd s f r len d.1
    let dist (t : Nat) := (t + q.units - q.sqHead.toNat) % q.units
    let s1 := s.modRing f r fun q =>
      { q with sqHead := BitVec.ofNat 20 ((q.sqHead.toNat + len) % q.units)
               bells := q.bells.filter fun b => decide (len < dist b.1), unitsIn := q.unitsIn - len }
    let s2 := if c.opcode = 0x34 && runFieldsOk c then snapEff s1 c else s1
    let s3 := if baseLocal q.sqBase then localReadEff s2 (baseAddr q.sqBase + 16 * q.sqHead.toNat) (16 * len) else s2
    askUnits (askTables (admitCmd s3 c) c) f r

/-- The effect of PACKET_ACCEPT on a ring (R255, R257, R272). -/
def packetAcceptEff (s : State) (f r : Nat) : State :=
  let q := s.ring f r
  if !accepting s f r then s
  else if q.here == 0 then askUnits s f r
  else
    let h := readUnits s f q q.sqHead.toNat 1
    let len := rd h.1 2 2
    if h.2 then ringError s f r 2 q.sqHead.toNat
    else if len = 0 || 64 < len then ringError s f r 1 q.sqHead.toNat
    else if q.here < len || !cqRoom s f q.cqSelect.toNat then s
    else acceptPacket s f r len

/-- PACKET_ACCEPT (R255). -/
def execPacketAccept (fn ring : Nat) (s : State) : Host.Outcome State Fault Refusal :=
  if Instr.wf (.packetAccept fn ring) then done (packetAcceptEff s fn ring) else done s

/-- DEFERRED_COMMAND_START (R259 to R261): a held command that nothing holds any more may act, or completes with the
status of the check that it failed (R258). -/
def execDeferredCommandStart (cid : Nat) (s : State) : Host.Outcome State Fault Refusal :=
  match s.cmd cid with
  | none => done s
  | some c => doneIf (s.live && c.held && !blocked s c) s
      (match c.refused with
       | some st => fail s cid st
       | none => s.modCmd cid fun e => { e with held := false })

/-! ### Enable, abort, reset (R269 to R271) -/

/-- SQ_ENABLE set or cleared (R269). -/
def sqEnableEff (s : State) (f r : Nat) (on : Bool) : State :=
  let q := s.ring f r
  if !on then staleReads (s.modRing f r fun q => { q with sqEnable := false }) f r
  else if q.sqEnable then s
  else if !(s.ring f q.cqSelect.toNat).cqEnable then
    s.modRing f r fun q =>
      { q with error := true, errorCode := 4, cause := setBit q.cause 1 }
  else s.modRing f r fun q => { q with sqEnable := true, sqHead := 0, sqTail := 0, bells := [], unitsIn := 0 }

/-- An enabled submission ring of the function selects completion ring r (R269). -/
def cqSelected (s : State) (f r : Nat) : Bool :=
  (upTo 16).any fun k => (s.ring f k).sqEnable && (s.ring f k).cqSelect.toNat == r

/-- CQ_ENABLE set or cleared (R265, R269). Entries that a disabled ring has not written are discarded
(log 28). -/
def cqEnableEff (s : State) (f r : Nat) (on : Bool) : State :=
  let q := s.ring f r
  if on then
    if q.cqEnable then s
    else s.modRing f r fun q => { q with cqEnable := true, cqTail := 0, cqHead := 0, phase := true, coalescer := [], burst := none }
  else if cqSelected s f r then s
  else s.modRing f r fun q => { q with cqEnable := false, coalescer := [], burst := none }

/-- SQ_ENABLE (R269). -/
def execSqEnable (fn ring : Nat) (on : Bool) (s : State) : Host.Outcome State Fault Refusal :=
  if Instr.wf (.sqEnable fn ring on) then
    doneIf (s.serves fn) s (sqEnableEff s fn ring on).linkUsed
  else done s

/-- CQ_ENABLE (R269). -/
def execCqEnable (fn ring : Nat) (on : Bool) (s : State) : Host.Outcome State Fault Refusal :=
  if Instr.wf (.cqEnable fn ring on) then
    doneIf (s.serves fn) s (cqEnableEff s fn ring on).linkUsed
  else done s

/-- Withdraw every descriptor of a set of commands from the facets and culets. -/
def dropKernels (s : State) (p : Kernel → Bool) : State :=
  { s with
    facets := tabMapV {} s.facets fun _ f =>
      { f with queue := f.queue.filter fun k => !p k, emptied := if f.queue.any p then s.now else f.emptied }
    parts := tabMapV {} s.parts fun _ q => { q with culetQ := q.culetQ.filter fun k => !p k } }

/-- Accepted commands of a ring that have not started, in ring order (R270). -/
def unstarted (s : State) (f r : Nat) : List Nat :=
  (s.cmds.filter fun c => c.fn == f && c.ring == r && c.started.isNone).map (·.cid)

/-- The abort of a submission ring (R270). -/
def abortEff (s : State) (f r : Nat) : State :=
  if (s.ring f r).abort then s
  else
    let s1 := staleReads (s.modRing f r fun q => { q with abort := true }) f r
    let cs := unstarted s1 f r
    finishAll (dropKernels s1 fun k => cs.contains k.cid) stAborted cs

/-- RING_CONTROL.RESET (R271): an abort, which ABORT_DONE follows up. -/
def ringResetEff (s : State) (f r : Nat) : State :=
  (abortEff s f r).modRing f r fun q => { q with reset := true }

/-- ABORT (R270). -/
def execAbort (fn ring : Nat) (s : State) : Host.Outcome State Fault Refusal :=
  if Instr.wf (.abort fn ring) then
    doneIf (s.serves fn) s (abortEff s fn ring).linkUsed
  else done s

/-- RING_RESET (R271). -/
def execRingReset (fn ring : Nat) (s : State) : Host.Outcome State Fault Refusal :=
  if Instr.wf (.ringReset fn ring) then
    doneIf (s.serves fn) s (ringResetEff s fn ring).linkUsed
  else done s

/-- The end of an abort, and of the reset that asked for it: both rings of the pair are disabled and
its unwritten entries discarded (R270, R271). -/
def abortDoneEff (s : State) (f r : Nat) : State :=
  s.modRing f r fun q =>
    let a := { q with sqEnable := false, abort := false, cause := setBit q.cause 2 }
    if q.reset then
      { a with cqEnable := false, coalescer := [], burst := none, cqStopped := false, error := false, errorCode := 0,
               stopped := false, reset := false, cause := setBit a.cause 3 }
    else a

/-- ABORT_DONE (R270): the last accepted command of the ring has completed. -/
def execAbortDone (fn ring : Nat) (s : State) : Host.Outcome State Fault Refusal :=
  if Instr.wf (.abortDone fn ring) then
    doneIf (s.live && (s.ring fn ring).abort &&
      !(s.cmds.any fun c => c.fn == fn && c.ring == ring && !c.orphaned)) s
      (abortDoneEff s fn ring)
  else done s

/-! ### Writing completion entries (R263, R265, R267, R268) -/

/-- The 32 bytes of an entry (R263). -/
def entryBytes (e : CplEntry) (phase : Bool) : Bytes :=
  toLE 2 e.tag ++ toLE 1 e.opcode ++ toLE 1 (b2n phase + 16 * e.sq) ++ toLE 2 e.status ++ toLE 2 e.detail ++
  toLE 8 e.result ++ toLE 4 e.waitNs ++ toLE 4 e.runNs ++ toLE 4 e.sequence ++ zeros 4

/-- Entries of a full burst from CQ_TAIL (R267). -/
def fullBurst (q : Ring) : Nat := min 4 (q.entries - q.cqTail.toNat)

/-- RING_CAUSE.COMPLETION after more signalled entries (R268). -/
def signal (q : Ring) (n now : Nat) : Ring :=
  let k := q.signalled + n
  { q with
    signalled := k
    firstSignalled := if n = 0 then q.firstSignalled else some (q.firstSignalled.getD now)
    cause := if n ≠ 0 && decide (max 1 q.coCount.toNat ≤ k) then setBit q.cause 0 else q.cause }

/-- Write the first `n` entries of the coalescer in one memory write (R265). -/
def writeBurst (s : State) (f r n : Nat) (written : Bool) : State :=
  let q := s.ring f r
  let es := q.coalescer.take n
  let data := es.flatMap fun e => entryBytes e q.phase
  let a := baseAddr q.cqBase + 32 * q.cqTail.toNat
  let w : State × Bool :=
    if !baseLocal q.cqBase then
      (if hostFails s a data.length then (s, false) else (hostStore s f a data false, true))
    else if inOwnRange s f a data.length || inOwnWindow f a data.length then localWrite s a data false
    else (s, false)
  if written && w.2 then
    let t := q.cqTail.toNat + n
    w.1.modRing f r fun q =>
      signal { q with
        cqTail := BitVec.ofNat 19 (t % q.entries)
        phase := if q.entries ≤ t then !q.phase else q.phase
        coalescer := q.coalescer.drop n
        burst := none
        coTimer := s.now } (es.filter (·.signalled)).length s.now
  else (ringError s f r 3 q.sqHead.toNat).modRing f r fun q => { q with cqStopped := true }

/-- Entries may leave: the ring is not stopped and its function exists and is in D0 (R266, R440, R450). -/
def cqFlows (s : State) (f r : Nat) : Bool :=
  s.serves f && (s.ring f r).cqEnable && !(s.ring f r).cqStopped

/-- Stages of a queue: 2 to 64, fixed in the silicon and left open (R380, log 9). -/
def depthOf (c i : Nat) : Nat := 2 + Config.queueDepth c i % 63

/-- The cycle in which entries are written that the coalescer reads from cycle `t` on: one per control cycle of 2 ns,
none before it has reached stage 0 of `n` stages, and the write a cycle after the last (R381, R384). -/
def burstCycle (n t : Nat) (es : List CplEntry) : Nat := es.foldl (fun r e => max (r + 2) (e.since + 2 * n + 2)) t

/-- Entries of the coalescer that are written next, and the cycle of their write: those of the flush in progress, or a
full burst that is present (R267, R384). -/
def burstNext (s : State) (f r : Nat) : Option (Nat × Nat) :=
  let q := s.ring f r
  let n := fullBurst q
  match q.burst with
  | some b => some b
  | none =>
    if q.coalescer.length < n then none
    else some (n, burstCycle (depthOf 3 (16 * f + r)) ((q.coalescer.getD (n - 1) {}).since) (q.coalescer.take n))

/-- The coalescer writes what it has read, when the cycle of the write has come. -/
def burstEff (s : State) (f r : Nat) (written : Bool) : State :=
  match burstNext s f r with
  | none => s
  | some b => if b.2 ≤ s.now then writeBurst s f r b.1 written else s

/-- COMPLETION_BURST_WRITE (R267, R384): a burst has been read whole. `written` is false when the write ends in an
error (R272). -/
def execCompletionBurstWrite (fn ring : Nat) (written : Bool) (s : State) :
    Host.Outcome State Fault Refusal :=
  if Instr.wf (.completionBurstWrite fn ring written) then doneIf (cqFlows s fn ring) s (burstEff s fn ring written)
  else done s

/-- TAIL_TIMEOUT of a class as it acts: the reset value of the class, at least 16, and 0 in a class
without a flush (R404). -/
def tailTimeout (s : State) (c : Nat) : Nat :=
  let v := (s.qclass c).tailTimeout.map (·.toNat)
  if c = 2 ∨ c = 4 then max 16 (v.getD 1024) else if c = 3 then max 16 (v.getD 250) else 0

/-- The tail timer of a completion coalescer has reached its limit: control cycles of 2 ns (R384). -/
def coTailDue (s : State) (f r : Nat) : Bool :=
  let q := s.ring f r
  !q.coalescer.isEmpty && q.burst.isNone && decide (q.coTimer + 2 * tailTimeout s 3 ≤ s.now)

/-- The flush of a completion coalescer begins: it reads its entries, which leave as one partial burst, and FLUSHES
counts, unless a full burst is present, which is written with no flush counted (R384, R385). -/
def coFlush (s : State) (f r : Nat) : State :=
  let q := s.ring f r
  if fullBurst q ≤ q.coalescer.length then burstEff s f r true
  else (s.modRing f r fun q =>
    { q with
      burst := some (q.coalescer.length, burstCycle (depthOf 3 (16 * f + r)) s.now q.coalescer)
      coTimer := s.now }).modQclass 3 fun k => { k with flushes := addSat k.flushes 1 }

/-- COALESCE_TIME_EXPIRY (R268). -/
def execCoalesceTimeExpiry (fn ring : Nat) (s : State) : Host.Outcome State Fault Refusal :=
  if Instr.wf (.coalesceTimeExpiry fn ring) then
    let q := s.ring fn ring
    let due := match q.firstSignalled with
      | none => false
      | some t => decide (q.coTime ≠ 0) && decide (t + 1000 * q.coTime.toNat ≤ s.now)
    doneIf (s.live && due) s (s.setRingCause fn ring 0)
  else done s

end Sys2Proof.Machine
end

