-- ==== Sys2Proof/Machine/Cache.lean ====
section
/-! DEFINITION. Models in the cache tiers (R233 to R247): the images behind handles, the voice of a
stream, room and eviction in T0, T1 and T2, placement, and unregistering. -/

namespace Sys2Proof.Machine

/-! ### Images and voices -/

/-- The complete T2 copy of an identity (R239). -/
def t2Find (s : State) (id : Bytes) : Option T2Copy :=
  s.t2.find? fun t => t.identity == id && t.copying.isNone && t.missing.isEmpty

/-- The image of an identity held in T2. -/
def imageOfId (s : State) (id : Bytes) : Image :=
  match t2Find s id with
  | some t => (parseImage t.image).getD {}
  | none => {}

/-- The identity that a model handle names; none for 0. -/
def idOfHandle (s : State) (h : Nat) : Bytes := if h = 0 then [] else (s.model (modelIndex h)).identity

/-- The voice that four role entries name (R155). -/
def voiceOf (s : State) (hs : List Nat) : Voice :=
  let img (r : Nat) : List (Nat × Image) :=
    if hs.getD r 0 = 0 then [] else [(r, imageOfId s (idOfHandle s (hs.getD r 0)))]
  { imgs := img 0 ++ img 2 ++ img 3
    adapter := if hs.getD 1 0 = 0 then none else some (imageOfId s (idOfHandle s (hs.getD 1 0))) }

/-- The identities of a voice, one per role that is not empty. -/
def voiceIds (s : State) (hs : List Nat) : List Bytes :=
  (hs.filter (· ≠ 0)).map (idOfHandle s)

/-- VOICE_ID of a stream's voice (R171). -/
def streamVoiceId (s : State) (hs : List Nat) : Bytes := voiceIdOf ((upTo 4).map fun r => idOfHandle s (hs.getD r 0))

/-- State-slot bytes of one stream of a voice (R93, R159). -/
def voiceStateBytes (v : Voice) : Nat :=
  sumN (v.imgs.map fun rm => sumN (rm.2.ops.map (stateBytesOf rm.2))) +
  (match v.adapter with | some m => sumN (m.ops.map (stateBytesOf m)) | none => 0)

/-- KV bytes of one stream of a voice (R159): KV_POSITIONS, or the window, per operator. -/
def voiceKvBytes (v : Voice) (kvPos : Nat) : Nat :=
  sumN (v.imgs.map fun rm => sumN (rm.2.ops.map fun o =>
    kvBytesOf rm.2 o * (if o.p 3 = 0 then kvPos else o.p 3)))

/-- The KV_POSITIONS range of a voice (R159): the smallest MAX_CONTEXT of the images that hold an
attention operator without a window over stepped keys; none when no image does. -/
def kvLimit (v : Voice) : Option Nat :=
  let ms := v.imgs.filter fun rm => rm.2.ops.any fun o => keepsKv rm.2 o && o.p 3 == 0
  match ms with
  | [] => none
  | m :: r => some (r.foldl (fun x q => min x q.2.maxContext) m.2.maxContext)

/-- Channels of one row of an edge in its layout, padded (R89). -/
def padded (e : EdgeRec) : Nat := alignUp (if e.flags.testBit 4 then 32 else 16) e.elements

/-- Channels that a row of one step of an output edge takes in memory: padded to whole blocks on a spectrogram-shaped edge
(R119), unpadded on any other (log 92). -/
def rowElements (e : EdgeRec) : Nat := if e.spectro then padded e else e.elements

/-- Bytes of one base step's output element (R119, R156). -/
def elementBytes (v : Voice) : Nat :=
  let e := v.outEdge
  e.rowsF * rowElements e * elemWidth e.format

/-! ### Room -/

/-- Prisms of a partition. -/
def Partition.prismList (p : Partition) : List Nat := maskBits 128 p.prisms.toNat
/-- Facets of a partition, by device facet number. -/
def Partition.facetList (p : Partition) : List Nat := p.prismList.flatMap fun q => (upTo 16).map (16 * q + ·)

/-- Weight-store bytes of a partition (R59). -/
def weightRoom (p : Partition) : Nat := 16 * popCount 128 p.prisms.toNat * Config.weightStoreBytes
/-- State-store bytes of a partition (R59). -/
def stateRoom (p : Partition) : Nat := 16 * popCount 128 p.prisms.toNat * Config.stateStoreBytes

/-- The state slots of a stream are in facet state stores. -/
def Residency.onFacets : Residency → Bool
  | .resident => true
  | .movingOut _ => true
  | .fetching _ => true
  | _ => false

/-- The slots are on facets, or on their way there. -/
def Residency.stays : Residency → Bool
  | .resident => true
  | .fetching _ => true
  | _ => false

/-- Rows per facet of a partition (R65, R223). -/
def Partition.rowCount (p : Partition) : Nat := 8 * 2 ^ p.rows.toNat

/-- The facets of a partition that do not leave it. -/
def openFacets (s : State) (k : Nat) : List Nat :=
  (s.part k).facetList.filter fun f => !(s.prism (f / 16)).leaving

/-- State slots on a facet. -/
def seatsOn (s : State) (f : Nat) : List Seat :=
  s.streams.flatMap fun kv => if kv.2.isOpen then kv.2.seats.filter (·.facet == f) else []

/-- State-store bytes of a partition that streams hold. -/
def stateUsed (s : State) (k : Nat) : Nat :=
  sumN ((s.streams.filter fun kv => kv.2.isOpen && kv.2.part == k).flatMap fun kv => kv.2.seats.map (·.bytes))

/-- Spread `need` bytes over facets with the given rooms, in order. -/
def spread : List (Nat × Nat) → Nat → List (Nat × Nat)
  | [], _ => []
  | q :: r, need =>
    let x := min q.2 need
    if x = 0 then spread r need else (q.1, x) :: spread r (need - x)

/-- The first facet that has room for all of `need` bytes takes them; otherwise they are spread. -/
def placeBytes (rooms : List (Nat × Nat)) (need : Nat) : List (Nat × Nat) :=
  if need = 0 then []
  else match rooms.find? fun q => decide (need ≤ q.2) with
    | some q => [(q.1, need)]
    | none => spread rooms need

/-- Bytes of the lattice tables of a partition (R194, R356). -/
def latticeBytes (p : Partition) : Nat :=
  sumN ((p.active.toList ++ p.shadow.toList).map fun l => 16 + 32 * l.entries.length)

/-- Bytes that the pieces of a RUN's staged input take in its landing zone: those that are on their way and those that
have come from other devices (R220, R356). -/
def landingBytes (s : State) : Nat :=
  sumN (s.parts.map fun kv => sumN ((kv.2.stages.filter fun q =>
    !(s.cmd q.cid).any fun c => c.fetched.any fun x => x.1 == q.addr).map (·.len))) +
  sumN ((s.cmds.filter fun c => c.opcode == 0x34).map fun c =>
    sumN ((c.fetched.filter fun q => decide (q.1 < 2 ^ 64)).map fun q => q.2.length))

/-- Bytes of the device pool in use: KV regions, state slots away in LPDDR5X, landing zones, checkpoint staging, context
inboxes, and the copies of lattice and share tables (R356). -/
def poolUsed (s : State) : Nat :=
  sumN ((s.streams.filter fun kv => kv.2.isOpen).map fun kv =>
    let v := voiceOf s kv.2.voice
    voiceKvBytes v kv.2.kvPositions +
    (match kv.2.resid with
     | .awayLpddr | .movingOut false | .fetching false => voiceStateBytes v
     | _ => 0) + sumN (kv.2.ckptCopies.map List.length)) +
  sumN (s.vertex.inbox.map fun q => q.2.1.length) + landingBytes s +
  sumN (s.parts.map fun kv => latticeBytes kv.2) +
  (if s.share.isEmpty then 0 else 512) + (if s.shareNext.isSome then 512 else 0)

/-- What the device pool holds fits into it (R356). -/
def poolFits (s : State) : Bool := decide (poolUsed s ≤ poolBytes s)

/-- Away state in the geode (R163). -/
def awayGeode (s : State) : Nat :=
  sumN ((s.streams.filter fun kv => kv.2.isOpen).map fun kv =>
    match kv.2.resid with
    | .awayGeode | .movingOut true | .fetching true => voiceStateBytes (voiceOf s kv.2.voice)
    | _ => 0)

/-! ### T0 -/

def t0Find (p : Partition) (id : Bytes) : Option T0Copy := p.t0.find? fun c => c.identity == id
/-- The model is placed in the partition's weight stores. -/
def t0Placed (p : Partition) (id : Bytes) : Bool := p.t0.any fun c => c.identity == id && c.placed && !c.dead
def t0Used (p : Partition) : Nat := sumN (p.t0.map (·.bytes))

/-- Weight-store bytes of a facet that are free (R59). -/
def weightFree (s : State) (k f : Nat) : Nat :=
  Config.weightStoreBytes -
    sumN ((s.part k).t0.flatMap fun c => (c.shares.filter (·.1 == f)).map (·.2))

/-- Weight-store bytes free on the facets of a partition. -/
def t0Free (s : State) (k : Nat) : Nat := sumN ((openFacets s k).map (weightFree s k))

/-- The facets that hold weights of some of the identities (R206). -/
def holders (s : State) (k : Nat) (ids : List Bytes) : List Nat :=
  ((s.part k).t0.filter fun c => ids.contains c.identity).flatMap fun c => c.shares.map (·.1)

/-- The facets in order, those of a preference first. -/
def preferred (fs pref : List Nat) : List Nat :=
  (fs.filter pref.contains) ++ fs.filter fun f => !pref.contains f

/-- The state slots of a stream that needs `need` bytes of carried state: one on each facet that it
takes, at the lowest free row, on facets that hold the voice's weights where they have room (R65, R159,
R206); none without room. A stream without carried state takes a row alone, where one is free. -/
def seatsFor (s : State) (k : Nat) (hs : List Nat) (need : Nat) : Option (List Seat) :=
  let fs := preferred (openFacets s k) (holders s k (voiceIds s hs))
  let rooms := fs.map fun f =>
    let on := seatsOn s f
    (f, if (s.part k).rowCount ≤ on.length then 0 else Config.stateStoreBytes - sumN (on.map (·.bytes)))
  let ss := if need = 0 then ((rooms.find? fun q => q.2 != 0).map fun q => (q.1, 0)).toList else placeBytes rooms need
  if sumN (ss.map (·.2)) = need then
    some (ss.map fun q => { facet := q.1, row := gapFrom 0 (sortNat ((seatsOn s q.1).map (·.row))), bytes := q.2 })
  else none

/-- A registration of the partition pins the identity to T0 (R241). -/
def t0Pinned (s : State) (k : Nat) (id : Bytes) : Bool :=
  s.models.any fun kv => kv.2.part == k && kv.2.identity == id && kv.2.pinT0

/-- Bytes of the T0 copies that the partition pins. -/
def t0PinnedBytes (s : State) (k : Nat) : Nat :=
  sumN (((s.part k).t0.filter fun c => t0Pinned s k c.identity).map (·.bytes))

/-- Kernels of a partition: at the culet, queued and running. -/
def kernelsOf (s : State) (k : Nat) : List Kernel :=
  (s.part k).culetQ ++ s.facets.flatMap fun kv =>
    ((match kv.2.running with | some r => [r] | none => []) ++ kv.2.queue).filter fun q => q.part == k

/-- The identities that a run's voice names. -/
def runIds (s : State) (r : Run) : List Bytes :=
  match r.members with
  | m :: _ => voiceIds s (s.stream m).voice
  | [] => []

/-- Base steps after which the run ends. -/
def Run.fin (r : Run) : Nat := r.stopAt.elim r.steps fun q => min r.steps q.1

def runVoice (s : State) (r : Run) : Voice := voiceOf s (s.stream (r.members.headD 0)).voice

/-- The operators of a voice whose outputs are whole edges. -/
def wholeOps (v : Voice) : List (Nat × Nat) := v.order.filter fun q => isWholeOp (v.img q.1) ((v.img q.1).op q.2)

/-- The operators on stepped edges among the `n` items of a run from `lo` on. -/
def steppedOps (r : Run) (v : Voice) (lo n : Nat) : List (Nat × Nat) :=
  ((upTo (min n r.nops)).filterMap fun x => v.order[(lo + x) % r.nops]?).filter fun q =>
    !isWholeOp (v.img q.1) ((v.img q.1).op q.2)

/-- The operators whose steps a kernel of a run runs. -/
def kernelOps (r : Run) (v : Voice) (k : Kernel) : List (Nat × Nat) :=
  if k.prefill then wholeOps v
  else
    let ops := steppedOps r v k.wlo (max 1 (k.whi - k.wlo))
    match k.pass with
    | some p => let mid := v.stepwise; ops.filter fun q => v.passOf mid q == p
    | none => ops

/-- The operators that a run has still to run, the whole ones while its prefill is not over. -/
def leftOps (r : Run) (v : Voice) : List (Nat × Nat) :=
  (if r.prefillDone < r.prefillTotal then wholeOps v else []) ++ steppedOps r v r.done (r.fin * r.nops - r.done)

/-- The identities whose weights some operators of a run read: those of their roles, and the adapter's where it has a
point at one of them (R78). -/
def opReads (s : State) (r : Run) (ops : List (Nat × Nat)) : List Bytes :=
  let v := runVoice s r
  let adapted := ops.any fun q => q.1 == 0 && v.adapter.any fun m => !(adapterPoints m q.2).isEmpty
  let hs := (s.stream (r.members.headD 0)).voice
  ((upTo 4).filter fun x => hs.getD x 0 != 0 && (ops.any (·.1 == x) || (x == 1 && adapted))).map fun x =>
    idOfHandle s (hs.getD x 0)

/-- The identities whose weights a kernel reads (R240, R242). -/
def kernelReads (s : State) (k : Kernel) : List Bytes :=
  (s.runOf k.cid).elim [] fun r => opReads s r (kernelOps r (runVoice s r) k)

/-- A run has executed a kernel and has kernels left: these count as queued (R240, log 10). -/
def kernelsLeft (r : Run) : Bool := r.first.isSome && decide (r.done < r.fin * r.nops)

/-- A kernel that reads the weights of an identity is queued in a partition or executing there. -/
def inUseBy (s : State) (k : Nat) (id : Bytes) : Bool :=
  ((kernelsOf s k).any fun q => (kernelReads s q).contains id) ||
  s.runs.any fun r => r.part == k && kernelsLeft r && (opReads s r (leftOps r (runVoice s r))).contains id

/-- A model is in use in a partition (R240). -/
def t0InUse (s : State) (k : Nat) (id : Bytes) : Bool := inUseBy s k id

/-- A running kernel of a partition reads the weights of an identity. -/
def runningReads (s : State) (k : Nat) (id : Bytes) : Bool :=
  s.facets.any fun kv => kv.2.running.any fun q => q.part == k && (kernelReads s q).contains id

/-- Lowest registration index that holds an identity, in a partition or in any (R242). -/
def lowIndex (s : State) (k : Option Nat) (id : Bytes) : Nat :=
  ((s.models.find? fun kv => kv.2.identity == id && (k.isNone || k == some kv.2.part)).map (·.1)).getD 65536

/-- The victim among candidates (weight, index, identity): the greatest weight, then the lowest
index (R242). -/
def victim : List (Nat × Nat × Bytes) → Option (Nat × Nat × Bytes)
  | [] => none
  | c :: r =>
    match victim r with
    | none => some c
    | some d => if d.1 < c.1 ∨ (d.1 = c.1 ∧ c.2.1 ≤ d.2.1) then some c else some d

/-- Copies of T0 that may be evicted for another: neither pinned nor in use; one on its way to T0 comes last, since it
has not been idle yet, and it is no victim of its own transfer (R242, log 31). -/
def t0Victims (s : State) (k : Nat) (keep : Bytes) : List (Nat × Nat × Bytes) :=
  ((s.part k).t0.filter fun c =>
    !c.dead && c.identity != keep && !t0Pinned s k c.identity && !t0InUse s k c.identity).map fun c =>
      ((if c.placed then s.now - c.lastUse else 0) * c.bytes, lowIndex s (some k) c.identity, c.identity)

/-- Discard a T0 copy. -/
def dropT0 (s : State) (k : Nat) (id : Bytes) : State :=
  s.modPart k fun p => { p with t0 := p.t0.filter fun c => c.identity != id }

/-- Evict a T0 copy: the commands that wait for it complete (R242, R243). -/
def evictNowT0 (s : State) (k : Nat) (id : Bytes) : State :=
  finishAll (dropT0 s k id) stOk (((s.part k).t0.filter fun c => c.identity == id).flatMap fun c => c.waiters ++ c.forced)

/-- Weight-store bytes free on some facets of a partition. -/
def freeOn (s : State) (k : Nat) (fs : List Nat) : Nat := sumN (fs.map (weightFree s k))

/-- Make room for `need` bytes in T0 on the facets `fs`, and for `more` beside them in the partition; none when it
cannot be made (R241, R242). The first argument bounds the evictions. -/
def roomT0 : Nat → State → Nat → List Nat → Nat → Nat → Bytes → Option State
  | n, s, k, fs, need, more, keep =>
    if need ≤ freeOn s k fs ∧ need + more ≤ t0Free s k then some s
    else match n with
      | 0 => none
      | n + 1 =>
        match victim (t0Victims s k keep) with
        | none => none
        | some v => roomT0 n (evictNowT0 s k v.2.2) k fs need more keep

def t1Find (s : State) (id : Bytes) : Option T1Copy := s.t1.find? fun c => c.identity == id

/-- A partition's model runs in streamed mode: it exceeds the room that the other pinned models leave (R247). -/
def streamedMode (s : State) (k : Nat) (id : Bytes) : Bool :=
  let others := sumN (((s.part k).t0.filter fun c => t0Pinned s k c.identity && c.identity != id).map (·.bytes))
  decide (weightRoom (s.part k) - others < (imageOfId s id).weightBytes)

/-- Weight-store bytes of the largest operator of a model. -/
def largestOp (s : State) (id : Bytes) : Nat :=
  let m := imageOfId s id
  maxN (m.ops.map fun o => sumN (o.tens.map fun t => (m.tensor t).bytes))

/-- Models of a run's voice that run in streamed mode. -/
def streamedIds (s : State) (r : Run) : List Bytes := (runIds s r).filter (streamedMode s r.part)

/-- Weight-store bytes that the staging of the streamed runs of a partition takes (R20, R247). -/
def stagingNeed (s : State) (k : Nat) : Nat :=
  maxN ((s.runs.filter fun r => r.part == k && r.dispatched && r.streamed).flatMap fun r =>
    (streamedIds s r).map (largestOp s))

/-- Weight-store bytes that no pinned or in-use model holds (R247). -/
def stagingRoom (s : State) (k : Nat) : Nat :=
  weightRoom (s.part k) -
    sumN (((s.part k).t0.filter fun c => t0Pinned s k c.identity || t0InUse s k c.identity).map (·.bytes))

/-- The facets on which a model may be placed: an adapter only on those that hold its base (R237). -/
def placeFacets (s : State) (k : Nat) (m : Image) : List Nat :=
  let fs := openFacets s k
  if m.adapter then fs.filter (holders s k [m.baseId]).contains else fs

/-- Start placing a model in T0, from T1 when T1 holds it, otherwise from T2 (R245, R248); none when there is no
room. -/
def beginPlace (s : State) (k : Nat) (id : Bytes) (waiters : List Nat) : Option State :=
  let m := imageOfId s id
  let bytes := m.weightBytes
  let fs := placeFacets s k m
  match roomT0 ((s.part k).t0.length + 1) s k fs bytes (stagingNeed s k) id with
  | none => none
  | some s1 =>
    let hit := s1.t1.any fun c => c.identity == id && !c.copying
    let s2 := { s1 with cache :=
      { s1.cache with
        t1Hits := if hit then addWrap s1.cache.t1Hits 1 else s1.cache.t1Hits
        t1Misses := if hit then s1.cache.t1Misses else addWrap s1.cache.t1Misses 1 } }
    some (s2.modPart k fun p =>
      { p with t0 := p.t0 ++ [{ identity := id, bytes := bytes, placed := false, arrived := s2.now,
                                lastUse := s2.now, waiters := waiters, fromT1 := hit
                                shares := placeBytes (fs.map fun f => (f, weightFree s1 k f)) bytes }] })

/-- A base model's registration pins it to T0 (R241). -/
def basePinned (s : State) (k : Nat) (m : Image) : Bool := t0Pinned s k m.baseId

/-! ### T1 -/

/-- A registration pins the identity to T1 (R241). -/
def t1Pinned (s : State) (id : Bytes) : Bool := s.models.any fun kv => kv.2.identity == id && kv.2.pinT1
def t1Used (s : State) : Nat := sumN (s.t1.map (·.bytes)) + awayGeode s
/-- Bytes of T1 pinned (R248). -/
def t1PinnedBytes (s : State) : Nat := sumN ((s.t1.filter fun c => t1Pinned s c.identity).map (·.bytes))

/-- A placement reads the T1 copy, or a kernel of a streamed run whose weights are staged from it (R242, R247). -/
def t1InUse (s : State) (id : Bytes) : Bool :=
  s.parts.any fun kv =>
    (kv.2.t0.any fun c => c.identity == id && !c.placed && c.fromT1) ||
    (streamedMode s kv.1 id && (kernelsOf s kv.1).any fun q => (kernelReads s q).contains id)

/-- Copies of T1 that may be evicted for another (R242, log 31). -/
def t1Victims (s : State) (keep : Bytes) : List (Nat × Nat × Bytes) :=
  (s.t1.filter fun c => c.identity != keep && !t1Pinned s c.identity && !t1InUse s c.identity).map
    fun c => ((if c.copying then 0 else s.now - c.lastUse) * c.bytes, lowIndex s none c.identity, c.identity)

def dropT1 (s : State) (id : Bytes) : State := { s with t1 := s.t1.filter fun c => c.identity != id }

/-- Evict a T1 copy: the commands that wait for it complete (R242, R243). -/
def evictNowT1 (s : State) (id : Bytes) : State :=
  finishAll (dropT1 s id) stOk ((s.t1.filter fun c => c.identity == id).flatMap (·.waiters))

/-- Make room for `need` bytes and `entries` directory entries in T1; none when it cannot be made
(R163, R238, R242). The first argument bounds the evictions. -/
def roomT1 : Nat → State → Nat → Nat → Bytes → Option State
  | n, s, need, entries, keep =>
    if t1Used s + need ≤ Config.t1Bytes ∧ s.t1.length + entries ≤ 4096 then some s
    else match n with
      | 0 => none
      | n + 1 =>
        match victim (t1Victims s keep) with
        | none => none
        | some v => roomT1 n (evictNowT1 s v.2.2) need entries keep

/-- Start copying a model into T1 (R244); none when there is no room. -/
def beginT1 (s : State) (id : Bytes) (waiters : List Nat) : Option State :=
  match t1Find s id with
  | some _ => some { s with t1 := s.t1.map fun c =>
      if c.identity == id then { c with waiters := c.waiters ++ waiters } else c }
  | none =>
    let bytes := (t2Find s id).elim 0 fun t => t.image.length
    match roomT1 (s.t1.length + 1) s bytes 1 id with
    | none => none
    | some s1 => some { s1 with t1 := s1.t1 ++
        [{ identity := id, bytes := bytes, copying := true, waiters := waiters, arrived := s1.now,
           lastUse := s1.now }] }

/-! ### T2 and registrations -/

/-- Bytes of the T2 region in use (R248). -/
def t2Used (s : State) : Nat := sumN (s.t2.map fun t => t.image.length)

/-- Identities held in T2 (R248). -/
def t2Held (s : State) : Nat := (s.t2.filter fun t => t.copying.isNone && t.missing.isEmpty).length

/-- A registration of an identity in a partition. -/
def regIn (s : State) (k : Nat) (id : Bytes) : Option Nat :=
  (s.models.find? fun kv => kv.2.part == k && kv.2.identity == id).map (·.1)

/-- Free a registration index: its generation advances (R234). Copies that no registration holds any
more are freed (R239). -/
def unregister (s : State) (i : Nat) : State :=
  let r := s.model i
  let s1 := { s with models := tabSet {} s.models i {}, modelGens := tabMod 0 s.modelGens i fun g => (g + 1) % 511 }
  let here := s1.models.any fun kv => kv.2.part == r.part && kv.2.identity == r.identity
  let any := s1.models.any fun kv => kv.2.identity == r.identity
  let s2 := if here then s1 else dropT0 s1 r.part r.identity
  if any then s2 else { s2 with t2 := s2.t2.filter (fun t => t.identity != r.identity)
                                t1 := s2.t1.filter (fun t => t.identity != r.identity) }

/-- An open stream's voice names the registration (R243). -/
def modelUsers (s : State) (i : Nat) : Nat :=
  (s.streams.filter fun kv => kv.2.isOpen && kv.2.voice.any fun h => h ≠ 0 && modelIndex h == i).length

/-- An adapter registration of the partition names the identity as its base (R237, R243). -/
def namedAsBase (s : State) (k : Nat) (id : Bytes) : Bool :=
  s.models.any fun kv => kv.2.part == k &&
    (let m := imageOfId s kv.2.identity; m.adapter && m.baseId == id)

end Sys2Proof.Machine
end

