-- ==== Sys2Proof/Machine/Streams.lean ====
section
/-! DEFINITION. Streams (R152 to R182): runs that name a stream, sinks and their registrations, eviction
and room for state slots, portable contexts of a stream, freeing a stream, and teardown of a group. -/

namespace Sys2Proof.Machine

/-! ### Runs of a stream -/

/-- Accepted RUNs that name the stream and that the device accepted before command `cid`. -/
def runsNaming (s : State) (i cid : Nat) : List Cmd :=
  s.cmds.filter fun c => c.opcode == 0x34 && beforeCid s c cid && c.names.contains (.stream i)

/-- A run is executing: it has been dispatched. -/
def executing (s : State) (cid : Nat) : Bool :=
  match s.runOf cid with | some r => r.dispatched | none => false

/-- A RUN of the stream accepted before `cid` is executing. -/
def runExecuting (s : State) (i cid : Nat) : Bool := (runsNaming s i cid).any fun c => executing s c.cid

/-- RUNs of the stream accepted before `cid` that are queued (R162, R165). -/
def runsQueued (s : State) (i cid : Nat) : List Nat :=
  ((runsNaming s i cid).filter fun c => !executing s c.cid).map (·.cid)

/-- The stream has a queued or executing RUN at all. -/
def hasRun (s : State) (i : Nat) : Bool := s.cmds.any fun c => c.opcode == 0x34 && c.names.contains (.stream i)

/-! ### Registrations (R168, R169, R372) -/

/-- `new` is newer than `reg` (R168). -/
def newer (new reg : BitVec 16) : Bool :=
  decide (1 ≤ (new - reg).toNat ∧ (new - reg).toNat ≤ 32767)

/-- Registered generation of a pair. -/
def regFind (s : State) (key : Nat × Nat) : Option (BitVec 16) :=
  (s.vertex.regs.find? fun q => q.1 == key).map (·.2)

/-- Register a generation for a pair (R372); `false` when the table is full. -/
def regPut (s : State) (key : Nat × Nat) (gen : BitVec 16) : State × Bool :=
  match regFind s key with
  | some g =>
    let regs := s.vertex.regs.map fun q => if q.1 = key then (key, gen) else q
    if newer gen g then ({ s with vertex := { s.vertex with regs := regs } }, true) else (s, true)
  | none =>
    if s.vertex.regs.length < 65536 then
      ({ s with vertex := { s.vertex with regs := s.vertex.regs ++ [(key, gen)] } }, true)
    else (s.setVertexCause 9, false)

/-- Free a pair's entry when its generation equals the registered one (R372). -/
def regDrop (s : State) (key : Nat × Nat) (gen : BitVec 16) : State :=
  { s with vertex := { s.vertex with regs := s.vertex.regs.filter fun q => !(q.1 == key && q.2 == gen) } }

/-- Key of a host buffer on this device in the registration table: the function's number above the
window numbers. -/
def hostKey (s : State) (k sinkId : Nat) : Nat × Nat := (4096 + (s.part k).function.toNat, sinkId)

/-- A host buffer lies on another device (R157). -/
def hostRemote (s : State) (a : Nat) : Bool := addrDevice a != s.ident.number.toNat

/-- Release the sink of a stream (R165, R340, R346, R372). -/
def releaseSink (s : State) (i : Nat) : State :=
  let t := s.stream i
  match t.sink with
  | none => s
  | some (.port p k _) =>
    let q := (s.port p).slot k
    if q.bound && q.stream == i then s.modSlot p k fun q => { q with release := true } else s
  | some (.host a _ id) =>
    if hostRemote s a then
      (issueReq s 6 (addrDevice a) false
        { address := a, sinkId := id, generation := t.placementGen.toNat } .releaseSink).1
    else regDrop s (hostKey s t.part id) t.placementGen

/-- Register the placement generation of a stream at its sink (R169): `none` when the registration
table is full or a remote sink cannot be reached; the flag says that an acknowledgement is awaited. -/
def registerSink (s : State) (cid i : Nat) : Option (State × Bool) :=
  let t := s.stream i
  match t.sink with
  | none => some (s, false)
  | some (.port p k _) =>
    some (s.modSlot p k fun q =>
      if q.stream == i && newer t.placementGen q.regGen then { q with regGen := t.placementGen } else q, false)
  | some (.host a _ id) =>
    if hostRemote s a then
      let r := issueReq s 5 (addrDevice a) false
        { address := a, sinkId := id, generation := t.placementGen.toNat } (.registerSink cid i)
      if r.2 then some (r.1, true) else none
    else
      let r := regPut s (hostKey s t.part id) t.placementGen
      if r.2 then some (r.1.modStream i fun t => { t with sinkRegistered := true }, false) else none

/-! ### Room for state slots (R159, R161 to R163) -/

/-- A migration of the stream is in progress, so that its state moves (R160, R181). -/
def MigState.moving : MigState → Bool
  | .none => false
  | .fenced _ _ => false
  | .draining _ => true
  | .delivered _ _ _ _ => true

/-- Best-effort resident streams of a partition without a RUN, which the culet may evict (R160, R161). -/
def evictable (s : State) (k : Nat) : List (Nat × Stream) :=
  s.streams.filter fun kv =>
    kv.2.isOpen && kv.2.part == k && !kv.2.lc && kv.2.resid == .resident && !kv.2.mig.moving && !hasRun s kv.1

/-- The least recently run of a list of streams. -/
def leastRecent : List (Nat × Stream) → Option (Nat × Stream)
  | [] => none
  | x :: r =>
    match leastRecent r with
    | none => some x
    | some y => if x.2.lastRun ≤ y.2.lastRun then some x else some y

/-- Room in the geode for `n` bytes of away state (R163). -/
def roomGeode (s : State) (n : Nat) : Option State :=
  if awayGeode s + n ≤ Config.awayGeodeLimit then roomT1 (s.t1.length + 1) s n 0 [] else none

/-- Move a stream's state slots away: to the geode while room can be made, else to LPDDR5X (R163). -/
def moveAway (s : State) (i : Nat) : Option State :=
  let n := voiceStateBytes (voiceOf s (s.stream i).voice)
  match roomGeode s n with
  | some s1 => some (s1.modStream i fun t => { t with resid := .awayGeode, seats := [] })
  | none =>
    if poolUsed s + n ≤ poolBytes s then some (s.modStream i fun t => { t with resid := .awayLpddr, seats := [] })
    else none

/-- Make room for `need` bytes of a voice's state slots in the partition's state stores (R161). The first
argument bounds the evictions. -/
def roomState : Nat → State → Nat → List Nat → Nat → Option State
  | n, s, k, hs, need =>
    if (seatsFor s k hs need).isSome then some s
    else match n with
      | 0 => none
      | n + 1 =>
        match leastRecent (evictable s k) with
        | none => none
        | some x => (moveAway s x.1).bind fun s1 => roomState n s1 k hs need

/-! ### Counters and pending work (R92, R112, R138) -/

/-- A pending STREAM_SEED takes effect: NOISE_AT becomes STEP (R138). -/
def applySeed (t : Stream) : Stream :=
  match t.pendSeed with
  | none => t
  | some (seed, n) => { t with seed := seed, noiseStream := n, noiseAt := t.step, pendSeed := none }

/-! ### Portable contexts (R170 to R182) -/

/-- The context of a stream as it stands (R171 to R177), signed with a nonce when asked. -/
def captureCtx (s : State) (i : Nat) (sign : Bool) : Bytes :=
  let t := s.stream i
  let v := voiceOf s t.voice
  let h : CtxHead :=
    { step := t.step, resetAge := t.step - t.resetAt, noiseStep := t.step - t.noiseAt,
      nstream := t.noiseStream, seed := t.seed, gen := t.placementGen.toNat,
      rows := (s.part t.part).rowCount, facets := t.seats.length, device := s.ident.number.toNat,
      voiceId := streamVoiceId s t.voice, sink := sinkPayload t.sink (elementBytes v),
      pending := pendPayload t.pendReset t.pendSeed t.lastSequence t.runsDone }
  ctxEncode v t.carried h (if sign then some (s.sec.made.secret, freeNonce s.freeCtr) else none)

/-- What a restore answers: the failing check and its status, or the stream as the context leaves it
(R179, R180). -/
inductive Restored where
  | failed (check status : Nat)
  | ok (s : State)

/-- The capture of a context is kept (R35, R180, log 29). -/
def noteCapture (s : State) (i : Nat) (b : Bytes) : State :=
  let t := s.stream i
  { s with vertex := { s.vertex with
    captures := { bytes := b, edges := t.edges, carried := t.carried } :: s.vertex.captures } }

/-- A free value of an edge, from the k-th free value on (log 29). -/
def freeTensor (e : EdgeRec) (k : Nat) : Tensor :=
  let w := if e.format = 1 then 8 else if e.format = 2 then 16 else if e.format = 4 then 48 else 32
  let n := e.elements * e.rowsF
  { x := (upTo n).map fun i => signed w (Config.freeNat (k + i) % 2 ^ w)
    g := if e.format = 1 then (upTo (e.rowsF * e.groupsPerRow)).map fun i => descOfBytes (freeBytes (k + n + 3 * i) 3)
         else [] }

/-- The stepped edges whose producers step more seldom than every base step and have stepped before base step `a`, and
the slow RUN inputs that are held: role, edge. -/
def slowEdges (v : Voice) (a : Nat) : List (Nat × Nat) :=
  v.order.flatMap fun q =>
    let m := v.img q.1
    let o := m.op q.2
    (if o.dec ≤ 1 || isWholeOp m o || stepsBefore o.dec o.off a = 0 then [] else o.outs.map fun e => (q.1, e)) ++
    (if holdsInput m o && decide (0 < stepsBefore o.inStep.1 o.inStep.2 a) then [(q.1, o.inE 0)] else [])

/-- A carried quantity of a context that another device captured: the entry that was dropped last, which the context does
not hold, is free where there was one (log 22). -/
def foreignTaps (v : Voice) (k : Nat) (c : Carried) : Carried :=
  match c.val with
  | .taps es =>
    match es.dropLast.getLast? with
    | some (some _) => { c with val := .taps (es.dropLast ++ [some (freeTensor (tapEdge v c) k)]) }
    | _ => c
  | _ => c

/-- What a restore goes on with beside the records of the context: the values of the stepped edges and the carried
state as they were captured here, or free values where another device captured them; and the free values used (R35,
R180, log 22, log 29). -/
def continued (s : State) (v : Voice) (b : Bytes) (cs : List Carried) : List EdgeVal × List Carried × Nat :=
  match s.vertex.captures.find? fun q => q.bytes == b with
  | some q => (q.edges, q.carried, 0)
  | none =>
    let es := slowEdges v (ctxHead b).step
    let at' (i : Nat) := s.freeCtr + 2 ^ 16 * i
    ((es.zip (upTo es.length)).map fun q =>
        { role := q.1.1, edge := q.1.2, val := freeTensor ((v.img q.1.1).edge q.1.2) (at' q.2) },
      (cs.zip (upTo cs.length)).map fun q => foreignTaps v (at' (es.length + q.2)) q.1,
      2 ^ 16 * (es.length + cs.length))

/-- A stream as a context leaves it (R180). -/
def restoreStream (t : Stream) (h : CtxHead) (es : List EdgeVal) (cs : List Carried) (seats : List Seat) : Stream :=
  let f := rd h.pending 0 1
  { t with
    step := h.step, resetAt := h.step - h.resetAge, noiseAt := h.step - h.noiseStep, seed := h.seed,
    noiseStream := h.nstream, placementGen := BitVec.ofNat 16 (h.gen + 1), carried := cs, edges := es, poison := false,
    pendReset := if bitAt f 0 then some (bitAt f 1) else none,
    pendSeed := if bitAt f 2 then some (rd h.pending 8 8, rd h.pending 16 4) else none,
    lastSequence := rd h.pending 20 4, runsDone := rd h.pending 24 8, awaitContext := false,
    resid := .resident, seats := seats, restoredFrom := some h.gen }

/-- Checks 1 to 6 of R179 on a context for a stream: `needSig` says whether check 4 requires a
signature, `expect` is the expected signer digest. -/
def tryRestore (s : State) (i : Nat) (b : Bytes) (needSig : Bool) (expect : Bytes) : Restored :=
  let t := s.stream i
  let v := voiceOf s t.voice
  if !ctxCheck1 b then .failed 1 stInvalidParameter
  else if !ctxCheck2 b then .failed 2 stVersionMismatch
  else if !ctxCheck3 b then .failed 3 stIntegrityFailed
  else if needSig && !ctxCheck4 b expect then .failed 4 stSecurityDenied
  else
    match ctxCheck5 v (streamVoiceId s t.voice) t.kvPositions b with
    | none => .failed 5 stInvalidParameter
    | some cs =>
      let need := if t.resid.onFacets then 0 else voiceStateBytes v
      match roomState ((s.streams.length) + 1) s t.part t.voice need with
      | none => .failed 6 stNoResource
      | some s1 =>
        let seats := if t.resid.onFacets then t.seats else (seatsFor s1 t.part t.voice need).getD []
        let c := continued s v b cs
        .ok ((s1.modStream i fun t => restoreStream t (ctxHead b) c.1 c.2.1 seats).used c.2.2)

/-! ### Freeing a stream (R153) -/

def Slot.unread (q : Slot) (i : Nat) : Slot := if q.rxReader = some i then { q with rxReader := none } else q
def Port.unread (p : Port) (i : Nat) : Port := { p with slotTab := tabMapV {} p.slotTab fun _ q => q.unread i }

/-- The receive slots of a stream that closes belong to no stream (R342). -/
def dropReader (s : State) (i : Nat) : State :=
  { s with ports := tabMapV {} s.ports fun _ p => p.unread i }

/-- A stream is freed: its sink is released, its state goes and its handle generation advances. -/
def freeStream (s : State) (i : Nat) : State :=
  let h := s.streamHandle i
  let s1 := dropReader (releaseSink s i) i
  { s1 with
    streams := tabSet {} s1.streams i {}
    streamGens := tabMod 0 s1.streamGens i fun g => (g + 1) % 2047
    vertex := { s1.vertex with inbox := s1.vertex.inbox.filter fun q => q.1 ≠ h } }

def freeStreams (s : State) : List Nat → State
  | [] => s
  | i :: r => freeStreams (freeStream s i) r

/-- Open streams of a partition that satisfy a test, by index. -/
def streamsOf (s : State) (k : Nat) (p : Stream → Bool) : List Nat :=
  (s.streams.filter fun kv => kv.2.isOpen && kv.2.part == k && p kv.2).map (·.1)

/-! ### Teardown (R166, R390, R391) -/

/-- FAULT_RECORD of a fault (R403). -/
def faultRecord (p : Partition) (facet kind group : Nat) : Word64 :=
  BitVec.ofNat 64 (facet + 2 ^ 12 * kind + 2 ^ 16 * group + 2 ^ 32 * (p.periods.toNat % 2 ^ 32))

/-- A context teardown begins: descriptors of the group are withdrawn and the fault is recorded; a
further fault of the group is absorbed (R391, R394). -/
def beginTeardown (s : State) (k g kind facet : Nat) : State :=
  let p := s.part k
  if !p.valid || p.resetting.isSome || p.tearing.contains g then s
  else
    let s1 := s.modPart k fun p =>
      { p with tearing := p.tearing ++ [g], faultRecord := faultRecord p facet kind g }
    dropKernels s1 fun q => q.part == k && q.group == g

/-- Kernels of a group that still run (R391). -/
def groupRunning (s : State) (k g : Nat) : Bool :=
  s.facets.any fun kv => match kv.2.running with
    | some q => q.part == k && q.group == g
    | none => false

/-- Status with which an unfinished command of a torn-down group completes (R166). -/
def tornStatus (c : Cmd) : Nat := if c.opcode = 0x31 then stOk else stContextTornDown

def finishTorn (s : State) : List Cmd → State
  | [] => s
  | c :: r => finishTorn (fail s c.cid (tornStatus c)) r

/-- Commands that name a stream among `is` (R166). -/
def cmdsNaming (s : State) (is : List Nat) : List Cmd :=
  s.cmds.filter fun c => is.any fun i => c.names.contains (.stream i)

/-- The group's runs and commands complete and its streams are freed (R166). -/
def freeGroup (s : State) (k g : Nat) : State :=
  let is := streamsOf s k fun t => t.group == g
  let s1 := finishTorn s (cmdsNaming s is)
  let s2 := freeStreams s1 is
  { s2 with sinkWrites := s2.sinkWrites.filter fun w => !(w.part == k && w.group == g) }

/-- A discarded T0 copy goes once no running kernel reads it; a pinned model is placed again, and the runs that need
it place it otherwise (R62, R392). -/
def freeDead (s : State) (k : Nat) : State :=
  ((s.part k).t0.filter fun c => c.dead && !runningReads s k c.identity).foldl (fun s c =>
    let s1 := evictNowT0 s k c.identity
    if t0Pinned s1 k c.identity then (beginPlace s1 k c.identity []).getD s1 else s1) s

/-- T0 copies that a forced MODEL_EVICT waits for leave once they are no longer in use (R243). -/
def evictForced (s0 : State) (k : Nat) : State :=
  let s := freeDead s0 k
  ((s.part k).t0.filter fun c => !c.forced.isEmpty && !t0InUse s k c.identity).foldl
    (fun s c => evictNowT0 s k c.identity) s

/-- The end of a teardown (R391 step 4). -/
def endTeardown (s : State) (k g : Nat) : State :=
  let s1 := evictForced (freeGroup s k g) k
  s1.modPart k fun p =>
    { p with tearing := p.tearing.filter (· ≠ g), faultCause := setBit p.faultCause 0,
             streamCause := setBit p.streamCause 2, teardowns := addWrap p.teardowns 1 }

/-- TEARDOWN_COMPLETE (R166): the last running kernel of the group has ended. -/
def execTeardownComplete (part group : Nat) (s : State) : Host.Outcome State Fault Refusal :=
  if Instr.wf (.teardownComplete part group) then
    doneIf (s.live && (s.part part).tearing.contains group && !groupRunning s part group) s
      (endTeardown s part group)
  else done s

/-- FABRIC_UNREACHABLE or poison for staging or a sink write: the stream's group is torn down (R376,
R390). -/
def sinkFault (s : State) (k g : Nat) : State := beginTeardown s k g 3 (16 * k)

end Sys2Proof.Machine
end

