-- ==== Sys2Proof/Machine/Admission.lean ====
section
/-! DEFINITION. The lattice table and its windows (R192 to R199), the LC floor (R418), and the
admission of latency-critical streams (R106, R213, R214, R218). -/

namespace Sys2Proof.Machine

/-! ### Tables and time -/

/-- Rate of the source port of a lattice. -/
def srcRate (s : State) (l : Lattice) : Nat := rateHz (s.port l.port).rate.toNat

/-- Ticks on one axis: length of a tick and of one cycle in a common unit; a frame period is shortened
by 1,000 ppm (R192, R197). -/
def tickUnit (l : Lattice) : Nat := if l.frameSync then 999000000 else 125000
def cycleUnit (s : State) (l : Lattice) : Nat := if l.frameSync then srcRate s l else 1

/-- Length of the window of an entry in that unit (R197). -/
def occWindow (s : State) (l : Lattice) (e : LEntry) : Nat := (28000 + e.budget) * cycleUnit s l

def lcEntries (l : Lattice) : List LEntry := l.entries.filter (·.lc)

/-- Consecutive windows do not overlap. -/
def windowsApart (u : Nat) (w : LEntry → Nat) : List LEntry → Bool
  | a :: b :: r => decide (a.tick * u + w a ≤ b.tick * u) && windowsApart u w (b :: r)
  | _ => true

/-- No two LC windows of the table overlap, across the period boundary too (R197). -/
def lcApart (s : State) (l : Lattice) : Bool :=
  let es := lcEntries l
  let u := tickUnit l
  windowsApart u (occWindow s l) es &&
  match es.head?, es.getLast? with
  | some a, some b => decide (b.tick * u + occWindow s l b ≤ (a.tick + l.periodN) * u)
  | _, _ => true

/-- The prisms of a partition lie on both compute dies (R21, R223). -/
def twoDies (p : Partition) : Bool :=
  decide (p.prisms.toNat % 2 ^ 64 ≠ 0) && decide (p.prisms.toNat / 2 ^ 64 ≠ 0)

/-- The active lattice of a partition holds an LC entry (R223). -/
def Partition.lcHeld (p : Partition) : Bool :=
  match p.active with | some l => l.entries.any (·.lc) | none => false

def parseEntry (b : Bytes) : LEntry :=
  { tick := rd b 0 2, lc := rd b 2 1 == 1, lead := rd b 3 1, budget := rd b 4 4, group := rd b 8 2,
    steps := rd b 10 2, maxStreams := rd b 12 2 }

def parseLattice (b : Bytes) : Lattice :=
  { frameSync := rd b 2 1 == 1, port := rd b 3 1, periodN := rd b 4 2,
    entries := ((chunks 32 (b.drop 16)).take (rd b 0 2)).map parseEntry }

def ascending : List Nat → Bool
  | a :: b :: r => decide (a ≤ b) && ascending (b :: r)
  | _ => true

/-- The field ranges of R194 and R195. -/
def entryOk (s : State) (l : Lattice) (b : Bytes) : Bool :=
  let e := parseEntry b
  decide (e.tick < l.periodN ∧ rd b 2 1 ≤ 1 ∧ e.lead ≤ 3 ∧ 1 ≤ e.budget ∧ 1 ≤ e.group ∧ e.group ≤ 4095 ∧
    1 ≤ e.steps ∧ 1 ≤ e.maxStreams ∧ e.maxStreams ≤ 16384) && allZero (slice b 14 18) &&
  (if l.frameSync then decide (e.budget * srcRate s l ≤ l.periodN * 1000000000)
   else decide (e.budget ≤ l.periodN * 125000))

/-- The table that LATTICE_LOAD reads passes R196 for a partition. -/
def latticeOk (s : State) (p : Partition) (b : Bytes) : Bool :=
  let l := parseLattice b
  let n := rd b 0 2
  decide (1 ≤ n ∧ n ≤ 256 ∧ rd b 2 1 ≤ 1 ∧ 1 ≤ l.periodN) &&
  (if l.frameSync then decide (l.port ≤ 15 ∧ l.periodN ≤ 4096) && (s.port l.port).configured
   else decide (l.port = 0 ∧ l.periodN ≤ 80)) &&
  allZero (slice b 6 10) &&
  ((chunks 32 (b.drop 16)).take n).all (entryOk s l) &&
  ascending (l.entries.map (·.tick)) &&
  l.entries.all (fun a => l.entries.all fun c => a.group != c.group || a.lc == c.lc) &&
  !(l.entries.any (·.lc) && twoDies p) && lcApart s l

/-- The port from which a port takes its clocks: its clock leader, or itself (R321). -/
def leaderOf (s : State) (p : Nat) : Nat :=
  if (s.port p).sharedClock then
    (((upTo 4).map (p / 4 * 4 + ·)).find? fun q => (s.port q).sharedClock).getD p
  else p

/-- Frames of a port: FRAME_COUNT plus one; a follower counts as its leader (R321, R329). -/
def framesOf (s : State) (p : Nat) : Nat := (s.port (leaderOf s p)).nextFrame

/-- Number of the frame that begins next at a port. A follower that lags its leader begins the frame that
its leader has begun (R321). -/
def nextOf (s : State) (p : Nat) : Nat :=
  if leaderOf s p ≠ p ∧ (s.port p).nextFrame < framesOf s p then framesOf s p - 1 else framesOf s p

/-- Ticks of a cycle-counter source since CYCLE_COUNT 0, or frames of the source port (R192). -/
def sourceTick (s : State) (l : Lattice) : Nat :=
  if l.frameSync then framesOf s l.port - 1 else s.now / 125000

/-- With the same source, no LC window launched before source tick `b` overlaps one of the shadow from it on (R199). -/
def switchApart (s : State) (act sh : Lattice) (b : Nat) : Bool :=
  let u := tickUnit act
  (lcEntries act).all fun a => (lcEntries sh).all fun c =>
    let back := (b + act.periodN - 1 - a.tick) % act.periodN
    let first := b + (c.tick + sh.periodN - b % sh.periodN) % sh.periodN
    decide (b ≤ back) || decide ((b - 1 - back) * u + occWindow s act a ≤ first * u)

/-- The source tick of a switch instant as it is determined at acceptance: the next period boundary of the active table
while its ticks run, else the tick after the present one (R199). -/
def switchTick (s : State) (p : Partition) (a : Lattice) : Nat :=
  if p.ticking then (sourceTick s a / max 1 a.periodN + 1) * a.periodN else sourceTick s a + 1

/-! ### The LC floor (R418) -/

/-- Admitted latency-critical streams of a group. -/
def lcMembers (s : State) (k g : Nat) : List Nat :=
  streamsOf s k fun t => t.lc && t.group == g

/-- The partition holds admitted LC streams. -/
def hasLc (s : State) (k : Nat) : Bool :=
  s.streams.any fun kv => kv.2.isOpen && kv.2.part == k && kv.2.lc

/-- The facets of the placement of streams with the given seats and voices: those that hold their state slots and the
weights of their models. -/
def placementOf (s : State) (k : Nat) (seats : List Nat) (ids : List Bytes) : List Nat :=
  (s.part k).facetList.filter fun f => seats.contains f || (holders s k ids).contains f

/-- The facets of a group's placement, with those of a new stream of the given voice (R206, R212). -/
def groupFacets (s : State) (k g : Nat) (new : List Nat) : List Nat :=
  let is := streamsOf s k fun t => t.group == g
  let seats := is.flatMap fun i => (s.stream i).seats.map (·.facet)
  let extra := if new.isEmpty then [] else
    ((seatsFor s k new (voiceStateBytes (voiceOf s new))).getD []).map (·.facet)
  placementOf s k (seats ++ extra) (is.flatMap (fun i => voiceIds s (s.stream i).voice) ++ voiceIds s new)

/-- Power of the entries of a lattice whose group satisfies a test, as a fraction of watts: E_FC × BUDGET
× facets / period, with the facets that each group's placement claims (R418). -/
def entryPower (s : State) (l : Lattice) (facets : Nat → Nat) (live : Nat → Bool) : Nat × Nat :=
  let b := sumN (((lcEntries l).filter fun e => live e.group).map fun e => e.budget * facets e.group)
  let e := 10 * Config.eFcPj10
  if l.frameSync then (e * b * srcRate s l * 1000, l.periodN * 999 * 10 ^ 12)
  else (e * b, l.periodN * 125000 * 1000)

def addFrac (a b : Nat × Nat) : Nat × Nat := (a.1 * b.2 + b.1 * a.2, a.2 * b.2)

/-- F of R418 in whole watts; `extra` names the partition, the group and the voice of a new LC stream that is counted. -/
def lcFloor (s : State) (extra : Option (Nat × Nat × List Nat)) : Nat :=
  let ks := (upTo 128).filter fun k => (s.part k).valid && (hasLc s k || extra.any fun x => x.1 == k)
  if ks.isEmpty then 0 else
  let pw := ks.map fun k =>
    let p := s.part k
    match p.active with
    | none => (0, 1)
    | some l =>
      let new (g : Nat) : Option (List Nat) := (extra.filter fun x => x.1 == k && x.2.1 == g).map (·.2.2)
      entryPower s l (fun g => (groupFacets s k g ((new g).getD [])).length) fun g =>
        !(lcMembers s k g).isEmpty || (new g).isSome
  let prisms := sumN (ks.map fun k => popCount 128 (s.part k).prisms.toNat)
  let f := pw.foldl addFrac (Config.pFixedW * 100 + Config.prismCw * prisms, 100)
  cdiv f.1 f.2

/-- The LC floor of one partition (R418). -/
def partFloor (s : State) (k : Nat) : Nat := if (s.part k).valid && hasLc s k then lcFloor s none else 0

/-! ### Costs (R72 to R74, R213) -/

/-- Declared coefficients of operator `i` of an image (R74). -/
def declared (m : Image) (i : Nat) : Coef :=
  let c := m.costs.getD i (0, 0, 0, 0)
  { fix := c.2.1, arr := c.2.2.1, vec := c.2.2.2 }

/-- Declared cycles of operator `i` of a role over `rows` rows and `n` steps or positions, with the adapter
points that name it (R74, R78, R213). -/
def opDeclared (v : Voice) (role i rows n : Nat) : Nat :=
  let m := v.img role
  let o := m.op i
  if n = 0 then 0
  else opCycles m o (declared m i) rows n + opCab m o rows (fun _ => n) +
    (if role = 0 then
      match v.adapter with
      | some ma => sumN ((adapterPoints ma i).map fun k => opCycles ma (ma.op k) (declared ma k) rows n)
      | none => 0
     else 0)

/-- Declared cycles of the operators of a role that satisfy a test, over the `steps` base steps of one
occurrence and the decimated steps among them (R213). -/
def stepPath (v : Voice) (role rows steps : Nat) (keep : OpRec → Bool) : Nat :=
  let m := v.img role
  sumN ((upTo m.ops.length).map fun i =>
    let o := m.op i
    if isWholeOp m o || !keep o then 0 else cdiv steps (max 1 o.dec) * opDeclared v role i rows 1)

/-- Declared cycles of one prefill chunk of a role (R213). -/
def prefillPath (v : Voice) (role rows positions : Nat) : Nat :=
  let m := v.img role
  sumN ((upTo m.ops.length).map fun i => if isWholeOp m (m.op i) then opDeclared v role i rows positions else 0)

/-- Streams of one voice in batches of at most ROWS rows (R65). -/
def batches (rows : Nat) (ts : List Stream) : List (List Nat × Nat) :=
  let vs := (ts.map (·.voice)).eraseDups
  vs.flatMap fun v =>
    let n := (ts.filter fun t => t.voice == v).length
    (upTo (n / rows)).map (fun _ => (v, rows)) ++ (if n % rows = 0 then [] else [(v, n % rows)])

/-- Cycles of kernel set-up and report for `c` cycles of work (R72, log 10). -/
def overhead (p : Partition) (c : Nat) : Nat := 32 * (c / (1000 * p.kernelBound.toNat - 32) + 1)

/-- The length of the best path that a placement of a group gives, from its length where each role runs on
a facet of its own: the culet may divide the work among more facets, and what that takes is a free
value (R106, R213, log 11). -/
def placedPath (k g serial : Nat) : Nat := min serial (Config.placedPath k g serial)

/-- Critical path of the worst-case occurrence of an entry, each role on facets of its own: the longest of
the roles' paths, over the batches of the group's streams, with operand transfers and the capture
copies of a checkpoint ring (R213, log 11). -/
def critical (s : State) (p : Partition) (k : Nat) (e : LEntry) (ts : List Stream) (ckpt : Bool) : Nat :=
  let bs := batches p.rowCount ts
  let path (role : Nat) : Nat := sumN (bs.map fun b =>
    let v := voiceOf s b.1
    let c := stepPath v role b.2 e.steps (fun _ => true) + prefillPath v role b.2 p.chunkMax
    if c = 0 then 0 else c + overhead p c)
  let copies := sumN (bs.map fun b => b.2 * cdiv (voiceStateBytes (voiceOf s b.1)) 64)
  placedPath k e.group (maxN [path 0, path 2, path 3] + Config.transferCycles k e.group) +
    (if ckpt then copies else 0)

/-- The operators of every role that satisfy a test, one step each, in one kernel (R72). -/
def oneStep (v : Voice) (rows : Nat) (keep : OpRec → Bool) : Nat :=
  kernelDuration (sumN ([0, 2, 3].map fun role => stepPath v role rows 1 keep))

/-- The step time of a voice's feedback loops (R104, R106). -/
def stepTime (k g : Nat) (v : Voice) (rows : Nat) : Nat := placedPath k g (oneStep v rows (·.inLoop))

/-- The path from the start of an occurrence to the first sink write: the operators of every base step, since the
decimated ones have run before. With LEAD 0 a base step follows the prefill chunk of its own occurrence and the decimated
steps (R202, R218). -/
def firstWrite (k g : Nat) (p : Partition) (lead0 : Bool) (v : Voice) (rows : Nat) : Nat :=
  let pre := sumN ([0, 2, 3].map fun role => prefillPath v role rows p.chunkMax)
  if lead0 then placedPath k g ((if pre = 0 then 0 else kernelDuration pre) + oneStep v rows fun _ => true)
  else placedPath k g (oneStep v rows fun o => o.dec == 1)

/-- Longest interval between consecutive ticks of the group's entries, in ns; a frame-sync source is
lengthened by 1,000 ppm (R218). -/
def longestGap (s : State) (l : Lattice) (g : Nat) : Nat :=
  let ts := (l.entries.filter fun e => e.lc && e.group == g).map (·.tick)
  let gaps := (ts.zip (ts.drop 1)).map fun q => q.2 - q.1
  let wrap := match ts.head?, ts.getLast? with
    | some a, some b => l.periodN + a - b
    | _, _ => 0
  let n := maxN (wrap :: gaps)
  if l.frameSync then cdiv (n * 1001 * 1000000) (srcRate s l) else n * 125000

/-- First-audio figure in ns (R218). -/
def firstAudio (s : State) (p : Partition) (l : Lattice) (g prompt w : Nat) : Nat :=
  let lead := maxN ((l.entries.filter fun e => e.lc && e.group == g).map (·.lead))
  2000 + (max 1 (cdiv prompt p.chunkMax) + lead) * longestGap s l g + 28000 + w

/-- Share of a resource that a partition holds, in 1/1,024 (R208). -/
def shareOf (s : State) (r k : Nat) : Nat :=
  sumN ((s.share.filter fun e => e.resource == r && e.partition == k).map (·.share))

/-- Capacity of a resource in bytes per µs (R208, R361, R436). -/
def capacity (s : State) (r : Nat) : Nat :=
  if r < 4 then 1000000
  else if 0x10 ≤ r ∧ r < 0x20 then [85330, 68260, 60000].getD s.memc.rate.toNat 0
  else if r = 0x20 ∨ r = 0x21 then
    s.pcie.width.toNat * [0, 2500, 5000, 8000, 16000, 32000, 64000].getD s.pcie.rate.toNat 0 / 8
  else if 0x30 ≤ r ∧ r < 0x38 then
    128000 / 2 ^ (s.fabPort (r - 0x30)).width.toNat
  else 0

/-- The resources of R208. -/
def resources : List Nat :=
  upTo 4 ++ (upTo 16).map (0x10 + ·) ++ [0x20, 0x21] ++ (upTo 8).map (0x30 + ·)

/-- Check 7 of R213 for one entry: the bytes that one occurrence of the group's streams moves over each
resource, and those that stage its first kernel, fit the partition's share (log 11). -/
def trafficOk (s : State) (k : Nat) (p : Partition) (e : LEntry) (ts : List Stream) : Bool :=
  let who := ts.map fun t => (t.voice, t.kvPositions)
  resources.all fun r =>
    let room (ns : Nat) := capacity s r * shareOf s r k * ns / 1024 / 1000
    decide (Config.resourceBytes r e.steps p.chunkMax who ≤ room e.budget) &&
    decide (Config.stagingBytes r e.steps p.chunkMax who ≤ room 988)

/-- The prism whose facets hold the row of a stream, or will hold it (R65, R206). -/
def rowPrism (s : State) (k : Nat) (t : Stream) : Nat :=
  let seats := if t.seats.isEmpty then (seatsFor s k t.voice (voiceStateBytes (voiceOf s t.voice))).getD [] else t.seats
  ((seats.head?.map (·.facet)).getD 0) / 16

/-- Jump-unit control cycles of the worst-case occurrence on the prism that has the most, summed over the rows that the
placement gives each prism (R142, R213 check 8). -/
def jumpCycles (s : State) (k : Nat) (e : LEntry) (ts : List Stream) : Nat :=
  let at' := ts.map fun t => (rowPrism s k t, jumpOps (voiceOf s t.voice))
  e.steps * maxN (at'.map fun q => sumN ((at'.filter (·.1 == q.1)).map (·.2)))

/-- Checks 5 to 9 of R213 over the entries of a group. -/
def entryChecks (s : State) (k : Nat) (p : Partition) (l : Lattice) (g : Nat) (ts : List Stream)
    (ckpt : Bool) : Option Nat :=
  let es := l.entries.filter fun e => e.lc && e.group == g
  if !(es.all fun e => decide (critical s p k e ts ckpt ≤ e.budget)) then some 5
  else if ts.any (fun t => (voiceOf s t.voice).autoregressive &&
      decide (5000 < stepTime k g (voiceOf s t.voice) (min p.rowCount ts.length))) then some 6
  else if !(es.all fun e => trafficOk s k p e ts) then some 7
  else if !(es.all fun e => decide (2 * jumpCycles s k e ts ≤ 28000 + e.budget)) then some 8
  else if ts.any (fun t => decide (4000000 < firstAudio s p l g t.maxPrompt
      (firstWrite k g p (es.any (·.lead == 0)) (voiceOf s t.voice) (min p.rowCount ts.length)))) then some 9
  else none

/-- Every model of a voice is pinned to T0 and placed (R213 check 2). -/
def voicePinned (s : State) (k : Nat) (hs : List Nat) : Bool :=
  (voiceIds s hs).all fun id => t0Pinned s k id && t0Placed (s.part k) id

/-- The checks of R213 for a group of a partition as `p` would stand, with the streams `ts`: the number
of the first that fails. Check 3 holds of every voice, since no image names a window; check 4 is `room`.
`floor` is the partition's LC floor. -/
def admit213 (s : State) (k : Nat) (p : Partition) (g : Nat) (ts : List Stream) (floor : Nat) (room : Bool) :
    Option Nat :=
  match p.active with
  | none => some 1
  | some l =>
    let es := l.entries.filter fun e => e.lc && e.group == g
    if es.isEmpty || es.any (fun e => decide (e.maxStreams < ts.length)) then some 1
    else if !(ts.all fun t => voicePinned s k t.voice) then some 2
    else if !room then some 4
    else
      match entryChecks s k p l g ts ((tabGet {} p.ckpts g).periodK ≠ 0) with
      | some n => some n
      | none => if s.clk.capW.toNat < floor then some 10 else none

/-- Groups of a partition with admitted LC streams, ascending. -/
def lcGroups (s : State) (k : Nat) : List Nat :=
  sortNat (((s.streams.filter fun kv => kv.2.isOpen && kv.2.part == k && kv.2.lc).map (·.2.group)).eraseDups)

/-- Re-admission of every admitted LC group (R214): the first group that fails, with its check. A
group without an LC entry in the table is reported first (log 30). -/
def readmit (s : State) (k : Nat) (p : Partition) : Option (Nat × Nat) :=
  let s1 := { s with parts := tabSet {} s.parts k p }
  let gs := lcGroups s k
  let room := decide (stateUsed s k ≤ stateRoom p)
  let bad (g : Nat) := admit213 s1 k p g ((lcMembers s k g).map s.stream) (lcFloor s1 none) room
  match gs.find? fun g => bad g == some 1 with
  | some g => some (g, 1)
  | none =>
    (gs.find? fun g => (bad g).isSome).map fun g => (g, (bad g).getD 0)

end Sys2Proof.Machine
end

