-- ==== Sys2Proof/Machine/StreamCmds.lean ====
section
/-! DEFINITION. Stream commands (R292 to R298): open, close, seed, reset, save, restore, evict, migrate
and checkpoints, with the events by which they go on. -/

namespace Sys2Proof.Machine

/-- A STREAM_CLOSE of the stream accepted before command `cid` waits for an executing run. -/
def closing (s : State) (i cid : Nat) : Bool :=
  s.cmds.any fun c => c.opcode == 0x31 && beforeCid s c cid && c.waitStream == some i

/-- A command that names a stream goes on when its handle passes R154 and the stream is neither
migrating nor fenced (R182); BUSY comes before the test of its reserved bytes (log 86). -/
def withStream (s : State) (c : Cmd) (fencedOk migratingOk : Bool) (k : Nat → State) : State :=
  let i := streamIndex c.object
  match checkStream s c.fn c.partition c.object with
  | some st => fail s c.cid st
  | none =>
    if closing s i c.cid then fail s c.cid stStaleHandle
    else match (s.stream i).mig with
    | .none => k i
    | .fenced _ _ => if fencedOk then k i else finish s c.cid stBusy 0 1
    | .draining m => if migratingOk || m == c.cid then k i else finish s c.cid stBusy 0 2
    | .delivered m _ _ _ => if migratingOk || m == c.cid then k i else finish s c.cid stBusy 0 2

/-- Mark a command as waiting for the runs of a stream. -/
def waitOn (s : State) (cid i : Nat) : State := s.modCmd cid fun c => { c with waitStream := some i }

/-! ### STREAM_OPEN (R155, R159, R200, R213, R292) -/

/-- The role entries of a voice satisfy R155. -/
def voiceOk (s : State) (hs : List Nat) : Bool :=
  let ad (h : Nat) := (imageOfId s (idOfHandle s h)).adapter
  let a := hs.getD 0 0
  let d := hs.getD 1 0
  hs.any (· ≠ 0) && (d == 0 || (a != 0 && ad d && (imageOfId s (idOfHandle s d)).baseId == idOfHandle s a)) &&
  [0, 2, 3].all fun r => hs.getD r 0 == 0 || !ad (hs.getD r 0)

/-- KV_POSITIONS lies in the range of R159. -/
def kvPositionsOk (v : Voice) (n : Nat) : Bool :=
  match kvLimit v with
  | none => n == 0
  | some m => decide (1 ≤ n ∧ n ≤ m)

/-- The group and class satisfy R200. -/
def groupClassOk (s : State) (k cls g : Nat) : Bool :=
  let es := match (s.part k).active with | some l => l.entries | none => []
  decide (cls ≤ 1 ∧ g ≤ 4095) &&
  (if cls = 1 then es.any fun e => e.lc && e.group == g
   else g == 0 || es.any fun e => !e.lc && e.group == g)

/-- The lowest free stream index (R152). -/
def freeStreamIndex (s : State) : Nat := gapFrom 0 ((s.streams.filter (·.2.isOpen)).map (·.1))

/-- The stream that STREAM_OPEN makes (R92, R114, R155, R167, R292). DESIGN CHOICE (log 96): its recency for R161 is the
time of its opening, until it runs. -/
def newStream (s : State) (c : Cmd) (hs : List Nat) : Stream :=
  { part := c.partition, voice := hs, lc := c.f 32 1 == 1, group := c.f 34 2,
    awaitContext := bitAt (c.f 33 1) 0, maxPrompt := c.f 36 4, kvPositions := c.f 40 4,
    sourceKey := slice c.packet 48 32, carried := zeroCarried (voiceOf s hs), lastRun := s.now }

/-- Allocate the stream (R159): NO_RESOURCE without an index, state-store room or pool room. -/
def openAlloc (s : State) (c : Cmd) (t : Stream) : Option (State × Nat) :=
  let v := voiceOf s t.voice
  let i := freeStreamIndex s
  if 16384 ≤ i || poolBytes s < poolUsed s + voiceKvBytes v t.kvPositions then none
  else match roomState (s.streams.length + 1) s c.partition t.voice (voiceStateBytes v) with
  | none => none
  | some s1 =>
    let seats := (seatsFor s1 c.partition t.voice (voiceStateBytes v)).getD []
    some ({ s1 with streams := tabSet {} s1.streams i { t with seats := seats } }, i)

def streamOpenEff (c : Cmd) (s : State) : State :=
  let hs := (upTo 4).map fun r => c.f (16 + 4 * r) 4
  let fl := c.f 33 1
  if !c.only [(16, 28), (48, 32)] || 1 < fl || (!bitAt fl 0 && !allZero (slice c.packet 48 32)) then
    fail s c.cid stInvalidParameter
  else match (hs.filter (· ≠ 0)).findSome? fun h => checkModel s c.fn c.partition h with
  | some st => fail s c.cid st
  | none =>
    let v := voiceOf s hs
    let k := c.partition
    let g := c.f 34 2
    if !voiceOk s hs || !kvPositionsOk v (c.f 40 4) then fail s c.cid stInvalidParameter
    else if !groupClassOk s k (c.f 32 1) g then fail s c.cid stInvalidParameter
    else
      let t := newStream s c hs
      if t.lc then
        let ts := (lcMembers s k g).map s.stream ++ [t]
        let a := admit213 s k (s.part k) g ts (lcFloor s (some (k, g, hs))) true
        if a == some 1 || a == some 2 then finish s c.cid stAdmissionRefused (a.getD 0) 0
        else match openAlloc s c t with
        | none => finish s c.cid stNoResource 4 0
        | some (s1, i) =>
          match a with
          | some n => finish s c.cid stAdmissionRefused n 0
          | none => finish s1 c.cid stOk 0 (s1.streamHandle i)
      else match openAlloc s c t with
      | none => fail s c.cid stNoResource
      | some (s1, i) => finish s1 c.cid stOk 0 (s1.streamHandle i)

/-- STREAM_OPEN (R292). -/
def execStreamOpen (cid : Nat) (s : State) : Host.Outcome State Fault Refusal := onCmd s cid 0x30 streamOpenEff

/-! ### STREAM_CLOSE, STREAM_SEED, STREAM_RESET -/

/-- The close of a stream once no run of it executes (R165). -/
def closeNow (s : State) (cid i : Nat) : State :=
  let s1 := freeStream s i
  fail s1 cid stOk

def streamCloseEff (c : Cmd) (s : State) : State :=
  withStream s c true false fun i =>
    let q := runsQueued s i c.cid
    if !q.isEmpty && !c.force then fail s c.cid stBusy
    else
      let s1 := finishAll (dropKernels s fun k => q.contains k.cid) stAborted q
      if runExecuting s1 i c.cid then waitOn s1 c.cid i else closeNow s1 c.cid i

/-- STREAM_CLOSE (R165). -/
def execStreamClose (cid : Nat) (s : State) : Host.Outcome State Fault Refusal := onCmd s cid 0x31 streamCloseEff

def streamSeedEff (c : Cmd) (s : State) : State :=
  withStream s c false false fun i =>
    if !c.only [(16, 8), (24, 4)] then fail s c.cid stInvalidParameter
    else fail (s.modStream i fun t => { t with pendSeed := some (c.f 16 8, c.f 24 4) }) c.cid stOk

/-- STREAM_SEED (R138). -/
def execStreamSeed (cid : Nat) (s : State) : Host.Outcome State Fault Refusal := onCmd s cid 0x32 streamSeedEff

def streamResetEff (c : Cmd) (s : State) : State :=
  withStream s c false false fun i =>
    if !c.only [(16, 2)] || 1 < c.f 16 2 then fail s c.cid stInvalidParameter
    else fail (s.modStream i fun t =>
      { t with pendReset := some (bitAt (c.f 16 2) 0 || t.pendReset == some true) }) c.cid stOk

/-- STREAM_RESET (R112). -/
def execStreamReset (cid : Nat) (s : State) : Host.Outcome State Fault Refusal := onCmd s cid 0x33 streamResetEff

/-! ### STATE_SAVE (R178) -/

/-- The capture and write of STATE_SAVE, once no run executes; slots that hold poison cannot be read (R389). -/
def saveNow (s : State) (c : Cmd) (i : Nat) : State :=
  let sign := bitAt (c.f 18 2) 0
  let s1 := s.modStream i applySeed
  let b := captureCtx s1 i sign
  if (s.stream i).poison then fail s c.cid stPoisonedData
  else writeSized (noteCapture (if sign then s1.used 1 else s1) i b) c (c.f 24 8) (c.f 32 8) b b.length

def stateSaveEff (c : Cmd) (s : State) : State :=
  withStream s c true true fun i =>
    if !c.only [(16, 4), (24, 16)] || 1 < c.f 18 2 || !addrValid (c.f 24 8) then fail s c.cid stInvalidParameter
    else if !mayName s c.fn (c.f 24 8) (c.f 32 8) false then fail s c.cid stNotPermitted
    else if c.f 16 1 ≠ 1 || c.f 17 1 ≠ 0 then fail s c.cid stVersionMismatch
    else if runExecuting s i c.cid then waitOn s c.cid i
    else saveNow (s.modCmd c.cid fun c => { c with waitStream := none }) c i

/-- STATE_SAVE (R178). -/
def execStateSave (cid : Nat) (s : State) : Host.Outcome State Fault Refusal := onCmd s cid 0x35 stateSaveEff

/-! ### STATE_RESTORE (R179, R180) -/

/-- Whether STATE_RESTORE requires a signature: its flag, or owner policy (R179, R316). -/
def restoreNeedsSig (s : State) (c : Cmd) : Bool := bitAt (c.f 16 2) 0 || s.sec.policy.getLsbD 1

/-- Complete a restore from a context that has been read, once its sink holds the new generation. Check 4 was made
before the registration, under the policy of that time (R431). -/
def restoreNow (s : State) (c : Cmd) (i : Nat) (b : Bytes) : State :=
  match tryRestore s i b false [] with
  | .failed n st => finish s c.cid st n 0
  | .ok s1 => fail (s1.modStream i fun t => { t with sinkRegistered := true }) c.cid stOk

/-- A remote sink of the stream takes a REGISTER before the context does (R169). -/
def remoteSink (s : State) (i : Nat) : Option (Nat × Nat) :=
  match (s.stream i).sink with
  | some (.host a _ id) => if hostRemote s a then some (a, id) else none
  | _ => none

/-- Send the REGISTER of a generation for a remote sink; `none` when it cannot be issued. -/
def sendRegister (s : State) (a id gen : Nat) (why : ReqPurpose) : Option State :=
  let r := issueReq s 5 (addrDevice a) false { address := a, sinkId := id, generation := gen % 2 ^ 16 } why
  if r.2 then some r.1 else none

/-- Restore from a context that has been read (R179, R180). -/
def restoreFrom (c : Cmd) (i : Nat) (s : State) (b : Bytes) : State :=
  match tryRestore s i b (restoreNeedsSig s c) (slice c.packet 48 32) with
  | .failed n st => finish s c.cid st n 0
  | .ok s1 =>
    match remoteSink s i with
    | some (a, id) =>
      match sendRegister s a id (rd b 40 2 + 1) (.registerSink c.cid i) with
      | none => fail s c.cid stFabricUnreachable
      | some s2 => s2.modCmd c.cid fun c => { c with fetched := [(0, b)] }
    | none =>
      match registerSink s1 c.cid i with
      | some (s2, _) => fail s2 c.cid stOk
      | none => finish s c.cid stNoResource 6 0

def stateRestoreEff (c : Cmd) (s : State) : State :=
  withStream s c false false fun i =>
    if !c.only [(16, 2), (24, 16), (48, 32)] || 1 < c.f 16 2 then fail s c.cid stInvalidParameter
    else if !(s.stream i).awaitContext && !(runsNaming s i c.cid).isEmpty then fail s c.cid stBusy
    else withStruct s c (c.f 24 8) (c.f 32 8) false (restoreFrom c i)

/-- STATE_RESTORE (R179). -/
def execStateRestore (cid : Nat) (s : State) : Host.Outcome State Fault Refusal := onCmd s cid 0x36 stateRestoreEff

/-! ### STATE_EVICT (R162, R163) -/

/-- The copy out begins, or NO_RESOURCE without room; a stream already away moves or stays. -/
def evictNow (s : State) (c : Cmd) (i : Nat) : State :=
  let geode := c.f 16 1 == 0
  let n := voiceStateBytes (voiceOf s (s.stream i).voice)
  let s0 := s.modCmd c.cid fun c => { c with waitStream := none }
  let already := match (s.stream i).resid with | .awayGeode => geode | .awayLpddr => !geode | _ => false
  if already then fail s0 c.cid stOk
  else
    match (if geode then roomGeode s0 n
           else if poolUsed s0 + n ≤ poolBytes s0 then some s0 else none) with
    | none => fail s0 c.cid stNoResource
    | some s1 =>
      match (s.stream i).resid with
      | .resident => s1.modStream i fun t => { t with resid := .movingOut geode }
      | _ => fail (s1.modStream i fun t => { t with resid := if geode then .awayGeode else .awayLpddr }) c.cid stOk

/-- A copy of the state slots is in progress (R160). -/
def Residency.moving : Residency → Bool
  | .movingOut _ => true
  | .fetching _ => true
  | _ => false

def stateEvictEff (c : Cmd) (s : State) : State :=
  withStream s c false false fun i =>
    if !c.only [(16, 1)] || 1 < c.f 16 1 then fail s c.cid stInvalidParameter
    else if !(runsQueued s i c.cid).isEmpty && !c.force then fail s c.cid stBusy
    else if runExecuting s i c.cid || (s.stream i).resid.moving then waitOn s c.cid i
    else evictNow s c i

/-- STATE_EVICT (R162). -/
def execStateEvict (cid : Nat) (s : State) : Host.Outcome State Fault Refusal := onCmd s cid 0x37 stateEvictEff

/-- STATE_COPY_OUT_DONE (R162): the slots are out, the stream is away, the command completes. -/
def copyOutEff (s : State) (i : Nat) (geode : Bool) : State :=
  let s1 := s.modStream i fun t => { t with resid := if geode then .awayGeode else .awayLpddr, seats := [] }
  match s1.cmds.find? fun c => c.opcode == 0x37 && c.started.isSome && c.waitStream.isNone && streamIndex c.object == i with
  | some c => fail s1 c.cid stOk
  | none => s1

def execStateCopyOutDone (stream : Nat) (s : State) : Host.Outcome State Fault Refusal :=
  if Instr.wf (.stateCopyOutDone stream) then
    match (s.stream stream).resid with
    | .movingOut g => doneIf s.live s (copyOutEff s stream g)
    | _ => done s
  else done s

/-! ### STREAM_MIGRATE (R181, R182) -/

/-- A migration fails and the stream accepts every command again (R182). -/
def migrateRefused (s : State) (c : Cmd) (i status : Nat) : State :=
  let s1 := (s.modStream i fun t => { t with mig := .none }).setStreamCause (s.stream i).part 1
  fail s1 c.cid status

/-- A migration fails and leaves the stream fenced (R182). -/
def migrateFenced (s : State) (c : Cmd) (i status : Nat) : State :=
  let s1 := (s.modStream i fun t => { t with mig := .fenced (c.f 16 2) (c.f 20 4) }).setStreamCause (s.stream i).part 1
  fail s1 c.cid status

/-- Move the sink of a stream to its migration target on the device, when that has none (R181). -/
def moveSink (s : State) (i j : Nat) : State :=
  if (s.stream j).sink.isSome then s
  else
    let k := (s.stream i).sink
    let s1 := (s.modStream j fun t => { t with sink := k }).modStream i fun t => { t with sink := none }
    match k with
    | some (.port p sl _) => s1.modSlot p sl fun q =>
      let q1 := if q.bound && q.stream == i then { q with stream := j } else q
      match q.staged with
      | some (some x) => if x.1 = i then { q1 with staged := some (some (j, x.2)) } else q1
      | _ => q1
    | _ => s1

/-- The end of a migration at the source (R181 steps 5 and 6). -/
def migrateEnd (s : State) (c : Cmd) (i step : Nat) : State := finish (freeStream s i) c.cid stOk 0 step

/-- Restore at a target stream on this device and end the migration (R181 steps 4 to 6). -/
def migrateLocalNow (s : State) (c : Cmd) (i j : Nat) (b : Bytes) : State :=
  match tryRestore s j b false [] with
  | .failed _ st => migrateRefused s c i st
  | .ok s1 =>
    let s2 := moveSink s1 i j
    match remoteSink s2 j with
    | some _ => migrateEnd (s2.modStream j fun t => { t with sinkRegistered := true }) c i (s.stream i).step
    | none =>
      match registerSink s2 c.cid j with
      | some (s3, _) => migrateEnd s3 c i (s.stream i).step
      | none => migrateRefused s c i stNoResource

/-- Delivery to a target on this device (R181). -/
def migrateLocal (s : State) (c : Cmd) (i : Nat) : State :=
  let h := c.f 20 4
  let j := streamIndex h
  let t := s.stream j
  let b := captureCtx s i false
  if !(t.isOpen && t.part == streamPart h && s.streamGenOf j == streamGen h) then migrateRefused s c i stStaleHandle
  else if t.restoredFrom == some (s.stream i).placementGen.toNat then migrateEnd s c i (s.stream i).step
  else if !t.awaitContext || j == i then migrateRefused s c i stBusy
  else
    match remoteSink (moveSink s i j) j with
    | some (a, id) =>
      match sendRegister s a id ((s.stream i).placementGen.toNat + 1) (.registerSink c.cid j) with
      | none => migrateRefused s c i stFabricUnreachable
      | some s1 => (noteCapture s1 i b).modCmd c.cid fun c => { c with fetched := [(0, b)] }
    | none => migrateLocalNow (noteCapture s i b) c i j b

/-- Delivery to a target on another device, as a signed context in a MESSAGE (R181, R371). -/
def migrateRemote (s : State) (c : Cmd) (i : Nat) : State :=
  let b := captureCtx s i true
  let s1 := noteCapture (s.used 1) i b
  if 2 ^ 32 ≤ b.length then migrateRefused s1 c i stNoResource
  else
    let r := issueReq s1 3 (c.f 16 2) false { address := c.f 20 4, length := b.length, data := b } (.migrate i)
    if r.2 then r.1.modStream i fun t => { t with mig := .delivered c.cid t.step (ctxDigest b) s.now }
    else migrateFenced r.1 c i stFabricUnreachable

/-- The capture and delivery, once every RUN accepted before has completed (R181 steps 1 to 3). -/
def migrateGo (s : State) (c : Cmd) (i : Nat) : State :=
  if (runsNaming s i c.cid).isEmpty then
    let s1 := (s.modStream i applySeed).modCmd c.cid fun c => { c with waitStream := none }
    if (s.stream i).poison then migrateRefused s1 c i stPoisonedData
    else if c.f 16 2 = s.ident.number.toNat then migrateLocal s1 c i else migrateRemote s1 c i
  else waitOn s c.cid i

/-- The stream is fenced by a migration to another target than the command's (R182). -/
def fencedElsewhere (t : Stream) (c : Cmd) : Bool :=
  match t.mig with
  | .fenced d h => d != c.f 16 2 || h != c.f 20 4
  | _ => false

def streamMigrateEff (c : Cmd) (s : State) : State :=
  withStream s c true false fun i =>
    if !c.only [(16, 2), (20, 4), (32, 32)] || 1023 < c.f 16 2 then fail s c.cid stInvalidParameter
    else if fencedElsewhere (s.stream i) c then finish s c.cid stBusy 0 1
    else migrateGo (s.modStream i fun t => { t with mig := .draining c.cid }) c i

/-- STREAM_MIGRATE (R181). -/
def execStreamMigrate (cid : Nat) (s : State) : Host.Outcome State Fault Refusal := onCmd s cid 0x38 streamMigrateEff

/-- The acknowledgement of a target on another device (R181, R182). -/
def migrateAckEff (s : State) (c : Cmd) (i step : Nat) (digest : Bytes) (status : Nat) (key r sg : Bytes) : State :=
  if status ≠ 0 then migrateRefused s c i status
  else if sm3 key == slice c.packet 32 32 && sm2Verify key r sg digest then migrateEnd s c i step
  else migrateFenced s c i stSecurityDenied

/-- MIGRATE_ACK (R181). -/
def execMigrateAck (stream status : Nat) (key sigR sigS : Bytes) (s : State) : Host.Outcome State Fault Refusal :=
  if Instr.wf (.migrateAck stream status key sigR sigS) then
    match (s.stream stream).mig with
    | .delivered cid step digest _ =>
      match s.cmd cid with
      | some c => doneIf s.live s (migrateAckEff s c stream step digest status key sigR sigS)
      | none => done s
    | _ => done s
  else done s

/-- MIGRATE_ACK_TIMEOUT (R182): no acknowledgement within FABRIC_TIMEOUT of the delivery. -/
def execMigrateAckTimeout (stream : Nat) (s : State) : Host.Outcome State Fault Refusal :=
  if Instr.wf (.migrateAckTimeout stream) then
    match (s.stream stream).mig with
    | .delivered cid _ _ since =>
      match s.cmd cid with
      | some c => doneIf (s.live && decide (since + 1000 * fabricTimeoutUs s ≤ s.now)) s
          (migrateFenced s c stream stFabricUnreachable)
      | none => done s
    | _ => done s
  else done s

/-! ### Commands that waited for a run (R162, R165, R178, R181) -/

/-- A command that waits for the runs of stream `i` goes on. -/
def resumeOne (s : State) (i : Nat) (c : Cmd) : State :=
  match c.opcode with
  | 0x31 => if runExecuting s i c.cid then s else closeNow s c.cid i
  | 0x35 => if runExecuting s i c.cid then s else saveNow (s.modCmd c.cid fun c => { c with waitStream := none }) c i
  | 0x37 => if runExecuting s i c.cid || (s.stream i).resid.moving then s else evictNow s c i
  | 0x38 => migrateGo s c i
  | _ => s

/-- Commands that wait for the runs of a stream, in order of acceptance. -/
def waiting (s : State) (i : Nat) : List Cmd := s.cmds.filter fun c => c.waitStream == some i

def resumeList (s : State) (i : Nat) : List Cmd → State
  | [] => s
  | c :: r => resumeList (if (s.cmd c.cid).isSome then resumeOne s i c else s) i r

/-- Every command that waits for the runs of one of the streams goes on where it can. -/
def resumeWaiting (s : State) : List Nat → State
  | [] => s
  | i :: r => resumeWaiting (resumeList s i (waiting s i)) r

/-! ### Checkpoints (R183 to R185, R298) -/

/-- A write of a checkpoint entry of an open stream of the group is unanswered. -/
def groupWriting (s : State) (k g : Nat) : Bool :=
  s.vertex.reqs.any fun q => match q.purpose with
    | .checkpoint j _ => (s.stream j).isOpen && (s.stream j).part == k && (s.stream j).group == g
    | _ => false

/-- A group gets a ring, and CHECKPOINT_SEQ starts again (R298). -/
def setRing (s : State) (k g : Nat) (r : CkptRing) : State :=
  (streamsOf s k fun t => t.group == g).foldl (fun s i => s.modStream i fun t => { t with ckptSeq := 0 })
    (s.modPart k fun p => { p with ckpts := tabSet {} p.ckpts g r, ckptNext := p.ckptNext.filter fun q => q.1 != g })

/-- A group's ring is replaced, after the entry being written is complete (R298). -/
def replaceRing (s : State) (k g : Nat) (r : CkptRing) : State :=
  if groupWriting s k g then
    s.modPart k fun p => { p with ckptNext := (p.ckptNext.filter fun q => q.1 != g) ++ [(g, r)] }
  else setRing s k g r

/-- The rings of a partition that waited and now take effect. -/
def settleRingList (s : State) (k : Nat) : List (Nat × CkptRing) → State
  | [] => s
  | q :: r => settleRingList (if groupWriting s k q.1 then s else setRing s k q.1 q.2) k r

/-- The rings that waited for an entry take effect in every partition (R298). -/
def settleRings (s : State) : List Nat → State
  | [] => s
  | k :: r => settleRings (settleRingList s k (s.part k).ckptNext) r

def checkpointSetEff (c : Cmd) (s : State) : State :=
  let g := c.f 16 2
  let k := c.partition
  let ring : CkptRing :=
    { base := c.f 24 8, entries := c.f 32 4, entryBytes := c.f 36 4, periodK := c.f 20 4, sign := bitAt (c.f 18 2) 0 }
  let n := (streamsOf s k fun t => t.group == g).length
  if !c.only [(16, 24)] || 4095 < g || 1 < c.f 18 2 || 65535 < ring.periodK then fail s c.cid stInvalidParameter
  else if ring.periodK = 0 then fail (replaceRing s k g {}) c.cid stOk
  else if addrSpace ring.base ≠ 2 || !addrValid ring.base || ring.base % 4096 ≠ 0 || ring.entries < 2 ||
      65536 < ring.entries || ring.entryBytes < 4096 || 2 ^ 30 < ring.entryBytes || ring.entryBytes % 4096 ≠ 0 ||
      ring.entries < 2 * n then fail s c.cid stInvalidParameter
  else if !mayName s c.fn ring.base (ring.entries * ring.entryBytes) false then fail s c.cid stNotPermitted
  else
    let ts := (lcMembers s k g).map s.stream
    let p := { s.part k with ckpts := tabSet {} (s.part k).ckpts g ring }
    let room := decide (stateUsed s k ≤ stateRoom p)
    let a := if ts.isEmpty then none else admit213 s k p g ts (lcFloor s none) room
    match a with
    | some x => finish s c.cid stAdmissionRefused x 0
    | none => fail (replaceRing s k g ring) c.cid stOk

/-- CHECKPOINT_SET (R183). -/
def execCheckpointSet (cid : Nat) (s : State) : Host.Outcome State Fault Refusal := onCmd s cid 0x39 checkpointSetEff

/-- The 64-byte prefix of a ring entry (R184). -/
def ckptPrefix (handle seq bytes step : Nat) (valid : Bool) : Bytes :=
  toLE 4 0x43504B31 ++ toLE 4 handle ++ toLE 8 seq ++ toLE 8 bytes ++ toLE 8 step ++ toLE 4 (b2n valid) ++ zeros 28

/-- A checkpoint is skipped (R184). -/
def ckptSkip (s : State) (i : Nat) : State :=
  let k := (s.stream i).part
  ((s.modStream i fun t => { t with ckptCopies := t.ckptCopies.drop 1 }).modPart k fun p =>
    { p with ckptSkipped := addSat p.ckptSkipped 1 }).setStreamCause k 0

/-- A checkpoint entry is complete (R184). -/
def ckptFinish (s : State) (i : Nat) : State :=
  let t := s.stream i
  let ring := tabGet {} (s.part t.part).ckpts t.group
  (s.modStream i fun t => { t with ckptSeq := t.ckptSeq + 1, ckptCopies := t.ckptCopies.drop 1 }).modPart t.part fun p =>
    { p with
      ckptWritten := addWrap p.ckptWritten 1
      ckpts := tabSet {} p.ckpts t.group { ring with next := (ring.next + 1) % max 1 ring.entries } }

/-- Address and bytes of one write of a checkpoint entry (R184). -/
def ckptPiece (s : State) (i stage : Nat) : Nat × Bytes :=
  let t := s.stream i
  let ring := tabGet {} (s.part t.part).ckpts t.group
  let b := t.ckptCopies.headD []
  let a := ring.base + ring.next * ring.entryBytes
  let pre (v : Bool) := ckptPrefix (s.streamHandle i) (t.ckptSeq + 1) b.length (rd b 8 8) v
  if stage = 0 then (a, pre false) else if stage = 1 then (a + 64, b) else (a, pre true)

/-- The last `n` writes of a checkpoint entry; a write to another device waits for its answer
(R184). -/
def ckptFrom : Nat → State → Nat → State
  | 0, s, i => ckptFinish s i
  | n + 1, s, i =>
    let w := ckptPiece s i (2 - n)
    if hostRemote s w.1 then
      let a := w.1 % 2 ^ 52
      let q := issueWrites s (addrDevice w.1) a w.2 {} (.checkpoint i (2 - n)) (blocks a w.2.length)
      if q.2 then q.1 else ckptSkip q.1 i
    else
      let q := namedWrite s (s.part (s.stream i).part).function.toNat w.1 w.2
      if q.2 then ckptFrom n q.1 i else ckptSkip q.1 i

/-- A write of a checkpoint of the group is unanswered. -/
def ckptBusy (s : State) (i : Nat) : Bool :=
  groupWriting s (s.stream i).part (s.stream i).group

/-- Write one captured context of a stream into the next entry of its group's ring (R184). -/
def checkpointEff (s : State) (i : Nat) (written : Bool) : State :=
  let t := s.stream i
  let ring := tabGet {} (s.part t.part).ckpts t.group
  let n := (t.ckptCopies.headD []).length
  if ring.periodK = 0 then s.modStream i fun t => { t with ckptCopies := t.ckptCopies.drop 1 }
  else if ring.entryBytes - 64 < n || !written then ckptSkip s i
  else ckptFrom 3 s i

/-- A write of a checkpoint entry is answered (R184, R376). -/
def ckptAnswered (s : State) (i stage : Nat) (ok : Bool) : State :=
  let mine (q : FabReq) : Bool := match q.purpose with | .checkpoint j _ => j == i | _ => false
  if !(s.stream i).isOpen || (s.stream i).ckptCopies.isEmpty then s
  else if !ok then
    ckptSkip { s with vertex := { s.vertex with reqs := s.vertex.reqs.filter fun q => !mine q } } i
  else if s.vertex.reqs.any mine then s
  else ckptFrom (2 - stage) s i

/-- A write of a checkpoint entry is answered, and rings that waited for the entry take effect (R184, R298). -/
def ckptAnswer (s : State) (i stage : Nat) (ok : Bool) : State :=
  let s1 := ckptAnswered s i stage ok
  settleRings s1 (tabKeys s1.parts)

/-- CHECKPOINT_WRITE (R184). `written` is false when the write of the entry fails. -/
def execCheckpointWrite (stream : Nat) (written : Bool) (s : State) : Host.Outcome State Fault Refusal :=
  if Instr.wf (.checkpointWrite stream written) then
    doneIf (s.live && !(s.stream stream).ckptCopies.isEmpty && !ckptBusy s stream) s
      (checkpointEff s stream written)
  else done s

end Sys2Proof.Machine
end

