-- ==== Sys2Proof/Machine/RunCmd.lean ====
section
/-! DEFINITION. RUN (R299, R300): its checks at acceptance, its input data (R52, R53, R89, R119), and
the counter limits that the culet checks at dispatch (R86, R116, R117). -/

namespace Sys2Proof.Machine

/-! ### Image inputs -/

/-- Image inputs of a voice with their RUN input number (R230). -/
def voiceInputs (v : Voice) : List (Nat × EdgeRec) :=
  v.imgs.flatMap fun rm => (rm.2.edges.filter fun e => e.producer == none32 && decide (e.source < 16)).map
    fun e => (e.source, e)

/-- Decimation and offset of the elements of RUN input k (R300). -/
def inputAnchor (v : Voice) (k : Nat) : Nat × Nat :=
  ((v.imgs.flatMap fun rm => (rm.2.ops.filter fun o => o.ins.any fun e =>
    (rm.2.edge e).producer == none32 && (rm.2.edge e).source == k).map OpRec.inStep).head?).getD (1, 0)

/-- Rows V of the smallest table that RUN input k indexes (R87). -/
def embedLimit (v : Voice) (k : Nat) : Option Nat :=
  let vs := v.imgs.flatMap fun rm => (rm.2.ops.filter fun o => o.type == 0x08 &&
    (rm.2.edge (o.inE 0)).producer == none32 && (rm.2.edge (o.inE 0)).source == k).map fun o => o.p 0
  match vs with
  | [] => none
  | x :: r => some (r.foldl min x)

/-! ### Tables of the packet -/

def parseDesc (b : Bytes) : InDesc :=
  { address := rd b 0 8, format := rd b 8 1, port := rd b 9 1, slot := rd b 10 1, scale := rd b 12 2,
    positions := rd b 16 4, stride := rd b 24 8 }

/-- Reserved bytes of a descriptor are zero (R13, R300). -/
def descReserved (b : Bytes) : Bool := rd b 11 1 == 0 && rd b 14 2 == 0 && rd b 20 4 == 0

/-- Bytes of one element of a FORMAT (R300). -/
def hostWidth (fmt : Nat) : Nat := if fmt = 0 ∨ fmt = 2 then 2 else 4

/-- A descriptor matches an edge that it serves (R52, R300, R342). -/
def descMatches (v : Voice) (k : Nat) (d : InDesc) (e : EdgeRec) : Bool :=
  let fixed := e.format == 2 || e.format == 3 || (e.format == 6 && (embedLimit v k).isNone)
  decide (d.format ≤ 4) && e.whole == decide (0 < d.positions) &&
  (if d.format < 2 then d.scale.testBit 9 else d.scale == 0) &&
  (if d.format = 3 then e.format == 6
   else if d.format = 4 then
     fixed && e.elements == 1 && e.rowsF == 1 && d.address == 0 && d.stride == 0 && d.positions == 0
   else fixed)

/-- The receive slot of a FORMAT 4 descriptor is one that the stream may read (R342). -/
def rxSlotOk (s : State) (part i : Nat) (d : InDesc) : Bool :=
  d.format != 4 ||
  (decide (d.port < 16) && (s.port d.port).owner.toNat == part && decide (d.slot < (s.port d.port).slots.toNat) &&
    (match ((s.port d.port).slot d.slot).rxReader with | none => true | some j => j == i))

/-- Inline marks of a packet (R107). -/
def inlineMarks (c : Cmd) : List Mark :=
  (upTo (c.f 25 1)).map fun j =>
    { step := c.f (64 + 8 * j) 4, member := c.f (68 + 8 * j) 2, reseed := bitAt (c.f (70 + 8 * j) 2) 0 }

/-- The first inline mark that R108 refuses: its member. -/
def badInline (c : Cmd) : Option Nat :=
  ((upTo (c.f 25 1)).find? fun j => decide (c.f 16 4 ≤ c.f (64 + 8 * j) 4) ||
    decide (c.f 22 2 ≤ c.f (68 + 8 * j) 2) || decide (1 < c.f (70 + 8 * j) 2)).map fun j => c.f (68 + 8 * j) 2

/-- Codes of a mark bitmap as (member, step, code), those of steps below N that are not 0 (R107,
R108). -/
def bitmapCodes (n : Nat) (b : Bytes) : List (Nat × Nat × Nat) :=
  let w := 32 * cdiv n 32
  ((b.zip (upTo b.length)).flatMap fun q => (upTo 4).map fun j =>
    ((4 * q.2 + j) / w, (4 * q.2 + j) % w, q.1.toNat / 4 ^ j % 4)).filter fun x => decide (x.2.1 < n) && x.2.2 != 0

def bitmapMarks (cs : List (Nat × Nat × Nat)) : List Mark :=
  cs.map fun x => { step := x.2.1, member := x.1, reseed := x.2.2 == 3 }

/-! ### Input data -/

/-- The byte of a fetched piece at a fabric address. -/
def fetchedByte (fs : List (Nat × Bytes)) (a : Nat) : Byte :=
  match fs.find? fun q => decide (q.1 ≤ a ∧ a < q.1 + q.2.length) with
  | some q => q.2.getD (a - q.1) 0
  | none => 0

/-- Where a command keeps the staged byte at an ADDR: bytes of this device or the host lie above all fabric
addresses. -/
def stagedAt (s : State) (v : Nat) : Nat := if addrRemote s v then addrBits v else 2 ^ 64 + v

/-- Bytes of RUN input data at an ADDR, as staged before the dispatch of the run's kernels (R20). -/
def inputBytes (s : State) (cid v n : Nat) : Bytes :=
  match s.cmd cid with
  | some c => (upTo n).map fun i => fetchedByte c.fetched (stagedAt s v + i)
  | none => zeros n

/-- Bytes of a member's data over `n` steps or positions (R89, R119, R300). -/
def dataBytes (d : InDesc) (e : EdgeRec) (n : Nat) : Nat := hostWidth d.format * e.rowsF * n * padded e

def fmtSigned (f : Nat) : Bool := f != 6
def fmtBits (f : Nat) : Nat := if f = 2 then 16 else 32

/-- A host element in the format of its edge (R52, R53, R87). -/
def hostElem (d : InDesc) (e : EdgeRec) (b : Bytes) : Int :=
  let n : Int := e.frac
  let sg := fmtSigned e.format
  let w := fmtBits e.format
  if d.format = 0 then hostFixed (signed 16 (leNat b)) (s16Mant d.scale) (s16Exp d.scale) n sg w
  else if d.format = 1 then hostFixed (signed 32 (leNat b)) (s16Mant d.scale) (s16Exp d.scale) n sg w
  else if d.format = 2 then f16ToFixed (leNat b) n sg w
  else (leNat b : Int)

/-- Element offset of (f, t, c) among T positions (R89, R119). -/
def elemOffset (e : EdgeRec) (T f t c : Nat) : Nat := (f * T + t) * padded e + c

/-- The elements of step or position t of a member's data. -/
def dataElem (s : State) (cid base : Nat) (d : InDesc) (e : EdgeRec) (t : Nat) : Tensor :=
  let w := hostWidth d.format
  let at' (f c : Nat) :=
    if e.whole then elemOffset e d.positions f t c else t * e.rowsF * padded e + elemOffset e 1 f 0 c
  { x := (upTo e.rowsF).flatMap fun f => (upTo e.elements).map fun c =>
      hostElem d e (inputBytes s cid (base + w * at' f c) w) }

/-- The input data of member j of a run (R300). -/
def runInputs (s : State) (r : Run) (v : Voice) (j : Nat) : Inputs :=
  { elem := fun k e t =>
      let d := r.descs.getD k {}
      if d.format = 4 then
        let (dd, f) := inputAnchor v k
        let first := r.bases.getD j 0
        let p := s.port d.port
        let step := (stepsBefore dd f first + t) * dd + f - first
        let code := (((r.rx.find? fun q => q.1 == k).map (·.2)).getD []).getD step 0
        { x := [rxElem p.sample.toNat code e.frac (fmtSigned e.format) (fmtBits e.format)] }
      else if d.format = 3 && e.whole then
        match r.indexData.find? fun q => q.1 == k && q.2.1 == j with
        | some q => { x := (upTo (e.rowsF * e.elements)).map fun c => q.2.2.getD (t * e.rowsF * e.elements + c) 0 }
        | none => {}
      else dataElem s r.cid (d.address + j * d.stride) d e t
    positions := fun k => (r.descs.getD k {}).positions }

/-! ### Whole-edge lengths (R83, R86, R121) -/

def lenOf (v : Voice) (pos : Nat → Nat) (ls : List (Nat × Nat × Nat)) (role e : Nat) : Nat :=
  let held (r k : Nat) := ((ls.find? fun q => q.1 == r && q.2.1 == k).map (·.2.2)).getD 0
  let ed := (v.img role).edge e
  if ed.producer ≠ none32 then held role e
  else if ed.source = 0x100 then
    match v.prevRole role with
    | some r => held r (v.img r).outputEdge
    | none => 0
  else pos ed.source

/-- Positions that a whole-edge operator puts out. -/
def outLen (m : Image) (o : OpRec) (ts : List Nat) : Nat :=
  let t := ts.getD 0 0
  if o.type = 0x18 ∨ o.type = 0x19 ∨ o.type = 0x1A ∨ o.type = 0x1B then windowLen o t
  else if o.type = 0x0B then
    if o.p 0 = 2 ∧ o.p 1 = 0 then (m.edge (o.inE 0)).elements
    else if o.p 0 = 2 ∧ o.p 1 = 1 then (m.edge (o.inE 0)).rowsF
    else if o.p 1 = 0 then
      if o.p 0 = 0 then sumN ts
      else if o.p 0 = 1 then min (o.p 3) (t - o.p 2)
      else max (o.p 3) (o.p 2 + t)
    else maxN ts
  else t

/-- Lengths of the whole edges that the operators of a voice put out, as (role, edge, positions). -/
def wholeLens (v : Voice) (pos : Nat → Nat) : List (Nat × Nat × Nat) :=
  v.order.foldl (fun ls ri =>
    let m := v.img ri.1
    let o := m.op ri.2
    if isWholeOp m o then
      ls ++ o.outs.map fun e => (ri.1, e, outLen m o (o.ins.map fun i => lenOf v pos ls ri.1 i))
    else ls) []

/-- The lengths of a RUN break none of R83, R86 and R121. -/
def wholeLensOk (v : Voice) (pos : Nat → Nat) : Bool :=
  let ls := wholeLens v pos
  v.order.all fun ri =>
    let m := v.img ri.1
    let o := m.op ri.2
    (!(isWholeOp m o && o.type != 0x07) || decide (1 ≤ outLen m o (o.ins.map fun i => lenOf v pos ls ri.1 i))) &&
    (o.type != 0x07 || !(m.edge (o.inE 1)).whole ||
      (decide (lenOf v pos ls ri.1 (o.inE 1) ≤ m.maxContext) &&
        (!((m.edge (o.inE 0)).whole && (o.p 4 == 1 || o.p 3 != 0)) ||
          lenOf v pos ls ri.1 (o.inE 0) == lenOf v pos ls ri.1 (o.inE 1))))

/-! ### Counter limits (R86, R116, R117) -/

/-- Steps of a member's marks, ascending. -/
def markSteps (ms : List Mark) (j : Nat) : List Nat :=
  sortNat (((ms.filter fun m => m.member == j).map (·.step)).eraseDups)

/-- The marks of member j at run step t act as one reset: whether it carries RESEED (R113). -/
def markAt (ms : List Mark) (j t : Nat) : Option Bool :=
  let here := ms.filter fun m => m.member == j && m.step == t
  if here.isEmpty then none else some (here.any (·.reseed))

/-- Base steps [a, b) with the given counters break no limit. -/
def segmentOk (v : Voice) (kvPos resetAt noiseAt a b : Nat) : Bool :=
  decide (b ≤ a) ||
  (decide (b - 1 - resetAt < 2 ^ 40 ∧ b - 1 - noiseAt < 2 ^ 44) &&
   v.imgs.all fun rm => rm.2.ops.all fun o => !keepsKv rm.2 o ||
    (let before (x : Nat) := stepsBefore o.dec o.off x
     decide (before b ≤ before a) ||
       decide (before b - firstStep o.dec o.off resetAt ≤
         (if o.p 3 = 0 then min rm.2.maxContext kvPos else rm.2.maxContext))))

/-- The limits over a run of a member from base step `a` to `fin`, by the steps of its marks. -/
def limitsFrom (v : Voice) (kvPos base fin : Nat) (ms : List Mark) (j : Nat) :
    List Nat → Nat → Nat → Nat → Bool
  | [], resetAt, noiseAt, a => segmentOk v kvPos resetAt noiseAt a fin
  | t :: r, resetAt, noiseAt, a =>
    segmentOk v kvPos resetAt noiseAt a (base + t) &&
    limitsFrom v kvPos base fin ms j r (base + t)
      (if markAt ms j t == some true then base + t else noiseAt) (base + t)

/-- A pending STREAM_RESET is a mark at step 0 (R112). -/
def withReset (t : Stream) (j : Nat) (ms : List Mark) : List Mark :=
  match t.pendReset with
  | some reseed => { step := 0, member := j, reseed := reseed } :: ms
  | none => ms

/-- Member j may run the steps of the run under its counters (R86, R117, R138). -/
def memberLimitsOk (s : State) (r : Run) (i j : Nat) : Bool :=
  let t := applySeed (s.stream i)
  let ms := withReset t j r.marks
  limitsFrom (voiceOf s t.voice) t.kvPositions t.step (t.step + r.steps) ms j (markSteps ms j)
    t.resetAt t.noiseAt t.step

/-! ### Acceptance -/

/-- What refuses a RUN: status, DETAIL and RESULT. -/
abbrev Refused := Option (Nat × Nat × Nat)

/-- The checks of one member (R154, R156, R182, R299), `before` being the members ahead of it. -/
def memberCheck (s : State) (c : Cmd) (before : List Nat) (h j : Nat) : Refused :=
  let i := streamIndex h
  match checkStream s c.fn c.partition h with
  | some st => some (st, if st = stInvalidParameter then j else 0, 0)
  | none =>
    let t := s.stream i
    let f := s.stream (before.headD i)
    if closing s i c.cid then some (stStaleHandle, 0, 0)
    else if before.contains i || t.group != f.group ||
        (upTo 4).any (fun r => idOfHandle s (t.voice.getD r 0) != idOfHandle s (f.voice.getD r 0)) then
      some (stInvalidParameter, j, 0)
    else match t.mig with
    | .fenced _ _ => some (stBusy, j, 1)
    | .none => if t.sink.isNone && !t.awaitContext then some (stInvalidParameter, j, 0) else none
    | _ => some (stBusy, j, 2)

def membersCheck (s : State) (c : Cmd) : List Nat → List Nat → Nat → Refused
  | [], _, _ => none
  | h :: r, before, j =>
    match memberCheck s c before h j with
    | some x => some x
    | none => membersCheck s c r (before ++ [streamIndex h]) (j + 1)

/-- A table of the RUN goes on to `k`: its snapshot of acceptance, or bytes that come from another
device (R276, R299). -/
def runTable (s : State) (c : Cmd) (v n : Nat) (snap : Bytes) (k : State → Bytes → State) : State :=
  if v = 0 || n = 0 then k s []
  else if !addrValid v then fail s c.cid stInvalidParameter
  else if !mayName s c.fn v n false then fail s c.cid stNotPermitted
  else if addrRemote s v then
    (if c.readStatus ≠ 0 then fail s c.cid c.readStatus else withStruct s c v n false k)
  else k s snap

/-- Reads whole-edge index data of every member, descriptor by descriptor (R87). -/
def readIndices (s : State) (c : Cmd) (v : Voice) (ds : List InDesc) (fin : State → List (Nat × Nat × List Int) → State) :
    List (Nat × Nat) → List (Nat × Nat × List Int) → State
  | [], acc => fin s acc
  | (k, j) :: r, acc =>
    let d := ds.getD k {}
    match (voiceInputs v).find? fun q => q.1 == k with
    | none => readIndices s c v ds fin r acc
    | some q =>
      withStruct s c (d.address + j * d.stride) (dataBytes d q.2 d.positions) false fun s1 b =>
        let e := q.2
        let xs := (upTo d.positions).flatMap fun t => (upTo e.rowsF).flatMap fun f => (upTo e.elements).map fun ch =>
          (rd b (4 * elemOffset e d.positions f t ch) 4 : Int)
        if (embedLimit v k).any fun lim => xs.any fun x => decide ((lim : Int) ≤ x) then
          finish s1 c.cid stInvalidParameter j 0
        else readIndices s1 c v ds fin r (acc ++ [(k, j, xs)])

/-- A RUN was accepted before another (R261). -/
def Run.before (q r : Run) : Bool := decide (q.order < r.order ∨ (q.order = r.order ∧ q.cid < r.cid))

/-- Queue the RUN, in order of acceptance (R261). -/
def queueRun (rs : List Run) (r : Run) : List Run :=
  rs.takeWhile (fun q => q.before r) ++ r :: rs.dropWhile fun q => q.before r

/-- The streams of a FORMAT 4 descriptor own their slots from the first RUN that reads them (R342). -/
def claimSlots (s : State) (i : Nat) : List InDesc → State
  | [] => s
  | d :: r =>
    claimSlots (if d.format = 4 then s.modSlot d.port d.slot fun q => { q with rxReader := some i } else s) i r

/-- The RUN passes: it is queued at the culet. -/
def acceptRun (c : Cmd) (is : List Nat) (ms : List Mark) (ds : List InDesc) (idx : List (Nat × Nat × List Int))
    (s : State) : State :=
  let t := s.stream (is.headD 0)
  let used := (voiceInputs (voiceOf s t.voice)).map (·.1)
  let long := is.any fun i => (ds.zip (upTo ds.length)).any fun q =>
    used.contains q.2 && decide ((s.stream i).maxPrompt < q.1.positions)
  let r : Run :=
    { cid := c.cid, order := c.order, fn := c.fn, ring := c.ring, part := c.partition, group := t.group, lc := t.lc,
      members := is, steps := c.f 16 4, chunk := max 1 (c.f 20 2), descs := ds, marks := ms, indexData := idx,
      longPrompt := t.lc && long }
  let s1 := claimSlots s (is.headD 0) ((ds.zip (upTo ds.length)).filterMap fun q =>
    if used.contains q.2 then some q.1 else none)
  ({ s1 with runs := queueRun s1.runs r }).modCmd c.cid fun e => { e with members := is, resume := false }

/-- The descriptors serve the voice's image inputs (R300): the DETAIL of the first that does not. -/
def descsCheck (s : State) (c : Cmd) (v : Voice) (is : List Nat) (raw : List Bytes) (ds : List InDesc) : Option Nat :=
  let ins := voiceInputs v
  let served := (ds.zip (upTo ds.length)).flatMap fun q =>
    (ins.filter fun e => e.1 == q.2).map fun e => (q.1, q.2, e.2)
  if ins.any (fun q => decide (ds.length ≤ q.1)) then some 0
  else if !(raw.all descReserved) then some 0
  else if served.any (fun q => !descMatches v q.2.1 q.1 q.2.2) then some 0
  else ((upTo is.length).find? fun j => served.any fun q =>
    (q.1.format != 4 && !addrValid (q.1.address + j * q.1.stride)) ||
    !rxSlotOk s c.partition (is.getD j 0) q.1 || (q.1.format == 4 && j != 0))

/-- The checks of a RUN whose tables have been read, then its queueing (R299, R300). -/
def runChecks (c : Cmd) (dt mt bt : Bytes) (s : State) : State :=
  let hs := if c.f 40 8 = 0 then [c.object] else (chunks 4 mt).map leNat
  let raw := chunks 32 dt
  let ds := raw.map parseDesc
  if c.readStatus ≠ 0 then fail s c.cid c.readStatus
  else if hs.headD 0 ≠ c.object then finish s c.cid stInvalidParameter 0 0
  else match membersCheck s c hs [] 0 with
  | some (st, d, res) => finish s c.cid st d res
  | none =>
    let is := hs.map streamIndex
    let codes := bitmapCodes (c.f 16 4) bt
    match badInline c, codes.find? (fun x => x.2.2 == 2) with
    | some m, _ => finish s c.cid stInvalidParameter m 0
    | none, some x => finish s c.cid stInvalidParameter x.1 0
    | none, none =>
      let v := voiceOf s (s.stream (is.headD 0)).voice
      match descsCheck s c v is raw ds with
      | some d => finish s c.cid stInvalidParameter d 0
      | none =>
        let ms := inlineMarks c ++ bitmapMarks codes
        let whole := (ds.zip (upTo ds.length)).filter fun q => q.1.format == 3 && decide (0 < q.1.positions)
        readIndices s c v ds (fun s1 idx => acceptRun c is ms ds idx s1)
          (whole.flatMap fun q => (upTo is.length).map fun j => (q.2, j)) []

/-- RUN is accepted by the culet (R299). -/
def runEff (c : Cmd) (s : State) : State :=
  if c.wanting ≠ 0 then s
  else if !runFieldsOk c then fail s c.cid stInvalidParameter
  else
    runTable s c (c.f 32 8) (32 * c.f 24 1) c.descTable fun s1 dt =>
    runTable s1 c (c.f 40 8) (4 * c.f 22 2) c.memberList fun s2 mt =>
    runTable s2 c (c.f 48 8) (bitmapBytes (c.f 22 2) (c.f 16 4)) c.bitmap fun s3 bt =>
    runChecks c dt mt bt s3

/-- An earlier RUN of a stream that the RUN names has not completed: a RUN that is refused waits for it, so that the
two complete in ring order (R259). -/
def behindRun (s : State) (c : Cmd) : Bool :=
  s.cmds.any fun e => e.before c && e.opcode == 0x34 && e.fn == c.fn && e.ring == c.ring && c.common e

/-- RUN (R299): it joins the culet's queue and starts at its first kernel (R270). -/
def execRun (cid : Nat) (s : State) : Host.Outcome State Fault Refusal :=
  match s.cmd cid with
  | none => done s
  | some c =>
    if ready s c 0x34 && !(behindRun s c && ((runEff c s).cmd cid).isNone) then done (runEff c s) else done s

end Sys2Proof.Machine
end

