-- ==== Sys2Proof/Machine/Plan.lean ====
section
/-! DEFINITION. What the culet does with queued RUNs: dispatch (R20, R86, R87, R117, R164, R245, R247),
kernels and their declared durations (R72, R104, R105, R118, R211), and giving them to facets (R206,
R212). Which kernels a run is cut into never changes a result bit (R35, log 10). -/

namespace Sys2Proof.Machine

/-! ### The voice of a run -/

/-- Descriptors that serve an image input, with their number and edge (R300). -/
def servedDescs (r : Run) (v : Voice) : List (Nat × InDesc × EdgeRec) :=
  (r.descs.zip (upTo r.descs.length)).flatMap fun q =>
    ((voiceInputs v).filter fun e => e.1 == q.2).map fun e => (q.2, q.1, e.2)

/-- Elements of RUN input k that the run reads from base step `base` on (R300). -/
def inputSteps (v : Voice) (k base steps : Nat) : Nat :=
  let a := inputAnchor v k
  stepsBefore a.1 a.2 (base + steps) - stepsBefore a.1 a.2 base

/-- Bytes of a descriptor's data for a member. -/
def descBytesOf (s : State) (r : Run) (v : Voice) (j : Nat) (q : Nat × InDesc × EdgeRec) : Nat :=
  dataBytes q.2.1 q.2.2 (if q.2.2.whole then q.2.1.positions
    else inputSteps v q.1 (s.stream (r.members.getD j 0)).step r.steps)

/-- Input data of the run: member, address and bytes of every served descriptor that is read from
memory when it is staged. -/
def stagedData (s : State) (r : Run) (v : Voice) : List (Nat × Nat × Nat) :=
  (upTo r.members.length).flatMap fun j =>
    ((servedDescs r v).filter fun q => q.2.1.format != 4 && !(q.2.1.format == 3 && q.2.2.whole)).map fun q =>
      (j, q.2.1.address + j * q.2.1.stride, descBytesOf s r v j q)

/-! ### Fetch-back (R164) -/

/-- The copy back of an away stream begins where the partition has room (R161, R164). -/
def fetchBack (s : State) (i : Nat) : State :=
  let t := s.stream i
  match t.resid with
  | .awayGeode | .awayLpddr =>
    let need := voiceStateBytes (voiceOf s t.voice)
    match roomState (s.streams.length + 1) s t.part t.voice need with
    | none => s
    | some s1 =>
      let seats := (seatsFor s1 t.part t.voice need).getD []
      s1.modStream i fun t => { t with resid := .fetching (decide (t.resid = .awayGeode)), seats := seats }
  | _ => s

def fetchBacks (s : State) : List Nat → State
  | [] => s
  | i :: r => fetchBacks (fetchBack s i) r

def membersResident (s : State) (r : Run) : Bool := r.members.all fun i => (s.stream i).resid == .resident

/-- A dispatched RUN finds members away: state misses are counted once for the RUN and the copies back
begin (R160, R164). -/
def stateMissEff (s : State) (r : Run) : State :=
  let away := r.members.filter fun i => (s.stream i).resid == .awayGeode || (s.stream i).resid == .awayLpddr
  let s1 := if away.isEmpty || r.stateMiss then s else
    (((s.modPart r.part fun p => { p with stateMisses := addWrap p.stateMisses away.length }).setStreamCause r.part 4).modRun
      r.cid fun q => { q with stateMiss := true })
  fetchBacks s1 away

/-! ### Models (R206, R245, R247) -/

/-- Identities that a dispatched run still needs placed and that are not (R245, R392). -/
def missingIds (s : State) (r : Run) : List Bytes :=
  (opReads s r (leftOps r (runVoice s r))).filter fun id => !streamedMode s r.part id && !t0Placed (s.part r.part) id

/-- Start the placements that the run waits for. -/
def placeAll (s : State) (k : Nat) : List Bytes → State
  | [] => s
  | id :: r =>
    placeAll (if (t0Find (s.part k) id).isSome then s else (beginPlace s k id []).getD s) k r

/-- A dispatched run finds models not placed (R245). -/
def modelMissEff (s : State) (r : Run) : State :=
  let ms := missingIds s r
  let s1 := if ms.isEmpty || r.modelMiss then s else
    ((s.modPart r.part fun p => { p with modelMisses := addWrap p.modelMisses 1 }).setModelCause r.part 2).modRun
      r.cid fun q => { q with modelMiss := true }
  placeAll s1 r.part ms

/-- The run is of a streamed model, and a run of another one executes in the partition (R247). -/
def streamedBusy (s : State) (r : Run) : Bool :=
  !(streamedIds s r).isEmpty && s.runs.any fun q => q.part == r.part && q.dispatched && q.streamed && q.cid != r.cid &&
    decide (streamedIds s q ≠ streamedIds s r)

/-- The first streamed run of a model copies it into T1 (R247). -/
def firstStreamed (s : State) (id : Bytes) : State :=
  if s.models.any fun kv => kv.2.identity == id && kv.2.streamedOnce then s
  else
    let s1 := { s with models := tabMapV {} s.models fun _ q => if q.identity = id then { q with streamedOnce := true } else q }
    if (t1Find s1 id).isSome then s1 else (beginT1 s1 id []).getD s1

/-- A streamed run begins: idle copies make room for its staging (R242, R247). -/
def streamedEff (s : State) (r : Run) : State :=
  let ids := streamedIds s r
  if ids.isEmpty then s
  else
    let s1 := (s.modPart r.part fun p => { p with streamedRuns := addWrap p.streamedRuns 1 }).setModelCause r.part 3
    let s2 := (roomT0 ((s1.part r.part).t0.length + 1) s1 r.part (openFacets s1 r.part) (stagingNeed s1 r.part) 0 []).getD s1
    ids.foldl firstStreamed s2

/-! ### Dispatch -/

/-- An earlier RUN names one of the members. -/
def earlierRun (s : State) (r : Run) : Bool :=
  s.runs.any fun q => q.before r && q.members.any fun i => r.members.contains i

/-- Bytes of input data that a run stages from other devices, for which the device pool needs a landing zone (R220,
R356). -/
def landingNeed (s : State) (r : Run) (v : Voice) : Nat :=
  sumN (((stagedData s r v).filter fun q => addrRemote s q.2.1).map fun q => q.2.2)

/-- What refuses a RUN at its dispatch: status and DETAIL (R86, R117, R156, R247, R356, R358). -/
def dispatchCheck (s : State) (r : Run) (v : Voice) : Option (Nat × Nat) :=
  let js := upTo r.members.length
  let stream (j : Nat) := s.stream (r.members.getD j 0)
  let pos (k : Nat) := (r.descs.getD k {}).positions
  match js.find? fun j => (stream j).sink.isNone with
  | some j => some (stInvalidParameter, j)
  | none =>
    if !wholeLensOk v pos then some (stInvalidParameter, 0)
    else match js.find? fun j => !memberLimitsOk s r (r.members.getD j 0) j with
    | some j => some (stInvalidParameter, j)
    | none =>
      if (stagedData s r v).any fun q => !mayName s r.fn q.2.1 q.2.2 false then some (stNotPermitted, 0)
      else if landingNeed s r v ≠ 0 ∧ poolBytes s < poolUsed s + landingNeed s r v then some (stNoResource, 0)
      else if (streamedIds s r).any fun id =>
          decide (stagingRoom s r.part < largestOp s id) then some (stNoResource, 0)
      else none

/-- Stage the input data that lies on other devices: one READ for each block, which carries the
stream's placement generation (R20, R220). `false` when one completes with FABRIC_UNREACHABLE. -/
def stageRemote (s : State) (r : Run) : List (Nat × Nat × Nat) → State × Bool
  | [] => (s, true)
  | (j, a, n) :: rest =>
    if !addrRemote s a then stageRemote s r rest
    else
      let i := r.members.getD j 0
      let ps := blocks (addrBits a) n
      let q := issueReads s a (fun x => .staging r.cid x) ps
      if !q.2 then (q.1, false)
      else
        let st := ps.map fun p =>
          ({ stream := i, gen := (s.stream i).placementGen.toNat, cid := r.cid, addr := p.1, len := p.2 } : Stage)
        stageRemote ((q.1.modCmd r.cid fun c => { c with wanting := c.wanting + ps.length }).modPart r.part fun p =>
          { p with stages := p.stages ++ st }) r rest

/-- Stage the input data on this device and the host: it is read when the run is dispatched (R20, R358). -/
def stageLocal (s : State) (r : Run) (ds : List (Nat × Nat × Nat)) : State :=
  ds.foldl (fun s q => if addrRemote s q.2.1 then s else
    (addrReadEff s r.fn q.2.1 q.2.2).modCmd r.cid fun c =>
      { c with fetched := c.fetched ++ [(stagedAt s q.2.1, (addrRead s q.2.1 q.2.2).1)] }) s

/-- Some input byte on this device or the host is poisoned. -/
def inputPoisoned (s : State) (r : Run) (v : Voice) : Bool :=
  (stagedData s r v).any fun q => !addrRemote s q.2.1 && (addrRead s q.2.1 q.2.2).2

/-- The RUN is dispatched: pending seeds and resets take effect (R112, R138), and staging begins. -/
def startRun (s : State) (r : Run) (v : Voice) : State :=
  let ms := (upTo r.members.length).foldl (fun ms j => withReset (s.stream (r.members.getD j 0)) j ms) r.marks
  let s1 := r.members.foldl (fun s i => s.modStream i fun t => { applySeed t with pendReset := none }) s
  let whole := v.imgs.any fun rm => rm.2.ops.any fun o => isWholeOp rm.2 o
  let s2 := s1.modRun r.cid fun q =>
    { q with
      dispatched := true, marks := ms, bases := r.members.map fun i => (s.stream i).step
      nops := max 1 v.order.length
      prefillTotal := if whole then maxN ((servedDescs r v).map fun d => d.2.1.positions) else 0
      streamed := !(streamedIds s r).isEmpty }
  let s3 := streamedEff s2 r
  let s4 := stageLocal s3 r (stagedData s3 r v)
  if inputPoisoned s3 r v then sinkFault s4 r.part r.group
  else
    let q := stageRemote s4 r (stagedData s3 r v)
    if q.2 then q.1 else sinkFault q.1 r.part r.group

/-- Nothing keeps the partition from dispatching a run of the group. -/
def groupOpen (s : State) (k g : Nat) : Bool :=
  (s.part k).valid && (s.part k).resetting.isNone && (s.part k).destroying.isNone && !(s.part k).tearing.contains g

/-- Member j of the run would overwrite a KV position that its stream holds now: it sets a mark, or runs past the
window (R93, R112, R185). -/
def overwritesKv (s : State) (r : Run) (j : Nat) : Bool :=
  let t := s.stream (r.members.getD j 0)
  (voiceOf s t.voice).imgs.any fun rm => rm.2.ops.any fun o =>
    let before (x : Nat) := stepsBefore o.dec o.off x
    let held := before t.step - firstStep o.dec o.off t.resetAt
    keepsKv rm.2 o && decide (0 < held) &&
      (((markSteps (withReset t j r.marks) j).any fun x => decide (before (t.step + x) < before (t.step + r.steps))) ||
        (o.p 3 != 0 && decide (before t.step < before (t.step + r.steps) ∧
          o.p 3 < held + (before (t.step + r.steps) - before t.step))))

/-- A captured context of a member is not written yet and the run would overwrite what it includes (R185). -/
def ckptHolds (s : State) (r : Run) : Bool :=
  (upTo r.members.length).any fun j => !(s.stream (r.members.getD j 0)).ckptCopies.isEmpty && overwritesKv s r j

/-- Dispatch a RUN where nothing holds it. -/
def tryDispatch (s : State) (r : Run) : State :=
  if r.dispatched || !groupOpen s r.part r.group || earlierRun s r ||
      r.members.any (fun i => (s.stream i).awaitContext) || ckptHolds s r then s
  else
    let v := runVoice s r
    match dispatchCheck s r v with
    | some (st, d) => finish s r.cid st d 0
    | none => if streamedBusy s r then s else startRun s r v

/-! ### Staged inputs (R87) -/

/-- First run step of member j at which stepped index input k, served by descriptor `d`, is out of
range. -/
def badIndex (s : State) (r : Run) (v : Voice) (j : Nat) (q : Nat × InDesc × EdgeRec) : Option Nat :=
  match embedLimit v q.1 with
  | none => none
  | some lim =>
    if q.2.1.format ≠ 3 || q.2.2.whole then none
    else
      let a := inputAnchor v q.1
      let base := r.bases.getD j 0
      let first := stepsBefore a.1 a.2 base
      ((upTo (inputSteps v q.1 base r.steps)).find? fun t =>
        (dataElem s r.cid (q.2.1.address + j * q.2.1.stride) q.2.1 q.2.2 t).x.any fun x => decide ((lim : Int) ≤ x)).map
          fun t => (first + t) * a.1 + a.2 - base

/-- The earliest stop over the members and descriptors of a run: its step and member. -/
def stopOf (s : State) (r : Run) (v : Voice) : Option (Nat × Nat) :=
  let xs := (upTo r.members.length).flatMap fun j =>
    (servedDescs r v).filterMap fun q => (badIndex s r v j q).map fun t => (t, j)
  xs.foldl (fun b x => match b with
    | none => some x
    | some y => if x.1 < y.1 then some x else some y) none

/-- A dispatched run whose input has all arrived is staged, and its stepped indices are checked. -/
def stageDone (s : State) (r : Run) : State :=
  let arrived := (match s.cmd r.cid with | some c => c.wanting == 0 | none => true) &&
    !((s.part r.part).stages.any fun q => q.cid == r.cid)
  if r.dispatched && !r.staged && arrived then
    s.modRun r.cid fun q => { q with staged := true, stopAt := stopOf s r (runVoice s r) }
  else s

/-- Every base step of the run has run, so that it needs its members and models no longer. -/
def allRun (r : Run) : Bool := r.staged && decide (r.fin * r.nops ≤ r.done)

/-! ### Batches (R65) -/

/-- The facet on which a member has its row: that of its first state slot. -/
def rowFacet (s : State) (r : Run) (j : Nat) : Option Nat := (s.stream (r.members.getD j 0)).seats.head?.map (·.facet)

/-- The members of a run, those with rows on one facet together, at most ROWS of them in a batch (R65). -/
def batchesOf (s : State) (r : Run) : List (List Nat) :=
  let js := upTo r.members.length
  ((js.map (rowFacet s r)).eraseDups).flatMap fun f =>
    chunks (s.part r.part).rowCount (js.filter fun j => rowFacet s r j == f)

/-- The batches in which a run is processed. -/
def runBatches (s : State) (r : Run) : List (List Nat) := if r.batches.isEmpty then batchesOf s r else r.batches

def batchCount (s : State) (r : Run) : Nat := max 1 (runBatches s r).length

/-- Member indexes of a batch. -/
def batchOf (s : State) (r : Run) (b : Nat) : List Nat := (runBatches s r).getD b []

/-- A run's batches are fixed when its members are resident and its input is staged. -/
def fixBatches (s : State) (r : Run) : State :=
  if r.staged && r.batches.isEmpty && membersResident s r then s.modRun r.cid fun q => { q with batches := batchesOf s r }
  else s

/-- Dispatch or go on with a run: its members resident, its models placed, its input staged. -/
def advanceRun (s : State) (cid : Nat) : State :=
  let go (f : State → Run → State) (s : State) : State := match s.runOf cid with | some r => f s r | none => s
  let disp (f : State → Run → State) (s : State) (r : Run) : State := if r.dispatched && !allRun r then f s r else s
  go (disp fixBatches) (go (disp stageDone) (go (disp modelMissEff) (go (disp stateMissEff) (go tryDispatch s))))

/-- Kernels of the run can be made. -/
def runnable (s : State) (r : Run) : Bool :=
  r.dispatched && r.staged && groupOpen s r.part r.group && membersResident s r && (missingIds s r).isEmpty &&
  r.stopAt.all fun q => decide (q.1 ≠ 0)

/-! ### Durations (R72, R211) -/

/-- Positions of a whole edge of a run's voice (R118). -/
def edgeLen (r : Run) (v : Voice) (role e : Nat) : Nat :=
  let pos := fun k => (r.descs.getD k {}).positions
  lenOf v pos (wholeLens v pos) role e

/-- The base step of the latest reset of member j before base step `b`: the last mark of the run before it, or the
stream's own (R109, R112). -/
def resetBefore (s : State) (r : Run) (j b : Nat) : Nat :=
  let base := r.bases.getD j 0
  ((markSteps r.marks j).filter fun x => decide (base + x < b)).foldl (fun m x => max m (base + x))
    (s.stream (r.members.getD j 0)).resetAt

/-- Positions that an attention operator sees of member j at its latest query: before base step `b` on
stepped keys, of query position `q` − 1 on whole ones (R73, R83, R86). -/
def attLen (s : State) (r : Run) (v : Voice) (role i j b q : Nat) : Nat :=
  let m := v.img role
  let o := m.op i
  if keepsKv m o then
    min (lMax m o) (max 1 (stepsBefore o.dec o.off b - firstStep o.dec o.off (resetBefore s r j b)))
  else
    let n := edgeLen r v role (o.inE 1)
    if (m.edge (o.inE 0)).whole then
      max 1 ((if o.p 4 = 1 then min q n else n) - (if o.p 3 = 0 then 0 else q - o.p 3))
    else n

/-- The shares of the items [lo, hi) of a run for the members `js`: each operator over the rows that have a step
anchored there. -/
def itemWork (s : State) (r : Run) (v : Voice) (js : List Nat) (lo hi : Nat) : List Work :=
  ((v.order.zip (upTo v.order.length)).filter fun q => !isWholeOp (v.img q.1.1) ((v.img q.1.1).op q.1.2)).map fun q =>
    let o := (v.img q.1.1).op q.1.2
    let at' (j x : Nat) := r.bases.getD j 0 + cdiv (x - q.2) r.nops
    let n (j : Nat) := stepsBefore o.dec o.off (at' j hi) - stepsBefore o.dec o.off (at' j lo)
    let act := js.filter fun j => n j != 0
    { op := q.1, ls := act.map fun j => attLen s r v q.1.1 q.1.2 j (at' j hi) 0
      first := maxN (act.map fun j => stepsBefore o.dec o.off (at' j lo)), n := maxN (act.map n) }

/-- Positions that a whole-edge operator puts out (R121, R477). -/
def opLen (r : Run) (v : Voice) (role i : Nat) : Nat :=
  let m := v.img role
  outLen m (m.op i) ((m.op i).ins.map fun e => edgeLen r v role e)

/-- The shares of the prefill positions [lo, hi) of a run for the members `js`: each operator over its share
of the positions that it puts out (R118, R128). -/
def prefillWork (s : State) (r : Run) (v : Voice) (js : List Nat) (lo hi : Nat) : List Work :=
  (wholeOps v).map fun q =>
    let upTo' (x : Nat) := opLen r v q.1 q.2 * x / max 1 r.prefillTotal
    { op := q, ls := js.map fun j => attLen s r v q.1 q.2 j 0 (upTo' hi), first := upTo' lo, n := upTo' hi - upTo' lo }

/-- What one kernel of a range works on: its pass of a chunk, the items or positions, and its cycles. -/
structure Part where
  pass : Option Nat := none
  wlo : Nat
  whi : Nat
  cycles : Nat

/-- Cycles of operators' shares. -/
def workCycles (r : Run) (v : Voice) (ws : List Work) : Nat := sumN (ws.map fun w => opWork v (edgeLen r v w.op.1) w)

/-- The kernels of the base steps [a, b) of a run of an autoregressive voice: the operators before its loops over
all of them, the loops step by step, and the operators after them (R105). -/
def chunkParts (s : State) (r : Run) (v : Voice) (js : List Nat) (a b : Nat) : List Part :=
  let mid := v.stepwise
  let n := r.nops
  let part (p lo hi : Nat) : Part :=
    { pass := some p, wlo := lo, whi := hi
      cycles := workCycles r v ((itemWork s r v js lo hi).filter fun w => v.passOf mid w.op == p) }
  let ahead := part 0 (a * n) (b * n)
  let after := part 2 (a * n) (b * n)
  (if ahead.cycles = 0 then [] else [ahead]) ++
  ((upTo (b - a)).map fun x => part 1 ((a + x) * n) ((a + x + 1) * n)) ++
  (if after.cycles = 0 then [] else [after])

/-- The kernels of a range of a run, for the batch that is planned: one, but for a chunk of an autoregressive voice. -/
def rangeParts (s : State) (r : Run) (v : Voice) (prefill : Bool) (lo hi : Nat) : List Part :=
  let js := batchOf s r r.planBatch
  let n := r.nops
  if prefill then [{ wlo := lo, whi := hi, cycles := workCycles r v (prefillWork s r v js lo hi) }]
  else if v.autoregressive && lo % n = 0 && hi % n = 0 && decide (lo + n < hi) then chunkParts s r v js (lo / n) (hi / n)
  else [{ wlo := lo, whi := hi, cycles := workCycles r v (itemWork s r v js lo hi) }]

/-- Each kernel of the range is within the bound. -/
def partsFit (bound : Option Nat) (ps : List Part) : Bool :=
  ps.all fun p => bound.all fun b => decide (kernelDuration p.cycles ≤ b)

/-- The kernels of a range, those of one that exceeds the bound by itself cut operator by operator into pieces: only the
last commits (R72, R211, log 10). -/
def boundParts (s : State) (r : Run) (v : Voice) (prefill : Bool) (lo hi : Nat) (bound : Option Nat) : List Part :=
  let ps := rangeParts s r v prefill lo hi
  match bound with
  | none => ps
  | some b =>
    if partsFit bound ps then ps
    else
      let js := batchOf s r r.planBatch
      let ws := if prefill then prefillWork s r v js lo hi else itemWork s r v js lo hi
      let cs := ws.flatMap fun w => workPieces v (edgeLen r v w.op.1) b w
      (cs.zip (upTo cs.length)).map fun q =>
        { wlo := lo, whi := if q.2 + 1 = cs.length then hi else lo, cycles := q.1 }

/-- The greatest number from 1 to n that satisfies a test, or 0. -/
def greatest (p : Nat → Bool) : Nat → Nat
  | 0 => 0
  | n + 1 => if p (n + 1) then n + 1 else greatest p n

/-! ### Noise (R142) -/

/-- The first base step from `a` on at which a noise operator of the voice is anchored, below `fin`. -/
def nextDrawn (v : Voice) (a fin : Nat) : Nat :=
  v.order.foldl (fun x q =>
    let m := v.img q.1
    let o := m.op q.2
    if o.noiseBase = none32 || isWholeOp m o then x else min x (o.off + o.dec * stepsBefore o.dec o.off a)) fin

/-- The starting states that items [lo, hi) take for the members `js`, in order: element, and the base
steps that B_t moves on with it. B_t moves at every base step: the first state of a run brings it there
from the run's start, and the last state of a base step brings it to the next that draws (R139, R142). -/
def noiseOf (r : Run) (v : Voice) (js : List Nat) (lo hi : Nat) : List (Nat × Nat) :=
  (upTo (hi - lo)).flatMap fun d =>
    let x := lo + d
    let ri := v.order.getD (x % r.nops) (0, 0)
    let o := (v.img ri.1).op ri.2
    let drawn (q : Nat × Nat) (a : Nat) :=
      let p := (v.img q.1).op q.2
      p.noiseBase != none32 && !isWholeOp (v.img q.1) p && anchoredAt p.dec p.off a
    js.flatMap fun j =>
      let base := r.bases.getD j 0
      let fin := base + r.steps
      let a := base + x / r.nops
      let first := nextDrawn v base fin == a && !((v.order.take (x % r.nops)).any fun q => drawn q a)
      let last := !((v.order.drop (x % r.nops + 1)).any fun q => drawn q a)
      if drawn ri a then
        [(roleQuarter ri.1 + o.noiseBase,
          (if first then a - base else 0) + (if last then nextDrawn v (a + 1) fin - a else 0))]
      else []

/-! ### Planning -/

/-- Samples that the sink of a stream has room for beyond what is on its way (R335, log 10); none when
no limit applies. -/
def sinkRoom (s : State) (r : Run) (i : Nat) : Option Nat :=
  match (s.stream i).sink with
  | none => none
  | some (.port p k _) =>
    let q := s.port p
    let used := (q.slot k).txq.length + (s.sinkWrites.filter fun w => w.stream == i).length +
      (r.planned / r.nops - r.done / r.nops)
    some (4096 / max 1 q.slots.toNat - used)
  | some (.host a _ _) => if hostRemote s a && !(s.stream i).sinkRegistered then some 0 else none

/-- Received samples that a run can still take (R342); none when it reads no receive slot. -/
def rxRoom (s : State) (r : Run) (v : Voice) : Option Nat :=
  match (servedDescs r v).filter fun q => q.2.1.format == 4 with
  | [] => none
  | q :: qs => some ((qs.map fun q => ((s.port q.2.1.port).slot q.2.1.slot).rxq.length).foldl min
      ((s.port q.2.1.port).slot q.2.1.slot).rxq.length)

/-- Base steps that can be planned at most now. -/
def stepRoom (s : State) (r : Run) (v : Voice) : Nat :=
  let left := (r.stopAt.elim r.steps fun q => min r.steps q.1) - r.planned / r.nops
  let caps := r.members.filterMap (sinkRoom s r) ++ (rxRoom s r v).toList
  caps.foldl min (min left r.chunk)

/-- Starting states of noise that a kernel takes (R142). Every operator that draws runs step by step. -/
def kernelNoise (s : State) (r : Run) (v : Voice) (k : Kernel) : List (Nat × Nat) :=
  if k.prefill || k.pass == some 0 || k.pass == some 2 then [] else noiseOf r v (batchOf s r k.batch) k.wlo k.whi

/-- The kernel of a run that comes next in a range: the last one of a batch commits it. -/
def kernelOf (s : State) (r : Run) (v : Voice) (prefill : Bool) (lo hi : Nat) (ps : List Part) : Option Kernel :=
  (ps[r.piece]?).map fun p =>
    let k : Kernel :=
      { cid := r.cid, part := r.part, group := r.group, lc := r.lc, prefill := prefill, lo := lo
        hi := if r.piece + 1 = ps.length then hi else lo, goal := hi
        batch := r.planBatch, wlo := p.wlo, whi := p.whi, pass := p.pass, dur := kernelDuration p.cycles }
    { k with noise := (kernelNoise s r v k).length }

/-- A range of the run has been begun: further kernels of it, or further batches over it, come next (R65, R105, R211). -/
def midRange (r : Run) : Bool := r.piece != 0 || r.planBatch != 0

/-- The next kernel of the range that has been begun. -/
def nextPart (s : State) (r : Run) (v : Voice) (prefill : Bool) (bound : Option Nat) : Option Kernel :=
  let lo := if prefill then r.prefillPlanned else r.planned
  kernelOf s r v prefill lo r.planHi (boundParts s r v prefill lo r.planHi bound)

/-- The first kernel of a new range. -/
def newRange (s : State) (r : Run) (v : Voice) (prefill : Bool) (hi : Nat) (bound : Option Nat) : Option Kernel :=
  let lo := if prefill then r.prefillPlanned else r.planned
  kernelOf s r v prefill lo hi (boundParts s r v prefill lo hi bound)

/-- The next kernel of base steps: of a range of at most `most` steps, each of its kernels within `bound` cycles when one
is given. -/
def planSteps (s : State) (r : Run) (v : Voice) (most : Nat) (bound : Option Nat) : Option Kernel :=
  let n := r.nops
  let lo := r.planned
  let fits (hi : Nat) := partsFit bound (rangeParts s r v false lo hi)
  let items (m : Nat) := newRange s r v false (lo + max 1 (greatest (fun k => fits (lo + k)) m)) bound
  if midRange r then nextPart s r v false bound
  else if lo % n ≠ 0 then items (n - lo % n)
  else
    let room := min most (stepRoom s r v)
    if room = 0 then none
    else
      let k := greatest (fun k => fits (lo + k * n)) room
      if k = 0 then items n else newRange s r v false (lo + k * n) bound

/-- The next prefill kernel: at most CHUNK_MAX positions (R118, R201). -/
def planPrefill (s : State) (r : Run) (v : Voice) (bound : Option Nat) : Option Kernel :=
  let lo := r.prefillPlanned
  let room := min (s.part r.part).chunkMax (r.prefillTotal - lo)
  let fits (k : Nat) := partsFit bound (rangeParts s r v true lo (lo + k))
  if midRange r then nextPart s r v true bound
  else if room = 0 then none
  else newRange s r v true (lo + max 1 (greatest fits room)) bound

/-- Take the received samples of a kernel's steps for its run (R342). -/
def takeRx (s : State) (r : Run) (v : Voice) (steps : Nat) : State :=
  ((servedDescs r v).filter fun q => q.2.1.format == 4).foldl (fun s q =>
    let xs := ((s.port q.2.1.port).slot q.2.1.slot).rxq.take steps
    (s.modSlot q.2.1.port q.2.1.slot fun w => { w with rxq := w.rxq.drop steps }).modRun r.cid fun u =>
      let held := ((u.rx.find? fun x => x.1 == q.1).map (·.2)).getD []
      { u with rx := (q.1, held ++ xs) :: u.rx.filter fun x => x.1 != q.1 }) s

/-- The run once a kernel of it has been planned: the kernels of the range are counted, and the range is
planned when the last one of the last batch is. -/
def Run.withPlanned (q : Run) (k : Kernel) (batches : Nat) : Run :=
  if k.lo = k.hi then { q with piece := q.piece + 1, planHi := k.goal }
  else if k.batch + 1 < batches then { q with piece := 0, planBatch := k.batch + 1, planHi := k.hi }
  else
    { q with
      piece := 0, planBatch := 0
      planned := if k.prefill then q.planned else k.hi
      prefillPlanned := if k.prefill then k.hi else q.prefillPlanned }

/-- A planned kernel joins the culet's queue; the first of a range takes the received samples of its steps. -/
def putKernel (s : State) (r : Run) (v : Voice) (k : Kernel) : State :=
  let s1 := if k.prefill || midRange r then s else takeRx s r v (cdiv k.goal r.nops - cdiv k.lo r.nops)
  (s1.modRun r.cid fun q => q.withPlanned k (batchCount s r)).modPart r.part fun p =>
    { p with culetQ := p.culetQ ++ [k] }

/-- Cycles of a range's kernels, one after another. -/
def rangeTime (s : State) (r : Run) (v : Voice) (prefill : Bool) (lo hi : Nat) : Nat :=
  sumN ((rangeParts s r v prefill lo hi).map fun p => kernelDuration p.cycles)

/-- The next kernel of an occurrence for a run that no bound cuts: of as many whole base steps, at most
`most`, as fit in the cycles left (R105, R201). -/
def stepsWithin (s : State) (r : Run) (v : Voice) (most left : Nat) : Option Kernel :=
  let lo := r.planned
  let k := greatest (fun k => decide (rangeTime s r v false lo (lo + k * r.nops) ≤ left)) (min most (stepRoom s r v))
  if midRange r then (nextPart s r v false none).filter fun k => decide (k.dur ≤ left)
  else if k = 0 then none else newRange s r v false (lo + k * r.nops) none

/-- The next prefill chunk of an occurrence that fits in the cycles left. -/
def prefillWithin (s : State) (r : Run) (v : Voice) (left : Nat) : Option Kernel :=
  let lo := r.prefillPlanned
  let k := greatest (fun k => decide (rangeTime s r v true lo (lo + k) ≤ left))
    (min (s.part r.part).chunkMax (r.prefillTotal - lo))
  if midRange r then (nextPart s r v true none).filter fun k => decide (k.dur ≤ left)
  else if k = 0 then none else newRange s r v true (lo + k) none

/-- The bound on the kernels of a run: KERNEL_BOUND for best-effort runs of a partition that holds LC
entries (R211). -/
def runBound (s : State) (r : Run) : Option Nat :=
  if !r.lc && (s.part r.part).lcHeld then some (1000 * (s.part r.part).kernelBound.toNat) else none

/-- The next kernel of a run outside any occurrence: prefill first, then base steps. -/
def nextKernel (s : State) (r : Run) : Option Kernel :=
  let v := runVoice s r
  if !runnable s r then none
  else if r.prefillPlanned < r.prefillTotal then planPrefill s r v (runBound s r)
  else planSteps s r v r.chunk (runBound s r)

/-! ### Giving kernels to facets (R206, R212) -/

/-- A prism takes descriptors: it does not leave its partition and is not being zeroed. -/
def prismOpen (s : State) (p : Nat) : Bool := !(s.prism p).leaving && !(s.prism p).zeroing

/-- A kernel of the run is on a facet. -/
def onFacet (s : State) (cid : Nat) : Bool :=
  s.facets.any fun kv => (kv.2.queue ++ kv.2.running.toList).any fun k => k.cid == cid

/-- The facet may be given the kernel: its queue has room, and in a partition that holds LC entries a BE
descriptor goes only to a facet that no window claims and that holds no kernel (R71, R212). -/
def facetTakes (s : State) (k : Kernel) (f : Nat) : Bool :=
  let c := s.facet f
  prismOpen s (f / 16) && decide (c.queue.length < 4) &&
  (k.lc || !(s.part k.part).lcHeld || (c.queue.isEmpty && c.running.isNone && decide (c.claimed ≤ s.now)))

/-- The facets of a placement: those among `seats` that hold weights, where there are such, else those
that hold the state slots, else those that hold weights; any facet for a voice that needs neither (R206). -/
def facetsOf (fs seats hold : List Nat) : List Nat :=
  let a := fs.filter fun f => seats.isEmpty || seats.contains f
  let b := a.filter fun f => hold.isEmpty || hold.contains f
  if b.isEmpty then a else b

/-- A facet holds weights of an identity in a partition. -/
def holdsWeights (s : State) (k f : Nat) (id : Bytes) : Bool := (holders s k [id]).contains f

/-- The facets that a kernel of a run may go to: those that hold the state slots of every row of the kernel and weights of
every model that it reads from T0 (R206). Where the slots of the rows or the shares of the models are divided so that no
facet holds all, those that hold some (log 10). -/
def kernelFacets (s : State) (r : Run) (batch : Nat) (reads : List Bytes) : List Nat :=
  let js := batchOf s r batch
  let seatsOf (j : Nat) := (s.stream (r.members.getD j 0)).seats.map (·.facet)
  let fs := (s.part r.part).facetList
  let ids := reads.filter fun id => !streamedMode s r.part id
  let best := fs.filter fun f => (js.all fun j => (seatsOf j).isEmpty || (seatsOf j).contains f) && ids.all (holdsWeights s r.part f)
  if best.isEmpty then facetsOf fs (js.flatMap seatsOf) (holders s r.part ids) else best

/-- The identities that the next kernels of a run read. -/
def nextReads (s : State) (r : Run) : List Bytes := opReads s r (leftOps r (runVoice s r))

/-- What a kernel descriptor names (R71): the code, as the operators of the voice and the range of their
steps, with the cost of each operator's shape; P; the rows; and the regions, as the weight-store shares
and the state slots on the facet. The scratchpad holds the latest edge values of the rows. -/
structure Descriptor where
  ops : List (Nat × Nat)
  lo : Nat
  hi : Nat
  shapes : List Coef
  P : Nat
  rows : List Nat
  weights : List (Bytes × Nat)
  slots : List Seat
  scratch : List EdgeVal

/-- Member j of the run has its row on a facet; a member without one is taken along by any. -/
def rowOn (s : State) (r : Run) (f j : Nat) : Bool :=
  let ss := (s.stream (r.members.getD j 0)).seats
  ss.isEmpty || ss.any (·.facet == f)

/-- The descriptor of a kernel of a run on a facet (R65, R71): its rows are those of the batch that have their row there,
and all of the batch where none has. -/
def descriptor (s : State) (r : Run) (k : Kernel) (f : Nat) : Descriptor :=
  let v := runVoice s r
  let all := batchOf s r k.batch
  let js := if (all.filter (rowOn s r f)).isEmpty then all else all.filter (rowOn s r f)
  let seats := js.flatMap fun j => (s.stream (r.members.getD j 0)).seats.filter (·.facet == f)
  let ws := (if k.prefill then prefillWork s r v all k.wlo k.whi else itemWork s r v all k.wlo (max (k.wlo + 1) k.whi)).filter
    fun w => (kernelOps r v k).contains w.op
  { ops := ws.map (·.op), lo := k.wlo, hi := k.whi
    shapes := ws.map fun w => coefOf (v.img w.op.1) ((v.img w.op.1).op w.op.2) (maxN w.ls)
    P := js.length * max 1 (maxN (ws.map (·.n)))
    rows := seats.map (·.row)
    weights := (s.part r.part).t0.flatMap fun c =>
      if (kernelReads s k).contains c.identity then (c.shares.filter (·.1 == f)).map fun q => (c.identity, q.2) else []
    slots := seats
    scratch := js.flatMap fun j => (s.stream (r.members.getD j 0)).edges }

/-- Declared cycles queued on a facet (R206). -/
def queuedCycles (s : State) (f : Nat) : Nat :=
  sumN (((s.facet f).queue ++ (s.facet f).running.toList).map (·.dur))

/-- The facet with the fewest declared cycles queued, then the lowest number (R206). -/
def bestFacet (s : State) (k : Kernel) : List Nat → Option Nat
  | [] => none
  | f :: r =>
    match bestFacet s k r with
    | none => if facetTakes s k f then some f else none
    | some g => if facetTakes s k f && decide (queuedCycles s f ≤ queuedCycles s g) then some f else some g

/-- A descriptor that goes back to the culet: the starting states of its noise have to land again on the
facet that it is given to next (R142). -/
def withdrawn (s : State) (q : Kernel) : Kernel :=
  match s.runOf q.cid with
  | some r => { q with noise := (kernelNoise s r (runVoice s r) q).length, poison := false }
  | none => q

/-- The copies of T1 after a placement or a staging has read some: one that holds a poisoned word is discarded (R242,
R392). -/
def readT1 (now : Nat) (cs : List T1Copy) (read : T1Copy → Bool) : List T1Copy :=
  (cs.filter fun c => !(read c && c.poison)).map fun c => if read c then { c with lastUse := now } else c

/-- The weights of a kernel of a streamed run are staged before its dispatch, from T1 where T1 holds them (R242,
R247). -/
def stagedFromT1 (s : State) (k : Kernel) : State :=
  let ids := (kernelReads s k).filter (streamedMode s k.part)
  if ids.isEmpty then s
  else { s with t1 := readT1 s.now s.t1 fun c => !c.copying && ids.contains c.identity }

/-- A descriptor reaches a facet; a gated prism wakes in 2 µs (R416). -/
def giveKernel (s : State) (k : Kernel) (f : Nat) : State :=
  let p := f / 16
  let s1 := s.modFacet f fun c => { c with queue := c.queue ++ [k] }
  let s1 := stagedFromT1 s1 k
  if (s.prism p).gated && (s.prism p).waking.isNone then s1.modPrism p fun q => { q with waking := some (s.now + 2000) }
  else s1

/-- Give the kernels at the culet to facets, in order; one that finds none stays. At most one kernel of a
run is on the facets, so that its work runs in order. -/
def feedFrom (s : State) (k : Nat) : List Kernel → State
  | [] => s
  | q :: r =>
    if onFacet s q.cid then feedFrom (s.modPart k fun p => { p with culetQ := p.culetQ ++ [q] }) k r
    else match bestFacet s q ((s.runOf q.cid).elim [] fun r => kernelFacets s r q.batch (kernelReads s q)) with
    | some f => feedFrom (giveKernel s q f) k r
    | none => feedFrom (s.modPart k fun p => { p with culetQ := p.culetQ ++ [q] }) k r

def feed (s : State) (k : Nat) : State :=
  feedFrom (s.modPart k fun p => { p with culetQ := [] }) k (s.part k).culetQ

end Sys2Proof.Machine
end

