-- ==== Sys2Proof/Machine/Lifecycle.lean ====
section
/-! DEFINITION. What happens to a partition's prisms, streams, models and ports when it yields, is
destroyed or is reset (R166, R190, R191, R207, R219, R390, R393, R394). -/

namespace Sys2Proof.Machine

/-! ### Prisms that leave -/

/-- A facet of the prism holds a kernel or a descriptor. -/
def prismHolds (s : State) (p : Nat) : Bool :=
  (upTo 16).any fun i => (s.facet (16 * p + i)).running.isSome || !(s.facet (16 * p + i)).queue.isEmpty

/-- The partition that holds a prism. -/
def partOfPrism (s : State) (p : Nat) : Option Nat :=
  (s.parts.find? fun kv => kv.2.valid && kv.2.prisms.getLsbD p).map (·.1)

/-- A prism leaves its partition and is zeroed (R191). -/
def releasePrism (s : State) (p : Nat) : State :=
  let s1 := match partOfPrism s p with
    | some k => s.modPart k fun q => { q with prisms := clearBit q.prisms p }
    | none => s
  s1.modPrism p fun q => { q with leaving := false, zeroing := true, zeroSince := s.now, gated := false, waking := none }

/-- A leaving prism is released at the end of its running kernels (R219). -/
def releaseIfIdle (s : State) (p : Nat) : State :=
  if (s.prism p).leaving && !prismHolds s p then releasePrism s p else s

def releaseAll (s : State) : List Nat → State
  | [] => s
  | p :: r => releaseAll (releaseIfIdle s p) r

/-! ### Yield (R207, R219) -/

/-- A stream is re-homed: its generation advances and is registered at its sink (R167, R169, R207). -/
def rehome (s : State) (cid i : Nat) : State :=
  let s1 := s.modStream i fun t => { t with placementGen := t.placementGen + 1, sinkRegistered := false }
  match registerSink s1 cid i with
  | some (s2, _) => s2
  | none => sinkFault s1 (s.stream i).part (s.stream i).group

/-- Some facet of a list lies on a prism of a mask. -/
def onMask (mask : BitVec 128) (fs : List Nat) : Bool := fs.any fun f => mask.getLsbD (f / 16)

/-- The streams with a slot on a released prism, latency-critical streams first and then the ones run most
recently, so that where room is short the best-effort streams run least recently move away (R219). -/
def lostStreams (s : State) (k : Nat) (mask : BitVec 128) : List Nat :=
  let is := streamsOf s k fun t => onMask mask (t.seats.map (·.facet))
  let key (i : Nat) : Nat × Nat := (b2n (!(s.stream i).lc), s.now - (s.stream i).lastRun)
  sortBy (fun a b => decide ((key a).1 < (key b).1 ∨ ((key a).1 = (key b).1 ∧ (key a).2 ≤ (key b).2))) is

/-- The slots of a stream move to the remaining prisms, and away where room is short (R207, R219). -/
def reseat (s : State) (cid i : Nat) : State :=
  let t := s.stream i
  let need := voiceStateBytes (voiceOf s t.voice)
  if !t.resid.stays then s
  else match roomState (s.streams.length + 1) s t.part t.voice need with
  | some s1 =>
    let seats := (seatsFor s1 t.part t.voice need).getD []
    rehome (s1.modStream i fun t => { t with seats := seats }) cid i
  | none => (moveAway s i).getD s

/-- A model whose weights lay on released prisms is placed again (R219 step 4); without room its pin
commands end. -/
def replaceCopy (s : State) (k : Nat) (c : T0Copy) : State :=
  match beginPlace (dropT0 s k c.identity) k c.identity c.waiters with
  | some s1 => s1.modPart k fun p =>
      { p with t0 := p.t0.map fun x => if x.identity == c.identity then { x with forced := c.forced } else x }
  | none => finishAll (finishAll (dropT0 s k c.identity) stNoResource c.waiters) stOk c.forced

/-- The last prism of a yield is free: the slots and the models that lay on the released prisms find
their places on the remaining ones, and the command completes (R219). -/
def finishYield (s : State) (k cid : Nat) (mask : BitVec 128) : State :=
  let is := lostStreams s k mask
  let s1 := is.foldl (fun s i => s.modStream i fun t => { t with seats := [] }) s
  let s2 := is.foldl (fun s i => reseat s cid i) s1
  let cs := (s2.part k).t0.filter fun c => onMask mask (c.shares.map (·.1))
  let s3 := cs.foldl (fun s c => replaceCopy s k c) s2
  let s4 := (s3.modPart k fun p => { p with yielding := none }).setPartCause k 2
  feed (fail s4 cid stOk) k

/-- The yield of a partition is over when none of its prisms still leaves or is being zeroed. -/
def yieldOver (s : State) (mask : BitVec 128) : Bool :=
  (maskBits 128 mask.toNat).all fun p => !(s.prism p).leaving && !(s.prism p).zeroing

/-- A kernel that still runs works for a stream with a slot on a released prism, or reads a copy with a region there: the
stream is re-homed and the copy placed again after it, so that no write carries a generation that is not registered,
and no region is written that a descriptor names (R62, R169). -/
def lostRunning (s : State) (k : Nat) (mask : BitVec 128) : Bool :=
  let is := lostStreams s k mask
  let ids := ((s.part k).t0.filter fun c => onMask mask (c.shares.map (·.1))).map (·.identity)
  s.facets.any fun kv => kv.2.running.any fun q => q.part == k &&
    ((s.runOf q.cid).any (fun r => r.members.any is.contains) || (kernelReads s q).any ids.contains)

/-- Yields whose last prism is free complete. -/
def settleYields (s : State) : List Nat → State
  | [] => s
  | k :: r =>
    settleYields (match (s.part k).yielding with
      | some (cid, mask) => if yieldOver s mask && !lostRunning s k mask then finishYield s k cid mask else s
      | none => s) r

/-! ### Destruction (R190) -/

/-- A port of a partition that is destroyed: an armed port stops as by PORT_STOP, and the port returns to the PF
when it is idle; a commit whose command has not ended, the PF's, still applies (R301, R339, R346). -/
def disownPort (s : State) (k : Nat) (p : Port) : Port :=
  if p.owner.toNat = k then
    let cs := p.commits.filter fun m => (s.cmd m.cid).isSome
    if p.armed then
      { p with orphan := true, commits := cs, stop := some ((p.stop.map (·.1)).getD none, (p.stop.map (·.2)).getD s.now) }
    else { p with owner := 0xFFFF, commits := cs }
  else p

/-- Windows of a partition are withdrawn, with their registrations (R307, R369). -/
def withdrawAll (s : State) (k : Nat) : State :=
  let gone := (s.vertex.windows.filter fun w => w.2.owner == k).map (·.1)
  { s with vertex := { s.vertex with
    windows := s.vertex.windows.filter (fun w => w.2.owner != k)
    regs := s.vertex.regs.filter fun q => !gone.contains q.1.1 } }

def unregisterAll (s : State) : List Nat → State
  | [] => s
  | i :: r => unregisterAll (unregister s i) r

/-- The groups of a partition that is destroyed are torn down, and their teardowns are counted (R166, R186,
R190, R403). -/
def freeGroups (s : State) (k : Nat) : List Nat → State
  | [] => s
  | g :: r =>
    freeGroups ((freeGroup s k g).modPart k fun p =>
      { p with faultCause := setBit p.faultCause 0, streamCause := setBit p.streamCause 2,
               teardowns := addWrap p.teardowns 1 }) k r

/-- Groups of a partition with open streams. -/
def openGroups (s : State) (k : Nat) : List Nat :=
  ((s.streams.filter fun kv => kv.2.isOpen && kv.2.part == k).map (·.2.group)).eraseDups

/-- Opcodes that name no partition object when they carry a partition number (R279). -/
def anyIssuer (op : Nat) : Bool := op == 0x00 || op == 0x01 || op == 0x03 || op == 0x61

/-- Other commands of the partition. -/
def partCmds (s : State) (k : Nat) (but : List Nat) : List Nat :=
  (s.cmds.filter fun c => c.partition == k && !but.contains c.cid).map (·.cid)

/-- Copies into T2 whose command is gone are dropped, and the registrations that waited for them
complete with its status (R236). -/
def orphanCopies (s : State) (status : Nat) : State :=
  let dead (t : T2Copy) : Bool := t.copying.any fun c => (s.cmd c).isNone
  finishAll { s with t2 := s.t2.filter fun t => !dead t } status ((s.t2.filter dead).flatMap (·.waiters))

/-- The registers of a partition's block that keep their values when the partition is destroyed: causes,
enables, records and counters (R11, R222). -/
def Partition.kept (p : Partition) : Partition :=
  { partCause := p.partCause, partEn := p.partEn, streamCause := p.streamCause, streamEn := p.streamEn
    modelCause := p.modelCause, modelEn := p.modelEn, faultCause := p.faultCause, faultEn := p.faultEn
    faultRecord := p.faultRecord, teardowns := p.teardowns, partResets := p.partResets, periods := p.periods
    lcStartMax := p.lcStartMax, staleStages := p.staleStages, acct := p.acct, stateMisses := p.stateMisses
    staleDrops := p.staleDrops, ckptWritten := p.ckptWritten, ckptSkipped := p.ckptSkipped
    modelMisses := p.modelMisses, streamedRuns := p.streamedRuns }

/-- A partition that is destroyed leaves the share table, its ports and the sink writes in flight (R190, R208). -/
def disownAll (s : State) (k : Nat) : State :=
  { s with
    share := s.share.filter (fun e => e.partition != k)
    shareNext := s.shareNext.map (fun es => List.filter (fun (e : ShareEntry) => e.partition != k) es)
    ports := tabMapV {} s.ports (fun _ p => disownPort s k p)
    sinkWrites := s.sinkWrites.filter fun w => w.part != k }

/-- The destruction of a partition once none of its kernels runs (R190, R166, R234, R239). -/
def destroyNow (s : State) (k cid : Nat) : State :=
  let s1 := freeGroups s k (openGroups s k)
  let s2 := finishAll s1 stNotPermitted
    ((s1.cmds.filter fun c => c.partition == k && c.cid != cid && !anyIssuer c.opcode).map (·.cid))
  let s2 := orphanCopies s2 stNotPermitted
  let s3 := unregisterAll s2 ((s2.models.filter fun kv => kv.2.used && kv.2.part == k).map (·.1))
  let s4 := withdrawAll s3 k
  let s5 := disownAll s4 k
  let s6 := (s5.part k).prismList.foldl releasePrism (dropKernels s5 fun q => q.part == k)
  fail (s6.modPart k Partition.kept) cid stOk

/-- A kernel of the partition runs. -/
def partRunning (s : State) (k : Nat) : Bool :=
  s.facets.any fun kv => match kv.2.running with
    | some q => q.part == k
    | none => false

/-- After a kernel of partition k: a destruction that waited goes on, or the culet gives out its next
kernels. -/
def afterKernel (s : State) (k : Nat) : State :=
  match (s.part k).destroying with
  | some cid => if partRunning s k then s else destroyNow s k cid
  | none => feed (evictForced (settleYields s [k]) k) k

/-! ### Partition reset (R393) -/

/-- FAULT_CAUSE bit of a FAULT_RECORD kind (R403). -/
def resetCauseBit (kind : Nat) : Option Nat :=
  if kind = 4 then some 1 else if kind = 5 then some 2 else if kind = 6 then some 3 else none

/-- A facet whose kernel the reset ends. -/
def haltFacet (now : Nat) (c : Facet) : Facet :=
  { c with
    running := none, queue := [], claimed := 0
    busyCycles := if c.running.isSome then addWrap c.busyCycles (now - c.since) else c.busyCycles }

/-- Kernels end, and every prism is zeroed (R393 steps 2 and 4). -/
def haltPrism (s : State) (p : Nat) : State :=
  let s1 := (upTo 16).foldl (fun s i => s.modFacet (16 * p + i) (haltFacet s.now)) s
  s1.modPrism p fun q =>
    { q with leaving := false, zeroing := true, zeroSince := s.now, idleSince := s.now, gated := false, waking := none }

/-- Place the pinned models of a partition again (R393 step 5). -/
def replacePinned (s : State) (k : Nat) : State :=
  let ids := ((s.models.filter fun kv => kv.2.used && kv.2.part == k && kv.2.pinT0).map (·.2.identity)).eraseDups
  ids.foldl (fun s id => if (t0Find (s.part k) id).isSome then s else (beginPlace s k id []).getD s) s

/-- Accepted PARTITION_RESETs of a partition: each completes at the end of the reset (R286, R393). -/
def resetCmds (s : State) (k : Nat) : List Nat :=
  (s.cmds.filter fun c => c.partition == k && c.opcode == 0x13).map (·.cid)

/-- Steps 1 to 3 of a partition reset of a kind (R393, R394, R403), for the commands `cids`. -/
def beginReset (s : State) (k kind : Nat) (cids : List Nat) : State :=
  let p := s.part k
  match p.resetting with
  | some cs => s.modPart k fun p => { p with resetting := some (cs ++ cids) }
  | none =>
    let s1 := s.modPart k fun p =>
      { p with
        faultRecord := faultRecord p (16 * k) kind 0
        faultCause := match resetCauseBit kind with | some i => setBit p.faultCause i | none => p.faultCause
        resetting := some cids, resetSince := s.now, ticking := false, switch := [], tearing := [], culetQ := []
        stages := [], ckpts := [], ckptNext := [], yielding := none, destroying := none }
    let s2 := p.prismList.foldl haltPrism s1
    let s3 := orphanCopies (finishAll s2 stPartitionReset (partCmds s2 k (cids ++ resetCmds s2 k))) stPartitionReset
    let s4 := freeStreams s3 (streamsOf s3 k fun _ => true)
    let s5 := { s4 with sinkWrites := s4.sinkWrites.filter fun w => w.part != k }
    replacePinned (s5.modPart k fun p => { p with t0 := [] }) k

/-- The reset has zeroed the facets and placed the pinned models again (R393). -/
def resetOver (s : State) (k : Nat) : Bool :=
  let p := s.part k
  p.resetting.isSome && decide (p.resetSince + Config.zeroingCycles ≤ s.now) &&
  p.t0.all fun c => c.placed || !t0Pinned s k c.identity

/-- Step 6 of a partition reset (R393). -/
def endReset (s : State) (k : Nat) : State :=
  let p := s.part k
  let s1 := p.prismList.foldl (fun s q => s.modPrism q fun q => { q with zeroing := false }) s
  let s2 := s1.modPart k fun p =>
    { p with resetting := none, faultCause := setBit p.faultCause 4, partResets := addSat p.partResets 1 }
  finishAll s2 stOk (resetCmds s2 k)

end Sys2Proof.Machine
end

