-- ==== Sys2Proof/Machine/Kernels.lean ====
section
/-! DEFINITION. Kernels on the facets (R19, R64, R71, R72, R75, R103, R109, R118, R142, R156 to R158,
R221, R390 to R392, R417): their start, what they commit, their faults, and the end of a RUN. -/

namespace Sys2Proof.Machine

/-! ### Members -/

/-- What member j of a run holds between its kernels. -/
def memberOf (s : State) (r : Run) (j : Nat) : MemberSt :=
  let t := s.stream (r.members.getD j 0)
  { carried := t.carried, edges := t.edges,
    whole := (r.whole.filter fun w => w.member == j).map fun w => (w.role, w.edge, w.val)
    resetAt := t.resetAt, noiseAt := t.noiseAt, seed := t.seed, nstream := t.noiseStream }

/-- Keep what a member holds. -/
def keepMember (s : State) (r : Run) (j : Nat) (m : MemberSt) : State :=
  s.modStream (r.members.getD j 0) fun t =>
    { t with carried := m.carried, edges := m.edges, resetAt := m.resetAt, noiseAt := m.noiseAt }

/-! ### Sink writes (R156 to R158, R168, R325) -/

/-- Bytes of the output element of base step `a` of stream `i`, row after row; the padding of a row is free (R89,
R119, R156; log 78). -/
def elementData (v : Voice) (i a : Nat) (t : Tensor) : Bytes :=
  let e := v.outEdge
  let w := elemWidth e.format
  let rowBytes := rowElements e * w
  (upTo e.rowsF).flatMap fun f =>
    ((t.x.drop (f * e.elements)).take e.elements).flatMap (fun x => toLE w (field (8 * w) x)) ++
    (upTo (rowBytes - e.elements * w)).map fun k => Config.padByte i a (f * rowBytes + e.elements * w + k)

/-- The memory writes of an element at byte `off` of a host buffer of `size` bytes: address and data. Of an element
longer than the buffer, its last bytes remain (R157). -/
def bufferWrites (a size off : Nat) (b : Bytes) : List (Nat × Bytes) :=
  let d := b.length - size
  let o := (off + d) % size
  let c := b.drop d
  if o + c.length ≤ size then [(a + o, c)] else [(a + o, c.take (size - o)), (a, c.drop (size - o))]

/-- A sink write into memory of this device is discarded (R168, R186). -/
def staleDrop (s : State) (k : Nat) : State :=
  (s.modPart k fun p => { p with staleDrops := addWrap p.staleDrops 1 }).setStreamCause k 3

/-- Write pieces of an element into a host buffer of function f on this device; `false` when one is refused or ends
in a PCIe error. -/
def writeLocalPieces (s : State) (f : Nat) : List (Nat × Bytes) → State × Bool
  | [] => (s, true)
  | (a, b) :: r =>
    let w := namedWrite s f a b
    if w.2 then writeLocalPieces w.1 f r else (w.1, false)

/-- Write pieces of an element into a job window of another device (R157, R371). -/
def writeRemotePieces (s : State) (body : ReqBody) (why : ReqPurpose) : List (Nat × Bytes) → State × Bool
  | [] => (s, true)
  | (a, b) :: r =>
    let x := a % 2 ^ 52
    let q := issueWrites s (addrDevice a) x b body why (blocks x b.length)
    if q.2 then writeRemotePieces q.1 body why r else (q.1, false)

/-- The output of base step `a` of a stream goes to its sink. -/
def sinkStep (s : State) (r : Run) (v : Voice) (i a : Nat) (out : Tensor) : State :=
  let t := s.stream i
  match t.sink with
  | none => s
  | some (.port p k id) =>
    { s with sinkWrites := s.sinkWrites ++
        [{ cid := r.cid, stream := i, group := r.group, part := r.part, gen := t.placementGen,
           sink := .port p k id, value := txCode (s.port p).sample.toNat (out.x.headD 0) v.outEdge.frac }] }
  | some (.host addr log2 id) =>
    let b := elementData v i a out
    let ws := bufferWrites addr (2 ^ log2) (a * b.length % 2 ^ log2) b
    if hostRemote s addr then
      let q := writeRemotePieces s { sinkId := id, generation := t.placementGen.toNat, sink := true }
        (.sinkWrite r.cid i) ws
      if q.2 then q.1 else sinkFault q.1 r.part r.group
    else if regFind s (hostKey s t.part id) ≠ some t.placementGen then staleDrop s t.part
    else
      let q := writeLocalPieces s (s.part t.part).function.toNat ws
      if q.2 then q.1 else sinkFault q.1 r.part r.group

/-! ### What a kernel commits (R103, R109, R118) -/

/-- Item `x` of a run for member j: the marks of its base step at the step's first operator, the
operator's own step, and at the last operator the end of the step and its output. -/
def execItem (r : Run) (v : Voice) (x : Nat) (s : State) (j : Nat) : State :=
  let i := r.members.getD j 0
  let first := r.bases.getD j 0
  let a := first + x / r.nops
  let inp := runInputs s r v j
  let m0 := memberOf s r j
  let m1 := if x % r.nops = 0 then
      (match markAt r.marks j (x / r.nops) with | some reseed => markReset v a reseed m0 | none => m0)
    else m0
  let m2 := match v.order.drop (x % r.nops) with
    | ri :: _ => opAt v inp first a ri.1 ri.2 m1
    | [] => m1
  if x % r.nops + 1 = r.nops then
    let m3 := endStep v inp first a m2
    let s1 := (keepMember s r j m3).modStream i fun t => { t with step := a + 1 }
    sinkStep s1 r v i a (outValue v m3)
  else keepMember s r j m2

/-- Items from `lo` on, every member of `js` at each. -/
def execItems (r : Run) (v : Voice) (js : List Nat) : Nat → Nat → State → State
  | 0, _, s => s
  | n + 1, lo, s => execItems r v js n (lo + 1) (js.foldl (execItem r v lo) s)

/-- The whole edges of every member, when the last prefill position has run (R118, R477). -/
def prefillValues (s : State) (r : Run) (v : Voice) : List WholeVal :=
  (upTo r.members.length).flatMap fun j =>
    (wholeWork v (runInputs s r v j) (memberOf s r j)).whole.map fun w =>
      { member := j, role := w.1, edge := w.2.1, val := w.2.2 }

/-- A kernel commits its outputs. -/
def commit (s : State) (k : Kernel) : State :=
  match s.runOf k.cid with
  | none => s
  | some r =>
    let v := runVoice s r
    let last := decide (batchCount s r ≤ k.batch + 1)
    let next := if k.lo = k.hi then r.doneBatch else if last then 0 else k.batch + 1
    if k.prefill then
      s.modRun k.cid fun q =>
        { q with
          doneBatch := next
          prefillDone := if last then k.hi else q.prefillDone
          whole := if k.lo < k.hi && last && decide (r.prefillTotal ≤ k.hi) then prefillValues s r v else q.whole }
    else (execItems r v (batchOf s r k.batch) (k.hi - k.lo) k.lo s).modRun k.cid fun q =>
      { q with doneBatch := next, done := if last then k.hi else q.done }

/-! ### Facets -/

/-- The kernel of a facet is over: counters, the gap of its class (R417) and the idle time of its prism
(R416). -/
def clearFacet (s : State) (f : Nat) (k : Kernel) : State :=
  let lvl (b : BitVec 7) := s.now + (if b.toNat < 64 then cdiv (k.dur * (64 - b.toNat)) (max 1 b.toNat) else 0)
  let s1 := s.modFacet f fun c =>
    { c with
      running := none
      busyCycles := addWrap c.busyCycles (s.now - c.since)
      gapBe := if k.lc then c.gapBe else lvl s.clk.fBe
      gapLc := if k.lc then lvl s.clk.fLc else c.gapLc }
  releaseIfIdle (s1.modPrism (f / 16) fun q => { q with idleSince := s.now }) (f / 16)

/-- The T0 copies that the kernel read have been used (R242). -/
def touchT0 (s : State) (k : Kernel) : State :=
  let ids := kernelReads s k
  s.modPart k.part fun p =>
    { p with t0 := p.t0.map fun c => if ids.contains c.identity then { c with lastUse := s.now } else c }

/-! ### KERNEL_START (R19, R71) -/

/-- Bucket of a waiting time (R221). -/
def waitBucket (ns : Nat) : Nat := if ns < 1000 then 0 else min 15 (Nat.log2 (ns / 1000) + 1)

/-- The accounting set of a run (R221). -/
def acctKey (r : Run) : Nat := 2 * r.ring + b2n r.lc

def modAcct (s : State) (r : Run) (g : AcctSet → AcctSet) : State :=
  s.modPart r.part fun p => { p with acct := tabMod {} p.acct (acctKey r) g }

/-- Waiting time of a run at its first kernel (R221). -/
def addWait (a : AcctSet) (ns : Nat) : AcctSet :=
  { a with
    waitSum := addWrap a.waitSum ns
    waitMax := BitVec.ofNat 32 (max a.waitMax.toNat (min ns 0xFFFFFFFF))
    hist := tabMod 0 a.hist (waitBucket ns) fun h => addSat h 1 }

/-- The first kernel of a run starts: the command starts, and its waiting time is counted (R221,
R263). -/
def firstKernel (s : State) (r : Run) : State :=
  match s.cmd r.cid with
  | none => s
  | some c =>
    if c.started.isSome then s
    else
      let s1 := (s.modCmd r.cid fun c => { c with started := some s.now }).modRun r.cid fun q => { q with first := some s.now }
      modAcct s1 r fun a => addWait a (s.now - c.bellCycle)

/-- An LC occurrence starts (R216, R223). -/
def lcStart (s : State) (k : Kernel) : State :=
  match k.tick with
  | none => s
  | some t =>
    let d := s.now - t
    let s1 := s.modPart k.part fun p =>
      { p with lcStartMax := BitVec.ofNat 32 (max p.lcStartMax.toNat (min d 0xFFFFFFFF)) }
    if 28000 < d then s1.setPartCause k.part 4 else s1

/-- The generation of a member's placement is registered at its sink on another device (R169). -/
def sinkReady (s : State) (i : Nat) : Bool := (remoteSink s i).isNone || (s.stream i).sinkRegistered

/-- The kernel at the head of a facet's queue may start (R19, R61, R71, R103, R416, R417); none does while the culets
are parked (R433). -/
def mayStart (s : State) (f : Nat) (k : Kernel) : Bool :=
  let c := s.facet f
  let lvl := if k.lc then s.clk.fLc else s.clk.fBe
  c.running.isNone && !switching s && decide ((if k.lc then c.gapLc else c.gapBe) ≤ s.now) && decide (lvl ≠ 0) && k.noise == 0 &&
  !(s.prism (f / 16)).gated && !(s.prism (f / 16)).zeroing &&
  (match s.runOf k.cid with
   | none => false
   | some r => membersResident s r && r.staged && (missingIds s r).isEmpty &&
       r.doneBatch == k.batch && (k.prefill || r.members.all (sinkReady s)) && (if k.prefill then r.prefillDone == k.lo else r.done == k.lo && decide (r.prefillTotal ≤ r.prefillDone)))

def startKernel (s : State) (f : Nat) (k : Kernel) : State :=
  let s1 := s.modFacet f fun c => { c with running := some k, since := s.now, queue := c.queue.drop 1 }
  let s2 := match s1.runOf k.cid with | some r => firstKernel s1 r | none => s1
  lcStart s2 k

/-- KERNEL_START (R19): the first kernel in the facet's queue starts once it may. -/
def execKernelStart (facet : Nat) (s : State) : Host.Outcome State Fault Refusal :=
  if Instr.wf (.kernelStart facet) then
    match (s.facet facet).queue with
    | [] => done s
    | k :: _ => doneIf (s.live && mayStart s facet k) s (startKernel s facet k)
  else done s

/-! ### KERNEL_END (R72) -/

/-- The group of the kernel is being torn down, so that its outputs are discarded (R190, R391). -/
def discards (s : State) (k : Kernel) : Bool :=
  (s.part k.part).tearing.contains k.group || (s.part k.part).destroying.isSome

def endKernel (s : State) (f : Nat) (k : Kernel) (corrected : Nat) : State :=
  let s1 := s.modFacet f fun c =>
    { c with
      kernels := addWrap c.kernels 1
      ceCount := addSat c.ceCount corrected
      cause := if corrected = 0 then c.cause else setBit c.cause 2 }
  let s2 := touchT0 (clearFacet s1 f k) k
  afterKernel (if discards s k then s2 else commit s2 k) k.part

/-- What a kernel reads holds poison: a T0 copy, the source of its staged weights, a state slot of its members, or a
starting state (R64, R143, R389). -/
def readsPoison (s : State) (k : Kernel) : Bool :=
  let bad (id : Bytes) : Bool :=
    ((s.part k.part).t0.any fun c => c.identity == id && c.poison) ||
    (streamedMode s k.part id && ((s.t2.any fun c => c.identity == id && c.poison) ||
      s.t1.any fun c => c.identity == id && c.poison))
  k.poison || (kernelReads s k).any bad ||
  (s.runOf k.cid).any fun r => (batchOf s r k.batch).any fun j => (s.stream (r.members.getD j 0)).poison

/-- The running kernel is in its last cycle, or late by no more than its own duration; one that consumes poison faults
instead (R64, R72, R75). -/
def endDue (s : State) (f : Nat) (k : Kernel) : Bool :=
  let c := s.facet f
  decide (c.since + k.dur ≤ s.now ∧ s.now ≤ c.since + 2 * k.dur) && !readsPoison s k

/-- KERNEL_END (R72). -/
def execKernelEnd (facet corrected : Nat) (s : State) : Host.Outcome State Fault Refusal :=
  if Instr.wf (.kernelEnd facet corrected) then
    match (s.facet facet).running with
    | none => done s
    | some k => doneIf (s.live && endDue s facet k) s (endKernel s facet k corrected)
  else done s

/-! ### Faults of a kernel (R64, R75, R390 to R392) -/

/-- Descriptors on the facets that read an identity go back to the culet (R62). -/
def recallReaders (s : State) (k : Nat) (id : Bytes) : State :=
  let reads (q : Kernel) : Bool := q.part == k && (kernelReads s q).contains id
  let qs := s.facets.flatMap fun kv => (kv.2.queue.filter reads).map (withdrawn s)
  let s1 := { s with facets := tabMapV {} s.facets fun _ c =>
    { c with queue := c.queue.filter fun q => !reads q, emptied := if c.queue.any reads then s.now else c.emptied } }
  s1.modPart k fun p => { p with culetQ := qs ++ p.culetQ }

/-- The copy whose weights delivered poison is discarded: no further kernel reads it, and its regions are written again
once the kernels that run have ended (R62, R392). -/
def dropPoisoned (s : State) (k : Kernel) (role : Nat) : State :=
  match s.runOf k.cid with
  | none => s
  | some r =>
    let id := idOfHandle s ((s.stream (r.members.headD 0)).voice.getD role 0)
    recallReaders (s.modPart k.part fun p =>
      { p with t0 := p.t0.map fun c => if c.identity == id then { c with dead := true, placed := false } else c }) k.part id

/-- A kernel faults: it commits nothing and its group is torn down (R390, R391). -/
def faultKernel (s : State) (f kind : Nat) (k : Kernel) : State :=
  afterKernel (beginTeardown (clearFacet s f k) k.part k.group kind f) k.part

def poisonBits (s : State) (f : Nat) : State := (s.setFacetCause f 0).setFacetCause f 3

/-- A kernel has consumed poison: a weight-store word that it read discards the T0 copy (R392). -/
def consumed (s : State) (k : Kernel) : PoisonSource → State
  | .weightStore role => dropPoisoned s k role
  | .scratchpad => s
  | .stateStore => s

/-- KERNEL_POISON_FAULT (R64): the running kernel consumes a poisoned word. -/
def execKernelPoisonFault (facet : Nat) (source : PoisonSource) (s : State) : Host.Outcome State Fault Refusal :=
  if Instr.wf (.kernelPoisonFault facet source) then
    match (s.facet facet).running with
    | none => done s
    | some k =>
      doneIf s.live s (faultKernel (consumed (poisonBits s facet) k source) facet 1 k)
  else done s

/-- WATCHDOG (R75): the running kernel has run for more than twice its declared duration; `poison` says where it
consumes poison in the same cycle. -/
def execWatchdog (facet : Nat) (poison : Option PoisonSource) (s : State) : Host.Outcome State Fault Refusal :=
  if Instr.wf (.watchdog facet poison) then
    match (s.facet facet).running with
    | none => done s
    | some k =>
      let s1 := s.setFacetCause facet 1
      let s2 := poison.elim s1 fun src => consumed (poisonBits s1 facet) k src
      doneIf (s.live && decide ((s.facet facet).since + 2 * k.dur < s.now)) s (faultKernel s2 facet 2 k)
  else done s

/-! ### RUN_COMPLETE (R158, R184, R221, R300) -/

/-- Every base step has run and no sink write of the run is left (R158). -/
def runOver (s : State) (r : Run) : Bool :=
  r.dispatched && r.staged && decide (r.fin * r.nops ≤ r.done) &&
  (decide (r.fin = 0) || decide (r.prefillTotal ≤ r.prefillDone)) &&
  !(s.sinkWrites.any fun w => w.cid == r.cid) &&
  !(s.vertex.reqs.any fun q => match q.purpose with | .sinkWrite c _ => c == r.cid | _ => false) &&
  groupOpen s r.part r.group

/-- The context of a checkpoint that is due waits in the device pool; one for which the pool has no room, or whose slots
hold poison, is skipped (R184, R185, R356, R389, log 87). -/
def keepCapture (s : State) (i : Nat) (b : Bytes) : State :=
  let k := (s.stream i).part
  let s1 := (noteCapture s i b).modStream i fun t => { t with ckptCopies := t.ckptCopies ++ [b] }
  if poolFits s1 && !(s.stream i).poison then s1
  else (s.modPart k fun p => { p with ckptSkipped := addSat p.ckptSkipped 1 }).setStreamCause k 0

/-- What the end of an OK run leaves in a member: LAST_SEQUENCE, RUNS_DONE, and the context of a
checkpoint that is due (R173, R184, R185). -/
def memberEnd (s : State) (seq i : Nat) : State :=
  let s1 := s.modStream i fun t => { t with lastSequence := seq, runsDone := t.runsDone + 1, lastRun := s.now }
  let t := s1.stream i
  let ring := tabGet {} (s1.part t.part).ckpts t.group
  if ring.periodK ≠ 0 && decide (t.runsDone % ring.periodK = 0) then
    let s2 := if ring.sign then s1.used 1 else s1
    keepCapture s2 i (captureCtx s1 i ring.sign)
  else s1

def runCompleteEff (s : State) (r : Run) : State :=
  let seq := match s.cmd r.cid with | some c => c.sequence | none => 0
  let step := (s.stream (r.members.headD 0)).step
  let stopped := r.fin < r.steps
  let s1 := if stopped then
      r.members.foldl (fun s i => s.modStream i fun t => { t with lastRun := s.now }) s
    else r.members.foldl (fun s i => memberEnd s seq i) (modAcct s r fun a => { a with runs := addWrap a.runs 1 })
  let s2 := if stopped then finish s1 r.cid stInvalidParameter ((r.stopAt.map (·.2)).getD 0) step
    else finish s1 r.cid stOk (b2n r.stateMiss + 2 * b2n r.modelMiss + 4 * b2n r.longPrompt) step
  resumeWaiting s2 r.members

/-- RUN_COMPLETE (R158). -/
def execRunComplete (cid : Nat) (s : State) : Host.Outcome State Fault Refusal :=
  match s.runOf cid with
  | none => done s
  | some r => doneIf (s.live && runOver s r) s (runCompleteEff s r)

/-! ### JUMP_PREPARE (R142, R143) -/

/-- The first kernel of a list that waits for a starting state takes one. -/
def landNoise (poison : Bool) : List Kernel → List Kernel
  | [] => []
  | k :: r => if k.noise = 0 then k :: landNoise poison r
    else { k with noise := k.noise - 1, poison := k.poison || poison } :: r

/-- The matrices that form the next starting state of a kernel: one for each set bit of its element, and
two for each base step that B_t moves on (R142). -/
def jumpMatrices (s : State) (k : Kernel) : Nat :=
  match s.runOf k.cid with
  | none => 0
  | some r =>
    let es := kernelNoise s r (runVoice s r) k
    match es.drop (es.length - k.noise) with
    | e :: _ => popCount 20 e.1 + 2 * e.2
    | [] => 0

def jumpEff (s : State) (p f : Nat) (parityError : Bool) (k : Kernel) : State :=
  let n := jumpMatrices s k
  let s1 := s.modFacet (16 * p + f) fun c => { c with queue := landNoise parityError c.queue }
  s1.modPrism p fun q =>
    { q with
      jumpApplied := addWrap q.jumpApplied n
      jumpCause := if parityError then setBit q.jumpCause 0 else q.jumpCause }

/-- JUMP_PREPARE (R142): the next starting state of a facet's kernels lands; `parityError` when a matrix
row failed its parity (R143). -/
def execJumpPrepare (prism facet : Nat) (parityError : Bool) (s : State) : Host.Outcome State Fault Refusal :=
  if Instr.wf (.jumpPrepare prism facet parityError) then
    match (s.facet (16 * prism + facet)).queue.find? fun k => k.noise != 0 with
    | none => done s
    | some k => doneIf s.live s (jumpEff s prism facet parityError k)
  else done s

/-! ### What runs wait for -/

/-- Runs of a partition go on where they can: in order of acceptance. -/
def advanceAll (s : State) : List Nat → State
  | [] => s
  | c :: r => advanceAll (advanceRun s c) r

/-- Dispatched runs of a partition. -/
def dispatchedRuns (s : State) (k : Nat) : List Nat :=
  (s.runs.filter fun r => r.part == k && r.dispatched).map (·.cid)

/-- STATE_FETCH_BACK_DONE (R164): the slots of an away stream are on facets again. -/
def execStateFetchBackDone (stream : Nat) (s : State) : Host.Outcome State Fault Refusal :=
  if Instr.wf (.stateFetchBackDone stream) then
    match (s.stream stream).resid with
    | .fetching _ =>
      doneIf s.live s (resumeWaiting (s.modStream stream fun t => { t with resid := .resident }) [stream])
    | _ => done s
  else done s

/-- MODEL_PLACEMENT_DONE (R241, R245): a placement into T0 of a partition ends. Its T1 source has been
used, poison comes with it (R389), and the pin commands that wait for it complete. -/
def placementEff (s : State) (k : Nat) (id : Bytes) : State :=
  let ws := ((s.part k).t0.filter fun c => c.identity == id).flatMap (·.waiters)
  let hit := (s.part k).t0.any fun c => c.identity == id && c.fromT1
  let bad := if hit then s.t1.any fun c => c.identity == id && c.poison else s.t2.any fun c => c.identity == id && c.poison
  let s1 := s.modPart k fun p =>
    { p with t0 := p.t0.map fun c =>
        if c.identity == id then
          { c with placed := true, arrived := s.now, lastUse := s.now, waiters := [], poison := bad } else c }
  evictForced (finishAll { s1 with t1 := readT1 s.now s1.t1 fun c => hit && c.identity == id } stOk ws) k

def execModelPlacementDone (part model : Nat) (s : State) : Host.Outcome State Fault Refusal :=
  if Instr.wf (.modelPlacementDone part model) then
    let id := (s.model model).identity
    let p := s.part part
    doneIf (s.live && !id.isEmpty && (p.resetting.isNone || decide (p.resetSince + Config.zeroingCycles ≤ s.now)) &&
        p.t0.any fun c => c.identity == id && !c.placed && !c.dead) s
      (placementEff s part id)
  else done s

/-- MODEL_T1_COPY_DONE (R244): a copy into T1 ends. -/
def t1CopyEff (s : State) (id : Bytes) : State :=
  let ws := (s.t1.filter fun c => c.identity == id).flatMap (·.waiters)
  finishAll { s with t1 := s.t1.map fun c =>
    if c.identity == id then
      { c with copying := false, arrived := s.now, lastUse := s.now, waiters := []
               poison := s.t2.any fun t => t.identity == id && t.poison } else c } stOk ws

def execModelT1CopyDone (model : Nat) (s : State) : Host.Outcome State Fault Refusal :=
  if Instr.wf (.modelT1CopyDone model) then
    let id := (s.model model).identity
    doneIf (s.live && !id.isEmpty && s.t1.any fun c => c.identity == id && c.copying) s (t1CopyEff s id)
  else done s

/-! ### STAGED_FETCH_LAND (R220) -/

/-- Remove an outstanding request. -/
def dropStage (x : Stage) : List Stage → List Stage
  | [] => []
  | q :: r => if q = x then r else q :: dropStage x r

/-- A staged fetch is discarded and counted (R220, R223). -/
def staleStage (s : State) (k : Nat) : State :=
  (s.modPart k fun p => { p with staleStages := addSat p.staleStages 1 }).setPartCause k 5

/-- The culet of the current placement issues a discarded fetch again, with the current generation
(R220). -/
def restage (s : State) (k : Nat) (q : Stage) : State :=
  let now := (s.stream q.stream).placementGen.toNat
  let s1 := s.modPart k fun p => { p with stages := dropStage q p.stages ++ [{ q with gen := now }] }
  let s2 := s1.modCmd q.cid fun c =>
    { c with fetched := c.fetched.filter (fun x => x.1 != q.addr), wanting := c.wanting + 1 }
  let r := issueReq s2 1 (addrDevice q.addr) false { address := q.addr, length := q.len } (.staging q.cid q.addr)
  if r.2 then r.1 else sinkFault r.1 k (s.stream q.stream).group

/-- The bytes of a staged fetch have arrived at the device. -/
def stageArrived (s : State) (q : Stage) : Bool :=
  match s.cmd q.cid with
  | some c => c.fetched.any fun x => x.1 == q.addr
  | none => false

/-- The fetch lands: kept in the landing zone, or in a scratchpad when its generation is the stream's;
otherwise discarded (R220). -/
def stageLand (s : State) (k i gen : Nat) (landingZone : Bool) : State :=
  let mine := (s.part k).stages.filter fun q => q.stream == i && q.gen == gen && (s.cmd q.cid).isSome
  match mine.find? (stageArrived s) with
  | some q =>
    if landingZone || gen == (s.stream i).placementGen.toNat then
      s.modPart k fun p => { p with stages := dropStage q p.stages }
    else restage (staleStage s k) k q
  | none => if landingZone || !mine.isEmpty then s else staleStage s k

/-- STAGED_FETCH_LAND (R220). -/
def execStagedFetchLand (part stream generation : Nat) (landingZone : Bool) (s : State) :
    Host.Outcome State Fault Refusal :=
  if Instr.wf (.stagedFetchLand part stream generation landingZone) then
    doneIf (s.live && (s.part part).valid) s (stageLand s part stream generation landingZone)
  else done s

end Sys2Proof.Machine
end

