-- ==== Sys2Proof/Machine/Lattice.lean ====
section
/-! DEFINITION. The lattice at work (R28, R29, R192 to R205, R210, R212): loading and switching tables,
the tick and the batch composer, fill, the share table and its arbitration, and the accounting
registers (R222). -/

namespace Sys2Proof.Machine

/-! ### LATTICE_LOAD (R194 to R196, R287) -/

def latticeLoadEff (c : Cmd) (s : State) : State :=
  let n := c.f 24 4
  if !c.only [(16, 8), (24, 4)] || n < 48 || 16 + 32 * 256 < n then fail s c.cid stInvalidParameter
  else withStruct s c (c.f 16 8) n false fun s1 b =>
    if n ≠ 16 + 32 * rd b 0 2 || !latticeOk s1 (s1.part c.partition) b then fail s1 c.cid stInvalidParameter
    else
      let s2 := s1.modPart c.partition fun p => { p with shadow := some (parseLattice b) }
      fail (if poolFits s2 then s2 else s1) c.cid (if poolFits s2 then stOk else stNoResource)

/-- LATTICE_LOAD (R196). -/
def execLatticeLoad (cid : Nat) (s : State) : Host.Outcome State Fault Refusal := onCmd s cid 0x14 latticeLoadEff

/-! ### Tick sources (R28, R29, R192) -/

def sameSource (a b : Lattice) : Bool := a.frameSync == b.frameSync && (!a.frameSync || a.port == b.port)

/-- The clocks of a port that generates or detects its own run: a master that is armed and not idle, or
a slave whose clocks are framed (R329, R330, R344). -/
def ownClocks (q : Port) : Bool :=
  if q.clock = 2 then q.clockOk else decide (1 ≤ q.state.toNat ∧ q.state.toNat ≤ 4)

/-- The clocks of a port run; a follower's are its leader's (R321). -/
def clocksOn (s : State) (p : Nat) : Bool := ownClocks (s.port (leaderOf s p))

/-- The source of a table delivers ticks: its port has frame sync (R29, R192). -/
def sourceRuns (s : State) (l : Lattice) : Bool :=
  !l.frameSync || (clocksOn s l.port && decide (1 ≤ framesOf s l.port))

/-- A tick of the source falls on this cycle and has not been launched. -/
def tickDue (s : State) (p : Partition) (l : Lattice) : Bool :=
  sourceRuns s l && !switching s && (l.frameSync || s.now % 125000 == 0) && p.lastTick != some (sourceTick s l)

/-- Index of the present tick in its period (R192). -/
def tickIndexOf (s : State) (l : Lattice) : Nat := sourceTick s l % max 1 l.periodN

/-! ### LATTICE_SWITCH (R199) -/

/-- The shadow becomes active, and the switches that await it complete (R199). DESIGN CHOICE (log 98): after a switch to
another source whose ticks are stopped, the first tick that launches is one of index 0. A partition that now holds
an LC entry wakes its gated prisms (R416). -/
def switchNow (s : State) (k : Nat) : State :=
  let p := s.part k
  match p.shadow with
  | none => finishAll (s.modPart k fun p => { p with switch := [] }) stOk p.switch
  | some sh =>
    let same := p.active.any (sameSource sh)
    let other := p.active.any fun a => !sameSource sh a
    let s1 := s.modPart k fun p =>
      { p with
        active := some sh, shadow := none, switch := [], awaitBoundary := other
        ticking := sourceRuns s sh
        lastTick := if same then p.lastTick else if sh.frameSync && decide (1 ≤ framesOf s sh.port) then some (sourceTick s sh) else none }
    let s2 := if sh.entries.any (·.lc) then
        p.prismList.foldl (fun s q =>
          if (s.prism q).gated && (s.prism q).waking.isNone then s.modPrism q fun x => { x with waking := some (s.now + 2000) }
          else s) s1
      else s1
    finishAll (s2.setPartCause k 1) stOk p.switch

/-- The switch instant has come: the ticks are stopped, or a period of the active table begins at this
tick (R199). -/
def switchDue (s : State) (k : Nat) : Bool :=
  let p := s.part k
  !p.switch.isEmpty &&
  (match p.active with
   | none => true
   | some l => !p.ticking || !sourceRuns s l ||
      (tickDue s p l && decide (tickIndexOf s l = 0) &&
        p.switch.all fun c => match s.cmd c with
          | some c => c.started.all fun t => decide (t < s.now)
          | none => true))

def latticeSwitchEff (c : Cmd) (s : State) : State :=
  let k := c.partition
  let p := s.part k
  match p.shadow with
  | none => fail s c.cid stNotFound
  | some sh =>
    match readmit s k { p with active := some sh } with
    | some (g, n) => finish s c.cid stAdmissionRefused n g
    | none =>
      let wait := s.modPart k fun p => { p with switch := p.switch ++ [c.cid] }
      match p.active with
      | none => switchNow wait k
      | some a =>
        if sameSource a sh && !switchApart s a sh (switchTick s p a) then
          finish s c.cid stAdmissionRefused 0 0
        else if !p.ticking then switchNow wait k
        else wait

/-- LATTICE_SWITCH (R199). -/
def execLatticeSwitch (cid : Nat) (s : State) : Host.Outcome State Fault Refusal := onCmd s cid 0x15 latticeSwitchEff

/-- LATTICE_SWITCH_INSTANT (R199). -/
def execLatticeSwitchInstant (part : Nat) (s : State) : Host.Outcome State Fault Refusal :=
  if Instr.wf (.latticeSwitchInstant part) then doneIf (s.live && switchDue s part) s (switchNow s part)
  else done s

/-- The ticks of partitions that a port feeds stop (R29); a switch that awaits a boundary takes effect
(R199). -/
def stopTicksOf (s : State) (p : Nat) : List Nat → State
  | [] => s
  | k :: r =>
    let q := s.part k
    let mine := q.valid && q.ticking && q.active.any fun l => l.frameSync && l.port == p
    let s1 := (s.modPart k fun q => { q with ticking := false }).setPartCause k 0
    stopTicksOf (if mine then (if q.switch.isEmpty then s1 else switchNow s1 k) else s) p r

def stopTicks (s : State) (p : Nat) : State := stopTicksOf s p (upTo 128)

/-! ### The batch composer (R201 to R203) -/

/-- RUNs of a group, in order of acceptance. -/
def groupRuns (s : State) (k g : Nat) : List Nat :=
  (s.runs.filter fun r => r.part == k && r.group == g).map (·.cid)

/-- The next kernel of base steps of an occurrence. -/
def occSteps (s : State) (r : Run) (v : Voice) (most left : Nat) : Option Kernel :=
  match runBound s r with
  | none => stepsWithin s r v most left
  | some b => (planSteps s r v most (some b)).filter fun k => decide (k.dur ≤ left)

/-- The next prefill kernel of an occurrence. -/
def occPrefill (s : State) (r : Run) (v : Voice) (left : Nat) : Option Kernel :=
  match runBound s r with
  | none => prefillWithin s r v left
  | some b => (planPrefill s r v (some b)).filter fun k => decide (k.dur ≤ left)

/-- What is left of an occurrence's budget: BUDGET cycles of each facet, and as much for the kernels of each
run, which run one after another (R195, R201). -/
structure Occ where
  budget : Nat
  facets : List (Nat × Nat)
  runs : List (Nat × Nat) := []

/-- Cycles that a run's next kernel may take on some facet of a list. -/
def Occ.room (o : Occ) (fs : List Nat) (cid : Nat) : Nat :=
  min (maxN ((o.facets.filter fun q => fs.contains q.1).map (·.2)))
    (o.budget - sumN ((o.runs.filter fun q => q.1 == cid).map (·.2)))

/-- A kernel takes its cycles from the first facet of a list that has them. -/
def Occ.charge (fs : List Nat) (dur : Nat) : List (Nat × Nat) → List (Nat × Nat)
  | [] => []
  | q :: r => if fs.contains q.1 && decide (dur ≤ q.2) then (q.1, q.2 - dur) :: r else q :: Occ.charge fs dur r

def Occ.take (o : Occ) (fs : List Nat) (cid dur : Nat) : Occ :=
  { o with facets := Occ.charge fs dur o.facets, runs := (cid, dur) :: o.runs }

/-- The budget of an occurrence at its start. -/
def occOf (s : State) (k : Nat) (e : LEntry) : Occ :=
  { budget := e.budget, facets := (openFacets s k).map fun f => (f, e.budget) }

/-- Schedule at most `most` base steps of a run within the budget left. The first argument bounds the
kernels. -/
def schedSteps : Nat → State → Nat → Nat → Occ → State × Occ
  | 0, s, _, _, o => (s, o)
  | n + 1, s, cid, most, o =>
    match s.runOf cid with
    | none => (s, o)
    | some r =>
      let v := runVoice s r
      let fs := kernelFacets s r r.planBatch (nextReads s r)
      if most = 0 || !runnable s r then (s, o)
      else match occSteps s r v most (o.room fs cid) with
      | none => (s, o)
      | some k =>
        let last := decide (batchCount s r ≤ k.batch + 1)
        schedSteps n (putKernel s r v k) cid
          (if last then most - (cdiv k.hi r.nops - cdiv k.lo r.nops) else most) (o.take fs cid k.dur)

/-- The run is in its output phase (R201, R202). -/
def outputPhase (r : Run) : Bool :=
  decide (r.prefillTotal ≤ r.prefillPlanned) && r.leadLeft.any fun q => q.2 == 0

/-- The base steps of every run in its output phase, at most STEPS each. -/
def schedOutputs (e : LEntry) (only : State → Nat → Bool) : List Nat → State × Occ → State × Occ
  | [], a => a
  | c :: r, a =>
    let go := match a.1.runOf c with | some q => outputPhase q && only a.1 c | none => false
    schedOutputs e only r (if go then schedSteps (16 * e.steps + 4096) a.1 c e.steps a.2 else a)

/-- One prefill chunk of every run with prefill pending, in order of acceptance. -/
def schedPrefill : List Nat → State × Occ → State × Occ
  | [], a => a
  | c :: r, a =>
    schedPrefill r (match a.1.runOf c with
      | none => a
      | some q =>
        if !runnable a.1 q || q.prefillTotal ≤ q.prefillPlanned then a
        else
          let v := runVoice a.1 q
          let fs := kernelFacets a.1 q q.planBatch (nextReads a.1 q)
          match occPrefill a.1 q v (a.2.room fs c) with
          | some k => (putKernel a.1 q v k, a.2.take fs c k.dur)
          | none => a)

/-- Further prefill chunks while budget remains. The first argument bounds the rounds. -/
def schedMore : Nat → List Nat → State × Occ → State × Occ
  | 0, _, a => a
  | n + 1, cs, a =>
    let b := schedPrefill cs a
    if b.2.runs.length = a.2.runs.length then b else schedMore n cs b

/-- An occurrence of entry `i` counts for the LEAD of a run whose prefill ended in one of it (R202). -/
def leadDown (i : Nat) (r : Run) : Run :=
  { r with leadLeft := r.leadLeft.map fun q => if q.1 = i then (i, q.2 - 1) else q }

/-- A run whose prefill ends in this occurrence of entry `i` begins its base steps LEAD occurrences later
(R202). -/
def leadSet (i lead : Nat) (r : Run) : Run :=
  if r.dispatched && r.staged && r.leadLeft.isNone && decide (r.prefillTotal ≤ r.prefillPlanned) then
    { r with leadLeft := some (i, lead) }
  else r

def mapRuns (s : State) (cs : List Nat) (f : Run → Run) : State :=
  { s with runs := s.runs.map fun r => if cs.contains r.cid then f r else r }

/-- An occurrence of entry `i` for the runs `cs` (R201): the kernels that it schedules join the culet's
queue. -/
def composeEntry (s : State) (k i : Nat) (e : LEntry) (cs : List Nat) : State :=
  let s1 := mapRuns (mapRuns (advanceAll s cs) cs (leadDown i)) cs (leadSet i e.lead)
  let was := cs.filter fun c => match s1.runOf c with | some r => outputPhase r | none => false
  let a := schedOutputs e (fun _ _ => true) cs (s1, occOf s1 k e)
  let b := schedMore 65536 cs (schedPrefill cs a)
  let c := (mapRuns b.1 cs (leadSet i e.lead), b.2)
  (schedOutputs e (fun _ x => !was.contains x) cs c).1

/-- The first kernel that an LC occurrence scheduled starts the occurrence (R216). -/
def markTick (now : Nat) : Nat → List Kernel → List Kernel
  | _, [] => []
  | 0, k :: r => { k with tick := some now } :: r
  | n + 1, k :: r => k :: markTick now n r

/-- An LC occurrence. -/
def launchLc (s : State) (k i : Nat) (e : LEntry) : State :=
  let n := (s.part k).culetQ.length
  (composeEntry s k i e (groupRuns s k e.group)).modPart k fun p => { p with culetQ := markTick s.now n p.culetQ }

/-- The next kernel of the run could launch but for LC windows, which claim every facet that it may go to
(R205). -/
def claimedOut (s : State) (r : Run) : Bool :=
  let fs := kernelFacets s r r.planBatch (nextReads s r)
  runnable s r && !fs.isEmpty && fs.all fun f => decide (s.now < (s.facet f).claimed)

/-- A BE occurrence: the runs that LC windows keep from launching are left out, each one that is queued
being deferred (R29, R205). -/
def launchBe (s : State) (k i : Nat) (e : LEntry) : State :=
  let cs := groupRuns s k e.group
  let s1 := advanceAll s cs
  let late := s1.runs.filter fun r => cs.contains r.cid && claimedOut s1 r
  let wait := late.filter fun r => match s1.cmd r.cid with | some c => c.started.isNone | none => false
  let s2 := wait.foldl (fun s r => modAcct s r fun a => { a with deferrals := addWrap a.deferrals 1 }) s1
  composeEntry s2 k i e (cs.filter fun c => !(late.any fun r => r.cid == c))

/-- Entries of the table with their numbers launch in table order (R198). -/
def launchAll (s : State) (k : Nat) : List (LEntry × Nat) → State
  | [] => s
  | e :: r => launchAll (if e.1.lc then launchLc s k e.2 e.1 else launchBe s k e.2 e.1) k r

/-- An LC window that begins at a tick claims the facets of its group's placement; the occurrence of a
group with no queued work is empty and claims none (R197, R198, R212). -/
def claimFor (s : State) (k : Nat) : List LEntry → State
  | [] => s
  | e :: r =>
    claimFor (if e.lc && !(groupRuns s k e.group).isEmpty then
        (groupFacets s k e.group []).foldl (fun s f => s.modFacet f fun c =>
          { c with claimed := max c.claimed (s.now + 28000 + e.budget) }) s
      else s) k r

/-- A tick of the active table is launched (R28, R192, R198). -/
def launchTick (s : State) (k : Nat) (l : Lattice) : State :=
  let i := tickIndexOf s l
  let s1 := s.modPart k fun p =>
    { p with
      tickIndex := i, ticking := true, awaitBoundary := false, lastTick := some (sourceTick s l)
      periods := if i = 0 then addWrap p.periods 1 else p.periods }
  let es := (l.entries.zip (upTo l.entries.length)).filter fun e => e.1.tick == i
  feed (launchAll (claimFor s1 k (es.map (·.1))) k es) k

/-- The tick of the partition's active table. -/
def tickEff (s : State) (k : Nat) : State :=
  let s1 := if switchDue s k then switchNow s k else s
  let p := s1.part k
  match p.active with
  | none => s1
  | some l =>
    if p.resetting.isNone && tickDue s1 p l && (!p.awaitBoundary || decide (tickIndexOf s1 l = 0)) then launchTick s1 k l
    else s1

/-- LATTICE_TICK (R28): a tick of the partition's source launches the entries of the active lattice. -/
def execLatticeTick (part : Nat) (s : State) : Host.Outcome State Fault Refusal :=
  if Instr.wf (.latticeTick part) then doneIf (s.live && (s.part part).valid) s (tickEff s part)
  else done s

/-! ### Fill (R204) -/

/-- Best-effort RUNs of a partition, in order of acceptance. -/
def beRuns (s : State) (k : Nat) : List Nat := (s.runs.filter fun r => r.part == k && !r.lc).map (·.cid)

/-- No kernel of the run waits or runs. -/
def runIdle (s : State) (r : Run) : Bool :=
  !onFacet s r.cid && !((s.part r.part).culetQ.any fun q => q.cid == r.cid)

/-- The first runnable run of a list gives the facet its next kernel. -/
def fillFrom (s : State) (f : Nat) : List Nat → State
  | [] => s
  | c :: cs =>
    let s1 := advanceRun s c
    match s1.runOf c with
    | none => fillFrom s1 f cs
    | some r =>
      match (if runIdle s1 r then nextKernel s1 r else none) with
      | none => fillFrom s1 f cs
      | some k =>
        if !(kernelFacets s1 r k.batch (kernelReads s1 k)).contains f then fillFrom s1 f cs
        else
        let s2 := putKernel s1 r (runVoice s1 r) k
        giveKernel (s2.modPart r.part fun p => { p with culetQ := p.culetQ.dropLast }) k f

/-- The facet holds no kernel or descriptor, no window claims it, BE issue is not stopped, and the culets are not
parked (R204, R417, R433). -/
def fillFree (s : State) (part facet : Nat) : Bool :=
  let c := s.facet facet
  (s.part part).valid && (s.part part).facetList.contains facet && prismOpen s (facet / 16) && c.running.isNone &&
  c.queue.isEmpty && decide (c.claimed ≤ s.now) && decide (s.clk.fBe ≠ 0) && !switching s

/-- FILL (R204). -/
def execFill (part facet : Nat) (s : State) : Host.Outcome State Fault Refusal :=
  if Instr.wf (.fill part facet) then
    let s1 := feed (evictForced s part) part
    doneIf (s.live && fillFree s part facet) s
      (if fillFree s1 part facet then fillFrom s1 facet (beRuns s1 part) else s1)
  else done s

/-! ### The share table (R208 to R210) -/

def parseShare (b : Bytes) : List ShareEntry :=
  ((chunks 8 b).filter fun e => rd e 0 1 != 0xFF).map fun e =>
    { resource := rd e 0 1, partition := rd e 1 1, share := rd e 2 2 }

/-- The entries are in range and reserve at most the whole of each resource (R208, R209, R13). -/
def shareOk (s : State) (b : Bytes) : Bool :=
  let es := parseShare b
  ((chunks 8 b).all fun e => rd e 0 1 == 0xFF || rd e 4 4 == 0) &&
  (es.all fun e => resources.contains e.resource && decide (e.partition < 128) && (s.part e.partition).valid &&
    decide (1 ≤ e.share ∧ e.share ≤ 1024)) &&
  resources.all fun r => decide (sumN ((es.filter fun e => e.resource == r).map (·.share)) ≤ 1024)

def shareTableLoadEff (c : Cmd) (s : State) : State :=
  if !c.only [(16, 8)] then fail s c.cid stInvalidParameter
  else withStruct s c (c.f 16 8) 512 false fun s1 b =>
    let s2 := { s1 with shareNext := some (parseShare b) }
    if shareOk s1 b then fail (if poolFits s2 then s2 else s1) c.cid (if poolFits s2 then stOk else stNoResource)
    else fail s1 c.cid stInvalidParameter

/-- SHARE_TABLE_LOAD (R209). -/
def execShareTableLoad (cid : Nat) (s : State) : Host.Outcome State Fault Refusal := onCmd s cid 0x16 shareTableLoadEff

/-- Serve requests in order: each up to what is left of the round and, for the shares, of its
partition. Answers each request with the bytes served, and what is left. -/
def serve (room : Nat → Nat) : List BwReq → Nat → List (BwReq × Nat) → List (BwReq × Nat) × Nat
  | [], left, acc => (acc, left)
  | q :: r, left, acc =>
    let used := sumN ((acc.filter fun x => x.1.partition == q.partition).map (·.2))
    let n := min q.bytes (min left (room q.partition - used))
    serve room r (left - n) (acc ++ [(q, n)])

/-- One resource in one round of 512 ns: the requests served, in order, and those that stay (R210). A fabric port serves
VC 0 first (R364). -/
def roundOf (s : State) (r : Nat) : List (BwReq × Nat) × List BwReq :=
  let cap := capacity s r * 512 / 1000
  let mine := s.bwReqs.filter fun q => q.resource == r
  let first (q : BwReq) := decide (0x30 ≤ r ∧ r < 0x38) && q.vc == 0
  let z := serve (fun _ => cap) (mine.filter first) cap []
  let others := mine.filter fun q => !first q
  let a := serve (fun k => cap * shareOf s r k / 1024) (others.filter (·.lc)) z.2 []
  let left (xs : List (BwReq × Nat)) := xs.map fun x => { x.1 with bytes := x.1.bytes - x.2 }
  let b := serve (fun _ => cap) (left a.1 ++ others.filter fun q => !q.lc) a.2 []
  (z.1 ++ a.1 ++ b.1, (left z.1 ++ left b.1).filter fun q => decide (q.bytes ≠ 0))

/-- ARBITRATION_ROUND (R210): the share table loaded last takes effect, the requests join those that
wait, and each resource serves a round. -/
def arbitrationEff (s : State) (reqs : List BwReq) : State :=
  let s1 := { s with share := s.shareNext.getD s.share, shareNext := none, bwReqs := s.bwReqs ++ reqs }
  let rs := resources.map (roundOf s1)
  { s1 with
    bwReqs := rs.flatMap (·.2)
    sent := s1.sent ++ (rs.flatMap (·.1)).filterMap fun x => if x.2 = 0 then none else some (.served x.1 x.2) }

def execArbitrationRound (reqs : List BwReq) (s : State) : Host.Outcome State Fault Refusal :=
  if Instr.wf (.arbitrationRound reqs) then doneIf s.live s (arbitrationEff s reqs) else done s

/-! ### ACCT_CLEAR (R222, R223) -/

def acctClearEff (s : State) (k : Nat) : State :=
  s.modPart k fun p => { p with acct := [], lcStartMax := 0, staleStages := 0 }

/-- ACCT_CLEAR (R222): a write by the PF or the owning function. -/
def execAcctClear (fn part : Nat) (value : Word32) (s : State) : Host.Outcome State Fault Refusal :=
  if Instr.wf (.acctClear fn part value) then
    doneIf (s.serves fn && (fn == 0 || ownsPart s fn part) && value.getLsbD 0) s
      (acctClearEff s part).linkUsed
  else done s

end Sys2Proof.Machine
end

