-- ==== Sys2Proof/Machine/Parts.lean ====
section
/-! DEFINITION. Partition commands and faults (R187 to R191, R219, R284 to R286, R390, R393, R395). -/

namespace Sys2Proof.Machine

/-! ### PARTITION_CREATE (R187, R188, R284) -/

/-- A prism belongs to a partition or is still being released (R187). -/
def prismTaken (s : State) (p : Nat) : Bool :=
  (partOfPrism s p).isSome || (s.prism p).leaving || (s.prism p).zeroing

/-- The parameters are in range (R187, R284). -/
def createOk (s : State) (c : Cmd) : Bool :=
  c.only [(16, 16), (32, 3), (36, 2)] && decide (c.f 16 16 ≠ 0) && decide (c.f 32 1 < 64) && funcExists s (c.f 32 1) &&
  [8, 16, 32].contains (c.f 33 1) && (c.f 34 1 == 0 || decide (4 ≤ c.f 34 1 ∧ c.f 34 1 ≤ 25)) && decide (c.f 36 2 ≤ 4096)

/-- The partition that a packet describes, in a register block that holds `p`: the counters of R222 are
cleared. -/
def newPartition (p : Partition) (c : Cmd) : Partition :=
  { p.kept with
    acct := [], lcStartMax := 0, staleStages := 0
    valid := true, rows := if c.f 33 1 = 8 then 0 else if c.f 33 1 = 16 then 1 else 2
    function := BitVec.ofNat 6 (c.f 32 1), kernelBound := BitVec.ofNat 5 (if c.f 34 1 = 0 then 25 else c.f 34 1)
    chunkMax := if c.f 36 2 = 0 then 64 else c.f 36 2, prisms := BitVec.ofNat 128 (c.f 16 16) }

/-- A prism joins a partition; a gated one wakes, which includes its zeroing (R416). -/
def joinPrism (s : State) (p : Nat) : State :=
  s.modPrism p fun q =>
    { q with idleSince := s.now, waking := if q.gated then some (s.now + Config.zeroingCycles) else none }

/-- PARTITION_CREATE's effect: after failed training NO_RESOURCE comes before the check of reserved bytes (R13, R350,
log 82). -/
def partitionCreateEff (c : Cmd) (s : State) : State :=
  let ps := maskBits 128 (c.f 16 16)
  if s.memc.trainFailed then fail s c.cid stNoResource
  else if !createOk s c then fail s c.cid stInvalidParameter
  else if ps.any (prismTaken s) then fail s c.cid stBusy
  else
    let k := ps.headD 0
    let s1 := ps.foldl joinPrism { s with parts := tabMod {} s.parts k fun p => newPartition p c }
    finish s1 c.cid stOk 0 k

/-- PARTITION_CREATE (R187). -/
def execPartitionCreate (cid : Nat) (s : State) : Host.Outcome State Fault Refusal := onCmd s cid 0x10 partitionCreateEff

/-! ### PARTITION_DESTROY (R190) -/

/-- Mark a partition as being destroyed for a command. -/
def partitionDestroyEff (c : Cmd) (s : State) : State :=
  let k := c.partition
  if !(openGroups s k).isEmpty && !c.force then fail s c.cid stBusy
  else
    let s1 := dropKernels s fun q => q.part == k
    if partRunning s1 k then s1.modPart k fun p => { p with destroying := some c.cid } else destroyNow s1 k c.cid

/-- PARTITION_DESTROY (R190). -/
def execPartitionDestroy (cid : Nat) (s : State) : Host.Outcome State Fault Refusal :=
  onCmd s cid 0x11 partitionDestroyEff

/-! ### PARTITION_YIELD (R219, R285) -/

/-- A table whose entries of a group are best-effort. -/
def Lattice.demoted (g : Nat) (l : Lattice) : Lattice :=
  { l with entries := l.entries.map fun e => if e.group = g then { e with lc := false } else e }

/-- LC groups that fail re-admission on the remaining prisms become best-effort (R219). The first
argument bounds their number. -/
def demote : Nat → State → Nat → Partition → State
  | 0, s, _, _ => s
  | n + 1, s, k, p =>
    match readmit s k p with
    | none => s
    | some (g, _) =>
      let s1 := { s with
        streams := tabMapV {} s.streams (fun _ t => if t.part = k ∧ t.group = g then { t with lc := false } else t)
        runs := s.runs.map fun (r : Run) => if r.part = k ∧ r.group = g then { r with lc := false } else r }
      let s2 := s1.modPart k fun q =>
        { q with
          active := q.active.map (Lattice.demoted g), shadow := q.shadow.map (Lattice.demoted g)
          culetQ := q.culetQ.map fun x => if x.group = g then { x with lc := false } else x }
      demote n (s2.setPartCause k 3) k p

/-- Descriptors not yet started on a prism go back to the culet (R219 step 1). -/
def withdrawPrism (s : State) (k p : Nat) : State :=
  let qs := (upTo 16).flatMap fun i => (s.facet (16 * p + i)).queue.map (withdrawn s)
  let s1 := (upTo 16).foldl (fun s i => s.modFacet (16 * p + i) fun c => { c with queue := [] }) s
  (s1.modPart k fun q => { q with culetQ := qs ++ q.culetQ }).modPrism p fun q => { q with leaving := true }

def partitionYieldEff (c : Cmd) (s : State) : State :=
  let k := c.partition
  let p := s.part k
  let m := BitVec.ofNat 128 (c.f 16 16)
  let ps := maskBits 128 m.toNat
  let rest := { p with prisms := p.prisms &&& ~~~ m }
  if !c.only [(16, 16)] || m.getLsbD k || !(ps.all fun q => p.prisms.getLsbD q) then fail s c.cid stInvalidParameter
  else
    match readmit s k rest, c.force with
    | some (g, n), false => finish s c.cid stAdmissionRefused n g
    | _, _ =>
      let s1 := demote ((lcGroups s k).length + 1) s k rest
      let s2 := ps.foldl (fun s q => withdrawPrism s k q) s1
      let s3 := releaseAll (s2.modPart k fun p => { p with yielding := some (c.cid, m) }) ps
      feed (settleYields s3 [k]) k

/-- PARTITION_YIELD (R219). -/
def execPartitionYield (cid : Nat) (s : State) : Host.Outcome State Fault Refusal := onCmd s cid 0x12 partitionYieldEff

/-- The zeroing of a prism ends (R191). -/
def zeroingEff (s : State) (p : Nat) : State :=
  settleYields (s.modPrism p fun q => { q with zeroing := false }) (tabKeys s.parts)

/-- PRISM_ZEROING_DONE (R191): 6,144 cycles after a prism left its partition. -/
def execPrismZeroingDone (prism : Nat) (s : State) : Host.Outcome State Fault Refusal :=
  if Instr.wf (.prismZeroingDone prism) then
    let q := s.prism prism
    doneIf (s.live && q.zeroing && (partOfPrism s prism).isNone && decide (q.zeroSince + Config.zeroingCycles ≤ s.now)) s
      (zeroingEff s prism)
  else done s

/-! ### Resets and faults (R286, R390, R393, R395) -/

def partitionResetEff (c : Cmd) (s : State) : State := beginReset s c.partition 7 [c.cid]

/-- PARTITION_RESET (R286, R393). -/
def execPartitionReset (cid : Nat) (s : State) : Host.Outcome State Fault Refusal := onCmd s cid 0x13 partitionResetEff

/-- FAULT_RECORD kind of a privileged unit (R403). -/
def unitKind : PrivUnit → Nat
  | .culet => 4
  | .dma => 5
  | .latticeSequencer => 6

/-- PARTITION_FAULT (R390): a fault of a privileged unit resets its partition. -/
def execPartitionFault (part : Nat) (unit : PrivUnit) (s : State) : Host.Outcome State Fault Refusal :=
  if Instr.wf (.partitionFault part unit) then
    doneIf (s.live && (s.part part).valid) s (beginReset s part (unitKind unit) [])
  else done s

/-- PARTITION_RESET_DONE (R393). -/
def execPartitionResetDone (part : Nat) (s : State) : Host.Outcome State Fault Refusal :=
  if Instr.wf (.partitionResetDone part) then doneIf (s.live && resetOver s part) s (endReset s part)
  else done s

/-- FATAL_CAUSE bit of a FATAL_RECORD code (R402). -/
def fatalBit (code : Nat) : Nat := if code ≤ 2 then 0 else if code ≤ 4 then 1 else 2

/-- The device stops, its kernels too, but not the clocks of the audio ports (R395, R419). -/
def stopDevice (s : State) (m : Mode) : State :=
  { s with
    mode := m
    pins := { s.pins with fatalInt := true }
    pcie := { s.pcie with aerInternal := true }
    facets := tabMapV {} s.facets fun _ c => haltFacet s.now c }.emit (.internalError (s.pcie.aerSeverity.getLsbD 22))

/-- A device-fatal fault (R395). -/
def fatalEff (s : State) (code link : Nat) : State :=
  let r := BitVec.ofNat 64 (s.now % 2 ^ 48 + 2 ^ 48 * link + 2 ^ 56 * code)
  let f : FatalRegs :=
    { cause := setBit s.fatal.cause (fatalBit code), record := if s.fatal.record = 0 then r else s.fatal.record }
  stopDevice { s with fatal := f } .fatal

/-- DEVICE_FATAL_FAULT (R395). -/
def execDeviceFatalFault (code link : Nat) (s : State) : Host.Outcome State Fault Refusal :=
  if Instr.wf (.deviceFatalFault code link) then
    doneIf (s.mode ≠ .porLow && s.mode ≠ .held) s (fatalEff s code link)
  else done s

end Sys2Proof.Machine
end

