-- ==== Sys2Proof/Machine/Models.lean ====
section
/-! DEFINITION. Model commands (R233 to R246, R289 to R291). -/

namespace Sys2Proof.Machine

/-! ### Registering a held image (R235 checks 5 to 7) -/

/-- Digest of the current owner key: the highest programmed row (R421). -/
def ownerKey (s : State) : Option Bytes := s.sec.ownerRows.getLast?

/-- Check 5: a signature that owner policy requires verifies over the identity (R431). -/
def imageSigned (s : State) (id b : Bytes) : Bool :=
  let e := (costsEnd b).getD 0
  !s.sec.policy.getLsbD 0 ||
  (bitAt (rd b 6 2) 0 && ownerKey s == some (sm3 (blockKey (slice b e 128))) && blockOk (slice b e 128) id)

/-- Every adapter point names a matching matmul of the base, whose input groups are those of A (R58, R78,
R235 check 7). -/
def adapterFits (base m : Image) : Bool :=
  m.ops.all fun o =>
    let q := base.op (o.p 0)
    let a := m.tensor (o.tens.getD 0 0)
    let b := m.tensor (o.tens.getD 1 0)
    decide (o.p 0 < base.ops.length) && q.type == 0x01 && a.group == (base.edge (q.inE 0)).group && a.redDim == q.p 0 && b.outDim == q.p 1 && o.p 2 == q.p 2

/-- A registration completes, with the handle that the partition has by now where an overlapping command made
it; else check 1's index, checks 5 and 7 on the held copy, then the new handle. -/
def registerHeld (s : State) (c : Cmd) (id : Bytes) : State :=
  let k := c.partition
  let i := gapFrom 0 (tabKeys s.models)
  match regIn s k id, t2Find s id with
  | some j, _ => finish s c.cid stOk 0x8000 (s.modelHandle j)
  | none, none => finish s c.cid stModelFetchFailed 3 0
  | none, some t =>
    let m := imageOfId s id
    if 65536 ≤ i then finish s c.cid stNoResource 1 0
    else if !imageSigned s id t.image then finish s c.cid stSecurityDenied 5 0
    else if m.adapter && (regIn s k m.baseId).isNone then finish s c.cid stNotFound 7 0
    else if m.adapter && !adapterFits (imageOfId s m.baseId) m then finish s c.cid stModelUnsupported 7 0
    else
      let s1 := { s with models := tabSet {} s.models i { part := k, identity := id } }
      finish s1 c.cid stOk 0 (s1.modelHandle i)

/-- The later registrations of one identity complete as the earlier copy came out (R236). -/
def registerWaiters (s : State) (id : Bytes) : List Nat → State
  | [] => s
  | w :: r =>
    registerWaiters (match s.cmd w with
      | some c => registerHeld s c id
      | none => s) id r

/-- A copy into T2 fails: everything it took is freed, and the waiting registrations complete with the
same status (R235, R236). -/
def copyFails (s : State) (c : Cmd) (id : Bytes) (status check : Nat) : State :=
  let ws := (s.t2.filter fun t => t.identity == id).flatMap (·.waiters)
  let s1 := { s with t2 := s.t2.filter fun t => t.identity != id }
  let ks := c.partition :: (s.cmds.filter fun e => ws.contains e.cid).map (·.partition)
  let s2 := if check = 3 then ks.foldl (fun s k => s.setModelCause k 0) s1 else s1
  (c.cid :: ws).foldl (fun s x => finish s x status check 0) s2

/-! ### Reading and fetching an image (R235, R246) -/

/-- Bytes of a fetch piece (R246). -/
def pieceBytes : Nat := 2 ^ 20

/-- Replica r of a MODEL_REGISTER (R289). -/
def replica (c : Cmd) (r : Nat) : Nat := c.f (40 + 2 * r) 2

/-- Bytes of the image being fetched: IMAGE_BYTES of the header in piece 0. -/
def fetchTotal (c : Cmd) : Nat :=
  match c.fetched.find? fun q => q.1 == 0 with
  | none => 0
  | some q => if 16 ≤ q.2.length then rd q.2 8 8 else q.2.length

/-- Length of a piece. -/
def pieceLen (c : Cmd) (piece : Nat) : Nat :=
  if piece = 0 then pieceBytes else min pieceBytes (fetchTotal c - piece * pieceBytes)

/-- A piece is requested again (R246). -/
def countRetry (s : State) (k : Nat) : State :=
  ({ s with cache := { s.cache with fetchRetries := addWrap s.cache.fetchRetries 1 } }).setModelCause k 1

/-- Ask for a piece from the first listed replica from `r` on whose port has a route: the replica asked. A request
to an unreachable device completes at once, and the next replica is asked (R246, R375). `again` says that the
piece was requested before; the first argument bounds the replicas tried. -/
def askPiece : Nat → State → Cmd → Bytes → Nat → Nat → Bool → State × Option Nat
  | 0, s, _, _, _, _, _ => (s, none)
  | n + 1, s, c, id, piece, r, again =>
    let d := replica c r % 1024
    if replica c r = 0xFFFF || (routePort s d).isNone then askPiece n s c id piece (r + 1) again
    else
      let s1 := if again then countRetry s c.partition else s
      let q := issueReq s1 4 d true
        { address := piece * pieceBytes, length := pieceLen c piece, data := id } (.fetchPiece c.cid piece)
      if q.2 then (q.1, some r) else askPiece n q.1 c id piece (r + 1) true

def setT2 (s : State) (id : Bytes) (f : T2Copy → T2Copy) : State :=
  { s with t2 := s.t2.map fun t => if t.identity == id then f t else t }

/-- Ask for a list of pieces from replica `r` on, and note which was asked; `false` when some piece has no
replica left. -/
def askPieces (s : State) (c : Cmd) (id : Bytes) (r : Nat) (again : Bool) : List Nat → State × Bool
  | [] => (s, true)
  | p :: ps =>
    let q := askPiece (4 - r) s c id p r again
    match q.2 with
    | none => (q.1, false)
    | some x => askPieces (setT2 q.1 id fun t =>
        { t with missing := (t.missing.filter fun m => m.1 ≠ p) ++ [(p, x)] }) c id r again ps

/-- Ask for pieces; the fetch fails when some piece has no replica left (R246). -/
def askOrFail (s : State) (c : Cmd) (id : Bytes) (r : Nat) (again : Bool) (ps : List Nat) : State :=
  let q := askPieces s c id r again ps
  if q.2 then q.1 else copyFails q.1 c id stModelFetchFailed 3

/-- The T2 region has room for `n` more bytes (R248). -/
def t2Bytes (s : State) (n : Nat) : Bool :=
  decide (t2Used s + n ≤ s.cache.t2Gib.toNat * 2 ^ 30)

/-- Room of the T2 region for one more image of `n` bytes (R235 check 2, R238, R248). -/
def t2Room (s : State) (n : Nat) : Bool := t2Bytes s n && decide (s.t2.length < 65536)

/-- IMAGE_BYTES of the image at ADDRESS (R224, R235 check 2). -/
def sourceBytes (s : State) (c : Cmd) : Nat := rd (addrRead s (c.f 24 8) 16).1 8 8

/-- Begin a copy into T2 under a known identity that no registration of the partition holds (R235
checks 1 to 3). -/
def beginCopy (s : State) (c : Cmd) (id : Bytes) : State :=
  if 65536 ≤ gapFrom 0 (tabKeys s.models) then finish s c.cid stNoResource 1 0
  else if (t2Find s id).isSome then registerHeld s c id
  else if s.t2.any fun t => t.identity == id then
    setT2 s id fun t => { t with waiters := t.waiters ++ [c.cid] }
  else if c.f 16 1 = 0 then
    if t2Room s (sourceBytes s c) then
      { s with t2 := s.t2 ++ [{ identity := id, image := zeros (sourceBytes s c), copying := some c.cid }] }
    else finish s c.cid stNoResource 2 0
  else if !t2Room s 0 then finish s c.cid stNoResource 2 0
  else
    let s1 := { s with t2 := s.t2 ++ [{ identity := id, image := [], copying := some c.cid }] }
    askOrFail s1 c id 0 false [0]

/-- The identity is known: it may be registered in the partition already (R235). -/
def withIdentity (s : State) (c : Cmd) (id : Bytes) : State :=
  match regIn s c.partition id with
  | some i => finish s c.cid stOk 0x8000 (s.modelHandle i)
  | none => beginCopy s c id

/-- The parameters are in range; an ADDRESS is one of the host or of this device (R235, R289, R358). -/
def registerOk (s : State) (c : Cmd) : Bool :=
  let src := c.f 16 1
  let unused := (upTo 4).all fun r => replica c r == 0xFFFF
  c.only [(16, 2), (24, 24), (48, 32)] && decide (src ≤ 1 ∧ c.f 17 1 ≤ 1) &&
  (if src = 0 then
    unused && addrValid (c.f 24 8) && !addrRemote s (c.f 24 8) && decide (c.f 32 8 ≠ 0) &&
      (c.f 17 1 == 1 || allZero (slice c.packet 48 32))
   else c.f 24 8 == 0 && c.f 32 8 == 0 && !unused &&
    (upTo 4).all fun r => replica c r == 0xFFFF || decide (replica c r < 1024))

/-- Read the image at ADDRESS. -/
def readImage (s : State) (c : Cmd) : Bytes × Bool := addrRead s (c.f 24 8) (c.f 32 8)

/-- The effect of reading it on the state (R358, R441). -/
def readImageEff (s : State) (c : Cmd) : State := addrReadEff s c.fn (c.f 24 8) (c.f 32 8)

def modelRegisterEff (c : Cmd) (s : State) : State :=
  if s.memc.trainFailed then fail s c.cid stNoResource
  else if !registerOk s c then finish s c.cid stInvalidParameter 1 0
  else if c.f 16 1 = 0 && !mayName s c.fn (c.f 24 8) (c.f 32 8) false then fail s c.cid stNotPermitted
  else if c.f 16 1 = 1 || c.f 17 1 = 1 then withIdentity s c (slice c.packet 48 32)
  else
    let r := readImage s c
    let s1 := readImageEff s c
    if r.2 then finish (s1.setModelCause c.partition 0) c.cid stModelFetchFailed 3 0
    else match costsEnd r.1 with
    | none => finish s1 c.cid stModelUnsupported 4 0
    | some e => withIdentity s1 c (sm3 (r.1.take e))

/-- MODEL_REGISTER (R235). -/
def execModelRegister (cid : Nat) (s : State) : Host.Outcome State Fault Refusal := onCmd s cid 0x20 modelRegisterEff

/-- Pieces of an image of `n` bytes. -/
def pieceCount (n : Nat) : Nat := max 1 (cdiv n pieceBytes)

/-- A piece arrives: it is kept, and after the header the other pieces are asked for (R246). -/
def pieceArrives (s : State) (c : Cmd) (id : Bytes) (piece : Nat) (data : Bytes) : State :=
  let s1 := setT2 (s.modCmd c.cid fun e => { e with fetched := e.fetched ++ [(piece, data)] }) id fun t =>
    { t with missing := t.missing.filter fun m => m.1 ≠ piece }
  match s1.cmd c.cid with
  | none => s1
  | some e =>
    if piece ≠ 0 then s1
    else if !t2Bytes s1 (fetchTotal e) then copyFails s1 e id stNoResource 2
    else
      let r := ((s.t2.find? fun t => t.identity == id).bind fun t => (t.missing.find? fun m => m.1 == 0).map (·.2)).getD 0
      let s2 := setT2 s1 id fun t => { t with image := zeros (fetchTotal e) }
      askOrFail s2 e id r false ((upTo (pieceCount (fetchTotal e))).drop 1)

/-- A piece fails at its replica: it and every later piece asked there go to the next one (R246). -/
def pieceFails (s : State) (c : Cmd) (id : Bytes) (piece : Nat) : State :=
  let ms := ((s.t2.find? fun t => t.identity == id).map (·.missing)).getD []
  let r := ((ms.find? fun m => m.1 == piece).map (·.2)).getD 0
  let again := (ms.filter fun m => decide (piece ≤ m.1 ∧ m.2 = r)).map (·.1)
  let mine (q : FabReq) : Bool := match q.purpose with
    | .fetchPiece x p => x == c.cid && again.contains p
    | _ => false
  let s1 := { s with vertex := { s.vertex with reqs := s.vertex.reqs.filter fun q => !mine q } }
  askOrFail s1 c id (r + 1) true again

/-- The image that a copy has read or assembled, and whether the read failed. -/
def copiedImage (s : State) (c : Cmd) : Bytes × Bool :=
  if c.f 16 1 = 0 then readImage s c
  else ((upTo (pieceCount (fetchTotal c))).flatMap fun p =>
    ((c.fetched.find? fun q => q.1 == p).map (·.2)).getD [], false)

/-- The copy into T2 ends: checks 3 to 6, then the registrations that it serves (R235, R236). A second read of
memory that the function may no longer name is refused (R357, R358). -/
def imageCopyEff (s0 : State) (c : Cmd) (t : T2Copy) : State :=
  let r := copiedImage s0 c
  let s := if c.f 16 1 = 0 then readImageEff s0 c else s0
  if c.f 16 1 = 0 && !mayName s0 c.fn (c.f 24 8) (c.f 32 8) false then copyFails s0 c t.identity stNotPermitted 0
  else if r.2 then copyFails s c t.identity stModelFetchFailed 3
  else match costsEnd r.1 with
  | none => copyFails s c t.identity stModelUnsupported 4
  | some e =>
    if sm3 (r.1.take e) ≠ t.identity then copyFails s c t.identity stIntegrityFailed 4
    else if !imageSigned s t.identity r.1 then copyFails s c t.identity stSecurityDenied 5
    else if (checkedImage r.1).isNone then copyFails s c t.identity stModelUnsupported 6
    else
      let s1 := setT2 s t.identity fun x => { x with image := r.1.take (rd r.1 8 8), copying := none, waiters := [] }
      let s2 := registerWaiters (registerHeld s1 c t.identity) t.identity t.waiters
      if s2.models.any fun kv => kv.2.identity == t.identity then s2
      else { s2 with t2 := s2.t2.filter fun x => x.identity != t.identity }

/-- IMAGE_COPY_DONE (R235): the last byte of the image has reached T2. -/
def execImageCopyDone (cid : Nat) (s : State) : Host.Outcome State Fault Refusal :=
  match s.cmd cid, s.t2.find? fun t => t.copying == some cid with
  | some c, some t => doneIf (s.live && t.missing.isEmpty) s (imageCopyEff s c t)
  | _, _ => done s

/-! ### MODEL_PREFETCH, MODEL_PIN, MODEL_UNPIN (R241, R244) -/

/-- A model command goes on when its handle passes R234. -/
def withModel (s : State) (c : Cmd) (k : Nat → State) : State :=
  match checkModel s c.fn c.partition c.object with
  | some st => fail s c.cid st
  | none => k (modelIndex c.object)

/-- A copy into T1 is present, awaited or begun for a command. -/
def ensureT1 (s : State) (cid : Nat) (id : Bytes) : State :=
  if s.t1.any fun c => c.identity == id && !c.copying then fail s cid stOk
  else match beginT1 s id [cid] with
  | some s1 => s1
  | none => fail s cid stNoResource

def modelPrefetchEff (c : Cmd) (s : State) : State :=
  withModel s c fun i =>
    if !c.only [] then fail s c.cid stInvalidParameter else ensureT1 s c.cid (s.model i).identity

/-- MODEL_PREFETCH (R244). -/
def execModelPrefetch (cid : Nat) (s : State) : Host.Outcome State Fault Refusal := onCmd s cid 0x21 modelPrefetchEff

/-- A pin to T0 (R241). -/
def pinT0Now (s : State) (c : Cmd) (i : Nat) : State :=
  let k := c.partition
  let id := (s.model i).identity
  let m := imageOfId s id
  let pinned (s : State) : State := s.modModel i fun r => { r with pinT0 := true }
  if m.adapter && !basePinned s k m then fail s c.cid stInvalidParameter
  else if t0Placed (s.part k) id then fail (pinned s) c.cid stOk
  else if (t0Find (s.part k) id).isSome then
    (pinned s).modPart k fun p =>
      { p with t0 := p.t0.map fun x => if x.identity == id then { x with waiters := x.waiters ++ [c.cid] } else x }
  else match beginPlace s k id [c.cid] with
  | some s1 => pinned s1
  | none => fail s c.cid stNoResource

/-- Bytes of T1 that are pinned once an identity is pinned there too (R241, R248). -/
def t1PinnedWith (s : State) (id : Bytes) : Nat :=
  let more := if t1Pinned s id then 0 else (t2Find s id).elim 0 fun t => t.image.length
  sumN (((s.models.filter fun kv => kv.2.pinT1).map (·.2.identity)).eraseDups.map fun x =>
    (t2Find s x).elim 0 fun t => t.image.length) + more

/-- A pin to T1 (R241). -/
def pinT1Now (s : State) (c : Cmd) (i : Nat) : State :=
  let id := (s.model i).identity
  if Config.t1PinLimit < t1PinnedWith s id then fail s c.cid stNoResource
  else
    let s1 := ensureT1 (s.modModel i fun r => { r with pinT1 := true }) c.cid id
    if (t1Find s1 id).isSome then s1 else s1.modModel i fun r => { r with pinT1 := (s.model i).pinT1 }

def modelPinEff (c : Cmd) (s : State) : State :=
  withModel s c fun i =>
    if !c.only [(16, 1)] || 1 < c.f 16 1 then fail s c.cid stInvalidParameter
    else if c.f 16 1 = 0 then pinT0Now s c i else pinT1Now s c i

/-- MODEL_PIN (R241). -/
def execModelPin (cid : Nat) (s : State) : Host.Outcome State Fault Refusal := onCmd s cid 0x22 modelPinEff

def modelUnpinEff (c : Cmd) (s : State) : State :=
  withModel s c fun i =>
    if !c.only [(16, 1)] || 1 < c.f 16 1 then fail s c.cid stInvalidParameter
    else
      let s1 := if c.f 16 1 = 0 then s.modModel i fun r => { r with pinT0 := false }
        else s.modModel i fun r => { r with pinT1 := false }
      fail s1 c.cid stOk

/-- MODEL_UNPIN (R241). -/
def execModelUnpin (cid : Nat) (s : State) : Host.Outcome State Fault Refusal := onCmd s cid 0x23 modelUnpinEff

/-! ### MODEL_EVICT (R243) -/

/-- An eviction from T0. -/
def evictT0 (s : State) (c : Cmd) (i : Nat) : State :=
  let k := c.partition
  let id := (s.model i).identity
  match t0Find (s.part k) id with
  | none => fail s c.cid stOk
  | some x =>
    if t0Pinned s k id then finish s c.cid stBusy 1 0
    else if !t0InUse s k id && !x.dead then fail (evictNowT0 s k id) c.cid stOk
    else if !c.force then fail s c.cid stBusy
    else s.modPart k fun p =>
      { p with t0 := p.t0.map fun x => if x.identity == id then { x with forced := x.forced ++ [c.cid] } else x }

/-- An eviction from T1: only a pinned copy is kept. A copy on its way is discarded too, and the commands that wait
for it complete; a placement that reads it goes on from T2 (R243, log 31). -/
def evictT1 (s : State) (c : Cmd) (i : Nat) : State :=
  let id := (s.model i).identity
  match t1Find s id with
  | none => fail s c.cid stOk
  | some _ =>
    if t1Pinned s id then finish s c.cid stBusy 1 0
    else fail (evictNowT1 s id) c.cid stOk

def modelEvictEff (c : Cmd) (s : State) : State :=
  withModel s c fun i =>
    let tier := c.f 16 1
    if !c.only [(16, 1)] || (1 < tier && tier != 0xFF) then fail s c.cid stInvalidParameter
    else if tier = 0 then evictT0 s c i
    else if tier = 1 then evictT1 s c i
    else if modelUsers s i ≠ 0 || namedAsBase s c.partition (s.model i).identity then finish s c.cid stBusy 2 0
    else fail (unregister s i) c.cid stOk

/-- MODEL_EVICT (R243). -/
def execModelEvict (cid : Nat) (s : State) : Host.Outcome State Fault Refusal := onCmd s cid 0x24 modelEvictEff

/-! ### MODEL_QUERY (R291) -/

/-- The 64-byte record of MODEL_QUERY. -/
def modelRecord (s : State) (k i : Nat) : Bytes :=
  let r := s.model i
  let id := r.identity
  let m := imageOfId s id
  let flags := b2n r.pinT0 + 2 * b2n r.pinT1 + 4 * b2n (t0Placed (s.part k) id) +
    8 * b2n (s.t1.any fun c => c.identity == id && !c.copying) + 16 * b2n m.adapter + 32 * b2n (streamedMode s k id) +
    64 * b2n (t0InUse s k id)
  let base := if m.adapter then ((regIn s k m.baseId).map s.modelHandle).getD 0 else 0
  id ++ toLE 8 ((t2Find s id).elim 0 fun t => rd t.image 8 8) ++ toLE 8 m.weightBytes ++ toLE 4 flags ++ toLE 4 base ++
    toLE 4 (modelUsers s i) ++ zeros 4

def modelQueryEff (c : Cmd) (s : State) : State :=
  withModel s c fun i =>
    if !c.only [(16, 12)] then fail s c.cid stInvalidParameter
    else writeSized s c (c.f 16 8) (c.f 24 4) (modelRecord s c.partition i) 0

/-- MODEL_QUERY (R291). -/
def execModelQuery (cid : Nat) (s : State) : Host.Outcome State Fault Refusal := onCmd s cid 0x25 modelQueryEff

end Sys2Proof.Machine
end

