-- ==== Sys2Proof/Machine/PortCmds.lean ====
section
/-! DEFINITION. Port commands (R301 to R306): configuration and commits (R320 to R329, R339 to R341),
sink bindings, arm, stop and alignment groups. -/

namespace Sys2Proof.Machine

/-! ### Commits (R339, R340) -/

/-- The queue of a transmit slot is emptied into TX_FLUSHED. -/
def Slot.flush (q : Slot) : Slot := { q with txq := [], txFlushed := addSat q.txFlushed q.txq.length }

/-- A slot whose binding changes: queue, last sample, started and DEBT restart (R340). -/
def Slot.rebind (q : Slot) (zero : Int) (bound : Bool) (i id : Nat) (gen : BitVec 16) : Slot :=
  { q.flush with
    bound := bound, stream := i, sinkId := BitVec.ofNat 32 id, regGen := gen, started := false, debt := 0
    last := zero, release := false, staged := none }

/-- A staged binding of a slot takes effect (R340). -/
def commitSlot (s : State) (p k : Nat) (q : Slot) : Slot :=
  let zero := zeroCode (s.port p).sample.toNat
  match q.staged with
  | none => q
  | some none => q.rebind zero false 0 0 0
  | some (some (i, id)) =>
    if (s.stream i).isOpen && (s.stream i).sink == some (.port p k id) then
      if q.bound && !q.release && q.stream == i && q.sinkId.toNat == id then { q with staged := none }
      else q.rebind zero true i id (s.stream i).placementGen
    else { q with staged := none }

/-- A slot that the new mask disables is emptied; its binding is kept (R340). -/
def disableSlot (mask : Word32) (k : Nat) (q : Slot) : Slot := if mask.getLsbD k then q else q.flush

/-- FORMAT, CLOCK, RATE, SLOTS and SLOT_WIDTH, whose change restarts the frame counter (R329). -/
def frameFields (q : Port) : Nat × Nat × Nat × Nat × Nat :=
  (q.format.toNat, q.clock.toNat, q.rate.toNat, q.slots.toNat, q.width.toNat)

/-- SLOT_WIDTH code of a width in bits (R347). -/
def widthCode (n : Nat) : Nat := if n = 16 then 0 else if n = 24 then 1 else 2

/-- The `n`-byte field of the parameters of a PORT_CONFIG; they begin at offset 16 of the packet. -/
def par (b : Bytes) (off n : Nat) : Nat := rd b (off - 16) n

/-- The configuration that PORT_CONFIG gives (R302). -/
def withConfig (q : Port) (b : Bytes) : Port :=
  let f := par b 23 1
  { q with
    format := BitVec.ofNat 2 (par b 16 1), clock := BitVec.ofNat 2 (par b 17 1), rate := BitVec.ofNat 4 (par b 18 1)
    slots := BitVec.ofNat 6 (par b 19 1), width := BitVec.ofNat 2 (widthCode (par b 20 1))
    sample := BitVec.ofNat 3 (par b 21 1), fsync := BitVec.ofNat 2 (par b 22 1), mclkOut := bitAt f 1
    sharedClock := bitAt f 2, preroll := BitVec.ofNat 16 (par b 24 2), postroll := BitVec.ofNat 16 (par b 26 2)
    startOffset := BitVec.ofNat 16 (par b 28 2), configured := true }

def commitOnly (b : Bytes) : Bool := bitAt (par b 23 1) 0

/-- The parameters change the frame, which restarts the frame counter (R329). -/
def restarts (q : Port) (b : Bytes) : Bool :=
  !commitOnly b && !(q.configured && frameFields (withConfig q b) == frameFields q)

/-- The fields besides masks, bindings and OWNER take their new values; a changed frame restarts the
frame counter, and a slave verifies its clocks anew, in HOLD where it is armed (R329, R330, R344, log 32). -/
def applyConfig (q : Port) (b : Bytes) : Port :=
  if commitOnly b then q
  else
    let n := withConfig q b
    if restarts q b then
      let h := n.armed && n.clock == 2 && n.state != 5
      { n with
        nextFrame := 0, lastCommit := none, clockOk := false, everOk := false, lengths := [], periodPs := 0
        heldState := if h then n.state else n.heldState, state := if h then 5 else n.state }
    else n

/-- Ports that take their clocks from `p`, itself included (R321). -/
def sharing (s : State) (p : Nat) : List Nat := ((upTo 4).map (p / 4 * 4 + ·)).filter fun q => leaderOf s q == p

/-- Ticks of every port that shares the clocks of `p` stop (R29). -/
def ticksStop (s : State) (p : Nat) : State := (sharing s p).foldl stopTicks s

/-- The lattice of a partition takes its ticks from one of the ports. -/
def ticksFrom (q : Partition) (ps : List Nat) : Bool := q.active.any fun l => l.frameSync && ps.contains l.port

/-- The frame counter of a port restarts: its ticks stop, and frame 0 is a tick again (R29, R329). -/
def restartTicks (s : State) (p : Nat) : State :=
  (upTo 128).foldl (fun t k => if ticksFrom (s.part k) (sharing s p) then t.modPart k fun q => { q with lastTick := none } else t)
    (ticksStop s p)

/-- The commit of a PORT_CONFIG at the frame that begins next (R339, R340). -/
def commitNow (s : State) (p : Nat) (m : Commit) : State :=
  let s1 := s.modPort p fun q =>
    { applyConfig q m.params with
      txMask := BitVec.ofNat 32 (par m.params 32 4), rxMask := BitVec.ofNat 32 (par m.params 36 4)
      owner := BitVec.ofNat 16 (par m.params 30 2)
      cause := setBit q.cause 10, commits := q.commits.filter fun e => e.cid != m.cid }
  let s1 := if restarts (s.port p) m.params then restartTicks s1 p else s1
  let frame := if clocksOn s p then nextOf s p else framesOf s1 p - 1
  let s2 := s1.modPort p fun q =>
    { q with
      lastCommit := some (nextOf s1 p), commitFrame := BitVec.ofNat 64 frame
      slotTab := tabMapV {} q.slotTab fun k c => disableSlot q.txMask k (commitSlot s1 p k c) }
  fail s2 m.cid stOk

/-- Commits that no frame boundary will reach apply at once, in order of acceptance (R339). -/
def flushCommits (s : State) (p : Nat) : List Commit → State
  | [] => s
  | m :: r => flushCommits (commitNow s p m) p r

/-! ### PORT_CONFIG (R302) -/

/-- AMCLK frequency that a rate needs (R322). -/
def mclkHz (rate : Nat) : Nat := if rate = 2 ∨ rate = 5 then 22579200 else 24576000

/-- D of R322 is an integer from 1 to 64. -/
def dividerOk (slots width rate : Nat) : Bool :=
  let b := slots * width * rateHz rate
  decide (0 < b) && mclkHz rate % b == 0 && decide (mclkHz rate / b ≤ 64)

/-- Other configured ports of the clock group (R320). -/
def groupPorts (s : State) (p : Nat) : List Nat :=
  ((upTo 4).map (p / 4 * 4 + ·)).filter fun q => q != p && (s.port q).configured

/-- The configurations of the other ports of the clock group that are in force, or come in force with a commit that
waits (R322, R339). -/
def groupConfigs (s : State) (p : Nat) : List Port :=
  (((upTo 4).map (p / 4 * 4 + ·)).filter (· != p)).flatMap fun q =>
    let c := s.port q
    (if c.configured then [c] else []) ++
      (c.commits.filter fun m => !commitOnly m.params).map fun m => withConfig c m.params

/-- A follower's clocks and frame equal its leader's (R321). -/
def followerOk (s : State) (p : Nat) (n : Port) : Bool :=
  !n.sharedClock ||
  match (groupPorts s p).find? fun q => (s.port q).sharedClock with
  | none => true
  | some l => decide (p < l) || (frameFields (s.port l) == frameFields n && (s.port l).fsync == n.fsync)

/-- Fields in their ranges, and what R302, R322 and R325 refuse with INVALID_PARAMETER. -/
def configOk (s : State) (p : Nat) (b : Bytes) : Bool :=
  let g (off : Nat) := par b off 1
  let slots := g 19
  let n := withConfig (s.port p) b
  decide (g 16 ≤ 2 ∧ g 17 ≤ 2 ∧ g 18 ≤ 8 ∧ 1 ≤ slots ∧ slots ≤ 32 ∧ g 21 ≤ 5 ∧ g 22 ≤ 3 ∧ g 23 ≤ 7) &&
  [16, 24, 32].contains (g 20) && (g 16 == 2 || (slots == 2 && g 22 == 0)) &&
  decide (sampleBits (g 21) ≤ g 20 ∧ slots * g 20 * rateHz (g 18) ≤ 49152000) && (g 18 != 8 || decide (slots ≤ 8)) &&
  decide (par b 32 4 < 2 ^ slots ∧ par b 36 4 < 2 ^ slots) &&
  (g 17 != 1 || dividerOk slots (g 20) (g 18)) && !(n.mclkOut && g 17 == 1) &&
  (groupConfigs s p).all (fun q => !(n.mclkOut && (q.mclkOut || q.clock == 1)) && !(g 17 == 1 && q.mclkOut)) &&
  followerOk s p n

/-- COMMIT_ONLY: every field but the masks and OWNER is zero (R302). -/
def commitOnlyOk (s : State) (p : Nat) (b : Bytes) : Bool :=
  par b 23 1 == 1 && allZero (b.take 7) && allZero (slice b 8 6) &&
  decide (par b 32 4 < 2 ^ (s.port p).slots.toNat ∧ par b 36 4 < 2 ^ (s.port p).slots.toNat)

def ownerOk (s : State) (k : Nat) : Bool := k == 0xFFFF || (decide (k < 128) && (s.part k).valid)

/-- A field besides masks, bindings and OWNER would change (R302). -/
def changesFields (q : Port) (b : Bytes) : Bool := !commitOnly b && withConfig q b != q

/-- The port is the tick source of a lattice that holds LC entries (R193). -/
def lcSource (s : State) (p : Nat) : Bool :=
  s.parts.any fun kv => kv.2.active.any fun l => l.frameSync && l.port == p && l.entries.any (·.lc)

/-- Streams bound to the port's transmit slots or that own one of its receive slots (R341). -/
def portStreams (s : State) (p : Nat) : List Nat :=
  ((s.streams.filter fun kv => match kv.2.sink with | some (.port q _ _) => q == p | _ => false).map (·.1)) ++
  (s.port p).slotTab.filterMap fun kv => kv.2.rxReader

/-- A change of RATE removes every binding of the port (R341). -/
def unbindPort (s : State) (p : Nat) : State :=
  let s1 := { s with streams := tabMapV {} s.streams (fun _ t => match t.sink with
    | some (.port q _ _) => if q = p then { t with sink := none } else t
    | _ => t) }
  s1.modPort p fun q => { q with slotTab := tabMapV {} q.slotTab (fun _ c => { c with staged := some none }) }

/-- The commit waits for its action frame, or applies at once without clocks (R339). -/
def takeCommit (s : State) (p : Nat) (m : Commit) : State :=
  let s1 := s.modPort p fun q =>
    { q with
      txShadow := BitVec.ofNat 32 (par m.params 32 4), rxShadow := BitVec.ofNat 32 (par m.params 36 4)
      commits := q.commits ++ [m] }
  if clocksOn s1 p then s1 else flushCommits s1 p (s1.port p).commits

def portConfigEff (c : Cmd) (s : State) : State :=
  let p := c.object
  let b := slice c.packet 16 24
  let q := s.port p
  let rate := !commitOnly b && q.configured && par b 18 1 != q.rate.toNat
  if 16 ≤ p || !c.only [(16, 24)] || !ownerOk s (par b 30 2) then fail s c.cid stInvalidParameter
  else if !(if commitOnly b then commitOnlyOk s p b else configOk s p b) then fail s c.cid stInvalidParameter
  else if c.fn ≠ 0 && par b 30 2 ≠ q.owner.toNat then fail s c.cid stNotPermitted
  else if q.armed && changesFields q b then fail s c.cid stBusy
  else if rate && (lcSource s p || (portStreams s p).any (hasRun s)) then fail s c.cid stBusy
  else takeCommit (if rate then unbindPort s p else s) p { cid := c.cid, since := s.now, params := b }

/-- PORT_CONFIG (R302). -/
def execPortConfig (cid : Nat) (s : State) : Host.Outcome State Fault Refusal := onCmd s cid 0x40 portConfigEff

/-! ### PORT_BIND (R303) -/

/-- The removal of a stream's port-slot binding is staged (R303). -/
def stageRemoval (s : State) (p k i : Nat) : State :=
  s.modSlot p k fun q =>
    if q.bound && q.stream == i then { q with staged := some none }
    else match q.staged with
      | some (some x) => if x.1 = i then { q with staged := none } else q
      | _ => q

/-- Two host buffers share one registration, or may do so: both on this device, or both on one other device, under
one sink identifier (R169, R372). -/
def sameRegistration (s : State) (a id a' id' : Nat) : Bool :=
  id == id' && (if hostRemote s a then addrDevice a == addrDevice a' else !hostRemote s a')

/-- The present sink of a stream ends; its registration too, unless its successor uses the same (R169, R303). -/
def leaveSink (s : State) (i : Nat) (next : Option Sink) : State :=
  match (s.stream i).sink, next with
  | some (.port p k _), _ => stageRemoval s p k i
  | some (.host a _ id), some (.host a' _ id') => if sameRegistration s a id a' id' then s else releaseSink s i
  | some (.host _ _ _), _ => releaseSink s i
  | none, _ => s

/-- A port sink accepts the voice (R326). -/
def portVoiceOk (s : State) (p : Nat) (v : Voice) : Bool :=
  let e := v.outEdge
  (e.format == 2 || e.format == 3) && e.elements == 1 && e.rowsF == 1 && v.outImg.outputRate == rateHz (s.port p).rate.toNat

/-- The slot is bound or staged for another stream (R303); a binding that only awaits its removal at a
frame boundary is no stream's any more (R346, log 32). -/
def slotTaken (q : Slot) (i : Nat) : Bool :=
  (q.bound && !q.release && q.stream != i) ||
  (match q.staged with | some (some x) => x.1 != i | _ => false)

def bindPort (s : State) (c : Cmd) (i : Nat) : State :=
  let p := c.f 17 1
  let k := c.f 18 1
  let id := c.f 20 4
  if 16 ≤ p then fail s c.cid stInvalidParameter
  else if (s.port p).owner.toNat ≠ c.partition then fail s c.cid stNotPermitted
  else if !(s.port p).configured || (s.port p).slots.toNat ≤ k || !portVoiceOk s p (voiceOf s (s.stream i).voice) then
    fail s c.cid stInvalidParameter
  else if slotTaken ((s.port p).slot k) i then fail s c.cid stBusy
  else
    let s1 := leaveSink s i (some (.port p k id))
    let s2 := s1.modSlot p k fun q => { q with staged := some (some (i, id)) }
    fail (s2.modStream i fun t => { t with sink := some (.port p k id), sinkRegistered := false }) c.cid stOk

/-- The host buffer that a PORT_BIND names (R303). -/
def hostSink (c : Cmd) : Sink := .host (c.f 24 8 % 2 ^ 52) (c.f 19 1) (c.f 20 4)

/-- A host-buffer binding, once its registration is made: the sink that it replaces ends (R169, R303). -/
def hostBound (s : State) (c : Cmd) (i : Nat) : State :=
  let s0 := match c.oldSink with
    | some o => s.modStream i fun t => { t with sink := o.1, sinkRegistered := o.2 }
    | none => s
  let s1 := leaveSink s0 i (some (hostSink c))
  fail (s1.modStream i fun t => { t with sink := some (hostSink c), sinkRegistered := true }) c.cid stOk

/-- A binding to a host buffer on another device takes effect at once; its registration is on its way, and the first
write waits for the answer (R169, R303). -/
def bindAhead (s : State) (c : Cmd) (i : Nat) : State :=
  let t := s.stream i
  (s.modCmd c.cid fun e => { e with oldSink := some (t.sink, t.sinkRegistered) }).modStream i fun t =>
    { t with sink := some (hostSink c), sinkRegistered := false }

/-- A registration that is refused or not acknowledged leaves the sink that was bound before (R303). -/
def bindUndone (s : State) (c : Cmd) (i st : Nat) : State :=
  let s1 := match c.oldSink with
    | some o => s.modStream i fun t => { t with sink := o.1, sinkRegistered := o.2 }
    | none => s
  fail s1 c.cid st

def bindHost (s : State) (c : Cmd) (i : Nat) : State :=
  let v := c.f 24 8
  let n := c.f 19 1
  let id := c.f 20 4
  let gen := (s.stream i).placementGen
  if n < 12 || 30 < n || addrSpace v ≠ 2 || !addrValid v || v % 4096 ≠ 0 then fail s c.cid stInvalidParameter
  else if !mayName s c.fn v (2 ^ n) false then fail s c.cid stNotPermitted
  else if addrRemote s v then
    match sendRegister s (v % 2 ^ 52) id gen.toNat (.registerSink c.cid i) with
    | some s1 => bindAhead s1 c i
    | none => fail s c.cid stFabricUnreachable
  else
    let r := regPut s (hostKey s c.partition id) gen
    if r.2 then hostBound r.1 c i else fail r.1 c.cid stNoResource

def portBindEff (c : Cmd) (s : State) : State :=
  withStream s c false false fun i =>
    if !c.only [(16, 16)] || 2 < c.f 16 1 then fail s c.cid stInvalidParameter
    else if !(runsNaming s i c.cid).isEmpty then fail s c.cid stBusy
    else if c.f 16 1 = 1 then bindPort s c i
    else if c.f 16 1 = 2 then bindHost s c i
    else fail ((leaveSink s i none).modStream i fun t => { t with sink := none }) c.cid stOk

/-- PORT_BIND (R303). -/
def execPortBind (cid : Nat) (s : State) : Host.Outcome State Fault Refusal := onCmd s cid 0x41 portBindEff

/-! ### PORT_ARM and PORT_STOP (R304, R305) -/

/-- A slave that is armed while its clocks are not framed waits in HOLD (R330). -/
def portArmEff (c : Cmd) (s : State) : State :=
  let p := c.object
  let f := c.f 16 1
  if 16 ≤ p || !c.only [(16, 1)] || 3 < f then fail s c.cid stInvalidParameter
  else if !(s.port p).configured then fail s c.cid stNotFound
  else if (s.port p).armed || s.test.loops.contains (3, p) then fail s c.cid stBusy
  else
    let hold := (s.port p).clock == 2 && !clocksOn s p
    s.modPort p fun q =>
      { q with
        armed := true, arm := some (c.cid, s.now), armFrame := none, immediate := bitAt f 0, startMaster := bitAt f 1
        dataKnown := false, heldState := 0, state := if hold then 5 else 0 }

/-- PORT_ARM (R304). -/
def execPortArm (cid : Nat) (s : State) : Host.Outcome State Fault Refusal := onCmd s cid 0x42 portArmEff

def portStopEff (c : Cmd) (s : State) : State :=
  let p := c.object
  if 16 ≤ p || !c.only [] then fail s c.cid stInvalidParameter
  else if !(s.port p).armed || (s.port p).stop.isSome then fail s c.cid stBusy
  else s.modPort p fun q => { q with stop := some (some c.cid, s.now) }

/-- PORT_STOP (R305). -/
def execPortStop (cid : Nat) (s : State) : Host.Outcome State Fault Refusal := onCmd s cid 0x43 portStopEff

/-! ### ALIGN_GROUP_SET (R306) -/

/-- Group of a slot, as it will be once the changes that wait for a frame boundary have applied. -/
def groupOf (q : Port) (k : Nat) : Option Nat :=
  match q.regroup.find? fun x => x.1 == k with
  | some x => x.2
  | none => (q.slot k).group

/-- Slots of a port in a group. -/
def inGroup (q : Port) (g : Nat) : List Nat := (upTo 32).filter fun k => (groupOf q k).any fun x => x % 16 == g

/-- The change of one port: its slots join, and those that the mask no longer names leave. -/
def regroupPort (s : State) (g realign mask p : Nat) : State :=
  let q := s.port p
  let out := (inGroup q g).filter fun k => !mask.testBit k
  let join := maskBits 32 mask
  let keep := q.regroup.filter fun x => !out.contains x.1 && !join.contains x.1
  s.modPort p fun q =>
    { q with regroup := keep ++ out.map (fun k => (k, none)) ++ join.map fun k => (k, some (g + 16 * realign)) }

def alignGroupEff (c : Cmd) (s : State) : State :=
  let g := c.f 16 1
  let mask (p : Nat) := c.f (32 + 4 * p) 4
  let ps := (upTo 16).filter fun p => decide (mask p ≠ 0) || !(inGroup (s.port p) g).isEmpty
  if c.fn ≠ 0 && !(ps.all fun p => ownsPort s c.fn p) then fail s c.cid stNotPermitted
  else if !c.only [(16, 2), (32, 64)] || 15 < g || 1 < c.f 17 1 then fail s c.cid stInvalidParameter
  else if !(ps.all fun p => decide (mask p < 2 ^ (s.port p).slots.toNat) &&
      (maskBits 32 (mask p)).all fun k => (groupOf (s.port p) k).all fun x => x % 16 == g) then
    fail s c.cid stInvalidParameter
  else fail (ps.foldl (fun s p => regroupPort s g (c.f 17 1) (mask p) p) s) c.cid stOk

/-- ALIGN_GROUP_SET (R306). -/
def execAlignGroupSet (cid : Nat) (s : State) : Host.Outcome State Fault Refusal := onCmd s cid 0x44 alignGroupEff

end Sys2Proof.Machine
end

