-- ==== Sys2Proof/Machine/PortFrames.lean ====
section
/-! DEFINITION. Events of the audio ports (R323 to R346, R481): transitions at frame boundaries, what
every slot sends and records in a frame, START edges, loss and return of clock, and sink writes. -/

namespace Sys2Proof.Machine

/-! ### Transitions (R330 to R334, R339) -/

/-- A command accepted in cycle `t` acts at a frame boundary of this cycle: at least 1 µs has passed
(R331). -/
def actsNow (s : State) (t : Nat) : Bool := decide (t + 1000 ≤ s.now)

/-- The port can generate or detect a frame: a master does when it starts, a slave or follower when
clocks arrive (R321, R331). -/
def canFrame (s : State) (p : Nat) : Bool :=
  if leaderOf s p = p && (s.port p).clock ≠ 2 then true else clocksOn s p

/-- An arm reaches its action frame (R331). -/
def armDue (s : State) (p : Nat) : Bool :=
  match (s.port p).arm with
  | some (_, t) => (s.port p).armFrame.isNone && actsNow s t && canFrame s p
  | none => false

def armActs (s : State) (p : Nat) : State :=
  s.modPort p fun q => { q with state := 1, armFrame := some (nextOf s p) }

/-- Pre-roll ends at the frame that begins next (R331). -/
def prerollDue (s : State) (p : Nat) : Bool :=
  let q := s.port p
  q.state == 1 && q.armFrame.any fun a => decide (a + q.preroll.toNat ≤ nextOf s p)

def prerollEnds (s : State) (p : Nat) : State :=
  let n := nextOf s p
  let s1 := s.modPort p fun q =>
    if q.immediate then { q with state := 3, dataFrame := BitVec.ofNat 64 n, dataKnown := true, arm := none }
    else { q with state := 2, arm := none }
  match (s.port p).arm with
  | some (cid, _) => finish s1 cid stOk 0 n
  | none => s1

/-- The first data frame begins: WAIT_START ends (R332). -/
def dataDue (s : State) (p : Nat) : Bool :=
  let q := s.port p
  q.state == 2 && q.dataKnown && decide (q.dataFrame.toNat ≤ nextOf s p)

/-- The first commit that waits acts at the frame that begins next (R339). -/
def commitDue (s : State) (p : Nat) : Option Commit :=
  match (s.port p).commits with
  | m :: _ => if actsNow s m.since && (s.port p).lastCommit != some (nextOf s p) then some m else none
  | [] => none

/-- Commits that await a frame apply now that no clock runs (R339). -/
def settleCommits (s : State) (p : Nat) : State :=
  (sharing s p).foldl (fun s q => if clocksOn s q then s else flushCommits s q (s.port q).commits) s

/-- A commit acts. One that leaves a slave's clocks to be verified anew lets those that wait behind it apply at once
(R339, R344). -/
def commitActs (s : State) (p : Nat) : State :=
  match commitDue s p with
  | some m => settleCommits (commitNow s p m) p
  | none => s

/-- A stop acts at the frame that begins next: it waits for the arm's first frame and for the end of
pre-roll (R334, R346). -/
def stopDue (s : State) (p : Nat) : Bool :=
  let q := s.port p
  match q.stop with
  | some (_, t) => q.stopFrame.isNone && decide (q.state = 2 ∨ q.state = 3) && actsNow s t
  | none => false

/-- Queued samples are discarded by a stop (R334). -/
def Slot.discard (q : Slot) : Slot := { q.flush with rxq := [], owed := 0 }

def stopActs (s : State) (p : Nat) : State :=
  s.modPort p fun q =>
    { q with state := 4, stopFrame := some (nextOf s p), slotTab := tabMapV {} q.slotTab fun _ c => c.discard }

def postrollDue (s : State) (p : Nat) : Bool :=
  let q := s.port p
  q.state == 4 && q.stopFrame.any fun a => decide (a + q.postroll.toNat ≤ nextOf s p)

/-- A port whose clocks do not run measures no frames (R345, R347). -/
def stopMeasure (s : State) (p : Nat) : State :=
  ((p :: sharing s p).filter fun q => !clocksOn s q).foldl (fun s q => s.modPort q fun q => { q with lengths := [], periodPs := 0 }) s

/-- Post-roll has been sent: the port is idle, a master's clocks stop, and PORT_STOP completes (R334,
R301). -/
def postrollEnds (s : State) (p : Nat) : State :=
  let q := s.port p
  let last := (q.stopFrame.getD 0 + q.postroll.toNat + 2 ^ 64 - 1) % 2 ^ 64
  let s1 := s.modPort p fun q =>
    { q with
      state := 0, armed := false, arm := none, armFrame := none, stop := none, stopFrame := none, immediate := false
      startMaster := false, startOut := false, sdo := [], orphan := false
      owner := if q.orphan then 0xFFFF else q.owner }
  let s2 := if clocksOn s1 p then s1 else settleCommits (ticksStop (stopMeasure s1 p) p) p
  match q.stop with
  | some (some cid, _) => finish s2 cid stOk 0 last
  | _ => s2

/-- What a frame boundary brings before its frame: the arm acts, pre-roll ends, data begins, then a
commit, then a stop, then the end of post-roll (R346). -/
def frameActs (s : State) (p : Nat) : State :=
  let s1 := if armDue s p then armActs s p else s
  let s2 := if prerollDue s1 p then prerollEnds s1 p else s1
  let s3 := if dataDue s2 p then s2.modPort p fun q => { q with state := 3 } else s2
  let s4 := commitActs s3 p
  let s5 := if stopDue s4 p then stopActs s4 p else s4
  if postrollDue s5 p then postrollEnds s5 p else s5

/-- PORT_ARM_ACTION (R331). -/
def execPortArmAction (port : Nat) (s : State) : Host.Outcome State Fault Refusal :=
  if Instr.wf (.portArmAction port) then doneIf (s.live && armDue s port) s (armActs s port)
  else done s

/-- PREROLL_END (R331). -/
def execPrerollEnd (port : Nat) (s : State) : Host.Outcome State Fault Refusal :=
  if Instr.wf (.prerollEnd port) then doneIf (s.live && prerollDue s port) s (prerollEnds s port)
  else done s

/-- PORT_COMMIT (R339). -/
def execPortCommit (port : Nat) (s : State) : Host.Outcome State Fault Refusal :=
  if Instr.wf (.portCommit port) then doneIf s.live s (commitActs s port) else done s

/-- PORT_STOP_ACTION (R334). -/
def execPortStopAction (port : Nat) (s : State) : Host.Outcome State Fault Refusal :=
  if Instr.wf (.portStopAction port) then doneIf (s.live && stopDue s port) s (stopActs s port)
  else done s

/-- POSTROLL_END (R334). -/
def execPostrollEnd (port : Nat) (s : State) : Host.Outcome State Fault Refusal :=
  if Instr.wf (.postrollEnd port) then doneIf (s.live && postrollDue s port) s (postrollEnds s port)
  else done s

/-- The time limit of PORT_ARM on a slave has passed with no frame (R304). -/
def armLate (s : State) (p : Nat) : Bool :=
  let q := s.port p
  match q.arm with
  | some (_, t) => q.armFrame.isNone && !canFrame s p && decide (t + 100000000 ≤ s.now)
  | none => false

/-- PORT_ARM completes with TIMEOUT, and a PORT_STOP that waited for it with BUSY (R304, R305). -/
def armTimesOut (s : State) (p : Nat) : State :=
  let q := s.port p
  let s1 := s.modPort p fun q =>
    { q with
      armed := false, arm := none, stop := none, immediate := false, startMaster := false, orphan := false
      state := if q.state = 5 then 0 else q.state
      owner := if q.orphan then 0xFFFF else q.owner }
  let s2 := match q.arm with | some (cid, _) => fail s1 cid stTimeout | none => s1
  match q.stop with
  | some (some cid, _) => fail s2 cid stBusy
  | _ => s2

/-- PORT_ARM_TIMEOUT (R304). -/
def execPortArmTimeout (port : Nat) (s : State) : Host.Outcome State Fault Refusal :=
  if Instr.wf (.portArmTimeout port) then doneIf (s.live && armLate s port) s (armTimesOut s port)
  else done s

/-! ### START (R332) -/

def startEdge (s : State) (p : Nat) : State :=
  let k := framesOf s p - 1
  s.modPort p fun q =>
    if q.state = 2 then
      if q.dataKnown then q
      else { q with
        startFrame := BitVec.ofNat 64 k, dataFrame := BitVec.ofNat 64 (k + max 1 q.startOffset.toNat), dataKnown := true
        cause := setBit q.cause 2 }
    else if q.state = 1 then { q with cause := setBit q.cause 3 }
    else q

/-- START_IN_EDGE (R332): a rising edge of START_IN is sampled in the frame in progress. -/
def execStartInEdge (port : Nat) (s : State) : Host.Outcome State Fault Refusal :=
  if Instr.wf (.startInEdge port) then doneIf s.live s (startEdge s port) else done s

/-! ### The frame (R337, R338, R342 to R345) -/

/-- Samples that a queue of the port holds at most (R335). -/
def Port.depth (q : Port) : Nat := 4096 / max 1 q.slots.toNat

/-- What a transmit slot does at a frame boundary of RUN: the slot after it, the code it sends, and
whether it counted a repeat or found DEBT saturated. -/
structure Decision where
  slot : Slot
  code : Int
  repeats : Bool := false
  saturated : Bool := false

/-- A slot is a member of a group with REALIGN = 1. -/
def Slot.realigns (q : Slot) : Bool := q.group.any fun g => decide (16 ≤ g)

/-- Realignment (R337 step 2). -/
def Slot.realign (q : Slot) : Slot :=
  let n := min q.debt.toNat q.txq.length
  if q.realigns then
    { q with txq := q.txq.drop n, debt := BitVec.ofNat 16 (q.debt.toNat - n), txDiscards := addSat q.txDiscards n }
  else q

/-- Steps 3 and 4 of R337. -/
def Slot.send (q : Slot) : Decision :=
  match q.txq with
  | x :: r => { slot := { q with txq := r, last := x, started := true }, code := x }
  | [] =>
    if q.started || q.group.isSome then
      let full := q.debt.toNat == 65535
      { slot := { q with
          txRepeats := addSat q.txRepeats 1
          debt := if q.realigns then addSat q.debt 1 else q.debt }
        code := q.last, repeats := true, saturated := q.realigns && full }
    else { slot := q, code := q.last }

/-- The per-frame decision of an enabled transmit slot (R337). A slot that has not sent a sample repeats
zero (R481). -/
def Slot.decide (q : Slot) (zero : Int) : Decision :=
  if q.bound then
    let d := q.realign.send
    if d.slot.started then d else { d with code := zero }
  else { slot := q, code := zero }

/-- The word that a slot of the port sends for a code (R325). -/
def Port.word (q : Port) (code : Int) : Nat := slotWord q.sample.toNat q.width.toNat code

/-- The word of a zero (R481). -/
def Port.zeroWord (q : Port) : Nat := q.word (zeroCode q.sample.toNat)

/-- One received sample reaches a slot's queue (R343): copies of the last accepted sample stand for
dropped frames first. The flag says that the sample was dropped. -/
def Slot.receive (q : Slot) (depth : Nat) (x : Int) : Slot × Bool :=
  let n := min q.owed.toNat (depth - q.rxq.length)
  let q1 := { q with
    rxq := q.rxq ++ List.replicate n q.rxLast, owed := BitVec.ofNat 16 (q.owed.toNat - n), rxFills := addSat q.rxFills n }
  if q1.rxq.length < depth then ({ q1 with rxq := q1.rxq ++ [x], rxLast := x }, false)
  else ({ q1 with owed := addSat q1.owed 1 }, true)

/-- A slot whose transmit mask bit is 0: high impedance, or zeros on an I²S or left-justified port or one
with a single slot (R330). -/
def offWord (q : Port) : Option Nat :=
  if q.format = 2 && q.slots ≠ 1 then none else some q.zeroWord

/-- Transmit slot k in this frame, while the port runs. -/
def txSlot (q : Port) (k : Nat) : Port :=
  if q.txMask.getLsbD k then
    let d := (q.slot k).decide (zeroCode q.sample.toNat)
    let c1 := if d.repeats then setBit q.cause 4 else q.cause
    { q.modSlot k (fun _ => d.slot) with
      sdo := q.sdo ++ [some (q.word d.code)], cause := if d.saturated then setBit c1 9 else c1 }
  else { q with sdo := q.sdo ++ [offWord q] }

/-- Receive slot k in this frame. -/
def rxSlot (received : List Int) (q : Port) (k : Nat) : Port :=
  if q.rxMask.getLsbD k then
    let r := (q.slot k).receive q.depth (slotCode q.sample.toNat q.width.toNat (received.getD k 0))
    { q.modSlot k (fun _ => r.1) with cause := if r.2 then setBit q.cause 5 else q.cause }
  else q

/-- Every slot sends zero (R330, R481). -/
def zeroFrame (q : Port) : Port :=
  { q with sdo := (upTo q.slots.toNat).map fun k =>
      if q.txMask.getLsbD k then some q.zeroWord else offWord q }

/-- Group changes apply; a slot that leaves every group sets DEBT to 0 (R306, R338). -/
def applyGroups (q : Port) : Port :=
  { q.regroup.foldl (fun (q : Port) x => q.modSlot x.1 fun c =>
      { c with group := x.2, debt := if x.2.isNone then 0 else c.debt }) q with regroup := [] }

/-- Bindings whose stream is gone are removed (R346). -/
def releaseSlots (q : Port) : Port :=
  { q with slotTab := tabMapV {} q.slotTab fun _ c =>
      if c.release then { c.rebind (zeroCode q.sample.toNat) false 0 0 0 with staged := c.staged } else c }

/-- Disabled slots are emptied at every frame boundary (R340). -/
def emptyDisabled (q : Port) : Port := { q with slotTab := tabMapV {} q.slotTab fun k c => disableSlot q.txMask k c }

/-- FRAME_PERIOD and RATE_OUT after a frame of `ps` picoseconds (R345). -/
def measure (q : Port) (ps : Nat) : Port :=
  let ls := (ps :: q.lengths).take 64
  let mean := sumN ls / ls.length
  let hz := rateHz q.rate.toNat
  let out := decide (10 ^ 9 < (if mean * hz < 10 ^ 12 then 10 ^ 12 - mean * hz else mean * hz - 10 ^ 12))
  { q with
    lengths := ls, periodPs := BitVec.ofNat 32 mean, rateOut := out, cause := if out then setBit q.cause 7 else q.cause }

/-- The bodies of a frame: what the port sends and records in its state (R330, R337, R342). -/
def frameBody (q : Port) (received : List Int) : Port :=
  if q.state = 0 ∨ q.state = 5 then { q with sdo := [] }
  else if q.state = 3 then
    (upTo q.slots.toNat).foldl (rxSlot received) ((upTo q.slots.toNat).foldl txSlot { q with sdo := [] })
  else zeroFrame q

/-- A frame of the port: one with a wrong BCLK count sends zeros and records nothing (R344). -/
def frameOf (q : Port) (n : Nat) (bclks ps : Nat) (received : List Int) : Port :=
  let good := q.clock ≠ 2 || bclks == q.slots.toNat * widthBits q.width.toNat
  let q1 := emptyDisabled (releaseSlots (applyGroups q))
  let q2 := if good then frameBody q1 received
    else { zeroFrame q1 with framingErrors := addSat q1.framingErrors 1, cause := setBit q1.cause 8 }
  let first := q2.state == 2 && q2.startMaster && (q2.armFrame.any fun a => a + q2.preroll.toNat == n)
  measure { q2 with startOut := first, sdo := if q2.state = 0 ∨ q2.state = 5 then [] else q2.sdo } ps

/-- The frame number that this boundary begins, when the port has one to begin: a follower waits for its
leader's (R321, R329). -/
def frameDue (s : State) (p : Nat) : Bool :=
  leaderOf s p == p || decide ((s.port p).nextFrame < framesOf s p)

/-- A frame boundary of a port (R329, R337, R346). -/
def boundaryEff (s : State) (p : Nat) (bclks ps : Nat) (received : List Int) : State :=
  let s1 := frameActs s p
  if clocksOn s1 p then
    s1.modPort p fun q =>
      { frameOf q (nextOf s1 p) bclks ps received with nextFrame := nextOf s1 p + 1, lastEdge := s.now }
  else s1

/-- On a device that a fatal fault or THERMTRIP_N has stopped, the audio clocks run on and every transmit slot sends zero, a slot whose mask bit
is 0 too (R395, R419). -/
def fatalFrame (s : State) (p : Nat) (ps : Nat) : State :=
  if clocksOn s p then
    s.modPort p fun q =>
      measure { q with
        nextFrame := q.nextFrame + 1, startOut := false, lastEdge := s.now
        sdo := if q.state = 0 ∨ q.state = 5 then q.sdo else List.replicate q.slots.toNat (some q.zeroWord) } ps
  else s

/-- PORT_FRAME_BOUNDARY (R337): `bclks` BCLK periods and `periodPs` picoseconds in the frame that begins,
and the words that the bits of its slots on SDI spell, most significant first (R324). -/
def execPortFrameBoundary (port bclks periodPs : Nat) (received : List Int) (s : State) :
    Host.Outcome State Fault Refusal :=
  if Instr.wf (.portFrameBoundary port bclks periodPs received) then
    if s.mode = .fatal ∨ s.mode = .tripped then done (fatalFrame s port periodPs)
    else doneIf (s.live && (s.port port).configured && frameDue s port) s (boundaryEff s port bclks periodPs received)
  else done s

/-! ### Clocks of a slave (R344) -/

/-- A port that has lost its clocks: an armed one holds, and their return will set CLOCK_RETURNED. -/
def holdPort (q : Port) : Port :=
  let h := q.armed && q.state != 5
  { q with
    clockOk := false, everOk := true, clockLosses := addSat q.clockLosses 1, cause := setBit q.cause 0, periodPs := 0, lengths := []
    heldState := if h then q.state else q.heldState, state := if h then 5 else q.state, sdo := [], startOut := false }

def clockLostEff (s : State) (p : Nat) : State :=
  let s1 := (sharing s p).foldl (fun s q => s.modPort q holdPort) s
  settleCommits (ticksStop s1 p) p

/-- No active FSYNC edge has come for 4 frame periods at the nominal rate. Without BCLK a slave detects no FSYNC
edge either (R324, R344). -/
def clockSilent (s : State) (p : Nat) : Bool :=
  decide (4 * 10 ^ 9 ≤ rateHz (s.port p).rate.toNat * (s.now - (s.port p).lastEdge))

/-- CLOCK_LOST (R344): no FSYNC or BCLK edge of a slave for 4 frame periods. -/
def execClockLost (port : Nat) (s : State) : Host.Outcome State Fault Refusal :=
  if Instr.wf (.clockLost port) then
    let q := s.port port
    doneIf (s.live && q.clock == 2 && q.clockOk && leaderOf s port == port && clockSilent s port) s (clockLostEff s port)
  else done s

/-- A port whose clocks are framed again, at the active edge E3 of this cycle (R344). -/
def framePort (now : Nat) (q : Port) : Port :=
  { q with
    lastEdge := now, clockOk := true, everOk := true, cause := if q.everOk then setBit q.cause 1 else q.cause
    state := if q.state = 5 then q.heldState else q.state }

/-- CLOCK_RETURNED (R344): the BCLK counts of the two frames after the first active edge; frames with
the right count frame the clocks. -/
def execClockReturned (port first second : Nat) (s : State) : Host.Outcome State Fault Refusal :=
  if Instr.wf (.clockReturned port first second) then
    let q := s.port port
    let n := q.slots.toNat * widthBits q.width.toNat
    doneIf (s.live && q.configured && q.clock == 2 && !q.clockOk && leaderOf s port == port && first == n && second == n) s
      ((sharing s port).foldl (fun s k => s.modPort k (framePort s.now)) s)
  else done s

/-! ### SINK_WRITE_TX (R336, R389) -/

/-- The first sink write on its way to a slot. -/
def txWrite (s : State) (p k : Nat) : Option SinkWrite :=
  s.sinkWrites.find? fun w => match w.sink with | .port q l _ => q == p && l == k | _ => false

/-- A sink write leaves those on their way. -/
def dropWrite (w : SinkWrite) : List SinkWrite → List SinkWrite
  | [] => []
  | x :: r => if x = w then r else x :: dropWrite w r

/-- A sample reaches a transmit slot: judged by its generation, which only a bound slot registers; a poisoned one is replaced by the last
sample and tears its stream's group down (R336, R389, R390). -/
def txArrives (s : State) (p k : Nat) (w : SinkWrite) (poisoned : Bool) : State :=
  let s1 := { s with sinkWrites := dropWrite w s.sinkWrites }
  let q := (s.port p).slot k
  if q.bound = false ∨ w.gen ≠ q.regGen then
    s1.modPort p fun q => { q with staleDrops := addSat q.staleDrops 1, cause := setBit q.cause 6 }
  else if poisoned || w.poison then
    sinkFault (s1.modSlot p k fun q => { q with txq := q.txq ++ [q.txq.getLastD q.last] }) w.part w.group
  else s1.modSlot p k fun q => { q with txq := q.txq ++ [w.value] }

/-- SINK_WRITE_TX (R336). -/
def execSinkWriteTx (port slot : Nat) (poisoned : Bool) (s : State) : Host.Outcome State Fault Refusal :=
  if Instr.wf (.sinkWriteTx port slot poisoned) then
    match txWrite s port slot with
    | none => done s
    | some w => doneIf s.live s (txArrives s port slot w poisoned)
  else done s

end Sys2Proof.Machine
end

