-- ==== Sys2Proof/Machine/Fabric.lean ====
section
/-! DEFINITION. Responses and the failure of a peer (R366, R373 to R377): what a response, or the lack of
one, does to the work that issued the request. -/

namespace Sys2Proof.Machine

/-- Command status that a response STATUS becomes (R373, log 33). -/
def respStatus : Nat → Nat
  | 0 => stOk
  | 1 => stNotPermitted
  | 2 => stNotFound
  | 3 => stBusy
  | 5 => stPoisonedData
  | 7 => stVersionMismatch
  | _ => stNoResource

def dropReq (s : State) (tag : Nat) : State :=
  { s with vertex := { s.vertex with reqs := s.vertex.reqs.filter fun q => q.tag != tag } }

/-- A device is marked reachable again (R375). -/
def clearMark (s : State) (d : Nat) : State :=
  { s with vertex := { s.vertex with
    unreachable := tabMod 0 s.vertex.unreachable (d / 32) fun w => clearBit w (d % 32) } }

def setMark (s : State) (d : Nat) : State :=
  { s with vertex := { s.vertex with
    unreachable := tabMod 0 s.vertex.unreachable (d / 32) fun w => setBit w (d % 32) } }

/-! ### Arrivals at a context inbox (R181, R371) -/

/-- The acknowledgement of a delivered context: its status and, for OK, the identity key and a signature
over the context's digest (R181, log 34). -/
def ackData (s : State) (status : Nat) (b : Bytes) : Bytes :=
  toLE 2 status ++ (if status = 0 then signBlock s.sec.made.secret (ctxDigest b) (freeNonce s.freeCtr) else [])

/-- The acknowledgement leaves for the device that delivered. -/
def sendAck (s : State) (i status : Nat) (b : Bytes) (src tag : Nat) : State :=
  let s1 := if status = 0 then s.used 1 else s
  let d := ackData s status b
  s1.emit (.fabric 8 { reqHdr s 2 src tag { address := s.streamHandle i, length := d.length } with status := 0 } d)

/-- The message of a stream's inbox. -/
def inboxOf (s : State) (i : Nat) : Option (Nat × Bytes × Nat × Nat) :=
  s.vertex.inbox.find? fun q => q.1 == s.streamHandle i

/-- The message of a stream leaves its inbox, and its sender hears how the restore came out. -/
def inboxEnd (s : State) (i status : Nat) : State :=
  match inboxOf s i with
  | none => s
  | some q =>
    sendAck { s with vertex := { s.vertex with inbox := s.vertex.inbox.filter fun x => x.1 != q.1 } }
      i status q.2.1 q.2.2.1 q.2.2.2

/-- Checks 1 to 6 passed and the sink holds the new generation: the stream takes the context. -/
def inboxRestore (s : State) (i : Nat) : State :=
  match inboxOf s i with
  | none => s
  | some q =>
    match tryRestore s i q.2.1 true (s.stream i).sourceKey with
    | .failed _ st => inboxEnd s i st
    | .ok s1 => inboxEnd (s1.modStream i fun t => { t with sinkRegistered := true }) i stOk

/-- The target culet takes the context from the inbox (R179 to R182). -/
def inboxTake (s : State) (i : Nat) : State :=
  match inboxOf s i with
  | none => s
  | some q =>
    let b := q.2.1
    if (s.stream i).restoredFrom == some (ctxHead b).gen then inboxEnd s i stOk
    else if !(s.stream i).awaitContext then inboxEnd s i stBusy
    else match tryRestore s i b true (s.stream i).sourceKey with
      | .failed _ st => inboxEnd s i st
      | .ok s1 =>
        match remoteSink s i with
        | some (a, id) =>
          (sendRegister s a id ((ctxHead b).gen + 1) (.registerInbox i)).getD (inboxEnd s i stFabricUnreachable)
        | none =>
          match registerSink s1 s.nextCid i with
          | some (s2, _) => inboxEnd s2 i stOk
          | none => inboxEnd s i stNoResource

/-! ### COPY (R309) -/

/-- A command fails; a COPY reports the bytes that it has copied (R309). -/
def failCopy (s : State) (cid st : Nat) : State :=
  match s.cmd cid with
  | none => s
  | some c => finish s cid st 0 (if c.opcode = 0x52 then (c.final.getD (0, 0, 0)).2.2 else 0)

/-- `n` more bytes have been copied, and one request or read of the command is over: with the last one the
command completes. -/
def copied (s : State) (cid n : Nat) : State :=
  let s1 := s.modCmd cid fun c =>
    { c with wanting := c.wanting - 1, final := c.final.map fun q => (q.1, q.2.1, q.2.2 + n) }
  match s1.cmd cid with
  | none => s1
  | some c => if c.wanting = 0 then finish s1 cid stOk 0 (c.final.getD (0, 0, 0)).2.2 else s1

/-- Bytes of a COPY that have been read at source offset `off` are written. -/
def copyWritePiece (s : State) (c : Cmd) (off : Nat) (b : Bytes) : State :=
  let v := c.f 24 8
  if addrRemote s v then
    let ps := blocks (addrBits v + off) b.length
    let q := issueWrites s (addrDevice v) (addrBits v + off) b {} (.copyWrite c.cid) ps
    if q.2 then copied (q.1.modCmd c.cid fun e => { e with wanting := e.wanting + ps.length }) c.cid 0
    else failCopy q.1 c.cid stFabricUnreachable
  else if !mayName s c.fn (v + off) b.length false then failCopy s c.cid stNotPermitted
  else
    let w := addrWrite s c.fn (v + off) b false
    if w.2 then copied w.1 c.cid b.length else failCopy w.1 c.cid stPoisonedData

/-! ### The end of a request -/

/-- A registration for a command is acknowledged (R169). -/
def registered (s : State) (cid i : Nat) : State :=
  match s.cmd cid with
  | some c =>
    let b := ((c.fetched.find? fun q => q.1 == 0).map (·.2)).getD []
    if c.opcode = 0x36 then restoreNow s c i b
    else if c.opcode = 0x38 then migrateLocalNow s c (streamIndex c.object) i b
    else if c.opcode = 0x41 then hostBound s c i
    else s.modStream i fun t => { t with sinkRegistered := true }
  | none => if (s.stream i).isOpen then s.modStream i fun t => { t with sinkRegistered := true } else s

/-- A registration for a command fails with a status (R372, R376). -/
def unregistered (s : State) (cid i st : Nat) : State :=
  match s.cmd cid with
  | some c =>
    if c.opcode = 0x36 then finish s cid st (if st = stNoResource then 6 else 0) 0
    else if c.opcode = 0x38 then migrateRefused s c (streamIndex c.object) st
    else if c.opcode = 0x41 then bindUndone s c i st
    else sinkFault s (s.stream i).part (s.stream i).group
  | none => if (s.stream i).isOpen then sinkFault s (s.stream i).part (s.stream i).group else s

/-- The command of a migration in progress. -/
def migrateCmd (s : State) (i : Nat) : Option Cmd :=
  match (s.stream i).mig with
  | .delivered cid _ _ _ => s.cmd cid
  | _ => none

/-- The copy into T2 that a command fetches. -/
def copyId (s : State) (cid : Nat) : Option Bytes := (s.t2.find? fun t => t.copying == some cid).map (·.identity)

/-- A structure that a command asked for does not come: the command fails, and a RUN that is not yet queued does so
when its row comes, naming only the stream in OBJECT until then (R259, R276). -/
def structFails (s : State) (cid st : Nat) : State :=
  match s.cmd cid with
  | none => s
  | some c =>
    if c.opcode = 0x34 then
      s.modCmd cid fun c => { c with readStatus := st, listing := false, members := [], wanting := c.wanting - 1 }
    else fail s cid st

/-- A request fails with a command status: the work that issued it takes the consequence (R373,
R376). -/
def reqFails (s : State) (q : FabReq) (st : Nat) : State :=
  match q.purpose with
  | .staging cid _ =>
    match s.runOf cid with
    | none => s
    | some r =>
      if st = stFabricUnreachable || st = stPoisonedData then sinkFault s r.part r.group
      else resumeWaiting (fail s cid st) r.members
  | .structRead cid _ => structFails s cid st
  | .structWrite cid => fail s cid st
  | .sinkWrite cid _ =>
    match s.runOf cid with
    | none => s
    | some r => sinkFault s r.part r.group
  | .checkpoint i stage => ckptAnswer s i stage false
  | .migrate i =>
    match migrateCmd s i with
    | none => s
    | some c => if st = stFabricUnreachable then migrateFenced s c i st else migrateRefused s c i st
  | .fetchPiece cid p =>
    match s.cmd cid, copyId s cid with
    | some c, some id =>
      if st = stFabricUnreachable || st = stPoisonedData || st = stNotFound || st = stBusy then pieceFails s c id p
      else copyFails s c id st 3
    | _, _ => s
  | .registerSink cid i => unregistered s cid i st
  | .registerInbox i => inboxEnd s i st
  | .releaseSink => s
  | .copyRead cid => failCopy s cid st
  | .copyWrite cid => failCopy s cid st
  | .windowImport cid => fail s cid st
  | .probe => s

/-- The streams of a RUN's member list, once all of it has come from another device (R259). -/
def listArrives (c : Cmd) : Cmd :=
  match assemble c.fetched (blocks (addrBits (c.f 40 8)) (4 * c.f 22 2)) with
  | some b => if c.listing then { c with listing := false, members := listedStreams b } else c
  | none => c

/-- Bytes that a command asked for have arrived. -/
def structArrives (s : State) (cid addr : Nat) (data : Bytes) (go : Bool) : State :=
  s.modCmd cid fun c =>
    listArrives { c with
      fetched := c.fetched ++ [(addr, data)], wanting := c.wanting - 1
      resume := c.resume || (go && decide (c.wanting ≤ 1)) }

/-- A request succeeds (R371, R373). -/
def reqDone (s : State) (q : FabReq) (h : FabHdr) (data : Bytes) : State :=
  match q.purpose with
  | .staging cid a => structArrives s cid a data false
  | .structRead cid a => structArrives s cid a data true
  | .structWrite cid =>
    let s1 := s.modCmd cid fun c => { c with wanting := c.wanting - 1 }
    match s1.cmd cid with
    | some c => if c.wanting = 0 then finish s1 cid (c.final.getD (0, 0, 0)).1 (c.final.getD (0, 0, 0)).2.1
        (c.final.getD (0, 0, 0)).2.2 else s1
    | none => s1
  | .sinkWrite _ _ => s
  | .checkpoint i stage => ckptAnswer s i stage true
  | .migrate i => s.modStream i fun t => match t.mig with
    | .delivered c n d _ => { t with mig := .delivered c n d s.now }
    | _ => t
  | .fetchPiece cid p =>
    match s.cmd cid, copyId s cid with
    | some c, some id => pieceArrives s c id p data
    | _, _ => s
  | .registerSink cid i => registered s cid i
  | .registerInbox i => inboxRestore s i
  | .releaseSink => s
  | .copyRead cid =>
    match s.cmd cid with
    | some c => copyWritePiece s c (q.hdr.address - addrBits (c.f 16 8)) data
    | none => s
  | .copyWrite cid => if (s.cmd cid).isSome then copied s cid q.hdr.length else s
  | .windowImport cid => finish s cid stOk (b2n h.sink) (h.address % 2 ^ 52)
  | .probe => clearMark s q.dest

/-! ### Requests held for a route change (R366) -/

/-- A request issued earlier to the same destination and channel on another port is unanswered. -/
def oldRoute (s : State) (q : FabReq) : Bool :=
  s.vertex.reqs.any fun x => x.dest == q.dest && x.vc == q.vc && !x.heldBack && routePort s q.dest != some x.port

/-- A held request leaves, or completes with FABRIC_UNREACHABLE (R365, R366, R375). -/
def releaseHeld (s : State) (q : FabReq) : State :=
  match unreachable s q.dest && q.type != 7, routePort s q.dest with
  | false, some p =>
    let s1 := { s with vertex := { s.vertex with
      reqs := s.vertex.reqs.map fun (x : FabReq) =>
        if x.tag = q.tag then { x with heldBack := false, port := p, since := s.now } else x } }
    s1.emit (.fabric q.type q.hdr q.data)
  | _, _ => reqFails (dropReq s q.tag) q stFabricUnreachable

/-- Every held request that need not wait any more leaves, oldest first. -/
def releaseAllHeld (s : State) : List Nat → State
  | [] => s
  | t :: r =>
    releaseAllHeld (match s.vertex.reqs.find? fun q => q.tag == t && q.heldBack with
      | some q => if oldRoute s q then s else releaseHeld s q
      | none => s) r

/-- Held requests go on after a change of routes or of what is unanswered (R366). -/
def settleHeld (s : State) : State :=
  releaseAllHeld s ((s.vertex.reqs.filter (·.heldBack)).map (·.tag))

/-! ### RESPONSE, timeouts and probes -/

/-- MINOR of the most recent request or response of a device (R377). -/
def noteMinor (s : State) (h : FabHdr) : State :=
  { s with vertex := { s.vertex with peerMinor := tabSet 0 s.vertex.peerMinor h.source h.minor } }

/-- A message answered BUSY is sent again until FABRIC_TIMEOUT from the first attempt (R371). -/
def resend (s : State) (q : FabReq) (i : Nat) : State :=
  let r := issueReq s 3 q.dest false { address := q.hdr.address, length := q.hdr.length, data := q.data } (.migrate i)
  if decide (q.since + 1000 * fabricTimeoutUs s ≤ s.now) || !r.2 then reqFails s q stFabricUnreachable
  else { r.1 with vertex := { r.1.vertex with
    reqs := r.1.vertex.reqs.map fun (x : FabReq) => if x.tag = s.vertex.nextTag then { x with since := q.since } else x } }

/-- What an answered request brings. A sink write answered STALE has been discarded there and is no
failure (R168). -/
def answered (s : State) (q : FabReq) (h : FabHdr) (data : Bytes) : State :=
  match q.purpose, h.status with
  | .migrate i, 3 => resend s q i
  | _, 4 => reqDone s q h data
  | _, 0 => if h.poison then reqFails s q stPoisonedData else reqDone s q h data
  | _, n => reqFails s q (respStatus n)

def responseEff (s : State) (h : FabHdr) (data : Bytes) : State :=
  let s1 := noteMinor s h
  match s1.vertex.reqs.find? fun q => q.tag == h.tag && !q.heldBack with
  | none =>
    ({ s1 with vertex := { s1.vertex with lateResponses := addSat s1.vertex.lateResponses 1 } }).setVertexCause 8
  | some q =>
    let s2 := if h.poison then s1.setVertexCause 5 else s1
    settleHeld (answered (dropReq s2 q.tag) q h data)

/-- A request or response is addressed to this device (R365). -/
def forMe (s : State) (h : FabHdr) : Bool := h.dest == s.ident.number.toNat

/-- RESPONSE (R373). -/
def execResponse (hdr : FabHdr) (data : Bytes) (s : State) : Host.Outcome State Fault Refusal :=
  doneIf (s.live && forMe s hdr) s (responseEff s hdr data)

def timeoutEff (s : State) (q : FabReq) : State :=
  let s1 := (dropReq s q.tag).setVertexCause 4
  let s2 := setMark { s1 with vertex := { s1.vertex with timeouts := addWrap s1.vertex.timeouts 1 } } q.dest
  settleHeld (reqFails s2 q stFabricUnreachable)

/-- FABRIC_REQUEST_TIMEOUT (R374). -/
def execFabricRequestTimeout (tag : Nat) (s : State) : Host.Outcome State Fault Refusal :=
  match s.vertex.reqs.find? fun q => q.tag == tag && !q.heldBack with
  | none => done s
  | some q => doneIf (s.live && decide (q.since + 1000 * fabricTimeoutUs s ≤ s.now)) s (timeoutEff s q)

/-- A PROBE to a marked destination that has a route; it is held for a route change as any request (R366). -/
def sendProbe (s : State) (d : Nat) : State :=
  match routePort s d with
  | none => s
  | some p =>
    let tag := s.vertex.nextTag
    let h := reqHdr s 3 d tag {}
    let hold := mustHold s d 3 p
    let q : FabReq := { tag := tag, type := 7, dest := d, vc := 3, port := p, since := s.now, purpose := .probe,
                        heldBack := hold, hdr := h }
    let s1 := { s with vertex := { s.vertex with reqs := s.vertex.reqs ++ [q], nextTag := (tag + 1) % 2 ^ 32 } }
    if hold then s1 else s1.emit (.fabric 7 h [])

/-- Devices marked unreachable. -/
def markedDevices (s : State) : List Nat :=
  s.vertex.unreachable.flatMap fun kv => (maskBits 32 kv.2.toNat).map (32 * kv.1 + ·)

/-- A PROBE to each marked destination, and the next ones 1 ms later (R375). -/
def probesEff (s : State) : State :=
  let s1 := (markedDevices s).foldl sendProbe s
  { s1 with vertex := { s1.vertex with probeAt := s.now + 1000000 } }

/-- PROBE_TIMER (R375): the 1 ms timer of the vertex. -/
def execProbeTimer (s : State) : Host.Outcome State Fault Refusal :=
  doneIf (s.live && decide (s.vertex.probeAt ≤ s.now)) s (probesEff s)

/-- A write to word `w` of the UNREACHABLE mask (R378). -/
def unreachableEff (s : State) (w value : Nat) : State :=
  { s with vertex := { s.vertex with unreachable := tabMod 0 s.vertex.unreachable w fun x => w1c x value } }

/-- UNREACHABLE_CLEAR (R375). -/
def execUnreachableClear (index : Nat) (value : Word32) (s : State) : Host.Outcome State Fault Refusal :=
  if Instr.wf (.unreachableClear index value) then doneIf s.live s (unreachableEff s index value.toNat)
  else done s

end Sys2Proof.Machine
end

