-- ==== Sys2Proof/Machine/Links.lean ====
section
/-! DEFINITION. The link layer of the fabric ports (R360, R362, R364): the packets before each transmitter, credits,
flits with their sequence numbers, acknowledgements and replays, and a link that goes down. -/

namespace Sys2Proof.Machine

/-! ### The transmitter -/

/-- Flits of a packet of `n` bytes (R360). -/
def flitsOf (n : Nat) : Nat := max 1 (cdiv n (max 1 Config.flitPayload))

/-- The partition for which a request was issued. -/
def reqPart (s : State) : ReqPurpose → Option Nat
  | .staging c _ | .structRead c _ | .structWrite c | .sinkWrite c _ | .fetchPiece c _ | .registerSink c _ | .copyRead c
  | .copyWrite c | .windowImport c => (s.cmd c).map (·.partition)
  | .checkpoint i _ | .migrate i | .registerInbox i => some (s.stream i).part
  | .releaseSink | .probe => none

/-- A packet is a request of a latency-critical partition (R364). -/
def packetLc (s : State) (tag type : Nat) : Bool :=
  type != 8 && s.vertex.reqs.any fun q => q.tag == tag && (reqPart s q.purpose).any fun k => (s.part k).lcHeld

/-- The port and the packet before its transmitter for an entry of the record of what was sent. -/
def outPacket (s : State) : Sent → Option (Nat × OutPacket)
  | .fabric type h d =>
    (routePort s h.dest).map fun p => (p, { vc := h.vc, lc := packetLc s h.tag type, flits := flitsOf (32 + d.length) })
  | .forwarded _ p h d => some (p, { vc := h.vc, lc := false, flits := flitsOf (32 + d.length) })
  | .announce p _ _ _ => if (s.fabPort p).trained then some (p, { vc := 3, lc := false, flits := 1 }) else none
  | .msix _ _ _ | .flit _ _ _ | .flitAck _ _ | .flitReplay _ _ | .bar2Data _ _ | .unsupported | .regData _ _ _
  | .regData64 _ _ _ | .hostWrite _ _ _ _ | .hostRead _ _ _ | .queueOut _ _ _ | .poisonedRead _ _ | .spdm _ _ | .pmbus _ | .jtag _
  | .internalError _ | .served _ _ => none

/-- Packets that the vertex has sent come before the transmitters of their ports. -/
def takePackets (s : State) : State :=
  let ps := (s.sent.drop s.vertex.noted).filterMap (outPacket s)
  let s1 := ps.foldl (fun s q => s.modFabPort q.1 fun f => { f with outq := f.outq ++ [q.2] }) s
  if s.sent.length = s.vertex.noted then s
  else { s1 with vertex := { s1.vertex with noted := s.sent.length } }

/-- Credits that a port holds for a channel. -/
def FabPort.credit (q : FabPort) (vc : Nat) : Nat := q.credits.getD vc 0

/-- The packet that the transmitter serves next, among those whose channel has a credit: VC 0 first, then requests of
latency-critical partitions, oldest first (R210, R360, R364). -/
def nextPacket (q : FabPort) : Option OutPacket :=
  let ready := q.outq.filter fun o => decide (0 < q.credit o.vc)
  (ready.find? fun o => o.vc == 0).or ((ready.find? (·.lc)).or ready.head?)

/-- One flit of a packet leaves: it takes a credit and a sequence number, and a copy of it stays in the replay buffer. -/
def FabPort.sendFlit (q : FabPort) (o : OutPacket) : FabPort :=
  { q with
    outq := if o.flits ≤ 1 then q.outq.erase o else q.outq.map fun x => if x = o then { o with flits := o.flits - 1 } else x
    credits := q.credits.set o.vc (q.credit o.vc - 1)
    txSeq := q.txSeq + 1
    replayBuf := q.replayBuf ++ [{ seq := q.txSeq, vc := o.vc }] }

/-- A port sends flits while it may; the first argument bounds their number. -/
def sendFlits : Nat → State → Nat → State
  | 0, s, _ => s
  | n + 1, s, p =>
    match nextPacket (s.fabPort p) with
    | none => s
    | some o => sendFlits n ((s.modFabPort p fun q => q.sendFlit o).emit (.flit p (s.fabPort p).txSeq o.vc)) p

/-- A trained port sends what it may of what is before it. -/
def transmit (s : State) (p : Nat) : State :=
  if (s.fabPort p).trained then sendFlits (sumN ((s.fabPort p).outq.map fun o => max 1 o.flits)) s p else s

/-- The transmitters of the ports at work in a cycle. -/
def linksWork (s : State) : State := (upTo 8).foldl transmit (takePackets s)

/-! ### Links that go down (R362) -/

/-- A fabric port declares its link down: the flits in its replay buffer are discarded, and it tries to train again
every 1 ms. -/
def linkDownEff (s : State) (p : Nat) : State :=
  settleHeld ((s.modFabPort p fun q =>
    { q with
      trained := false, linkDowns := addSat q.linkDowns 1, replaysInRow := 0, attempting := false, replayBuf := []
      nextAttempt := s.now + 1000000 }).setVertexCause 0)

/-! ### Flits that arrive (R360) -/

/-- The acknowledgements and the credits of a flit. -/
def FabPort.takeHead (q : FabPort) (h : FlitHead) : FabPort :=
  { q with
    replayBuf := q.replayBuf.filter fun f => !h.acks.contains f.seq
    credits := (upTo 4).map fun vc => q.credit vc + h.credits.getD vc 0 }

/-- A flit of the replay buffer is sent again; after 32 times in a row the link goes down (R362). -/
def resendFlit (s : State) (p n : Nat) : State :=
  match (s.fabPort p).replayBuf.find? fun f => f.seq == n with
  | none => s
  | some f =>
    let s1 := (s.modFabPort p fun q =>
      { q with replayBuf := q.replayBuf.map fun x => if x = f then { f with replays := f.replays + 1 } else x }).emit
        (.flit p n f.vc)
    if 32 ≤ f.replays + 1 then linkDownEff s1 p else s1

/-- A good flit is acknowledged, and what it carries takes effect. -/
def goodFlit (s : State) (p : Nat) (h : FlitHead) : State :=
  let s1 := (s.modFabPort p fun q => { q.takeHead h with replaysInRow := 0, rxSeq := h.seq + 1 }).emit (.flitAck p h.seq)
  match h.replay with
  | none => s1
  | some n => resendFlit s1 p n

/-- Any other flit is asked for again; 32 replays of it in a row take the link down (R362). -/
def badFlit (s : State) (p : Nat) : State :=
  let s1 := (s.modFabPort p fun q =>
    { q with replays := addSat q.replays 1, replaysInRow := q.replaysInRow + 1 }).emit (.flitReplay p (s.fabPort p).rxSeq)
  if 32 ≤ (s1.fabPort p).replaysInRow then linkDownEff s1 p else s1

/-- A flit arrives: corrected symbols and failed codewords are counted. -/
def flitEff (s : State) (p : Nat) (h : FlitHead) (decoded crcOk : Bool) : State :=
  let s1 := s.modFabPort p fun q =>
    { q with
      fecCorrected := addWrap q.fecCorrected h.corrected
      fecUncorrected := if decoded then q.fecUncorrected else addSat q.fecUncorrected 1 }
  if decoded && crcOk then goodFlit s1 p h else badFlit s1 p

/-! ### A new protocol version (R363) -/

/-- The vertex announces its new version on every trained link; each takes the lower MINOR, and a changed MAJOR takes it
down (R363, R433). -/
def announceAll (s : State) (major minor : Nat) (changed : Bool) : List Nat → State
  | [] => s
  | p :: r =>
    announceAll (if (s.fabPort p).trained then
        let s1 := s.emit (.announce p s.ident.number.toNat major minor)
        if changed then linkDownEff s1 p
        else s1.modFabPort p fun q => { q with linkMinor := BitVec.ofNat 8 (min minor q.peerMinor.toNat) }
      else s) major minor changed r

end Sys2Proof.Machine
end

