-- ==== Sys2Proof/Machine/Vertex.lean ====
section
/-! DEFINITION. The vertex: links (R360 to R363), requests that arrive from other devices (R365 to
R372), windows and the fabric commands (R307 to R310), function memory ranges (R357) and the patrol
scrub (R354). -/

namespace Sys2Proof.Machine

/-! ### Links (R361 to R363) -/

/-- LINK_DOWN (R362). -/
def execLinkDown (port : Nat) (s : State) : Host.Outcome State Fault Refusal :=
  if Instr.wf (.linkDown port) then doneIf (s.live && (s.fabPort port).trained) s (linkDownEff s port)
  else done s

/-- A port may train (R361, R457). -/
def mayTrain (s : State) (p : Nat) : Bool :=
  s.ident.numberValid && s.vertex.portEnable.getLsbD p && !(s.fabPort p).trained && !s.test.loops.contains (0, p)

/-- An attempt of a port to train: it announces its device number, port number and protocol version, and tries again
1 ms later at the earliest (R361, R362). -/
def attemptEff (s : State) (p : Nat) : State :=
  (s.modFabPort p fun q => { q with attempting := true, nextAttempt := s.now + 1000000 }).emit
    (.announce p s.ident.number.toNat s.vertex.protoMajor.toNat s.vertex.protoMinor.toNat)

/-- LINK_TRAIN_ATTEMPT (R361, R362). -/
def execLinkTrainAttempt (port : Nat) (s : State) : Host.Outcome State Fault Refusal :=
  if Instr.wf (.linkTrainAttempt port) then
    doneIf (s.live && mayTrain s port && decide ((s.fabPort port).nextAttempt ≤ s.now)) s (attemptEff s port)
  else done s

/-- A training attempt ends: refused for its MAJOR version, or complete (R361 to R363, R375). -/
def linkUpEff (s : State) (p width major minor dev peer : Nat) : State :=
  if major ≠ s.vertex.protoMajor.toNat then
    (s.modFabPort p fun q => { q with versionRefused := true, attempting := false }).setVertexCause 3
  else
    let s1 := s.modFabPort p fun q =>
      { q with
        trained := true, width := BitVec.ofNat 2 width, versionRefused := false, attempting := false, replaysInRow := 0
        linkMinor := BitVec.ofNat 8 (min minor s.vertex.protoMinor.toNat), peerMinor := BitVec.ofNat 8 minor
        peerDevice := BitVec.ofNat 10 dev, peerPort := BitVec.ofNat 3 peer
        txSeq := 0, rxSeq := 0, credits := (upTo 4).map Config.linkCredits }
    let s2 := (clearMark s1 dev).setVertexCause 1
    settleHeld (if width = 0 then s2 else s2.setVertexCause 2)

/-- LINK_UP (R361): the link has trained at a WIDTH code; the peer has said who it is. -/
def execLinkUp (port width major minor peerDevice peerPort : Nat) (s : State) : Host.Outcome State Fault Refusal :=
  if Instr.wf (.linkUp port width major minor peerDevice peerPort) then
    doneIf (s.live && (s.fabPort port).attempting && mayTrain s port) s
      (linkUpEff s port width major minor peerDevice peerPort)
  else done s

/-- A peer announces its version on a trained link (R363). -/
def announceEff (s : State) (p major minor : Nat) : State :=
  if major ≠ s.vertex.protoMajor.toNat then linkDownEff s p
  else s.modFabPort p fun q =>
    { q with linkMinor := BitVec.ofNat 8 (min minor s.vertex.protoMinor.toNat), peerMinor := BitVec.ofNat 8 minor }

/-- VERSION_ANNOUNCE (R363). -/
def execVersionAnnounce (port major minor : Nat) (s : State) : Host.Outcome State Fault Refusal :=
  if Instr.wf (.versionAnnounce port major minor) then
    doneIf (s.live && (s.fabPort port).trained) s (announceEff s port major minor)
  else done s

/-- FLIT_ARRIVAL (R360). -/
def execFlitArrival (port : Nat) (head : FlitHead) (decoded crcOk : Bool) (s : State) : Host.Outcome State Fault Refusal :=
  if Instr.wf (.flitArrival port head decoded crcOk) then
    doneIf (s.live && (s.fabPort port).trained) s (flitEff s port head decoded crcOk)
  else done s

/-! ### Requests from other devices -/

/-- A response leaves by this device's own routing table (R365, R370). -/
def reply (s : State) (h : FabHdr) (status : Nat) (data : Bytes) (poison : Bool) : State :=
  match routePort s h.source with
  | none => s
  | some _ =>
    s.emit (.fabric 8
      { reqHdr s h.vc h.source h.tag { length := data.length, poison := poison } with status := status } data)

/-- STATUS codes of a response (R370). -/
def rsOk : Nat := 0
def rsNotPermitted : Nat := 1
def rsNotFound : Nat := 2
def rsBusy : Nat := 3
def rsStale : Nat := 4
def rsPoison : Nat := 5
def rsRefused : Nat := 6
def rsUnsupported : Nat := 7

/-- Device d reads a window (R307, R368). -/
def Window.readable (w : Window) (d : Nat) : Bool := match w.readers with | none => true | some m => m.testBit d

/-- An exported window that allows a request and in which its bytes lie wholly, if the requester reads it (R367). -/
def windowFor (s : State) (h : FabHdr) (n : Nat) (allows : Nat × Window → Bool) : Option (Nat × Window) :=
  if addrDevice h.address ≠ s.ident.number.toNat then none
  else
    let a := h.address % 2 ^ 42
    s.vertex.windows.find? fun w =>
      w.2.readable h.source && decide (w.2.base ≤ a ∧ a + n ≤ w.2.base + w.2.bytes) && allows w

/-- Job windows, which alone take a WRITE or a registration (R307, R372). -/
def jobWindow (s : State) (h : FabHdr) (n : Nat) (allows : Nat × Window → Bool) : Option (Nat × Window) :=
  windowFor s h n fun w => w.2.writable && allows w

/-- 1 to 4,096 bytes within one 4 KiB block (R371). -/
def blockOk4k (h : FabHdr) : Bool := decide (1 ≤ h.length ∧ h.address % 4096 + h.length ≤ 4096)

def readEff (s : State) (h : FabHdr) : State :=
  match blockOk4k h, windowFor s h h.length fun _ => true with
  | true, some _ =>
    let a := h.address % 2 ^ 42
    let r := localRead s a h.length
    reply (localReadEff s a h.length) h rsOk r.1 r.2
  | _, _ => reply s h rsNotPermitted [] false

/-- READ (R371). -/
def execRead (hdr : FabHdr) (s : State) : Host.Outcome State Fault Refusal :=
  doneIf (s.live && forMe s hdr) s (readEff (noteMinor s hdr) hdr)

/-- A sink write whose generation is not the registered one is discarded (R372). -/
def staleWrite (s : State) (h : FabHdr) (w : Window) : State :=
  let s1 := ({ s with vertex := { s.vertex with staleDrops := addWrap s.vertex.staleDrops 1 } }).setVertexCause 6
  reply (staleDrop s1 w.owner) h rsStale [] false

/-- The generation of a sink write is the one registered for its pair (R372). -/
def writeCurrent (s : State) (h : FabHdr) (w : Nat × Window) : Bool :=
  !h.sink || regFind s (w.1, h.sinkId) == some (BitVec.ofNat 16 h.generation)

def writeEff (s : State) (h : FabHdr) (data : Bytes) : State :=
  if !blockOk4k h || data.length != h.length then reply s h rsNotPermitted [] false
  else match jobWindow s h h.length (writeCurrent s h), jobWindow s h h.length fun _ => true with
  | some _, _ =>
    let r := localWrite s (h.address % 2 ^ 42) data h.poison
    reply r.1 h (if r.2 then rsOk else rsPoison) [] false
  | none, some w => staleWrite s h w.2
  | none, none => reply s h rsNotPermitted [] false

/-- WRITE (R371, R372). -/
def execWrite (hdr : FabHdr) (data : Bytes) (s : State) : Host.Outcome State Fault Refusal :=
  doneIf (s.live && forMe s hdr) s (writeEff (noteMinor s hdr) hdr data)

/-- Room of the device pool for an inbox (R356). -/
def inboxRoom (s : State) (i n : Nat) : Bool := (inboxOf s i).isNone && decide (poolUsed s + n ≤ poolBytes s)

/-- The stream that a MESSAGE names (R370). -/
def messageStream (s : State) (h : FabHdr) : Option Nat :=
  let v := h.address % 2 ^ 32
  let i := streamIndex v
  if (s.stream i).isOpen && s.streamHandle i == v then some i else none

def messageEff (s : State) (h : FabHdr) (data : Bytes) : State :=
  match messageStream s h with
  | none => reply s h rsNotFound [] false
  | some i =>
    if h.length = 0 || data.length ≠ h.length || 2 ^ 32 ≤ h.length then reply s h rsNotPermitted [] false
    else if h.poison then reply s h rsPoison [] false
    else if !inboxRoom s i data.length then reply s h rsBusy [] false
    else
      let s1 := { s with vertex := { s.vertex with
        inbox := s.vertex.inbox ++ [(s.streamHandle i, data, h.source, h.tag)] } }
      inboxTake (reply s1 h rsOk [] false) i

/-- MESSAGE (R371): the context reaches the inbox of its stream, and the target restores it (R181). -/
def execMessage (hdr : FabHdr) (data : Bytes) (s : State) : Host.Outcome State Fault Refusal :=
  doneIf (s.live && forMe s hdr) s (messageEff (noteMinor s hdr) hdr data)

/-- An image of an identity in an immutable-object window that a device reads: its address and length
(R371). -/
def findObject (s : State) (d : Nat) (id : Bytes) : Option (Nat × Nat) :=
  s.vertex.windows.findSome? fun w =>
    if !w.2.writable && w.2.readable d then
      (w.2.images.find? fun q => q.1 == id).map fun q => (w.2.base + q.2.1, q.2.2)
    else none

def fetchEff (s : State) (h : FabHdr) (id : Bytes) : State :=
  if h.address % 2 ^ 20 ≠ 0 || h.length = 0 || 2 ^ 20 < h.length then reply s h rsNotPermitted [] false
  else match findObject s h.source id with
  | none => reply s h rsNotFound [] false
  | some (a, n) =>
    let m := min h.length (n - h.address)
    let r := localRead s (a + h.address) m
    reply (localReadEff s (a + h.address) m) h rsOk r.1 r.2

/-- FETCH_OBJECT (R371). -/
def execFetchObject (hdr : FabHdr) (identity : Bytes) (s : State) : Host.Outcome State Fault Refusal :=
  doneIf (s.live && forMe s hdr) s (fetchEff (noteMinor s hdr) hdr identity)

def registerEff (s : State) (h : FabHdr) : State :=
  match jobWindow s h 1 fun _ => true with
  | none => reply s h rsNotPermitted [] false
  | some w =>
    let r := regPut s (w.1, h.sinkId) (BitVec.ofNat 16 h.generation)
    reply r.1 h (if r.2 then rsOk else rsRefused) [] false

/-- REGISTER (R372). -/
def execRegister (hdr : FabHdr) (s : State) : Host.Outcome State Fault Refusal :=
  doneIf (s.live && forMe s hdr) s (registerEff (noteMinor s hdr) hdr)

def deregisterEff (s : State) (h : FabHdr) : State :=
  match jobWindow s h 1 fun _ => true with
  | none => reply s h rsNotPermitted [] false
  | some w => reply (regDrop s (w.1, h.sinkId) (BitVec.ofNat 16 h.generation)) h rsOk [] false

/-- DEREGISTER (R372). -/
def execDeregister (hdr : FabHdr) (s : State) : Host.Outcome State Fault Refusal :=
  doneIf (s.live && forMe s hdr) s (deregisterEff (noteMinor s hdr) hdr)

/-- Where window `w` of this device stands for device d: its base and kind, or a response STATUS
(R308). -/
def windowInfo (s : State) (d w : Nat) : Except Nat (Nat × Bool) :=
  match s.vertex.windows.find? fun q => q.1 == w with
  | none => .error rsNotFound
  | some q => if q.2.readable d then .ok (s.ident.number.toNat * 2 ^ 42 + q.2.base, q.2.writable) else .error rsNotPermitted

/-- A PROBE is answered OK (R371). One whose ADDRESS is window number plus one asks for that window (R308,
log 18). -/
def probeEff (s : State) (h : FabHdr) : State :=
  if h.address = 0 then reply s h rsOk [] false
  else match windowInfo s h.source (h.address - 1) with
  | .error st => reply s h st [] false
  | .ok (a, wr) =>
    match routePort s h.source with
    | none => s
    | some _ => s.emit (.fabric 8 { reqHdr s h.vc h.source h.tag { address := a, sink := wr } with status := 0 } [])

/-- PROBE (R371). -/
def execProbe (hdr : FabHdr) (s : State) : Host.Outcome State Fault Refusal :=
  doneIf (s.live && forMe s hdr) s (probeEff (noteMinor s hdr) hdr)

/-- A request or response in transit (R365). -/
def forwardEff (s : State) (h : FabHdr) (type : Nat) (data : Bytes) : State :=
  match decide (h.hops ≤ 1), routePort s h.dest with
  | false, some p => s.emit (.forwarded type p { h with hops := h.hops - 1 } data)
  | _, _ => ({ s with vertex := { s.vertex with hopDrops := addSat s.vertex.hopDrops 1 } }).setVertexCause 7

/-- TYPEs of R370. -/
def typeKnown (type : Nat) : Bool := decide (1 ≤ type ∧ type ≤ 8)

/-- FABRIC_FORWARD (R365): a packet in transit, or one for this device of a TYPE that it does not know, which is
answered UNSUPPORTED (R371). -/
def execFabricForward (hdr : FabHdr) (type : Nat) (data : Bytes) (s : State) : Host.Outcome State Fault Refusal :=
  if forMe s hdr then doneIf (s.live && !typeKnown type) s (reply (noteMinor s hdr) hdr rsUnsupported [] false)
  else doneIf s.live s (forwardEff s hdr type data)

/-! ### Windows (R307, R308, R357, R368, R369) -/

/-- The images of an immutable-object window, from offset `o` on: identity, offset and length. The first
argument bounds their number. -/
def indexImages (s : State) (base size : Nat) : Nat → Nat → List (Bytes × Nat × Nat)
  | 0, _ => []
  | k + 1, o =>
    let hd := localRead s (base + o) 248
    let n := rd hd.1 8 8
    if size < o + 248 || hd.2 || rd hd.1 0 4 ≠ 0x554D4431 || size < o + n then []
    else
      let b := localRead s (base + o) n
      match costsEnd b.1 with
      | none => []
      | some e => if b.2 then [] else (sm3 (b.1.take e), o, n) :: indexImages s base size k (alignUp 4096 (o + n))

/-- A window is withdrawn, and its registrations are freed (R369). -/
def withdraw (s : State) (w : Nat) : State :=
  { s with vertex := { s.vertex with
    windows := s.vertex.windows.filter (fun q => q.1 != w), regs := s.vertex.regs.filter fun q => q.1.1 != w } }

/-- The export of a window once its readers are known (R307, R368). -/
def exportNow (s : State) (c : Cmd) (readers : Option Nat) : State :=
  let a := c.f 24 8 % 2 ^ 42
  let n := c.f 32 8
  let wr := c.f 16 1 == 1
  let w := gapFrom 0 (sortNat (s.vertex.windows.map (·.1)))
  if 4096 ≤ w then fail s c.cid stNoResource
  else
    let im := if wr then [] else indexImages s a n (n / 4096 + 1) 0
    let win : Window := { owner := c.partition, writable := wr, base := a, bytes := n, readers := readers, images := im }
    finish { s with vertex := { s.vertex with windows := s.vertex.windows ++ [(w, win)] } } c.cid stOk
      (min 0xFFFF im.length) w

def windowExportEff (c : Cmd) (s : State) : State :=
  if !c.only [(16, 1), (24, 24)] || 1 < c.f 16 1 then fail s c.cid stInvalidParameter
  else if c.object ≠ 0 then
    if c.f 32 8 ≠ 0 then fail s c.cid stInvalidParameter
    else if s.vertex.windows.any fun q => q.1 + 1 == c.object && q.2.owner == c.partition then
      fail (withdraw s (c.object - 1)) c.cid stOk
    else fail s c.cid stNotFound
  else if addrSpace (c.f 24 8) ≠ 1 || !addrValid (c.f 24 8) || c.f 24 8 % 4096 ≠ 0 || c.f 32 8 % 4096 ≠ 0 then
    fail s c.cid stInvalidParameter
  else if !mayName s c.fn (c.f 24 8) (c.f 32 8) false then fail s c.cid stNotPermitted
  else if c.f 40 8 = 0 then exportNow s c none
  else withStruct s c (c.f 40 8) 128 false fun s b => exportNow s c (some (leNat b))

/-- WINDOW_EXPORT (R307). -/
def execWindowExport (cid : Nat) (s : State) : Host.Outcome State Fault Refusal := onCmd s cid 0x50 windowExportEff

def windowImportEff (c : Cmd) (s : State) : State :=
  let d := c.f 16 2
  let w := c.f 18 2
  if !c.only [(16, 4)] || 1023 < d then fail s c.cid stInvalidParameter
  else if d = s.ident.number.toNat then
    match windowInfo s d w with
    | .error st => fail s c.cid (respStatus st)
    | .ok (a, wr) => finish s c.cid stOk (b2n wr) a
  else
    let q := issueReq s 7 d false { address := w + 1 } (.windowImport c.cid)
    if q.2 then q.1 else fail q.1 c.cid stFabricUnreachable

/-- WINDOW_IMPORT (R308). -/
def execWindowImport (cid : Nat) (s : State) : Host.Outcome State Fault Refusal := onCmd s cid 0x51 windowImportEff

/-- The range would overlap another valid one or leave function memory (R357). -/
def rangeRefused (s : State) (i : Nat) (r : LocalRange) : Bool :=
  decide (functionTop s < r.hi) ||
  (upTo 256).any fun j =>
    let q := s.rangeOf j
    j != i && q.valid && decide (q.lo < r.hi ∧ r.lo < q.hi)

/-- Windows that lie in a range are withdrawn (R357). -/
def withdrawIn (s : State) (r : LocalRange) : State :=
  (s.vertex.windows.filter fun w => decide (r.lo ≤ w.2.base ∧ w.2.base + w.2.bytes ≤ r.hi)).foldl
    (fun s w => withdraw s w.1) s

/-- A range loses its VALID bit: the record of who held the memory last, for functions other than the PF. -/
def noteHeld (s : State) (r : LocalRange) : State :=
  if r.function = 0 then s
  else { s with memc := { s.memc with held := s.memc.held ++ [(r.function.toNat, r.lo, r.hi)] } }

/-- A write of LOCAL_RANGE[i] (R357, R379). -/
def rangeWrite (s : State) (i : Nat) (sizeReg : Bool) (v : Nat) : State :=
  let old := s.rangeOf i
  let put (r : LocalRange) : State := { s with ranges := tabSet {} s.ranges i r }
  if sizeReg then (if old.valid then s else put { old with size := BitVec.ofNat 21 (bits v 41 21) })
  else if old.valid then
    (if bitAt v 0 then s else withdrawIn (noteHeld (put { old with valid := false }) old) old)
  else
    let r := { old with valid := bitAt v 0, function := BitVec.ofNat 6 (bits v 6 1), base := BitVec.ofNat 21 (bits v 41 21) }
    if r.valid && rangeRefused s i r then s.setMemCause 5 else put r

/-- LOCAL_RANGE_WRITE (R357). -/
def execLocalRangeWrite (index : Nat) (sizeReg : Bool) (value : Word64) (s : State) :
    Host.Outcome State Fault Refusal :=
  if Instr.wf (.localRangeWrite index sizeReg value) then doneIf s.live s (rangeWrite s index sizeReg value.toNat)
  else done s

/-! ### COPY (R309) and FABRIC_STATUS (R310) -/

/-- Where bytes named by an ADDR are: a PCIe bus address, or a device and its local address. -/
def place (s : State) (f v : Nat) : Nat × Nat :=
  if addrSpace v = 0 then (0, addrBits v)
  else if addrRemote s v then (addrDevice v + 2, v % 2 ^ 42)
  else match regionOf s (v % 2 ^ 42) with
    | .host _ off => (0, busAddr s f off)
    | _ => (1, v % 2 ^ 42)

/-- Source and destination of a COPY overlap (R309). -/
def copyOverlaps (s : State) (c : Cmd) : Bool :=
  let a := place s c.fn (c.f 16 8)
  let b := place s c.fn (c.f 24 8)
  let n := c.f 32 8
  a.1 == b.1 && decide (a.2 < b.2 + n ∧ b.2 < a.2 + n)

/-- The destination lies in an immutable-object window of this device (R309). -/
def intoObject (s : State) (c : Cmd) : Bool :=
  let v := c.f 24 8
  !addrRemote s v && addrSpace v != 0 &&
  s.vertex.windows.any fun w => !w.2.writable &&
    decide (w.2.base < v % 2 ^ 42 + c.f 32 8 ∧ v % 2 ^ 42 < w.2.base + w.2.bytes)

/-- The source of a COPY is reached over PCIe: its bus address. -/
def copyBus (s : State) (c : Cmd) : Option Nat :=
  let p := place s c.fn (c.f 16 8)
  if p.1 = 0 then some p.2 else none

/-- Reads of `ps` from the host for a COPY, while tags are free; the rest waits (R441). -/
def askCopy (s : State) (c : Cmd) : List (Nat × Nat) → State
  | [] => s.modCmd c.cid fun e => { e with rest := [] }
  | (a, n) :: r =>
    match nextPcieTag s with
    | none => s.modCmd c.cid fun e => { e with rest := (a, n) :: r }
    | some t =>
      askCopy { s with pcieReads := s.pcieReads ++
        [{ tag := t, fn := c.fn, addr := a, len := n, since := s.now, purpose := .copy c.cid }] } c r

/-- Pieces of a COPY within the device, one after another; a poisoned piece ends it (R309). Which of the
other pieces are copied before that is open (log 9). -/
def copyLocal (s : State) (c : Cmd) : List (Nat × Nat) → State
  | [] => s
  | (a, n) :: r =>
    match s.cmd c.cid with
    | none => s
    | some e =>
      let q := addrRead s (c.f 16 8 + (a - addrBits (c.f 16 8))) n
      copyLocal (copyWritePiece (localReadEff s (a % 2 ^ 42) n) e (a - addrBits (c.f 16 8)) q.1) c r

/-- A piece of the source is poisoned. -/
def pieceBad (s : State) (c : Cmd) (p : Nat × Nat) : Bool := (addrRead s (c.f 16 8 + (p.1 - addrBits (c.f 16 8))) p.2).2

/-- A COPY of a source on this device, in the pieces `ps`. With a poisoned piece, an open choice of the
others is copied before the command fails (R309, log 9). -/
def copyHere (s : State) (c : Cmd) (ps : List (Nat × Nat)) : State :=
  if ps.any (pieceBad s c) then
    let some_ := (ps.zip (upTo ps.length)).filter fun q =>
      !pieceBad s c q.1 && decide (Config.freeNat (s.freeCtr + q.2) % 2 = 1)
    let s1 := (s.used ps.length).modCmd c.cid fun e => { e with wanting := ps.length }
    failCopy (copyLocal s1 c (some_.map (·.1))) c.cid stPoisonedData
  else copyLocal (s.modCmd c.cid fun e => { e with wanting := ps.length }) c ps

def copyEff (c : Cmd) (s : State) : State :=
  let src := c.f 16 8
  let n := c.f 32 8
  if !c.only [(16, 24)] || !addrValid src || !addrValid (c.f 24 8) || copyOverlaps s c then
    fail s c.cid stInvalidParameter
  else if !mayName s c.fn src n true || !mayName s c.fn (c.f 24 8) n false || intoObject s c then
    fail s c.cid stNotPermitted
  else if memLooped s src n || memLooped s (c.f 24 8) n then fail s c.cid stBusy
  else if n = 0 then finish s c.cid stOk 0 0
  else
    let s1 := s.modCmd c.cid fun e => { e with final := some (stOk, 0, 0) }
    if addrRemote s src then
      let ps := blocks (addrBits src) n
      let q := issueReads s1 src (fun _ => .copyRead c.cid) ps
      if q.2 then q.1.modCmd c.cid fun e => { e with wanting := ps.length } else failCopy q.1 c.cid stFabricUnreachable
    else match copyBus s c with
    | some a =>
      let ps := tlps s.pcie.maxRead a n
      (askCopy s1 c ps).modCmd c.cid fun e => { e with wanting := ps.length }
    | none => copyHere s1 c (blocks (addrBits src) n)

/-- COPY (R309). -/
def execCopy (cid : Nat) (s : State) : Host.Outcome State Fault Refusal := onCmd s cid 0x52 copyEff

/-- RESULT of FABRIC_STATUS (R310). -/
def fabricResult (s : State) : Nat :=
  let up := (upTo 8).filter fun p => (s.fabPort p).trained
  sumN (up.map (2 ^ ·)) + 2 ^ 8 * sumN ((up.filter fun p => (s.fabPort p).width ≠ 0).map (2 ^ ·)) +
  2 ^ 16 * s.ident.number.toNat + 2 ^ 31 * b2n s.ident.numberValid

/-- The mask of devices to which the routing table holds a live route (R310). -/
def routeMask (s : State) : Bytes :=
  toLE 128 (sumN (((upTo 1024).filter fun d => d != s.ident.number.toNat && (routePort s d).isSome).map (2 ^ ·)))

def fabricStatusEff (c : Cmd) (s : State) : State :=
  let v := c.f 16 8
  if !c.only [(16, 8)] || !addrValid v then fail s c.cid stInvalidParameter
  else if v = 0 then finish s c.cid stOk 0 (fabricResult s)
  else if !mayName s c.fn v 128 false then fail s c.cid stNotPermitted
  else writeOut s c v (routeMask s) stOk 0 (fabricResult s)

/-- FABRIC_STATUS (R310). -/
def execFabricStatus (cid : Nat) (s : State) : Host.Outcome State Fault Refusal := onCmd s cid 0x53 fabricStatusEff

/-! ### SCRUB_PASS (R354) -/

/-- The sectors that a pass of the scrub corrects (`e` = 1) or finds uncorrectable: those that the command lists and
those with flipped bits. -/
def scrubbed (s : State) (e : Nat) (listed : List Nat) : List Nat :=
  let ks := listed ++ ((s.memc.flips.filter fun q => (q.2 == 1) == (e == 1)).map (·.1)).filter fun k => !listed.contains k
  ks.filter fun k => decide (32 * k + 32 ≤ usable s)

/-- The object of the device that lies in an uncorrectable sector holds poison from then on: an image in the T2 region,
state slots in the device pool. Which one, if any, lies there is open (R389, R392, log 9). -/
def poisonObject (s : State) (k : Nat) : State :=
  let t2 := usable s - s.cache.t2Gib.toNat * 2 ^ 30
  let away := (s.streams.filter fun kv => kv.2.isOpen && kv.2.resid == .awayLpddr).map (·.1)
  if t2 ≤ 32 * k then
    ({ s with t2 := (s.t2.zip (upTo s.t2.length)).map fun (q : T2Copy × Nat) =>
        if q.2 = s.free % (s.t2.length + 1) then { q.1 with poison := true } else q.1 }).used 1
  else if functionTop s ≤ 32 * k then
    (match away[s.free % (away.length + 1)]? with
     | some i => s.modStream i fun t => { t with poison := true }
     | none => s).used 1
  else s

/-- One pass of the patrol scrub over the usable sectors (R354). -/
def scrubEff (s : State) (corrected uncorrectable : List Nat) : State :=
  let bad := scrubbed s 2 uncorrectable
  let s1 := bad.foldl poisonObject (bad.foldl loseSector ((scrubbed s 1 corrected).foldl correctSector s))
  { s1 with memc := { s1.memc with scrubPasses := addSat s1.memc.scrubPasses 1, flips := [], scrubAt := s.now } }

/-- A pass ends once in each INTERVAL_H hours (R354). -/
def scrubDue (s : State) : Bool :=
  s.memc.scrubH != 0 && decide (s.memc.scrubAt + s.memc.scrubH.toNat * 3600000000000 ≤ s.now)

/-- SCRUB_PASS (R354): a pass ends, in which the listed sectors were corrected or found uncorrectable. -/
def execScrubPass (corrected uncorrectable : List Nat) (s : State) : Host.Outcome State Fault Refusal :=
  doneIf (s.live && s.memc.trained && s.memc.inlineEcc && scrubDue s) s (scrubEff s corrected uncorrectable)

end Sys2Proof.Machine
end

