-- ==== Sys2Proof/Machine/Firmware.lean ====
section
/-! DEFINITION. Firmware packages, their verification and the firmware slots (R421 to R426), and the
measurement registers (R427). -/

namespace Sys2Proof.Machine

/-! ### Measurement (R427) -/

/-- MR_i (R427). -/
def mrOf (s : State) (i : Nat) : Bytes :=
  let b := tabGet [] s.sec.mrs i
  if b.isEmpty then zeros 32 else b

/-- Measure a value: MR_i becomes SM3 of MR_i and the value (R427). -/
def measureMr (s : State) (i : Nat) (v : Bytes) : State :=
  { s with sec := { s.sec with mrs := tabSet [] s.sec.mrs i (sm3 (mrOf s i ++ v)) } }

/-- Measure values in order. -/
def measureAll (s : State) (i : Nat) : List Bytes → State
  | [] => s
  | v :: r => measureAll (measureMr s i v) i r

/-- The current owner key digest: the highest programmed row, 32 zero bytes when unowned (R421). -/
def ownerDigest (s : State) : Bytes := s.sec.ownerRows.getLast?.getD (zeros 32)

def owned (s : State) : Bool := !s.sec.ownerRows.isEmpty

/-- What the ROM measures into MR0 (R427). -/
def measureRom (s : State) : State :=
  measureAll s 0 [s.sec.made.vendorRom, ownerDigest s, toLE 1 s.sec.policy.toNat, toLE 1 s.sec.counter.toNat]

/-! ### Packages (R423, R424) -/

/-- BODY_BYTES of the image at an offset of a package (R423). -/
def fwBody (b : Bytes) (o : Nat) : Nat := rd b (o + 16) 8

/-- Offset of the image after the one at `o`: the next 4 KiB boundary. -/
def fwNext (b : Bytes) (o : Nat) : Nat := alignUp 4096 (o + 256 + fwBody b o)

/-- Offsets of the three images: first stage, crown main, culet. -/
def fwOffsets (b : Bytes) : List Nat := [0, fwNext b 0, fwNext b (fwNext b 0)]

/-- The 256-byte header of an image. -/
def fwHeader (b : Bytes) (o : Nat) : Bytes := slice b o 256

/-- The signer key equals both copies of the vendor root digest (R421). -/
def vendorKey (s : State) (k : Bytes) : Bool := sm3 k == s.sec.made.vendorRom && sm3 k == s.sec.made.vendorFuse

/-- The signer is the vendor root and its signature covers bytes 0 to 127 of the header (R421, R423). -/
def fwSigned (s : State) (b : Bytes) (o : Nat) : Bool :=
  vendorKey s (slice b (o + 128) 64) && blockOk (slice b (o + 128) 128) (sm3 (slice b o 128))

/-- MAGIC, KIND and BODY_DIGEST of image `i` (R424). -/
def fwIntact (b : Bytes) (i : Nat) : Bool :=
  let o := (fwOffsets b).getD i 0
  decide (o + 256 + fwBody b o ≤ b.length) && rd b o 4 == 0x55465731 && rd b (o + 4) 1 == i + 1 &&
  slice b (o + 24) 32 == sm3 (slice b (o + 256) (fwBody b o))

/-- SVN, ROLLBACK_FLOOR, FW_VERSION and the protocol version of an image, which the three share. -/
def fwShared (b : Bytes) (o : Nat) : List Nat := [rd b (o + 5) 1, rd b (o + 6) 1, rd b (o + 8) 4, rd b (o + 14) 2]

/-- How a package verifies (R424). -/
inductive FwCheck where
  | ok
  /-- MAGIC, KIND, length, BODY_DIGEST or the fields that the images share. -/
  | digest
  /-- The signer key or the signature. -/
  | signature
  /-- The counter test alone. -/
  | rollback
deriving DecidableEq, Repr

/-- Verification of a package against the anti-rollback counter (R424). -/
def fwCheck (s : State) (b : Bytes) : FwCheck :=
  let os := fwOffsets b
  if !((upTo 3).all (fwIntact b)) || 2 ^ 25 < b.length || !(os.all fun o => fwShared b o == fwShared b 0) then .digest
  else if !(os.all fun o => fwSigned s b o) then .signature
  else if (os.any fun o => decide (rd b (o + 5) 1 < s.sec.counter.toNat)) then .rollback
  else .ok

/-- The header fields that the device uses (R423). -/
def fwInfo (b : Bytes) : FwInfo :=
  let o := (fwOffsets b).getD 1 0
  { version := BitVec.ofNat 32 (rd b 8 4), protoMajor := BitVec.ofNat 8 (rd b 14 1)
    protoMinor := BitVec.ofNat 8 (rd b 15 1), floor := rd b 6 1, crownHeader := fwHeader b o }

/-- LEVEL_MAJOR.LEVEL_MINOR of every image equals REVISION (R314, R426). -/
def fwLevelOk (b : Bytes) : Bool :=
  (fwOffsets b).all fun o => rd b (o + 12) 1 == Config.contractMajor && rd b (o + 13) 1 == Config.contractMinor

/-! ### Slots (R425) -/

/-- A firmware slot: an area of flash, or of crown-reserved LPDDR5X under host boot (R425). -/
def slotOf (s : State) (b : Bool) : Bytes :=
  if s.sec.hostBoot then (if b then s.sec.hostB else s.sec.hostA) else (if b then s.sec.slotB else s.sec.slotA)

/-- Write a firmware slot. -/
def setSlot (s : State) (b : Bool) (v : Bytes) : State :=
  { s with sec :=
    if s.sec.hostBoot then (if b then { s.sec with hostB := v } else { s.sec with hostA := v })
    else (if b then { s.sec with slotB := v } else { s.sec with slotA := v }) }

/-- Write the control record (R425). -/
def setControl (s : State) (b : Bool) : State :=
  { s with sec := if s.sec.hostBoot then { s.sec with hostControl := b } else { s.sec with control := b } }

end Sys2Proof.Machine
end

