-- ==== Sys2Proof/Machine/Reset.lean ====
section
/-! DEFINITION. Resets (R407 to R411, R440, R450): what each reaches, and the commands that cause one:
pins, RESET_CONTROL, MCTP, function-level reset, VF Enable, D3hot, REFCLK and THERMTRIP. -/

namespace Sys2Proof.Machine

/-! ### What a warm reset reaches (R407) -/

/-- The interrupt page of a function returns to its reset value; its MSI-X table is kept (R407). -/
def FuncPage.warm (p : FuncPage) : FuncPage :=
  { msixAddr := p.msixAddr, msixData := p.msixData, msixMask := p.msixMask }

/-- Memory that valid ranges assign to functions other than the PF (R411). -/
def heldRanges (s : State) : List (Nat × Nat × Nat) :=
  (s.ranges.filter fun kv => kv.2.valid && decide (kv.2.function ≠ 0)).map fun kv => (kv.2.function.toNat, kv.2.lo, kv.2.hi)

/-- Every item that a warm reset reaches is at its reset value (R407, R411). -/
def wiped (s : State) (cause : BitVec 4) : State :=
  { mode := s.mode
    ident := { trayPos := s.ident.trayPos, bootSel := s.ident.bootSel
               number := BitVec.ofNat 10 s.ident.trayPos.toNat, cycleCount := s.ident.cycleCount }
    pins := { s.pins with fatalInt := false }
    clk := { refclkOk := s.clk.refclkOk, rootLocked := s.clk.rootLocked, audio24 := s.clk.audio24
             audio22 := s.clk.audio22, pcieRefOk := s.clk.pcieRefOk, resetCause := cause
             alert := s.pins.pmbAlertLow, gpioIn := s.clk.gpioIn }
    sec := { made := s.sec.made, ownerRows := s.sec.ownerRows
             policy := s.sec.policy, counter := s.sec.counter, slotA := s.sec.slotA
             slotB := s.sec.slotB, control := s.sec.control, hostA := s.sec.hostA, hostB := s.sec.hostB
             hostControl := s.sec.hostControl }
    fatal := s.fatal
    pcie := { s.pcie with bar2Gib := 0, l0pAllow := false, l1Allow := true, l1IdleUs := 100 }
    memc := { stored := s.memc.stored, retention := s.memc.retention, trainFailed := s.memc.trainFailed
              held := s.memc.held ++ heldRanges s, flips := s.memc.flips }
    vertex := { noted := s.sent.length, captures := s.vertex.captures }
    test := { testState := s.test.testState }
    funcs := tabMapV {} s.funcs fun _ p => p.warm
    mem := s.mem, poison := s.poison
    hostMem := s.hostMem, hostPoison := s.hostPoison, hostBroken := s.hostBroken
    sent := s.sent, freeCtr := s.freeCtr, nextCid := s.nextCid, pending := s.pending }

/-- Where the device is once a warm reset is over: held by a pin or by the clock, stopped by
THERMTRIP_N, in the crown ROM, or, in the test state, training LPDDR5X (R406, R409, R413, R452). -/
def afterReset (s : State) : Mode :=
  if s.pins.perstLow || s.pins.refclkLost then .held
  else if s.pins.thermtrip then .tripped
  else if s.test.testState then .training
  else .rom

/-- The crown ROM starts, unless a pin or the clock holds the reset: it loads the fuses, derives the identity key
and measures (R413, R421, R427). -/
def romStarts (s : State) : State :=
  if afterReset s = .held then { s with mode := .held }
  else measureRom { s with mode := afterReset s, sec := { s.sec with idKeySet := true } }

/-- A warm reset with a RESET_RECORD cause (R408, R409). -/
def warmReset (s : State) (cause : BitVec 4) : State := romStarts (wiped s cause)

/-- A warm reset acts now: no broader reset and no scan is in progress (R409). -/
def State.resettable (s : State) : Bool :=
  s.mode != .porLow && s.mode != .starting && s.mode != .held && s.mode != .scan

/-! ### Commands that cause one (R408) -/

/-- BAR0 answers in the clocks, power and thermal block (R413). -/
def State.clocksUp (s : State) : Bool := s.resettable && s.pcie.released

/-- A write of RESET_CONTROL (R420). -/
def resetControlEff (s : State) (v : Nat) : State :=
  if bitAt v 0 && bits v 31 16 == Config.warmKey then warmReset s 3 else s

/-- RESET_CONTROL_WARM (R408). -/
def execResetControlWarm (value : Word32) (s : State) : Host.Outcome State Fault Refusal :=
  doneIf (s.clocksUp && !inD3 s 0) s (resetControlEff s value.toNat)

/-- The 7-bit SMBus address of the device (R429). -/
def smbusAddress (s : State) : Nat := 0x60 + s.ident.trayPos.toNat

/-- The warm-reset message for this device (R408, R429). -/
def isWarmReset (s : State) (m : MctpMsg) : Bool :=
  m.address == smbusAddress s && m.type == 0x7E && m.vendor == Config.vendorId && m.command == 1 && m.key == Config.warmKey

/-- MCTP_WARM_RESET (R408, R429). -/
def execMctpWarmReset (msg : MctpMsg) (s : State) : Host.Outcome State Fault Refusal :=
  doneIf (s.resettable && isWarmReset s msg) s (warmReset s 5)

/-- PERST_N also resets the PCIe controller, its configuration space and the MSI-X tables (R407). -/
def perstEff (s : State) : State :=
  { wiped s 2 with
    mode := if s.mode = .scan then .scan else .held
    pins := { s.pins with perstLow := true, fatalInt := false }
    pcie := {}, funcs := [] }

/-- PERST_N (R408): the pin is asserted. -/
def execPerstN (s : State) : Host.Outcome State Fault Refusal :=
  if s.mode = .porLow ∨ s.mode = .starting then done { s with pins := { s.pins with perstLow := true } }
  else done (perstEff s)

/-- The PCIe link comes up at what its partner supports, which the spec leaves open: a rate, a width and,
at 64 GT/s, FLIT mode (R435, R451, log 9). -/
def linkComesUp (s : State) : State :=
  let r := s.free % 6 + 1
  let w := [4, 8, 16].getD (Config.freeNat (s.freeCtr + 1) % 3) 16
  ({ s with pcie := { s.pcie with
    rate := BitVec.ofNat 3 r, width := BitVec.ofNat 5 w, l0pWidth := BitVec.ofNat 5 w, flit := r == 6
    l1 := false, released := true, idleSince := s.now } }).used 2

/-- PERST_N is released: the link comes up and the warm-reset boot goes on (R413). -/
def perstReleaseEff (s : State) : State :=
  let s1 := { s with pins := { s.pins with perstLow := false } }
  if s.mode = .porLow ∨ s.mode = .starting then s1
  else
    let s2 := linkComesUp s1
    if s.mode = .held ∧ !s.pins.refclkLost then romStarts s2 else s2

/-- PERST_N_RELEASE (R413). -/
def execPerstNRelease (s : State) : Host.Outcome State Fault Refusal := doneIf s.pins.perstLow s (perstReleaseEff s)

/-! ### POR_N (R407, R413) -/

/-- POR_N is low: everything is at its reset value but fuses, flash and the outside world (R407). -/
def porLowEff (s : State) : State :=
  { pins := { perstLow := s.pins.perstLow, refclkLost := s.pins.refclkLost, pmbAlertLow := s.pins.pmbAlertLow
              tap := s.pins.tap }
    sec := { made := s.sec.made, ownerRows := s.sec.ownerRows
             policy := s.sec.policy, counter := s.sec.counter, slotA := s.sec.slotA
             slotB := s.sec.slotB, control := s.sec.control }
    memc := { stored := s.memc.stored }
    vertex := { noted := s.sent.length }
    hostMem := s.hostMem, hostPoison := s.hostPoison, hostBroken := s.hostBroken
    sent := s.sent, freeCtr := s.freeCtr, nextCid := s.nextCid, pending := s.pending }

/-- POR_N_ASSERT (R407). -/
def execPorNAssert (s : State) : Host.Outcome State Fault Refusal := done (porLowEff s)

/-- An EXTEST-class instruction (R460). -/
def tapExtest : TapInstr → Bool
  | .extest | .extestPulse | .extestTrain => true
  | _ => false

/-- POR_N is released: straps are sampled and the root PLL starts (R24, R413, R452). -/
def porReleaseEff (s : State) (tray boot : BitVec 2) : State :=
  let m : Mode := if tapExtest s.pins.tap then .scan else .starting
  { s with
    mode := m
    ident := { s.ident with trayPos := tray, bootSel := boot, number := BitVec.ofNat 10 tray.toNat }
    pins := { s.pins with porLow := false, scanFrom := .starting }
    clk := { s.clk with refclkOk := !s.pins.refclkLost, alert := s.pins.pmbAlertLow }
    test := { s.test with testState := decide (boot = 3) } }

/-- POR_N_RELEASE (R413). -/
def execPorNRelease (trayPos bootSel : BitVec 2) (s : State) : Host.Outcome State Fault Refusal :=
  doneIf (s.mode == .porLow) s (porReleaseEff s trayPos bootSel)

/-! ### REFCLK and THERMTRIP (R406, R419) -/

def refclkLossEff (s : State) : State :=
  let s1 := { s with
    pins := { s.pins with refclkLost := true }
    clk := { s.clk with refclkOk := false, rootLocked := false, audio24 := false, audio22 := false } }
  if s.resettable then { wiped s1 s.clk.resetCause with mode := .held } else s1

/-- REFCLK_LOSS (R406): REFCLK is lost or the root PLL loses lock. -/
def execRefclkLoss (s : State) : Host.Outcome State Fault Refusal := done (refclkLossEff s)

/-- The clocks of the root PLL run again. -/
def lockClocks (s : State) : State :=
  { s with clk := { s.clk with refclkOk := true, rootLocked := true, audio24 := true, audio22 := true } }

/-- REFCLK returns and the PLL locks: the warm reset is carried out, but the broader reset of a PERST_N that is low
absorbs it (R406, R409). -/
def refclkReturnEff (s : State) : State :=
  let s1 := { s with pins := { s.pins with refclkLost := false } }
  if s.mode = .held then (if s.pins.perstLow then lockClocks s1 else warmReset (lockClocks s1) 4)
  else if s.mode = .porLow then s1
  else if s.mode = .starting then { s1 with clk := { s1.clk with refclkOk := true } }
  else lockClocks s1

/-- REFCLK_RETURN (R406). -/
def execRefclkReturn (s : State) : Host.Outcome State Fault Refusal := doneIf s.pins.refclkLost s (refclkReturnEff s)

/-- The actions of R395 without FATAL_CAUSE, and THERMTRIP_N latched low (R419). -/
def thermtripEff (s : State) : State := stopDevice { s with pins := { s.pins with thermtrip := true } } .tripped

/-- THERMTRIP (R419): the comparator acts at 110 °C. -/
def execThermtrip (temperature : Int) (s : State) : Host.Outcome State Fault Refusal :=
  if Instr.wf (.thermtrip temperature) then
    if s.resettable then doneIf (decide (110 ≤ temperature)) s (thermtripEff s)
    else doneIf (decide (110 ≤ temperature ∧ s.mode ≠ .porLow)) s { s with pins := { s.pins with thermtrip := true } }
  else done s

/-! ### Function-level reset (R410, R271) -/

/-- Every ring pair of a function is reset: an abort, entries not yet written discarded, those of the commands that have
started among them, and every register of its page at its reset value (R271, R410). -/
def resetRings (s : State) (f : Nat) : State :=
  let s1 := (upTo 16).foldl (fun s r => abortEff s f r) s
  { s1 with
    rings := s1.rings.filter fun kv => kv.1 / 16 != f
    cmds := s1.cmds.map fun c => if c.fn = f then { c with orphaned := true } else c }

/-- Partitions that a function owns. -/
def ownedParts (s : State) (f : Nat) : List Nat := (upTo 128).filter fun k => ownsPart s f k

/-- A function-level reset of one function (R410). On a device that has stopped, no culet resets a partition
(R395, log 58). -/
def flrOne (s : State) (f : Nat) : State :=
  let s1 := if s.live then (ownedParts s f).foldl (fun s k => beginReset s k 7 []) s else s
  let s2 := resetRings s1 f
  { s2 with funcs := tabSet {} s2.funcs f {}
            pcie := { s2.pcie with d3 := s2.pcie.d3.filter (· != f) } }

/-- VFs that exist (R440). -/
def liveVfs (s : State) : List Nat := if s.pcie.vfEnable then (upTo s.pcie.numVfs.toNat).map (· + 1) else []

/-- VF Enable is cleared: a function-level reset of every VF (R440). -/
def vfClear (s : State) : State :=
  let s1 := (liveVfs s).foldl flrOne s
  { s1 with pcie := { s1.pcie with vfEnable := false } }

/-- A function-level reset; that of PF0 clears VF Enable (R410). -/
def flr (s : State) (f : Nat) : State := flrOne (if f = 0 then vfClear s else s) f

/-- FUNCTION_LEVEL_RESET (R410). -/
def execFunctionLevelReset (fn : Nat) (s : State) : Host.Outcome State Fault Refusal :=
  if Instr.wf (.functionLevelReset fn) then doneIf (s.pcie.released && funcExists s fn) s (flr s fn)
  else done s

/-- VF_ENABLE_CLEAR (R440). -/
def execVfEnableClear (s : State) : Host.Outcome State Fault Refusal :=
  doneIf (s.pcie.released && s.pcie.vfEnable) s (vfClear s)

/-- VF_ENABLE_SET (R439, R440): NumVFs is written while VF Enable is 0. -/
def execVfEnableSet (numVfs : Nat) (s : State) : Host.Outcome State Fault Refusal :=
  if Instr.wf (.vfEnableSet numVfs) then
    doneIf (s.pcie.released && !s.pcie.vfEnable) s
      { s with pcie := { s.pcie with vfEnable := true, numVfs := BitVec.ofNat 6 numVfs } }
  else done s

/-- D3HOT_ENTRY (R450). -/
def execD3hotEntry (fn : Nat) (s : State) : Host.Outcome State Fault Refusal :=
  if Instr.wf (.d3hotEntry fn) then
    doneIf (s.pcie.released && funcExists s fn && !inD3 s fn) s
      { s with pcie := { s.pcie with d3 := s.pcie.d3 ++ [fn] } }
  else done s

/-- A D3hot to D0 transition: a warm reset for PF0, whose cause code the spec leaves open (log 9), or a
function-level reset for a VF (R450). -/
def d0Eff (s : State) (f : Nat) : State :=
  let s1 := { s with pcie := { s.pcie with d3 := s.pcie.d3.filter (· != f) } }
  if f = 0 then
    if s.resettable then (warmReset s1 (BitVec.ofNat 4 s.free)).used 1 else s1
  else flr s1 f

/-- D3HOT_TO_D0 (R450). -/
def execD3hotToD0 (fn : Nat) (s : State) : Host.Outcome State Fault Refusal :=
  if Instr.wf (.d3hotToD0 fn) then doneIf (inD3 s fn) s (d0Eff s fn) else done s

end Sys2Proof.Machine
end

