-- ==== Sys2Proof/Machine/Boot.lean ====
section
/-! DEFINITION. Boot (R412 to R414): the root PLL, the first stage and its boot configuration, LPDDR5X
training (R350) and READY. -/

namespace Sys2Proof.Machine

/-! ### The root PLL -/

/-- The PLL locks, CYCLE_COUNT starts and the crown ROM runs; the PCIe controller is released (R413). In
the test state the ROM goes on to train LPDDR5X (R452). A device that THERMTRIP_N has stopped stays so (R419). -/
def pllLockEff (s : State) : State :=
  let s1 := lockClocks { s with ident := { s.ident with cycleCount := 0 }, clk := { s.clk with pcieRefOk := true } }
  let s2 := if s.pins.perstLow then s1 else linkComesUp s1
  let s3 := measureRom { s2 with sec := { s2.sec with idKeySet := true } }
  if s.pins.thermtrip then stopDevice s3 .tripped
  else { s3 with mode := if s.test.testState then .training else .rom }

/-- ROOT_PLL_LOCK (R413). -/
def execRootPllLock (s : State) : Host.Outcome State Fault Refusal :=
  doneIf (s.mode == .starting && !s.pins.refclkLost) s (pllLockEff s)

/-! ### The first stage (R412, R414, R425) -/

/-- The 64-byte boot configuration: the first bytes of the first stage's body (R414, log 60). -/
def bootConfig (b : Bytes) : Bytes := slice b 256 64

/-- The boot configuration is in range (R414). -/
def bootConfigOk (b : Bytes) : Bool :=
  let c := bootConfig b
  decide (320 ≤ b.length) && rd c 0 4 == 0x42434647 && decide (rd c 4 1 ≤ 2 ∧ rd c 5 1 ≤ 1) &&
  decide (200 ≤ rd c 6 2 ∧ rd c 6 2 ≤ 650) && (slice c 16 16).all (fun x => decide (x.toNat < 128)) &&
  allZero (slice c 32 32)

/-- ERROR_CODE of a package, 0 when it verifies (R420, R424). -/
def packageCode (s : State) (b : Bytes) (empty : Nat) : Nat :=
  if b.isEmpty then empty else
  match fwCheck s b with
  | .ok => if bootConfigOk b then 0 else 5
  | .rollback => 3
  | _ => 2

/-- Boot stops with an ERROR_CODE (R413). -/
def bootStops (s : State) (code : Nat) : State :=
  { s with mode := .stopped, clk := { s.clk with bootError := true, errorCode := BitVec.ofNat 8 code } }

/-- TRAIN_STORE of a boot configuration (R414). -/
def trainStoreOf (c : Bytes) : Option Nat := if rd c 8 8 = 2 ^ 64 - 1 then none else some (rd c 8 8)

/-- The PMBus addresses of the regulators that are present (R414). -/
def pmbusOf (c : Bytes) : Bytes := (slice c 16 16).filter (· != 0)

/-- The voltages in mV that AVSBus sets on VDD_CMP0 and VDD_CMP1, within 0.60 to 0.85 V (R415). -/
def avsMv (temps : List Int) : List Nat := (upTo 2).map fun d => min 850 (max 600 (Config.fuseMv d temps))

/-- The first stage of a package runs: it is measured, the boot configuration is applied, the regulators and
the compute rails are programmed and the dies are released (R413 steps 4 to 6, R414, R415, R427); the active slot
is the one that the control record names, which a fallback leaves unchanged (R425). STAGE is 1 until the next cycle
(log 84). The temperature of the dies before the first control step is open. -/
def firstStageRuns (s : State) (b : Bytes) (slot : Bool) : State :=
  let c := bootConfig b
  let s1 := measureAll s 1 [fwHeader b 0, slice b 24 32]
  let s2 := measureMr s1 2 c
  ({ s2 with
    mode := .training
    clk := { s2.clk with
      stage := 1, slot := slot, bootCap := BitVec.ofNat 10 (rd c 6 2), pmbusAddr := slice c 16 16
      vddMv := avsMv [Int.ofNat s2.free] }
    memc := { s2.memc with rate := BitVec.ofNat 2 (rd c 4 1), inlineEcc := rd c 5 1 == 1, trainStore := trainStoreOf c }
    sec := { s2.sec with
      running := fwInfo b
      activeSlot := if s2.sec.hostBoot then s2.sec.hostControl else s2.sec.control } }.used 1).emit (.pmbus (pmbusOf c))

/-- The package that the host supplies: its bytes, none when it cannot be read (R412). -/
def hostImage (s : State) : Option Bytes :=
  let n := s.clk.hostBytes.toNat
  let a := s.clk.hostAddr.toNat
  if n = 0 || 2 ^ 22 < n || anyPoison s.hostPoison a n then none else some (readBytes s.hostMem a n)

/-- Boot from the host (R412, R425). -/
def bootHost (s : State) : State :=
  match hostImage s with
  | none => bootStops s 4
  | some b =>
    let e := packageCode s b 4
    if e = 0 then
      firstStageRuns { s with sec := { s.sec with hostBoot := true, hostA := b, hostControl := false } } b false
    else bootStops s e

/-- Boot from flash: the active slot, then the other. The error code is that of the failure which leaves no
fallback, and a bad boot configuration has none (R413, R414, R425). -/
def bootFlash (s : State) : State ⊕ Nat :=
  let a := s.sec.control
  let e := packageCode s (slotOf s a) 1
  let d := packageCode s (slotOf s (!a)) 1
  if e = 0 then .inl (firstStageRuns s (slotOf s a) a)
  else if e = 5 then .inr 5
  else if d = 0 then .inl (firstStageRuns (s.setSecCause 0) (slotOf s (!a)) (!a))
  else .inr d

/-- The ROM reads the first stage where BOOT_SEL says (R412). Without GO it waits for the host. The host is a
fallback of slots that fail to read or to verify, not of a bad boot configuration (R414). -/
def firstStageEff (s : State) : State :=
  let host := if s.clk.go then bootHost s else s
  if s.ident.bootSel = 1 then host
  else match bootFlash s with
    | .inl t => t
    | .inr e => if s.ident.bootSel = 2 ∧ e ≠ 5 then host else bootStops s e

/-- FIRST_STAGE_VERIFIED (R413). -/
def execFirstStageVerified (s : State) : Host.Outcome State Fault Refusal := doneIf (s.mode == .rom) s (firstStageEff s)

/-! ### LPDDR5X training (R350) -/

/-- The capacity is one that the device supports, the same in each of the 16 packages (R348, R349). -/
def capacityOk (r : TrainResult) : Bool :=
  decide (r.packages.length = 16) && [8, 16, 32].any fun g => r.packages.all (· == g)

/-- Installed capacity in GiB (R349). -/
def installed (r : TrainResult) : Nat := sumN r.packages

/-- Stored results serve: they are of the installed capacity and the data rate, and the command says that
their checksum and the device identities hold (R350, R407, R452). -/
def fastTraining (s : State) (r : TrainResult) : Bool :=
  let want := some (s.memc.rate.toNat, installed r)
  r.storedOk && !s.test.testState &&
  (s.memc.retention == want || s.memc.trainStore.any fun o => some (tabGet (0, 0) s.memc.stored o) == want)


/-- Training from scratch at a rate and the lower ones: the rate at which every channel passes. -/
def scratchRate : Nat → List Bool → Option Nat
  | _, [] => none
  | r, p :: ps => if 2 < r then none else if p then some r else scratchRate (r + 1) ps

/-- The results in flash after a training from scratch: at TRAIN_STORE, where it names a place (R350, R414). -/
def storeTraining (m : MemRegs) (v : Nat × Nat) : Tab (Nat × Nat) :=
  match m.trainStore with
  | some o => tabSet (0, 0) m.stored o v
  | none => m.stored

/-- The end of training (R350). -/
def trained (s : State) (r : TrainResult) : State :=
  let g := BitVec.ofNat 10 (installed r)
  if fastTraining s r && capacityOk r then
    { s with memc := { s.memc with trained := true, fastTrained := true, installedGib := g, scrubAt := s.now } }
  else
    let rate := s.memc.rate.toNat
    match if capacityOk r then scratchRate rate r.passed else none with
    | some q =>
      let s1 := { s with memc :=
        { s.memc with
          trained := true, installedGib := g, scrubAt := s.now, rate := BitVec.ofNat 2 q, retention := some (q, installed r)
          stored := storeTraining s.memc (q, installed r) } }
      if q = rate then s1 else s1.setMemCause 2
    | none =>
      let s1 := { s with memc := { s.memc with
        trainFailed := true, installedGib := if capacityOk r then g else 0 } }
      (if rate < 2 then s1.setMemCause 2 else s1).setMemCause 3

/-- Training ends, and the main firmware loads and is measured (R413 step 7, R427); the test state loads
none (R452). -/
def trainingEff (s : State) (r : TrainResult) : State :=
  let s1 := trained s r
  if s.test.testState then { s1 with mode := .test }
  else
    let b := slotOf s1 s1.clk.slot
    let os := fwOffsets b
    let s2 := measureMr (measureMr s1 3 (fwHeader b (os.getD 1 0))) 4 (fwHeader b (os.getD 2 0))
    { s2 with mode := .loading, clk := { s2.clk with stage := 3 } }

/-- LPDDR_TRAINING_DONE (R350). -/
def execLpddrTrainingDone (result : TrainResult) (s : State) : Host.Outcome State Fault Refusal :=
  doneIf (s.mode == .training) s (trainingEff s result)

/-! ### READY (R413 step 8) -/

def readyEff (s : State) : State :=
  ({ s with
    mode := .ready
    clk := { s.clk with
      stage := 4, ready := true, capW := s.clk.bootCap, fBe := 64, fLc := 64, stepAt := s.now, railAt := s.now }
    sec := { s.sec with fwVersion := s.sec.running.version }
    vertex := { s.vertex with protoMajor := s.sec.running.protoMajor, protoMinor := s.sec.running.protoMinor } }).setCrownCause 0

/-- BOOT_READY (R413). -/
def execBootReady (s : State) : Host.Outcome State Fault Refusal := doneIf (s.mode == .loading) s (readyEff s)

end Sys2Proof.Machine
end

