-- ==== Sys2Proof/Machine/Power.lean ====
section
/-! DEFINITION. The power-management unit (R415 to R419): the control step, rails, alerts, gating of
prisms, and the power commands (R311, R312). -/

namespace Sys2Proof.Machine

/-! ### Issue levels (R417, R419) -/

/-- An issue level after a step: it falls by 8 or rises by 1, within 0 to 64. -/
def nextLevel (f : Nat) (down up : Bool) : Nat := if down then f - 8 else if up then min 64 (f + 1) else f

/-- f_LC may fall: it has left 64, or f_BE is 0 and the cap is below the LC floor (R417). -/
def lcMayFall (s : State) (cap : Nat) : Bool :=
  s.clk.fLc.toNat != 64 || (s.clk.fBe == 0 && decide (cap < lcFloor s none))

/-- Tj and the lowest sensor that reads it (R419). -/
def hottest (temps : List Int) : Int × Nat :=
  let t := temps.foldl max (-128)
  (t, (firstBelow 64 fun i => temps.getD i 0 == t).getD 0)

/-- One 100 µs control step (R417, R419); the compute rails follow the temperature of their dies (R415). -/
def controlStep (s : State) (temps : List Int) : State :=
  let cap := (s.clk.nextCap.getD s.clk.capW).toNat
  let mean := s.clk.meanW.toNat
  let h := hottest temps
  let above := decide (cap < mean)
  let below := decide (100 * mean < 97 * cap)
  let be := nextLevel s.clk.fBe.toNat (above || decide (100 ≤ h.1)) below
  let lc := nextLevel s.clk.fLc.toNat ((above && lcMayFall s cap) || decide (105 < h.1)) below
  let s1 := { s with clk :=
    { s.clk with
      capW := BitVec.ofNat 10 cap, nextCap := none, fBe := BitVec.ofNat 7 be, fLc := BitVec.ofNat 7 lc
      thermal := decide (100 ≤ h.1) || (s.clk.thermal && decide (97 ≤ h.1))
      tj := BitVec.ofInt 8 h.1, tjSensor := BitVec.ofNat 6 h.2
      stepAt := s.now, vddMv := avsMv temps
      temps := (upTo 64).foldl (fun t i => tabSet 0 t i (BitVec.ofInt 8 (temps.getD i 0))) [] } }
  let s2 := if s.clk.fBe = 64 ∧ be < 64 then s1.setPmuCause 0 else s1
  let s3 := if s.clk.fLc = 64 ∧ lc < 64 then s2.setPmuCause 1 else s2
  let s4 := if 100 ≤ h.1 then s3.setPmuCause 2 else s3
  if 105 < h.1 then s4.setPmuCause 3 else s4

/-- The next control step is due: 100 µs after the last one, or after READY (R417). -/
def stepDue (s : State) : Bool := s.live && decide (s.clk.stepAt + 100000 ≤ s.now)

/-- PMU_CONTROL_STEP (R417). -/
def execPmuControlStep (temps : List Int) (s : State) : Host.Outcome State Fault Refusal :=
  if Instr.wf (.pmuControlStep temps) then doneIf (stepDue s) s (controlStep s temps) else done s

/-! ### Rails (R415) -/

/-- Readings of package power, newest first, over 1 ms: one hundred samples of 10 µs. -/
def railWindow (s : State) (p : Nat) : List Nat := (p :: s.clk.rails).take 100

/-- A sample of the rails, in mW each (R415, log 61). -/
def railEff (s : State) (rails : List Nat) (railFault avsError : Bool) : State :=
  let w := railWindow s (sumN rails)
  let s1 := { s with clk := { s.clk with rails := w, railAt := s.now, meanW := BitVec.ofNat 10 (min 1023 (sumN w / w.length / 1000)) } }
  let s2 := if railFault then s1.setPmuCause 4 else s1
  if avsError then s2.setPmuCause 6 else s2

/-- The next reading of the rails is due: 10 µs after the last one, or after READY (R415). -/
def railDue (s : State) : Bool := s.live && decide (s.clk.railAt + 10000 ≤ s.now)

/-- RAIL_SAMPLE (R415). -/
def execRailSample (rails : List Nat) (railFault avsError : Bool) (s : State) : Host.Outcome State Fault Refusal :=
  doneIf (railDue s) s (railEff s rails railFault avsError)

/-- PMB_ALERT_N goes low: BE issue stops at once (R415, R417). -/
def alertEff (s : State) : State :=
  let s1 := ({ s with clk := { s.clk with alert := true, fBe := 0 } }).setPmuCause 5
  if s.clk.fBe = 64 then s1.setPmuCause 0 else s1

/-- PMB_ALERT (R415). -/
def execPmbAlert (s : State) : Host.Outcome State Fault Refusal :=
  let s1 := { s with pins := { s.pins with pmbAlertLow := true } }
  done (if s.resettable then alertEff s1 else { s1 with clk := { s1.clk with alert := s.mode != .porLow } })

/-- PMB_ALERT_RELEASE (R415). -/
def execPmbAlertRelease (s : State) : Host.Outcome State Fault Refusal :=
  done { s with pins := { s.pins with pmbAlertLow := false }, clk := { s.clk with alert := false } }

/-! ### Gating (R416) -/

/-- Cycle since which the facets of a prism have held no kernel or descriptor (R416). -/
def idleFrom (s : State) (p : Nat) : Nat :=
  (upTo 16).foldl (fun n i => max n (s.facet (16 * p + i)).emptied) (s.prism p).idleSince

/-- A prism may be gated: it is in no partition and its zeroing has ended, or it is in a partition without
an LC entry and its facets have been idle for 50 µs (R416). -/
def mayGate (s : State) (p : Nat) : Bool :=
  !(s.prism p).gated && !(s.prism p).zeroing &&
  match partOfPrism s p with
  | none => !(s.prism p).leaving
  | some k => !(s.part k).lcHeld && !prismHolds s p && decide (idleFrom s p + 50000 ≤ s.now)

/-- PRISM_GATE (R416). -/
def execPrismGate (prism : Nat) (s : State) : Host.Outcome State Fault Refusal :=
  if Instr.wf (.prismGate prism) then
    doneIf (s.live && mayGate s prism) s (s.modPrism prism fun q => { q with gated := true })
  else done s

/-- The prism has been waking for its 2 µs, or for the zeroing of R191 (R416). -/
def wakeOver (s : State) (p : Nat) : Bool := (s.prism p).waking.any fun t => decide (t ≤ s.now)

def wakeEff (s : State) (p : Nat) : State :=
  s.modPrism p fun q => { q with gated := false, waking := none, idleSince := s.now }

/-- PRISM_WAKE (R416). -/
def execPrismWake (prism : Nat) (s : State) : Host.Outcome State Fault Refusal :=
  if Instr.wf (.prismWake prism) then doneIf (s.live && wakeOver s prism) s (wakeEff s prism)
  else done s

/-! ### POWER_CAP_SET (R311) and POWER_QUERY (R312) -/

/-- The lowest partition whose floor a cap does not reach (R311). -/
def floorAbove (s : State) (cap : Nat) : Option Nat := firstBelow 128 fun k => decide (cap < partFloor s k)

def powerCapEff (c : Cmd) (s : State) : State :=
  let cap := c.f 16 2
  if !c.only [(16, 2)] || cap < 200 || 650 < cap then fail s c.cid stInvalidParameter
  else match floorAbove s cap, c.force with
    | some k, false => finish s c.cid stAdmissionRefused k 0
    | _, _ =>
      finish { s with clk := { s.clk with nextCap := some (BitVec.ofNat 10 cap) } } c.cid stOk 0
        (s.clk.nextCap.getD s.clk.capW).toNat

/-- POWER_CAP_SET (R311). -/
def execPowerCapSet (cid : Nat) (s : State) : Host.Outcome State Fault Refusal := onCmd s cid 0x60 powerCapEff

/-- The floor that POWER_QUERY reports: of a partition, or the largest of any (R312, R418). -/
def queryFloor (s : State) (k : Nat) : Nat := if k = 0xFFFF then maxN ((upTo 128).map (partFloor s)) else partFloor s k

/-- RESULT of POWER_QUERY (R312). -/
def powerResult (s : State) (k : Nat) : Nat :=
  s.clk.capW.toNat + 2 ^ 16 * (queryFloor s k % 2 ^ 16) + 2 ^ 32 * s.clk.meanW.toNat +
  2 ^ 48 * b2n (s.clk.fBe != 64) + 2 ^ 49 * b2n (s.clk.fLc != 64) + 2 ^ 50 * b2n s.clk.thermal

def powerQueryEff (c : Cmd) (s : State) : State := finish s c.cid stOk 0 (powerResult s c.partition)

/-- POWER_QUERY (R312). -/
def execPowerQuery (cid : Nat) (s : State) : Host.Outcome State Fault Refusal := onCmd s cid 0x61 powerQueryEff

end Sys2Proof.Machine
end

