-- ==== Sys2Proof/Machine/Regs.lean ====
section
/-! DEFINITION. The register file (R8 to R12, R30, R444 to R449): which block an offset of BAR0 lies in,
what each register reads, what a write of it does, and the register commands. -/

namespace Sys2Proof.Machine

/-! ### Blocks (R30, R448, R449) -/

/-- A register block. -/
inductive Blk where
  | ident
  | irq
  | fatal
  | msix
  | pba
  | ring (r : Nat)
  | part (k : Nat)
  | port (p : Nat)
  | vertex
  | memc
  | pcie
  | cache
  | clocks
  | security
  | test
  | queues
  | facet (n : Nat)
  | jump (p : Nat)
  | streams (k : Nat)
  | viewSelect
  /-- The view window while it shows nothing: reads return 0 and writes are ignored (R449). -/
  | hidden
deriving DecidableEq, Repr

/-- Block and offset of an address of the PF's BAR0 (R30, R143, R186, R248, R402, R451). -/
def locatePf (a : Nat) : Option (Blk × Nat) :=
  if a < 0x10000 then some (.ident, a)
  else if a < 0x18000 then some (.irq, a - 0x10000)
  else if a < 0x1C000 then some (.fatal, a - 0x18000)
  else if a < 0x1C800 then some (.msix, a - 0x1C000)
  else if a < 0x20000 then some (.pba, a - 0x1C800)
  else if a < 0x30000 then some (.ring ((a - 0x20000) / 0x1000), a % 0x1000)
  else if a < 0x100000 then none
  else if a < 0x200000 then some (.part ((a - 0x100000) / 0x2000), a % 0x2000)
  else if a < 0x210000 then some (.port ((a - 0x200000) / 0x1000), a % 0x1000)
  else if a < 0x300000 then none
  else if a < 0x400000 then some (.vertex, a - 0x300000)
  else if a < 0x4E0000 then some (.memc, a - 0x400000)
  else if a < 0x4F0000 then some (.pcie, a - 0x4E0000)
  else if a < 0x500000 then some (.cache, a - 0x4F0000)
  else if a < 0x600000 then some (.clocks, a - 0x500000)
  else if a < 0x700000 then some (.security, a - 0x600000)
  else if a < 0x800000 then some (.test, a - 0x700000)
  else if a < 0x1000000 then some (.queues, a - 0x800000)
  else if a < 0x1800000 then
    let p := (a - 0x1000000) / 0x10000
    let o := a % 0x10000
    if o < 0x8000 then none
    else if o < 0x9000 then some (.facet (16 * p + (o - 0x8000) / 0x100), o % 0x100)
    else if o < 0xA000 then some (.jump p, o - 0x9000)
    else if o < 0xB000 then some (.streams p, o - 0xA000)
    else none
  else none

/-- What window offset w of a VF's view window shows (R449). -/
def locateView (s : State) (f w : Nat) : Blk × Nat :=
  let v := (s.func f).view.toNat
  let o := 0x800 * bits v 10 9 + w
  let i := bits v 8 2
  if bits v 1 0 = 1 && ownsPart s f i then
    (if 0xC0 ≤ o ∧ o < 0xF0 then (.streams i, o - 0xC0) else (.part i, o))
  else if bits v 1 0 = 2 && decide (i < 16) && ownsPort s f i && o == w then (.port i, o)
  else (.hidden, 0)

/-- Block and offset of an address of a VF's BAR0 (R448). -/
def locateVf (s : State) (f a : Nat) : Option (Blk × Nat) :=
  if 0x10000 ≤ a then none
  else if a % 0x1000 < 0x40 then some (.ring (a / 0x1000), a % 0x1000)
  else if 0x800 ≤ a ∧ a < 0xC40 then some (.irq, a - 0x800)
  else if 0x1800 ≤ a ∧ a < 0x1810 then some (.msix, a - 0x1800)
  else if 0x1C00 ≤ a ∧ a < 0x1C08 then some (.pba, a - 0x1C00)
  else if 0x2800 ≤ a ∧ a < 0x2804 then some (.viewSelect, a - 0x2800)
  else if 0x3800 ≤ a ∧ a < 0x4000 then some (locateView s f (a - 0x3800))
  else none

def locate (s : State) (f a : Nat) : Option (Blk × Nat) := if f = 0 then locatePf a else locateVf s f a

/-! ### What registers read -/

/-- A register of a table: offset, whether it has 64 bits, value. -/
abbrev RegRow := Nat × Bool × Nat

def r32 (o v : Nat) : RegRow := (o, false, v % 2 ^ 32)
def r64 (o v : Nat) : RegRow := (o, true, v % 2 ^ 64)

/-- `n` 32-bit words of a number, from an offset on. -/
def rWords (o n v : Nat) : List RegRow := (upTo n).map fun i => r32 (o + 4 * i) (v / 2 ^ (32 * i))

/-- The identification and global block (R31). -/
def identRegs (s : State) : List RegRow :=
  [r32 0x00 (Config.vendorId + 2 ^ 16 * Config.deviceId),
   r32 0x04 (Config.siliconRev + 2 ^ 8 * Config.contractMajor + 2 ^ 16 * Config.contractMinor),
   r32 0x08 (s.ident.trayPos.toNat + 4 * s.ident.bootSel.toNat),
   r32 0x0C (s.ident.number.toNat + 2 ^ 31 * b2n s.ident.numberValid),
   r32 0x10 (b2n s.ident.lock),
   r64 0x20 s.ident.cycleCount.toNat]

/-- INT_PIN_MASK reads 0 in a VF (R401). -/
def pinMaskOf (s : State) (f : Nat) : Nat := if f = 0 then (s.func 0).pinMask.toNat else 0

/-- The interrupt page (R401). -/
def irqRegs (s : State) (f o : Nat) : List RegRow :=
  if o < 0x100 then
    [r32 0x0 (intSummary s f), r32 0x4 (s.func f).summaryEn.toNat, r32 0x8 (b2n (s.func f).armed),
     r32 0xC (pinMaskOf s f)]
  else
    let g := (o - 0x100) / 0x40
    if 13 ≤ g then []
    else (upTo 5).flatMap fun w =>
      [r32 (0x100 + 0x40 * g + 4 * w) (groupCause s f g w), r32 (0x120 + 0x40 * g + 4 * w) (groupEn s f g w)]

/-- FAULT_PRISMS (R402). -/
def faultPrisms (s : State) : Nat := sumN ((upTo 128).map fun p => 2 ^ p * b2n (faultPrism s p))

/-- The device-fatal and locating registers (R402). -/
def fatalRegs (s : State) : List RegRow :=
  [r32 0x0 s.fatal.cause.toNat, r64 0x8 s.fatal.record.toNat] ++ rWords 0x10 4 (faultPrisms s)

/-- The MSI-X table entry: address, data, vector control (R399, log 16). -/
def msixRegs (s : State) (f : Nat) : List RegRow :=
  let p := s.func f
  [r64 0x0 p.msixAddr.toNat, r32 0x8 p.msixData.toNat, r32 0xC (b2n p.msixMask)]

/-- A ring-pair page (R273). -/
def ringRegs (s : State) (f r : Nat) : List RegRow :=
  let q := s.ring f r
  [r32 0x00 q.sqTail.toNat, r32 0x04 q.cqHead.toNat, r32 0x08 q.sqHead.toNat,
   r32 0x0C (q.cqTail.toNat + 2 ^ 31 * b2n q.phase), r64 0x10 q.sqBase.toNat, r64 0x18 q.cqBase.toNat,
   r32 0x20 (q.sqLog2.toNat + 2 ^ 5 * q.cqLog2.toNat + 2 ^ 10 * q.cqSelect.toNat),
   r32 0x24 (b2n q.sqEnable + 2 * b2n q.cqEnable + 4 * b2n q.abort + 8 * b2n q.reset),
   r32 0x28 (b2n q.error + 2 * b2n (q.abort || q.reset) + 2 ^ 8 * q.errorCode.toNat),
   r32 0x2C (q.coCount.toNat + 2 ^ 8 * q.coTime.toNat), r32 0x30 q.cause.toNat, r32 0x34 q.causeEn.toNat,
   r32 0x38 q.errorHead.toNat]

/-- PARTITION_CONFIG (R223). -/
def partConfig (p : Partition) : Nat :=
  b2n p.valid + 2 * p.rows.toNat + 2 ^ 3 * p.function.toNat + 2 ^ 9 * p.kernelBound.toNat + 2 ^ 14 * b2n (twoDies p) +
  2 ^ 15 * b2n p.lcHeld + 2 ^ 16 * (p.chunkMax % 4096)

/-- LATTICE_STATUS (R223). -/
def latticeStatus (s : State) (p : Partition) : Nat :=
  (p.active.elim 0 fun l => l.entries.length) + 2 ^ 9 * b2n p.shadow.isSome +
  2 ^ 10 * b2n (p.ticking && !p.awaitBoundary && !switching s) + 2 ^ 11 * b2n (!p.switch.isEmpty) + 2 ^ 12 * (p.tickIndex % 4096)

/-- Bytes of the weight stores that hold placed models (R249). -/
def t0Bytes (p : Partition) : Nat := sumN ((p.t0.filter (·.placed)).map (·.bytes))

/-- An accounting set (R223). -/
def acctRegs (p : Partition) (i : Nat) : List RegRow :=
  let a := tabGet {} p.acct i
  let b := 0x1000 + 0x80 * i
  [r64 b a.waitSum.toNat, r64 (b + 0x08) a.runs.toNat, r64 (b + 0x10) a.deferrals.toNat, r32 (b + 0x18) a.waitMax.toNat,
   r32 (b + 0x1C) 0] ++
  (upTo 16).map fun h => r32 (b + 0x20 + 4 * h) (tabGet 0 a.hist h).toNat

/-- A partition's registers (R223, R249, R403). -/
def partRegs (s : State) (k o : Nat) : List RegRow :=
  let p := s.part k
  if 0x1000 ≤ o then acctRegs p ((o - 0x1000) / 0x80)
  else
    [r32 0x00 (partConfig p)] ++ rWords 0x10 4 p.prisms.toNat ++
    [r32 0x20 p.partCause.toNat, r32 0x24 p.partEn.toNat, r32 0x28 (latticeStatus s p), r64 0x30 p.periods.toNat,
     r32 0x38 p.lcStartMax.toNat, r32 0x3C p.staleStages.toNat, r32 0x40 0, r32 0x50 p.modelCause.toNat,
     r32 0x54 p.modelEn.toNat, r64 0x58 p.modelMisses.toNat, r64 0x60 p.streamedRuns.toNat, r64 0x68 (t0Bytes p),
     r32 0x70 p.faultCause.toNat, r32 0x74 p.faultEn.toNat, r64 0x78 p.faultRecord.toNat, r64 0x80 p.teardowns.toNat,
     r32 0x88 p.partResets.toNat]

/-- The state slots of a stream are away (R160, R186). DESIGN CHOICE (log 97): AWAY counts a stream whose state is being
fetched back, and none whose state is being copied out. -/
def Residency.away : Residency → Bool
  | .awayGeode | .awayLpddr | .fetching _ => true
  | _ => false

/-- A partition's stream registers (R186). -/
def streamRegs (s : State) (k : Nat) : List RegRow :=
  let p := s.part k
  let is := s.streams.filter fun kv => kv.2.isOpen && kv.2.part == k
  [r32 0x00 p.streamCause.toNat, r32 0x04 p.streamEn.toNat,
   r32 0x08 (is.length + 2 ^ 15 * (is.filter fun kv => kv.2.resid.away).length), r64 0x10 p.stateMisses.toNat,
   r64 0x18 p.staleDrops.toNat, r64 0x20 p.ckptWritten.toNat, r32 0x28 p.ckptSkipped.toNat]

/-- PORT_MODE (R347). -/
def portMode (q : Port) : Nat :=
  q.format.toNat + 2 ^ 2 * q.clock.toNat + 2 ^ 4 * q.rate.toNat + 2 ^ 8 * q.slots.toNat + 2 ^ 14 * q.width.toNat +
  2 ^ 16 * q.sample.toNat + 2 ^ 19 * q.fsync.toNat + 2 ^ 21 * b2n q.mclkOut + 2 ^ 22 * b2n q.sharedClock +
  2 ^ 23 * b2n q.configured

/-- PORT_STATE (R347); `clocks` says that clocks are present and framed. -/
def portState (q : Port) (clocks : Bool) : Nat :=
  q.state.toNat + 2 ^ 3 * b2n clocks + 2 ^ 4 * b2n q.startMaster + 2 ^ 5 * b2n q.immediate +
  2 ^ 6 * b2n (!q.commits.isEmpty) + 2 ^ 7 * b2n q.rateOut

/-- The registers of slot k of a port (R347). -/
def slotRegs (q : Port) (k : Nat) : List RegRow :=
  let c := q.slot k
  let b := 0x400 + 0x20 * k
  let g := c.group.getD 0
  [r32 b (b2n c.bound + 2 * b2n c.rxReader.isSome + 4 * b2n c.group.isSome + 2 ^ 3 * (g % 16) +
      2 ^ 7 * b2n (decide (16 ≤ g)) + 2 ^ 8 * b2n c.started + 2 ^ 16 * c.debt.toNat),
   r32 (b + 0x04) (c.txq.length % 2 ^ 13 + 2 ^ 16 * (c.rxq.length % 2 ^ 13)), r32 (b + 0x08) c.txRepeats.toNat,
   r32 (b + 0x0C) c.txDiscards.toNat, r32 (b + 0x10) c.rxFills.toNat, r32 (b + 0x14) c.txFlushed.toNat,
   r32 (b + 0x18) (c.regGen.toNat + 2 ^ 16 * c.owed.toNat), r32 (b + 0x1C) c.sinkId.toNat]

/-- A port's registers, `frames` being the frames of its clock leader (R321, R347). -/
def portRegs (q : Port) (clocks : Bool) (frames o : Nat) : List RegRow :=
  if 0x800 ≤ o then []
  else if 0x400 ≤ o then slotRegs q ((o - 0x400) / 0x20)
  else
    [r32 0x00 (portMode q), r32 0x04 (q.preroll.toNat + 2 ^ 16 * q.postroll.toNat),
     r32 0x08 (q.startOffset.toNat + 2 ^ 16 * q.owner.toNat), r32 0x0C q.txShadow.toNat, r32 0x10 q.rxShadow.toNat,
     r32 0x14 q.txMask.toNat, r32 0x18 q.rxMask.toNat, r32 0x20 (portState q clocks), r64 0x28 (frames - 1),
     r64 0x30 q.startFrame.toNat, r64 0x38 q.dataFrame.toNat, r64 0x40 q.commitFrame.toNat, r32 0x48 q.periodPs.toNat,
     r32 0x4C q.cause.toNat, r32 0x50 q.causeEn.toNat, r32 0x54 q.staleDrops.toNat, r32 0x58 q.framingErrors.toNat,
     r32 0x5C q.clockLosses.toNat]

/-- The registers of fabric port p (R378). -/
def fabPortRegs (s : State) (p : Nat) : List RegRow :=
  let q := s.fabPort p
  let b := 0x100 + 0x40 * p
  [r32 b (b2n q.trained + 2 * q.width.toNat + 2 ^ 3 * b2n q.versionRefused + 2 ^ 4 * q.linkMinor.toNat +
      2 ^ 12 * q.peerDevice.toNat + 2 ^ 22 * q.peerPort.toNat),
   r64 (b + 0x08) q.fecCorrected.toNat, r32 (b + 0x10) q.fecUncorrected.toNat, r32 (b + 0x14) q.replays.toNat,
   r32 (b + 0x18) q.linkDowns.toNat]

/-- The vertex registers (R378). -/
def vertexRegs (s : State) (o : Nat) : List RegRow :=
  let v := s.vertex
  if o < 0x80 then
    [r32 0x00 (v.timeoutUs.toNat + 2 ^ 16 * v.hopLimit.toNat + 2 ^ 20 * v.portEnable.toNat),
     r32 0x04 (v.protoMajor.toNat + 2 ^ 8 * v.protoMinor.toNat), r32 0x08 v.cause.toNat, r32 0x0C v.causeEn.toNat,
     r64 0x10 v.timeouts.toNat, r64 0x18 v.staleDrops.toNat, r32 0x20 v.hopDrops.toNat, r32 0x24 v.lateResponses.toNat,
     r32 0x28 v.regs.length]
  else if o < 0x100 then [r32 (o / 4 * 4) (tabGet 0 v.unreachable ((o - 0x80) / 4)).toNat]
  else if o < 0x300 then fabPortRegs s ((o - 0x100) / 0x40)
  else if 0x1000 ≤ o ∧ o < 0x2000 then [r32 (o / 4 * 4) (tabGet 0 v.routes ((o - 0x1000) / 4)).toNat]
  else []

/-- The memory-controller registers (R379). -/
def memRegs (s : State) (o : Nat) : List RegRow :=
  let m := s.memc
  if o < 0x100 then
    [r32 0x00 (m.rate.toNat + 4 * b2n m.inlineEcc + 8 * b2n m.trained + 16 * b2n m.fastTrained + 2 ^ 5 * m.installedGib.toNat),
     r32 0x04 m.poolGib.toNat, r32 0x08 m.scrubH.toNat, r32 0x0C m.cause.toNat, r32 0x10 m.causeEn.toNat,
     r64 0x18 m.ceCount.toNat, r32 0x20 m.ueCount.toNat, r32 0x24 m.scrubPasses.toNat]
  else if o < 0x200 then [r32 (o / 4 * 4) (tabGet 0 m.chCe ((o - 0x100) / 4)).toNat]
  else if 0x1000 ≤ o ∧ o < 0x2000 then
    let b := o / 16 * 16
    let r := s.rangeOf ((o - 0x1000) / 16)
    [r64 b (b2n r.valid + 2 * r.function.toNat + 2 ^ 21 * r.base.toNat), r64 (b + 8) (2 ^ 21 * r.size.toNat)]
  else if 0x2000 ≤ o ∧ o < 0x2200 then [r64 (o / 8 * 8) (tabGet 0 s.hostBase ((o - 0x2000) / 8)).toNat]
  else []

/-- The PCIe registers (R451). -/
def pcieRegs (s : State) : List RegRow :=
  let p := s.pcie
  [r32 0x0 (p.rate.toNat + 2 ^ 3 * p.width.toNat + 2 ^ 8 * p.l0pWidth.toNat + 2 ^ 13 * b2n p.flit + 2 ^ 14 * b2n p.l1),
   r32 0x4 p.bar2Gib.toNat, r32 0x8 (b2n p.l0pAllow + 2 * b2n p.l1Allow + 2 ^ 16 * p.l1IdleUs.toNat)]

/-- The model-cache registers (R248). -/
def cacheRegs (s : State) : List RegRow :=
  let c := s.cache
  [r32 0x00 c.t2Gib.toNat, r32 0x04 (s.t1.length % 2 ^ 13 + 2 ^ 13 * (t2Held s % 2 ^ 17)), r64 0x08 (t1Used s),
   r64 0x10 (t1PinnedBytes s), r64 0x18 (t2Used s), r64 0x20 c.t1Hits.toNat, r64 0x28 c.t1Misses.toNat,
   r64 0x30 c.fetchRetries.toNat]

/-- BOOT_STATUS (R420). -/
def bootStatus (c : Clocks) : Nat :=
  c.stage.toNat + 2 ^ 4 * b2n c.ready + 2 ^ 5 * b2n c.bootError + 2 ^ 6 * b2n c.slot + 2 ^ 16 * c.errorCode.toNat

/-- GPIO_DATA.IN: a pin that the device drives is sampled at the level driven (R467, log 62). -/
def gpioSample (c : Clocks) : BitVec 8 := (c.gpioOut &&& c.gpioOe) ||| (c.gpioIn &&& ~~~ c.gpioOe)

/-- PRISM_GATED (R416, R420). -/
def gatedPrisms (s : State) : Nat := sumN ((upTo 128).map fun p => 2 ^ p * b2n (s.prism p).gated)

/-- The clock, reset and power registers (R420, R467). -/
def clockRegs (s : State) (o : Nat) : List RegRow :=
  let c := s.clk
  if o < 0x100 then
    [r32 0x00 (b2n c.refclkOk + 2 * b2n c.rootLocked + 4 * b2n c.audio24 + 8 * b2n c.audio22 + 16 * b2n c.pcieRefOk),
     r32 0x04 0, r32 0x08 c.resetCause.toNat, r32 0x0C (bootStatus c), r64 0x10 c.hostAddr.toNat,
     r32 0x18 (c.hostBytes.toNat + 2 ^ 31 * b2n c.go), r32 0x20 (c.capW.toNat + 2 ^ 16 * (lcFloor s none % 2 ^ 10)),
     r32 0x24 (c.meanW.toNat + 2 ^ 10 * c.fBe.toNat + 2 ^ 17 * c.fLc.toNat + 2 ^ 24 * b2n c.thermal + 2 ^ 25 * b2n c.alert),
     r32 0x28 (c.tj.toNat + 2 ^ 8 * c.tjSensor.toNat), r32 0x2C c.pmuCause.toNat, r32 0x30 c.pmuEn.toNat,
     r32 0x34 c.crownCause.toNat, r32 0x38 c.crownEn.toNat,
     r32 0x3C (Config.pFixedW + 2 ^ 8 * Config.prismCw + 2 ^ 16 * Config.eFcPj10)] ++ rWords 0x40 4 (gatedPrisms s)
  else if o < 0x200 then [r32 (o / 4 * 4) (tabGet 0 c.temps ((o - 0x100) / 4)).toNat]
  else [r32 0x200 (c.gpioOut.toNat + 2 ^ 8 * c.gpioOe.toNat + 2 ^ 16 * (gpioSample c).toNat)]

/-- SEC_STATUS (R434). -/
def secStatus (s : State) : Nat :=
  b2n (owned s) + 2 * (s.sec.ownerRows.length - 1) + 2 ^ 3 * s.sec.policy.toNat + 2 ^ 5 * b2n (s.sec.debugLevel != 0) +
  2 ^ 6 * b2n s.sec.activeSlot + 2 ^ 7 * b2n s.sec.stagedValid + 2 ^ 16 * s.sec.counter.toNat

/-- A word of a digest register (R434). -/
def digestWord (b : Bytes) (w : Nat) : Nat := rd b (4 * w) 4

/-- The security registers (R434). -/
def secRegs (s : State) (o : Nat) : List RegRow :=
  if o < 0x100 then
    [r32 0x00 (secStatus s), r32 0x04 s.sec.fwVersion.toNat, r32 0x08 s.sec.stagedVersion.toNat, r32 0x10 s.sec.cause.toNat,
     r32 0x14 s.sec.causeEn.toNat]
  else if o < 0x200 then [r32 (o / 4 * 4) (digestWord (mrOf s ((o - 0x100) / 32)) (o % 32 / 4))]
  else if o < 0x220 then
    [r32 (o / 4 * 4) (digestWord (if s.sec.idKeySet then identityDigest s.sec.made.secret else zeros 32) (o % 32 / 4))]
  else []

/-- The test registers (R461). -/
def testRegs (s : State) (o : Nat) : List RegRow :=
  let t := s.test
  if o < 0x40 then
    [r32 0x00 (b2n t.testState + 2 * b2n (!t.patterns.isEmpty) + 4 * b2n (!t.bists.isEmpty)), r32 0x04 t.cause.toNat,
     r32 0x08 t.causeEn.toNat, r64 0x10 t.bistFail.toNat]
  else if o < 0x68 then
    let i := tabGet {} t.inject ((o - 0x40) / 4)
    [r32 (o / 4 * 4) (i.kind.toNat + 4 * b2n i.header + 2 ^ 8 * i.count.toNat)]
  else if 0x100 ≤ o ∧ o < 0x300 then
    let l := tabGet {} t.lanes ((o - 0x100) / 16)
    let b := o / 16 * 16
    [r64 b (l.errors.toNat + 2 ^ 48 * l.relocks.toNat), r64 (b + 8) l.bits.toNat]
  else []

/-- TAIL_TIMEOUT of a class as it reads (R404). -/
def tailReads (s : State) (c : Nat) : Nat :=
  if c = 2 ∨ c = 4 then ((s.qclass c).tailTimeout.getD 1024).toNat
  else if c = 3 then ((s.qclass c).tailTimeout.getD 250).toNat else 0

/-- The queue registers (R404). -/
def queueRegs (s : State) (o : Nat) : List RegRow :=
  if o < 0x100 then [r32 0x0 s.queueCause.toNat, r32 0x4 s.queueEn.toNat]
  else if o < 0x240 then
    let c := (o - 0x100) / 0x20
    let q := s.qclass c
    let b := 0x100 + 0x20 * c
    [r64 b q.ceCount.toNat, r32 (b + 0x08) q.ueCount.toNat, r32 (b + 0x0C) q.parityErrors.toNat, r32 (b + 0x10) (tailReads s c),
     r32 (b + 0x14) q.flushes.toNat, r32 (b + 0x18) q.drops.toNat, r32 (b + 0x1C) 0]
  else []

/-- Cycles in which a kernel was running on a facet, the running one's included (R90). -/
def busyCyclesOf (s : State) (c : Facet) : Word64 :=
  if c.running.isSome then addWrap c.busyCycles (s.now - c.since) else c.busyCycles

/-- A facet's registers (R90). -/
def facetRegs (s : State) (n : Nat) : List RegRow :=
  let c := s.facet n
  let rows := match partOfPrism s (n / 16) with
    | some k => (s.part k).rows.toNat
    | none => 3
  [r32 0x00 c.cause.toNat, r32 0x04 c.causeEn.toNat,
   r32 0x08 (b2n c.running.isSome + 2 * rows + 2 ^ 3 * (c.queue.length % 8)), r32 0x0C c.ceCount.toNat,
   r64 0x10 c.kernels.toNat, r64 0x18 (busyCyclesOf s c).toNat]

/-- Noise starting states that a prism's facets wait for (R142, R143). -/
def jumpWaits (s : State) (p : Nat) : Nat :=
  sumN ((upTo 16).map fun i => sumN ((s.facet (16 * p + i)).queue.map (·.noise)))

/-- The registers of a jump unit (R143). DESIGN CHOICE (log 95): BUSY reads 1 while a starting state is requested. -/
def jumpRegs (s : State) (p : Nat) : List RegRow :=
  let q := s.prism p
  let n := min 4095 (jumpWaits s p)
  [r32 0x00 q.jumpCause.toNat, r32 0x04 q.jumpCauseEn.toNat, r32 0x08 (b2n (decide (n ≠ 0)) + 2 * n),
   r64 0x10 q.jumpApplied.toNat]

/-- A number that names no partition, and a prism that is no home prism, reads as zero (R223, R186). -/
def zeroRows (rows : List RegRow) : List RegRow := rows.map fun q => (q.1, q.2.1, 0)

/-- The rows of a block near an offset. -/
def blkRows (s : State) (f : Nat) (b : Blk) (o : Nat) : List RegRow :=
  match b with
  | .ident => identRegs s
  | .irq => irqRegs s f o
  | .fatal => fatalRegs s
  | .msix => msixRegs s f
  | .pba => [r64 0 (b2n (s.func f).msixPending)]
  | .ring r => ringRegs s f r
  | .part k => if (s.part k).valid then partRegs s k o else zeroRows (partRegs s k o)
  | .port p => portRegs (s.port p) (clocksOn s p) (framesOf s p) o
  | .vertex => vertexRegs s o
  | .memc => memRegs s o
  | .pcie => pcieRegs s
  | .cache => cacheRegs s
  | .clocks => clockRegs s o
  | .security => secRegs s o
  | .test => testRegs s o
  | .queues => queueRegs s o
  | .facet n => facetRegs s n
  | .jump p => jumpRegs s p
  | .streams k => if (s.part k).valid then streamRegs s k else zeroRows (streamRegs s k)
  | .viewSelect => [r32 0 (s.func f).view.toNat]
  | .hidden => [r32 0 0, r32 4 0]

/-- The register that holds the 32-bit word at an offset of a block (R8). -/
def rowAt (s : State) (f : Nat) (b : Blk) (o : Nat) : Option RegRow :=
  (blkRows s f b o).find? fun q => if q.2.1 then q.1 == o / 8 * 8 else q.1 == o

/-- The 32-bit word of a register at an offset (R8). -/
def wordOf (q : RegRow) (o : Nat) : Nat := if o = q.1 then q.2.2 % 2 ^ 32 else q.2.2 / 2 ^ 32

/-- The 32-bit word at an offset of a function's BAR0; none at a reserved offset. -/
def peek (s : State) (f a : Nat) : Option Nat :=
  match locate s f a with
  | none => none
  | some (b, o) => (rowAt s f b o).map fun q => wordOf q o

/-! ### Writes -/

/-- No partition exists (R248, R356, R379). -/
def noPartition (s : State) : Bool := !s.parts.any fun kv => kv.2.valid

/-- A write of DEVICE_NUMBER (R10, R25, R31). -/
def numberEff (s : State) (v : Nat) : State :=
  if s.ident.lock then s
  else { s with ident := { s.ident with number := BitVec.ofNat 10 v, numberValid := bitAt v 31 } }

/-- A write of GLOBAL_LOCK (R10, R31). -/
def lockEff (s : State) (v : Nat) : State := { s with ident := { s.ident with lock := s.ident.lock || bitAt v 0 } }

/-- A write of INT_ARM (R399). -/
def armEff (s : State) (f v : Nat) : State := s.modFunc f fun p => { p with armed := p.armed || bitAt v 0 }

/-- Unmasking the vector sends its pending message (R399); in D3hot it is held (R450). -/
def unmaskEff (s : State) (f : Nat) : State :=
  let p := s.func f
  let s1 := s.modFunc f fun p =>
    { p with msixMask := false, msixPending := false, msixHeld := p.msixHeld || (p.msixPending && inD3 s f) }
  if p.msixPending && !inD3 s f then s1.emit (.msix f p.msixAddr.toNat p.msixData) else s1

/-- Groups that a function's INT_SUMMARY_EN can enable (R401). -/
def summaryMask (f : Nat) : Nat := if f = 0 then 0x1FFF else 0x11F

/-- A write in the interrupt page (R401). -/
def irqWrite (s : State) (f o v : Nat) : State :=
  if o = 0x4 then s.modFunc f fun p => { p with summaryEn := BitVec.ofNat 13 (v &&& summaryMask f) }
  else if o = 0x8 then armEff s f v
  else if o = 0xC then (if f = 0 then s.modFunc f fun p => { p with pinMask := BitVec.ofNat 13 v } else s)
  else
    let g := (o - 0x100) / 0x40
    let w := o % 0x40
    if 0x100 ≤ o ∧ g < 13 ∧ 0x20 ≤ w ∧ w < 0x34 then
      s.modFunc f fun p => { p with
        groupEn := tabSet 0 p.groupEn (5 * g + (w - 0x20) / 4) (BitVec.ofNat 32 (v ^^^ groupEnReset g ((w - 0x20) / 4))) }
    else s

/-- A write of the MSI-X table entry (log 16). -/
def msixWrite (s : State) (f o v : Nat) : State :=
  if o = 0x0 then s.modFunc f fun p => { p with msixAddr := BitVec.ofNat 64 (v / 4 * 4) }
  else if o = 0x8 then s.modFunc f fun p => { p with msixData := BitVec.ofNat 32 v }
  else if bitAt v 0 then s.modFunc f fun p => { p with msixMask := true }
  else unmaskEff s f

/-- A write of RING_CONTROL: the completion ring is enabled first and disabled last (R269 to R271, R273). -/
def ringControl (s : State) (f r v : Nat) : State :=
  let s1 := if bitAt v 1 then cqEnableEff s f r true else s
  let s2 := sqEnableEff s1 f r (bitAt v 0)
  let s3 := if bitAt v 1 then s2 else cqEnableEff s2 f r false
  let s4 := if bitAt v 2 then abortEff s3 f r else s3
  if bitAt v 3 then ringResetEff s4 f r else s4

/-- Clearing COMPLETION starts the count of signalled entries anew (R268). -/
def clearRingCause (q : Ring) (v : Nat) : Ring :=
  { q with
    cause := w1c q.cause v
    signalled := if bitAt v 0 then 0 else q.signalled
    firstSignalled := if bitAt v 0 then none else q.firstSignalled }

/-- Bits of a ring base that are not reserved (R273). -/
def baseMask (v : Nat) : Nat := v / 4096 * 4096 + v % 2

/-- A write in a ring-pair page (R273). -/
def ringWrite (s : State) (f r o v : Nat) : State :=
  let off := !(s.ring f r).sqEnable && !(s.ring f r).cqEnable
  if o = 0x00 then (if s.live then sqTailEff s f r (BitVec.ofNat 32 v) else s)
  else if o = 0x04 then (if s.live then cqHeadEff s f r (BitVec.ofNat 32 v) else s)
  else if o = 0x10 then (if off then s.modRing f r fun q => { q with sqBase := BitVec.ofNat 64 (baseMask v) } else s)
  else if o = 0x18 then (if off then s.modRing f r fun q => { q with cqBase := BitVec.ofNat 64 (baseMask v) } else s)
  else if o = 0x20 then
    (if off then s.modRing f r fun q =>
      { q with sqLog2 := BitVec.ofNat 5 v, cqLog2 := BitVec.ofNat 5 (bits v 9 5), cqSelect := BitVec.ofNat 4 (bits v 13 10) }
     else s)
  else if o = 0x24 then (if s.live then ringControl s f r v else s)
  else if o = 0x2C then
    s.modRing f r fun q => { q with coCount := BitVec.ofNat 8 v, coTime := BitVec.ofNat 16 (bits v 23 8) }
  else if o = 0x30 then s.modRing f r fun q => clearRingCause q v
  else if o = 0x34 then s.modRing f r fun q => { q with causeEn := BitVec.ofNat 4 v }
  else s

/-- A write in a partition's block (R223, R249, R403). -/
def partWrite (s : State) (k o v : Nat) : State :=
  if o = 0x20 then s.modPart k fun p => { p with partCause := w1c p.partCause v }
  else if o = 0x24 then s.modPart k fun p => { p with partEn := BitVec.ofNat 6 v }
  else if o = 0x40 then (if bitAt v 0 then acctClearEff s k else s)
  else if o = 0x50 then s.modPart k fun p => { p with modelCause := w1c p.modelCause v }
  else if o = 0x54 then s.modPart k fun p => { p with modelEn := BitVec.ofNat 4 v }
  else if o = 0x70 then s.modPart k fun p => { p with faultCause := w1c p.faultCause v }
  else if o = 0x74 then s.modPart k fun p => { p with faultEn := BitVec.ofNat 5 v }
  else s

/-- A write in a partition's stream registers (R186). -/
def streamsWrite (s : State) (k o v : Nat) : State :=
  if o = 0x00 then s.modPart k fun p => { p with streamCause := w1c p.streamCause v }
  else if o = 0x04 then s.modPart k fun p => { p with streamEn := BitVec.ofNat 5 v }
  else s

/-- A write in a port's block (R347). -/
def portWrite (s : State) (p o v : Nat) : State :=
  if o = 0x4C then s.modPort p fun q => { q with cause := w1c q.cause v }
  else if o = 0x50 then s.modPort p fun q => { q with causeEn := BitVec.ofNat 11 v }
  else s

/-- A write in the vertex block (R366, R374, R378). -/
def vertexWrite (s : State) (o v : Nat) : State :=
  if o = 0x00 then
    { s with vertex :=
      { s.vertex with
        timeoutUs := BitVec.ofNat 16 v, hopLimit := BitVec.ofNat 4 (bits v 19 16), portEnable := BitVec.ofNat 8 (bits v 27 20) } }
  else if o = 0x08 then { s with vertex := { s.vertex with cause := w1c s.vertex.cause v } }
  else if o = 0x0C then { s with vertex := { s.vertex with causeEn := BitVec.ofNat 10 v } }
  else if 0x80 ≤ o ∧ o < 0x100 then unreachableEff s ((o - 0x80) / 4) v
  else if 0x1000 ≤ o ∧ o < 0x2000 then
    let t := { s with vertex := { s.vertex with routes := tabSet 0 s.vertex.routes ((o - 0x1000) / 4) (BitVec.ofNat 8 v) } }
    if s.live then settleHeld t else t
  else s

/-- A write in the memory-controller block (R356, R357, R359, R379). -/
def memWrite (s : State) (o v : Nat) : State :=
  if o = 0x04 then
    (if noPartition s then { s with memc := { s.memc with poolGib := BitVec.ofNat 10 v } } else s)
  else if o = 0x08 then { s with memc := { s.memc with scrubH := BitVec.ofNat 8 v } }
  else if o = 0x0C then { s with memc := { s.memc with cause := w1c s.memc.cause v } }
  else if o = 0x10 then { s with memc := { s.memc with causeEn := BitVec.ofNat 7 v } }
  else if 0x1000 ≤ o ∧ o < 0x2000 then rangeWrite s ((o - 0x1000) / 16) (decide (o % 16 = 8)) v
  else if 0x2000 ≤ o ∧ o < 0x2200 then
    { s with hostBase := tabSet 0 s.hostBase ((o - 0x2000) / 8) (BitVec.ofNat 64 (v / 4096 * 4096)) }
  else s

/-- A write in the PCIe block (R451). -/
def pcieWrite (s : State) (o v : Nat) : State :=
  if o = 0x4 then { s with pcie := { s.pcie with bar2Gib := BitVec.ofNat 9 v } }
  else if o = 0x8 then
    { s with pcie := { s.pcie with l0pAllow := bitAt v 0, l1Allow := bitAt v 1, l1IdleUs := BitVec.ofNat 16 (bits v 31 16) } }
  else s

/-- T2_GIB may be written: no partition exists and the size is 1 to 448 within the usable LPDDR5X (R248,
log 63). -/
def t2Writable (s : State) (g : Nat) : Bool :=
  noPartition s && decide (1 ≤ g ∧ g ≤ 448 ∧ g * 2 ^ 30 ≤ usable s)

/-- A write in the model-cache block (R248). -/
def cacheWrite (s : State) (o v : Nat) : State :=
  if o = 0 && t2Writable s (v % 2 ^ 10) then { s with cache := { s.cache with t2Gib := BitVec.ofNat 10 v } } else s

/-- A write of BOOT_HOST_CTRL (R412, R420). -/
def hostCtrlEff (s : State) (v : Nat) : State :=
  { s with clk := { s.clk with hostBytes := BitVec.ofNat 23 v, go := s.clk.go || bitAt v 31 } }

/-- A write in the clocks, power and thermal block (R420, R467). -/
def clockWrite (s : State) (o v : Nat) : State :=
  if o = 0x04 then resetControlEff s v
  else if o = 0x10 then { s with clk := { s.clk with hostAddr := BitVec.ofNat 64 v } }
  else if o = 0x18 then hostCtrlEff s v
  else if o = 0x2C then { s with clk := { s.clk with pmuCause := w1c s.clk.pmuCause v } }
  else if o = 0x30 then { s with clk := { s.clk with pmuEn := BitVec.ofNat 7 v } }
  else if o = 0x34 then { s with clk := { s.clk with crownCause := w1c s.clk.crownCause v } }
  else if o = 0x38 then { s with clk := { s.clk with crownEn := BitVec.ofNat 3 v } }
  else if o = 0x200 then
    { s with clk := { s.clk with gpioOut := BitVec.ofNat 8 v, gpioOe := BitVec.ofNat 8 (bits v 15 8) } }
  else s

/-- A write in the security block (R434). -/
def secWrite (s : State) (o v : Nat) : State :=
  if o = 0x10 then { s with sec := { s.sec with cause := w1c s.sec.cause v } }
  else if o = 0x14 then { s with sec := { s.sec with causeEn := BitVec.ofNat 7 v } }
  else s

/-- INJECT may be written: in the test state or with debug unlocked, and KIND 3 in classes 0 to 2 (R459). -/
def mayInject (s : State) (c v : Nat) : Bool :=
  (s.test.testState || s.sec.debugLevel != 0) && (bits v 1 0 != 3 || decide (c ≤ 2))

/-- The register that a write of INJECT leaves: with COUNT 0, KIND returns to 0 (R459, R461). -/
def injectOf (v : Nat) : Inject :=
  { kind := if bits v 15 8 = 0 then 0 else BitVec.ofNat 2 v, header := bitAt v 2, count := BitVec.ofNat 8 (bits v 15 8) }

/-- A write of INJECT[c]; one that leaves KIND set with COUNT 0 has reached 0 (R459). -/
def injectEff (s : State) (c v : Nat) : State :=
  if mayInject s c v then
    let s1 := { s with test := { s.test with inject := tabSet {} s.test.inject c (injectOf v) } }
    if bits v 15 8 = 0 && bits v 1 0 ≠ 0 then s1.setTestCause 4 else s1
  else s

/-- A write in the test block (R461). -/
def testWrite (s : State) (o v : Nat) : State :=
  if o = 0x04 then { s with test := { s.test with cause := w1c s.test.cause v } }
  else if o = 0x08 then { s with test := { s.test with causeEn := BitVec.ofNat 5 v } }
  else if 0x40 ≤ o ∧ o < 0x68 then injectEff s ((o - 0x40) / 4) v
  else s

/-- A write in the queue block (R404). -/
def queueWrite (s : State) (o v : Nat) : State :=
  if o = 0x0 then { s with queueCause := w1c s.queueCause v }
  else if o = 0x4 then { s with queueEn := BitVec.ofNat 32 v }
  else
    let c := (o - 0x100) / 0x20
    if 0x100 ≤ o ∧ o % 0x20 = 0x10 ∧ 2 ≤ c ∧ c ≤ 4 then
      s.modQclass c fun q => { q with tailTimeout := some (BitVec.ofNat 16 v) }
    else s

/-- A write in a facet's block (R90). -/
def facetWrite (s : State) (n o v : Nat) : State :=
  if o = 0x00 then s.modFacet n fun c => { c with cause := w1c c.cause v }
  else if o = 0x04 then s.modFacet n fun c => { c with causeEn := BitVec.ofNat 4 v }
  else s

/-- A write in a jump unit's block (R143). -/
def jumpWrite (s : State) (p o v : Nat) : State :=
  if o = 0x00 then s.modPrism p fun q => { q with jumpCause := w1c q.jumpCause v }
  else if o = 0x04 then s.modPrism p fun q => { q with jumpCauseEn := BitVec.ofNat 1 v }
  else s

/-- A write of a whole register by its field types (R9): every register that is not named here is RO. -/
def blkWrite (s : State) (f : Nat) (b : Blk) (o v : Nat) : State :=
  match b with
  | .ident => if o = 0x0C then numberEff s v else if o = 0x10 then lockEff s v else s
  | .irq => irqWrite s f o v
  | .fatal => if o = 0 then { s with fatal := { s.fatal with cause := w1c s.fatal.cause v } } else s
  | .msix => msixWrite s f o v
  | .pba => s
  | .ring r => ringWrite s f r o v
  | .part k => partWrite s k o v
  | .port p => portWrite s p o v
  | .vertex => vertexWrite s o v
  | .memc => memWrite s o v
  | .pcie => pcieWrite s o v
  | .cache => cacheWrite s o v
  | .clocks => clockWrite s o v
  | .security => secWrite s o v
  | .test => testWrite s o v
  | .queues => queueWrite s o v
  | .facet n => facetWrite s n o v
  | .jump p => jumpWrite s p o v
  | .streams k => streamsWrite s k o v
  | .viewSelect => s.modFunc f fun p => { p with view := BitVec.ofNat 11 v }
  | .hidden => s

/-- The value of a register after its word at an offset is written: the other half of a 64-bit register
keeps what it holds. -/
def mergeWord (q : RegRow) (o v : Nat) : Nat :=
  if q.2.1 then
    (if o = q.1 then q.2.2 / 2 ^ 32 * 2 ^ 32 + v % 2 ^ 32 else v % 2 ^ 32 * 2 ^ 32 + q.2.2 % 2 ^ 32)
  else v % 2 ^ 32

/-- A write of one 32-bit word of a block. -/
def writeWord (s : State) (f : Nat) (b : Blk) (o v : Nat) : State :=
  match rowAt s f b o with
  | none => s
  | some q => blkWrite s f b q.1 (mergeWord q o v)

/-- An access outside R444 and R445: a write is dropped, a read is completed with UR (R443). -/
def outsideWrite (s : State) : State := { s with pcie := { s.pcie with aerUnsupported := true } }
def outsideRead (s : State) : State := (outsideWrite s).emit .unsupported

/-- BAR0 serves all of its registers (R413, R452). -/
def State.barUp (s : State) : Bool := s.mode == .ready || s.mode == .test || s.mode == .fatal || s.mode == .tripped

/-- A naturally aligned access of 4 or 8 bytes (R445). -/
def accessOk (a size : Nat) : Bool := decide ((size = 4 ∧ a % 4 = 0) ∨ (size = 8 ∧ a % 8 = 0))

/-- A write of 4 or 8 bytes (R8, R445). During boot, only the clocks block takes it (R413). -/
def regWriteEff (s : State) (f a size v : Nat) : State :=
  if !accessOk a size then outsideWrite s
  else match locate s f a with
  | none => outsideWrite s
  | some (b, o) =>
    if !s.barUp && b != .clocks then s
    else match rowAt s f b o with
    | none => outsideWrite s
    | some q =>
      if size = 4 then writeWord s f b o v
      else if q.2.1 then blkWrite s f b o (v % 2 ^ 64)
      else if (rowAt s f b (o + 4)).isNone then outsideWrite s
      else writeWord (writeWord s f b o v) f b (o + 4) (v / 2 ^ 32)

/-- A function answers on its BAR0: it exists, its BARs are enabled and the link is up (R413, R440, R450). -/
def State.answers (s : State) (f : Nat) : Bool := s.clocksUp && funcExists s f && !inD3 s f

/-- A value of Max_Payload_Size or Max_Read_Request_Size: 128 bytes times a power of two, at most what the device
supports (R441). -/
def sizeCode (v most : Nat) : Nat := min most (128 * 2 ^ (v % 8))

/-- A write to configuration space (R435, R441 to R444, log 16). The registers are those of PF0. -/
def configEff (s : State) (reg : CfgReg) (v : Nat) : State :=
  let p := s.pcie
  { s with pcie := match reg with
    | .maxPayload => { p with maxPayload := sizeCode v 512 }
    | .maxRead => { p with maxRead := sizeCode v 4096 }
    | .tenBitTags => { p with tenBitTags := bitAt v 0 }
    | .timeoutRange => { p with completionTimeout := BitVec.ofNat 4 v }
    | .timeoutDisable => { p with completionTimeoutOff := bitAt v 0 }
    | .aerStatus =>
      { p with
        aerPoisonedTlp := p.aerPoisonedTlp && !bitAt v 12, aerCompletionTimeout := p.aerCompletionTimeout && !bitAt v 14
        aerUnsupported := p.aerUnsupported && !bitAt v 20, aerInternal := p.aerInternal && !bitAt v 22 }
    | .aerMask => { p with aerMask := BitVec.ofNat 32 v }
    | .aerSeverity => { p with aerSeverity := BitVec.ofNat 32 v }
    | .bar2Size => if bar2Sizes.contains (2 ^ (v % 64)) then { p with bar2Size := BitVec.ofNat 10 (2 ^ (v % 64)) } else p
    | .bar i => { p with bars := tabSet 0 p.bars (i / 2) (BitVec.ofNat 64 v) }
    | .bandwidthStatus => { p with bandwidthChanged := p.bandwidthChanged && !bitAt v 0 } }

/-- A write that a function's BAR0 takes; a packet with EP set is dropped (R443). -/
def barWriteEff (s : State) (fn off : Nat) (ep : Bool) (size v : Nat) : State :=
  if ep then { s with pcie := { s.pcie with aerPoisonedTlp := true } } else regWriteEff s fn off size v

/-- REGISTER_WRITE (R9): a write to a function's BAR0, or to the configuration space of PF0 (R441 to R444). -/
def execRegisterWrite (fn : Nat) (target : RegTarget) (size : Nat) (value : Word64) (s : State) :
    Host.Outcome State Fault Refusal :=
  if Instr.wf (.registerWrite fn target size value) then
    match target with
    | .bar0 off ep => doneIf (s.answers fn) s (barWriteEff s fn off ep size value.toNat).linkUsed
    | .config reg => doneIf (s.pcie.released && s.clk.refclkOk && fn == 0) s (configEff s reg value.toNat).linkUsed
  else done s

/-- Key of the latched high word at an offset of a function (R8). -/
def latchKey (f a : Nat) : Nat := f * 2 ^ 28 + a

/-- An 8-byte read: a 64-bit register whole, or two registers of 32 bits (R8, R445). -/
def regRead8 (s : State) (f a : Nat) : State :=
  if !accessOk a 8 then outsideRead s
  else match locate s f a with
  | none => outsideRead s
  | some (b, o) =>
    if !s.barUp && b != .clocks then s.emit (.regData64 f a 0)
    else match rowAt s f b o with
    | none => outsideRead s
    | some q =>
      if q.2.1 then s.emit (.regData64 f a (BitVec.ofNat 64 q.2.2))
      else match rowAt s f b (o + 4) with
      | none => outsideRead s
      | some h => s.emit (.regData64 f a (BitVec.ofNat 64 (wordOf q o + 2 ^ 32 * wordOf h (o + 4))))

/-- A 4-byte read. A read of the low word of a 64-bit register latches its high word, and the next read of
the high word returns the latched one (R8). -/
def regReadEff (s : State) (f a : Nat) : State :=
  if !accessOk a 4 then outsideRead s
  else match locate s f a with
  | none => outsideRead s
  | some (b, o) =>
    if !s.barUp && b != .clocks then s.emit (.regData f a 0)
    else match rowAt s f b o with
    | none => outsideRead s
    | some q =>
      let v := BitVec.ofNat 32 (wordOf q o)
      if !q.2.1 then s.emit (.regData f a v)
      else if o = q.1 then
        ({ s with latches := (s.latches.filter fun (l : Nat × Word32) => l.1 != latchKey f (a + 4)) ++
            [(latchKey f (a + 4), BitVec.ofNat 32 (q.2.2 / 2 ^ 32))] }).emit (.regData f a v)
      else
        let w := ((s.latches.find? fun (l : Nat × Word32) => l.1 == latchKey f a).map (·.2)).getD v
        ({ s with latches := s.latches.filter fun (l : Nat × Word32) => l.1 != latchKey f a }).emit (.regData f a w)

/-- REG_LOW_WORD_READ (R8): a read of a function's BAR0, of 4 or 8 bytes. -/
def execRegLowWordRead (fn : Nat) (off : RegRead) (s : State) : Host.Outcome State Fault Refusal :=
  if Instr.wf (.regLowWordRead fn off) then
    doneIf (s.answers fn) s
      (if off.size = 4 then regReadEff s fn off.off else if off.size = 8 then regRead8 s fn off.off else outsideRead s).linkUsed
  else done s

/-! ### Registers with a row of their own -/

/-- GLOBAL_LOCK (R10). -/
def execGlobalLock (value : Word32) (s : State) : Host.Outcome State Fault Refusal :=
  doneIf (s.answers 0 && s.barUp) s (lockEff s value.toNat).linkUsed

/-- NUMBER_VALID (R25): a write of DEVICE_NUMBER. -/
def execNumberValid (value : Word32) (s : State) : Host.Outcome State Fault Refusal :=
  doneIf (s.answers 0 && s.barUp) s (numberEff s value.toNat).linkUsed

/-- INT_ARM (R399). -/
def execIntArm (fn : Nat) (value : Word32) (s : State) : Host.Outcome State Fault Refusal :=
  if Instr.wf (.intArm fn value) then doneIf (s.answers fn && s.barUp) s (armEff s fn value.toNat).linkUsed
  else done s

/-- MSIX_UNMASK (R399). -/
def execMsixUnmask (fn : Nat) (s : State) : Host.Outcome State Fault Refusal :=
  if Instr.wf (.msixUnmask fn) then doneIf (s.answers fn && s.barUp) s (unmaskEff s fn).linkUsed
  else done s

/-- INJECT (R459). -/
def execInject (cls : Nat) (value : Word32) (s : State) : Host.Outcome State Fault Refusal :=
  if Instr.wf (.inject cls value) then doneIf (s.answers 0 && s.barUp) s (injectEff s cls value.toNat).linkUsed
  else done s

/-- GO (R412): a write of BOOT_HOST_CTRL. -/
def execGo (value : Word32) (s : State) : Host.Outcome State Fault Refusal :=
  doneIf (s.answers 0) s (hostCtrlEff s value.toNat).linkUsed

/-! ### DEVICE_QUERY (R282), COUNTERS_READ (R283), NOP (R280), FENCE (R281) -/

def nopEff (c : Cmd) (s : State) : State := fail s c.cid stOk

/-- NOP (R280). -/
def execNop (cid : Nat) (s : State) : Host.Outcome State Fault Refusal := onCmd s cid 0x00 nopEff

/-- Earlier commands that FENCE waits for are those that `holds` names (R281). -/
def fenceEff (c : Cmd) (s : State) : State :=
  if !c.only [(16, 1)] || 1 < c.f 16 1 then fail s c.cid stInvalidParameter else fail s c.cid stOk

/-- FENCE (R281). -/
def execFence (cid : Nat) (s : State) : Host.Outcome State Fault Refusal := onCmd s cid 0x01 fenceEff

/-- Data rate in MT/s (R379). -/
def rateMts (r : Nat) : Nat := [10667, 8533, 7500].getD r 0

/-- Prisms in no partition and not being zeroed (R282). -/
def freePrisms (s : State) : Nat :=
  sumN ((upTo 128).map fun p => 2 ^ p * b2n ((partOfPrism s p).isNone && !(s.prism p).zeroing))

/-- The device record (R282). -/
def deviceRecord (s : State) (f : Nat) : Bytes :=
  toLE 4 (Config.vendorId + 2 ^ 16 * Config.deviceId) ++
  toLE 4 (Config.siliconRev + 2 ^ 8 * Config.contractMajor + 2 ^ 16 * Config.contractMinor) ++
  toLE 2 (s.ident.number.toNat + 2 ^ 15 * b2n s.ident.numberValid) ++ toLE 2 f ++ toLE 4 s.sec.fwVersion.toNat ++
  toLE 16 (freePrisms s) ++ toLE 2 s.memc.installedGib.toNat ++ toLE 2 (rateMts s.memc.rate.toNat) ++ zeros 4 ++
  toLE 8 (usable s) ++ toLE 16 (sumN ((ownedParts s f).map (2 ^ ·)))

def deviceQueryEff (c : Cmd) (s : State) : State :=
  if !c.only [(16, 12)] then fail s c.cid stInvalidParameter
  else writeSized s c (c.f 16 8) (c.f 24 4) (deviceRecord s c.fn) 64

/-- DEVICE_QUERY (R282). -/
def execDeviceQuery (cid : Nat) (s : State) : Host.Outcome State Fault Refusal := onCmd s cid 0x02 deviceQueryEff

/-- Size of a function's register space (R283, R444). -/
def barBytes (f : Nat) : Nat := if f = 0 then 2 ^ 28 else 2 ^ 16

/-- Words of a function's BAR0; reserved words read 0 (R12, R283). -/
def counterWords (s : State) (f off n : Nat) : Bytes :=
  (upTo n).flatMap fun i => toLE 4 ((peek s f (off + 4 * i)).getD 0)

def countersReadEff (c : Cmd) (s : State) : State :=
  let off := c.f 24 4
  let n := c.f 28 4
  let v := c.f 16 8
  if off % 4 ≠ 0 || n < 1 || 16384 < n || !addrValid v then fail s c.cid stInvalidParameter
  else if barBytes c.fn < off + 4 * n || !mayName s c.fn v (4 * n) false then fail s c.cid stNotPermitted
  else writeOut s c v (counterWords s c.fn off n) stOk 0 (4 * n)

/-- COUNTERS_READ (R283). -/
def execCountersRead (cid : Nat) (s : State) : Host.Outcome State Fault Refusal := onCmd s cid 0x03 countersReadEff

end Sys2Proof.Machine
end

