-- ==== Sys2Proof/Machine/Queues.lean ====
section
/-! DEFINITION. Fall-through queues (R380 to R388): writing an item, the move towards stage 0, reading and
its error checks, DROP_PACKET, the tail timeout, and the injection of R459. -/

namespace Sys2Proof.Machine

/-! ### Stages -/

def qKey (c i : Nat) : Nat := 65536 * c + i
def State.ftq (s : State) (c i : Nat) : FtQueue := tabGet {} s.ftqs (qKey c i)

/-- No stage holds an item. -/
def noItem (st : List (Option QItem)) : Bool := st.all (·.isNone)

/-- A queue as it is kept: an empty one lists no stages. -/
def FtQueue.norm (q : FtQueue) : FtQueue := if noItem q.stages then { q with stages := [], timer := 0 } else q

def State.setFtq (s : State) (c i : Nat) (q : FtQueue) : State := { s with ftqs := tabSet {} s.ftqs (qKey c i) q.norm }

/-- One cycle of movement: every item above the lowest empty stage moves one stage down (R381). -/
def shiftDown : List (Option QItem) → List (Option QItem)
  | [] => []
  | none :: r => r ++ [none]
  | some x :: r => some x :: shiftDown r

/-- The input end of a queue is free (R382). -/
def inputFree (st : List (Option QItem)) : Bool := st.getLast?.getD none == none

/-- Put an item into stage N − 1. -/
def putInput (n : Nat) (st : List (Option QItem)) (x : QItem) : List (Option QItem) :=
  (if st.isEmpty then List.replicate (n - 1) none else st.dropLast) ++ [some x]

/-! ### Injection (R459) -/

/-- The fault that a KIND injects. -/
def kindFault (k : Nat) : WordFault := if k = 1 then .single else if k = 2 then .double else if k = 3 then .parity else .good

/-- INJECT acts on this word: a header word in the test state when HEADER is set, a payload word otherwise. -/
def injects (s : State) (j : Inject) (x : QItem) : Bool :=
  j.kind != 0 && j.count != 0 && (x.header == (j.header && s.test.testState))

/-- The injection registers after an altered word; at 0, KIND returns to 0 and INJECT_DONE is set. -/
def injectCount (s : State) (c : Nat) : State :=
  let j := tabGet {} s.test.inject c
  let n := j.count - 1
  let j1 : Inject := { kind := if n = 0 then 0 else j.kind, header := j.header, count := n }
  let s1 := { s with test := { s.test with inject := tabSet {} s.test.inject c j1 } }
  if n = 0 then s1.setTestCause 4 else s1

/-- Write an item into stage N − 1 of a queue that takes it (R381, R382, R459). -/
def itemEff (s : State) (c i : Nat) (x : QItem) : State :=
  let q := s.ftq c i
  let j := tabGet {} s.test.inject c
  let hit := injects s j x
  let y : QItem := { x with fault := if hit then kindFault j.kind.toNat else x.fault }
  let s1 := if hit then injectCount s c else s
  s1.setFtq c i
    { q with stages := putInput (depthOf c i) q.stages y, timer := if noItem q.stages then 0 else q.timer }

/-! ### Reading (R386 to R388) -/

/-- The class carries parity with its packets (R387). -/
def hasParity (c : Nat) : Bool := decide (c ≤ 2)

/-- A word of the class is uncorrectable or fails parity (R386, R387). -/
def isBad (c : Nat) (x : QItem) : Bool := x.fault == .double || (x.fault == .parity && hasParity c)

/-- Counters and QUEUE_CAUSE for a word that leaves a queue (R386, R387, R404). -/
def countWord (s : State) (c : Nat) (x : QItem) : State :=
  match x.fault with
  | .good => s
  | .single => (s.modQclass c fun q => { q with ceCount := addWrap q.ceCount 1 }).setQueueCause c
  | .double => (s.modQclass c fun q => { q with ueCount := addSat q.ueCount 1 }).setQueueCause (16 + c)
  | .parity =>
    if hasParity c then
      (s.modQclass c fun q => { q with parityErrors := addSat q.parityErrors 1 }).setQueueCause (16 + c)
    else s

/-- The word as it is delivered: corrected, or with a poison tag (R386, R387). -/
def delivered (c : Nat) (x : QItem) : QItem := { x with fault := .good, poison := x.poison || isBad c x }

/-- A DROP_PACKET of the consumer (R383). -/
def dropEff (s : State) (c i : Nat) : State :=
  let q := s.ftq c i
  (s.setFtq c i { q with dropping := q.dropping + 1 }).modQclass c fun k => { k with drops := addSat k.drops 1 }

/-- A bad header word: a device-fatal fault in classes 0 and 1, whose LINK and, for a die-to-die link, CODE
the spec leaves open (log 9); in any other class the consumer drops the rest of the packet, and its request completes
as a read that returned poison (R388). -/
def badHeader (s : State) (c i : Nat) (x : QItem) : State :=
  if c = 0 then fatalEff (s.used 1) 3 (s.free % 2)
  else if c = 1 then fatalEff (s.used 2) (5 + s.free % 2) (Config.freeNat (s.freeCtr + 1) % 7)
  else
    let s1 := s.emit (.poisonedRead c i)
    if x.eop then s1.modQclass c fun k => { k with drops := addSat k.drops 1 } else dropEff s1 c i

/-- A word with a poison tag reaches the completion writer: a ring error (R272, R389). -/
def badEntry (s : State) (i : Nat) : State :=
  (ringError s (i / 16) (i % 16) 3 (s.ring (i / 16) (i % 16)).sqHead.toNat).modRing (i / 16) (i % 16) fun q =>
    { q with cqStopped := true }

/-- The consumer reads an item (R386 to R389); a coalescer keeps it until it has read the whole unit (R384). -/
def readItem (s : State) (c i : Nat) (x : QItem) (keep : Bool) : State :=
  let s1 := countWord s c x
  if x.header && isBad c x then badHeader s1 c i x
  else
    let y := delivered c x
    let s2 := if c = 3 && y.poison && decide (i < 1024) then badEntry s1 i else s1
    if keep then s2.setFtq c i { s2.ftq c i with read := (s2.ftq c i).read ++ [y] } else s2.emit (.queueOut c i [y])

/-- The classes whose consumer is a coalescer (R384). -/
def coalesces (c : Nat) : Bool := c == 2 || c == 3 || c == 4

/-- Items of a queue up to the first that ends a packet; none without one. -/
def packetItems (xs : List QItem) : Nat := if xs.any (·.eop) then (xs.findIdx (·.eop)) + 1 else 0

/-- The items of a queue, the lowest stage first. -/
def itemsOf (q : FtQueue) : List QItem := q.stages.filterMap id

/-- A coalescer begins to read once a full burst or packet is present, at any stages (R384). -/
def FtQueue.begins (q : FtQueue) (c : Nat) : FtQueue :=
  if coalesces c && q.flushing == 0 && q.dropping == 0 then { q with flushing := packetItems (itemsOf q) } else q

/-- What a coalescer has read whole leaves in the cycle after the last read (R384). -/
def unitLeaves (s : State) (c i : Nat) : State :=
  let q := s.ftq c i
  if q.flushing = 0 && !q.read.isEmpty then (s.setFtq c i { q with read := [] }).emit (.queueOut c i q.read) else s

/-- One cycle of a queue's clock (R381, R383, R384). -/
def queueCycle (s0 : State) (c i : Nat) : State :=
  let s := unitLeaves s0 c i
  let q := (s.ftq c i).begins c
  match q.stages with
  | some x :: r =>
    let out : FtQueue := { q with stages := shiftDown (none :: r), timer := 0, flushing := q.flushing - 1 }
    if q.dropping ≠ 0 then
      (countWord s c x).setFtq c i { out with dropping := if x.eop then q.dropping - 1 else q.dropping }
    else if !coalesces c || q.flushing ≠ 0 then readItem (s.setFtq c i out) c i x (coalesces c)
    else s.setFtq c i { q with stages := shiftDown (some x :: r), timer := q.timer + 1 }
  | st => s.setFtq c i { q with stages := shiftDown st, timer := q.timer + 1 }

/-- Cycles of a class's clock in one FACET_CLK cycle: NOC_CLK has two, FACET_CLK one, CTRL_CLK one in every
second (R380, R405). -/
def clocksIn (now c : Nat) : Nat :=
  if c = 7 then 1 else if c = 3 ∨ c = 8 ∨ c = 9 then (if now % 2 = 0 then 1 else 0) else 2

def queueCycles (s : State) (c i : Nat) : Nat → State
  | 0 => s
  | n + 1 => queueCycles (queueCycle s c i) c i n

/-- A queue for one FACET_CLK cycle: the cycles of its own clock that it has not run yet. -/
def queuePasses (s : State) (c i now : Nat) : State :=
  let s1 := queueCycles s c i (clocksIn now c - (s.ftq c i).ahead)
  s1.setFtq c i { s1.ftq c i with ahead := 0 }

/-- Every queue moves for one FACET_CLK cycle. -/
def allQueues (now : Nat) : List Nat → State → State
  | [], s => s
  | k :: r, s => allQueues now r (queuePasses s (k / 65536) (k % 65536) now)

/-- A queue runs the first of two cycles of its clock in a FACET_CLK cycle (R381, R405). -/
def runAhead (s : State) (c i : Nat) : State :=
  let s1 := queueCycle s c i
  s1.setFtq c i { s1.ftq c i with ahead := 1 }

/-- The state in which a queue takes an item, if it does: one in each cycle of its own clock, of which NOC_CLK has two
in a FACET_CLK cycle; into a full queue, the producer holds the item (R381, R382). -/
def takesItem (s : State) (c i : Nat) : Option State :=
  let q := s.ftq c i
  if inputFree q.stages then some s
  else if clocksIn s.now c = 2 ∧ q.ahead = 0 ∧ inputFree ((runAhead s c i).ftq c i).stages then some (runAhead s c i)
  else none

/-- QUEUE_ITEM_WRITE (R381, R382). -/
def execQueueItemWrite (cls inst : Nat) (item : QItem) (s : State) : Host.Outcome State Fault Refusal :=
  if Instr.wf (.queueItemWrite cls inst item) then
    match takesItem s cls inst with
    | some t => doneIf s.live s (itemEff t cls inst item)
    | none => done s
  else done s

/-- DROP_PACKET (R383). -/
def execDropPacket (cls inst : Nat) (s : State) : Host.Outcome State Fault Refusal :=
  if Instr.wf (.dropPacket cls inst) then doneIf s.live s (dropEff s cls inst) else done s

/-! ### Tail timeout (R384, R385) -/

/-- The tail timer of a queue has reached its limit; reading, a drop among it, restarts it (R384, R385). -/
def tailDue (s : State) (c i : Nat) : Bool :=
  let q := s.ftq c i
  decide (tailTimeout s c ≠ 0) && !noItem q.stages && q.dropping == 0 && q.flushing == 0 && decide (tailTimeout s c ≤ q.timer)

/-- The flush of a queue begins: the consumer reads every item present and forwards them as one partial unit; with a
full packet present, that is read, and no flush is counted (R384, R385). -/
def tailFlush (s : State) (c i : Nat) : State :=
  let q := s.ftq c i
  if packetItems (itemsOf q) ≠ 0 then s.setFtq c i { q.begins c with timer := 0 }
  else (s.setFtq c i { q with flushing := (itemsOf q).length, timer := 0 }).modQclass c fun k =>
    { k with flushes := addSat k.flushes 1 }

/-- QUEUE_TAIL_TIMEOUT (R384): for class 3, instance 16·f + r is the completion coalescer of ring pair r of
function f, whose entries leave for memory. -/
def execQueueTailTimeout (cls inst : Nat) (s : State) : Host.Outcome State Fault Refusal :=
  if Instr.wf (.queueTailTimeout cls inst) then
    if cls = 3 && decide (inst < 1024) && coTailDue s (inst / 16) (inst % 16) then
      doneIf (cqFlows s (inst / 16) (inst % 16)) s (coFlush s (inst / 16) (inst % 16))
    else doneIf (s.live && tailDue s cls inst) s (tailFlush s cls inst)
  else done s

end Sys2Proof.Machine
end

