-- ==== Sys2Proof/Machine/Clock.lean ====
section
/-! DEFINITION. The passing of time: one FACET_CLK cycle (R31, R381, R405, log 2). -/

namespace Sys2Proof.Machine

/-- CYCLE_COUNT counts FACET_CLK cycles from root-PLL lock (R31). -/
def countCycle (s : State) : State :=
  if s.clk.rootLocked then { s with ident := { s.ident with cycleCount := addWrap s.ident.cycleCount 1 } } else s

/-- LPDDR5X training starts at the cycle after the first stage has run (R413 step 6, log 84). -/
def trainingStarts (s : State) : State :=
  if s.mode = .training ∧ s.clk.stage = 1 then { s with clk := { s.clk with stage := 2 } } else s

/-- The idle timer of the PCIe link takes note of what the device has sent (R437). -/
def noteLink (s : State) : State :=
  if packetsSent s = s.pcie.noted then s
  else { s with pcie := { s.pcie with noted := packetsSent s, idleSince := s.now } }

/-- FW_ACTIVATE's switch begins once every started command has completed (R433). -/
def switchStarts (s : State) : State :=
  if switching s && s.sec.switchAt.isNone then { s with sec := { s.sec with switchAt := some s.now } } else s

/-- One FACET_CLK cycle: CYCLE_COUNT counts, and the items of the fall-through queues move (R31, R381). -/
def cyclePasses (s : State) : State :=
  if s.live then settle (allQueues s.now (tabKeys s.ftqs) (linksWork (noteLink (switchStarts (countCycle s))))) else trainingStarts (countCycle s)

end Sys2Proof.Machine
end

