-- ==== Sys2Proof/Machine/Pcie.lean ====
section
/-! DEFINITION. PCI Express (R437, R441 to R446): the BAR2 window, completions of device reads, and the
power and width of the link. -/

namespace Sys2Proof.Machine

/-! ### BAR2 (R443, R446) -/

/-- Local address of a BAR2 offset (R446). -/
def bar2Addr (s : State) (off : Nat) : Nat := s.pcie.bar2Gib.toNat * 2 ^ 30 + off

/-- A BAR2 access inside BAR2 and one valid LOCAL_RANGE entry of PF0 reaches memory; any other is the outside case
(R443, R444, R446). An access of length 0 names no byte. -/
def bar2Eff (s : State) (off : Nat) (isWrite : Bool) (len : Nat) (data : Bytes) (ep : Bool) : State :=
  let a := bar2Addr s off
  if (decide (len ≠ 0) && !inOwnRange s 0 a len) || decide (s.pcie.bar2Size.toNat * 2 ^ 30 < off + len) then
    (if isWrite then outsideWrite s else outsideRead s)
  else if isWrite then
    let t := lpWrite s a data ep
    if ep then { t with pcie := { t.pcie with aerPoisonedTlp := true } } else t
  else (lpReadEff s a len).emit (.bar2Data (lpBytes s a len) (lpPoison s a len))

/-- BAR2_ACCESS (R446). On a looped channel the access does not start (R457). -/
def execBar2Access (off : Nat) (isWrite : Bool) (len : Nat) (data : Bytes) (ep : Bool) (s : State) :
    Host.Outcome State Fault Refusal :=
  if Instr.wf (.bar2Access off isWrite len data ep) then
    doneIf (s.answers 0 && !memLooped s (2 ^ 62 + bar2Addr s off) len) s (bar2Eff s off isWrite len data ep).linkUsed
  else done s

/-! ### Completions of device reads (R359, R442, R443) -/

def readOf (s : State) (tag : Nat) : Option PcieRead := s.pcieReads.find? fun r => r.tag == tag
def dropRead (s : State) (tag : Nat) : State := { s with pcieReads := s.pcieReads.filter fun r => r.tag != tag }

/-- A device read ended without good data: a ring error for submission units, POISONED_DATA for a COPY
(R272, R309, R359). ERROR_HEAD holds the unit at which the read began (R273). -/
def readFails (s : State) (r : PcieRead) : State :=
  match r.purpose with
  | .units f k => ringError s f k 2 ((r.addr - baseAddr (s.ring f k).sqBase) / 16)
  | .copy cid => failCopy s cid stPoisonedData
  | .stale => s

/-- Data of a device read arrives: it is what host memory holds there (log 7). -/
def readArrives (s : State) (r : PcieRead) (data : Bytes) : State :=
  let b := data.take r.len
  let s1 := { s with hostMem := writeBytes s.hostMem r.addr b, hostPoison := poisonAfter s.hostPoison r.addr b.length false }
  match r.purpose with
  | .units f k => unitsArrive s1 f k r.addr b.length
  | .stale => s1
  | .copy cid =>
    match s1.cmd cid with
    | none => s1
    | some c => copyWritePiece s1 c (r.addr - (place s1 c.fn (c.f 16 8)).2) b

/-- Tags are free again: copies ask for what waits (R441). -/
def askWaiting (s : State) : State :=
  (s.cmds.filter fun c => !c.rest.isEmpty).foldl (fun s c => askCopy s c c.rest) s

/-- A completion for a device read (R443). -/
def completionEff (s : State) (r : PcieRead) (status : CplStatus) (data : Bytes) : State :=
  let s1 := dropRead s r.tag
  match status with
  | .ok => readArrives s1 r data
  | .poisoned => readFails { s1 with pcie := { s1.pcie with aerPoisonedTlp := true } } r
  | .unsupported => readFails s1 r
  | .aborted => readFails s1 r

/-- PCIE_READ_COMPLETION (R443): the completion of a whole read. -/
def execPcieReadCompletion (tag : Nat) (status : CplStatus) (data : Bytes) (s : State) :
    Host.Outcome State Fault Refusal :=
  match readOf s tag with
  | none => done s
  | some r => doneIf (s.live && (status != .ok || data.length == r.len)) s (askWaiting (completionEff s r status data)).linkUsed

/-- The bounds in µs of a programmed Completion Timeout Value: two parts each of ranges A to D (R442, log 16). -/
def timeoutRange (v : Nat) : Option (Nat × Nat) :=
  match v with
  | 1 => some (50, 100)
  | 2 => some (1000, 10000)
  | 5 => some (16000, 55000)
  | 6 => some (65000, 210000)
  | 9 => some (260000, 900000)
  | 10 => some (1000000, 3500000)
  | 13 => some (4000000, 13000000)
  | 14 => some (17000000, 64000000)
  | _ => none

/-- The completion timeout in µs: 10 ms until software programs another value (R442). -/
def completionUs (s : State) : Nat :=
  match timeoutRange s.pcie.completionTimeout.toNat with
  | none => 10000
  | some b => min b.2 (max b.1 (Config.timeoutUs s.pcie.completionTimeout.toNat))

/-- The completion timer of a read has run out (R442). -/
def readLate (s : State) (r : PcieRead) : Bool :=
  !s.pcie.completionTimeoutOff && decide (r.since + 1000 * completionUs s ≤ s.now)

/-- PCIE_COMPLETION_TIMEOUT (R442, R443). -/
def execPcieCompletionTimeout (tag : Nat) (s : State) : Host.Outcome State Fault Refusal :=
  match readOf s tag with
  | none => done s
  | some r =>
    let s1 := dropRead s tag
    doneIf (s.live && readLate s r) s
      (askWaiting (readFails { s1 with pcie := { s1.pcie with aerCompletionTimeout := true } } r))

/-! ### Link power and width (R437) -/

/-- A partition holds an LC lattice entry. -/
def anyLc (s : State) : Bool := s.parts.any fun kv => kv.2.valid && kv.2.lcHeld

/-- The link has carried nothing for the idle time: no packet of the device that the timer has not noted, no recent
read, and no access of the host (R437). -/
def linkIdle (s : State) : Bool :=
  let t := 1000 * max 1 s.pcie.l1IdleUs.toNat
  packetsSent s == s.pcie.noted && (s.pcieReads.all fun r => decide (r.since + t ≤ s.now)) &&
  decide (s.pcie.idleSince + t ≤ s.now)

/-- The device may enter ASPM L1 (R437). -/
def mayL1 (s : State) : Bool :=
  s.pcie.released && !s.pcie.l1 && s.pcie.l1Allow && !anyLc s &&
  s.rings.all (fun kv => !kv.2.sqEnable || kv.2.pending == 0) && linkIdle s

/-- L1_ENTRY (R437). -/
def execL1Entry (s : State) : Host.Outcome State Fault Refusal :=
  doneIf (s.live && mayL1 s) s { s with pcie := { s.pcie with l1 := true } }

/-- L1_EXIT (R437). -/
def execL1Exit (s : State) : Host.Outcome State Fault Refusal :=
  doneIf s.pcie.l1 s ({ s with pcie := { s.pcie with l1 := false } }).linkUsed

/-- A width that the link can take under L0p (R435). -/
def widthOk (s : State) (w : Nat) : Bool :=
  [4, 8, 16].contains w && decide (w ≤ s.pcie.width.toNat ∧ w ≠ s.pcie.l0pWidth.toNat)

/-- The device itself reduces the width only when L0P_ALLOW is set and no partition holds an LC entry; its partner may
change it at any time (R437). -/
def mayChange (s : State) (c : WidthChange) : Bool :=
  !c.byDevice || decide (s.pcie.l0pWidth.toNat < c.width) || (s.pcie.l0pAllow && !anyLc s)

/-- LINK_WIDTH_CHANGE (R437), reported through Link Bandwidth Management Status. -/
def execLinkWidthChange (change : WidthChange) (s : State) : Host.Outcome State Fault Refusal :=
  doneIf (s.pcie.released && widthOk s change.width && mayChange s change) s
    { s with pcie := { s.pcie with l0pWidth := BitVec.ofNat 5 change.width, bandwidthChanged := true } }

end Sys2Proof.Machine
end

