-- ==== Sys2Proof/Machine/Secure.lean ====
section
/-! DEFINITION. Security (R313 to R316, R421 to R433): attestation, firmware staging and activation, owner
keys and policy, SPDM, and debug unlock. -/

namespace Sys2Proof.Machine

/-! ### ATTEST (R313, R428) -/

/-- Bytes 0 to 351 of the report (R428). -/
def reportBody (s : State) (nonce : Bytes) : Bytes :=
  toLE 4 0x55415431 ++ toLE 1 Config.contractMajor ++ toLE 1 Config.contractMinor ++
  toLE 2 (b2n (s.sec.debugLevel != 0) + 2 * b2n (owned s) + 4 * b2n s.sec.activeSlot) ++ toLE 4 480 ++
  toLE 4 s.sec.fwVersion.toNat ++ nonce ++ toLE 8 s.ident.cycleCount.toNat ++
  toLE 2 (s.ident.number.toNat + 2 ^ 15 * b2n s.ident.numberValid) ++ toLE 1 Config.siliconRev ++
  toLE 1 s.sec.counter.toNat ++ toLE 4 s.sec.policy.toNat ++ ownerDigest s ++ (upTo 8).flatMap (mrOf s)

/-- The report, signed with the identity key (R428). -/
def report (s : State) (nonce : Bytes) : Bytes :=
  reportBody s nonce ++ signBlock s.sec.made.secret (sm3 (reportBody s nonce)) (freeNonce s.freeCtr)

def attestEff (c : Cmd) (s : State) : State :=
  if !c.only [(16, 44)] then fail s c.cid stInvalidParameter
  else writeSized (s.used 1) c (c.f 48 8) (c.f 56 4) (report s (slice c.packet 16 32))
    (report s (slice c.packet 16 32)).length

/-- ATTEST (R428). -/
def execAttest (cid : Nat) (s : State) : Host.Outcome State Fault Refusal := onCmd s cid 0x70 attestEff

/-! ### FW_STAGE (R314, R426) -/

/-- The inactive slot while a package is copied into it: how far the copy has come is open until it ends. -/
def halfCopied (n : Nat) (old b : Bytes) : Bytes := b.take (n % (b.length + 1)) ++ old.drop (n % (b.length + 1))

/-- The package is read and its copy into the inactive slot begins (R426). -/
def stageFrom (c : Cmd) (s : State) (b : Bytes) : State :=
  let i := !s.sec.activeSlot
  let s1 := { s with sec := { s.sec with staging := some (c.cid, b), stagedValid := false, staged := none } }
  (setSlot s1 i (halfCopied s.free (slotOf s i) b)).used 1

/-- A FW_STAGE that fails leaves STAGED_VALID at 0 (R426). -/
def fwStageEff (c : Cmd) (s : State) : State :=
  let n := c.f 24 8
  let s0 := { s with sec := { s.sec with stagedValid := false } }
  if s.sec.staging.isSome || s.sec.activating.isSome then fail s0 c.cid stBusy
  else if !c.only [(16, 16)] || n = 0 || 2 ^ 25 < n then fail s0 c.cid stInvalidParameter
  else withStruct { s0 with sec := { s0.sec with staged := none } } c (c.f 16 8) n false (stageFrom c)

/-- FW_STAGE (R426). -/
def execFwStage (cid : Nat) (s : State) : Host.Outcome State Fault Refusal := onCmd s cid 0x71 fwStageEff

/-- The status of a package whose signature alone fails: R424 says INTEGRITY_FAILED and R314 SECURITY_DENIED; the model
leaves open which of the two it is (log 64). -/
def signatureStatus (s : State) : Nat := if s.free % 2 = 0 then stSecurityDenied else stIntegrityFailed

/-- Status of a package that does not verify (R314, R424). -/
def stageStatus (s : State) (b : Bytes) : Nat :=
  match fwCheck s b with
  | .ok => if fwLevelOk b then stOk else stVersionMismatch
  | .digest => stIntegrityFailed
  | .signature => signatureStatus s
  | .rollback => stSecurityDenied

/-- The package is in the inactive slot and is verified there (R426). -/
def stageEnds (s : State) (cid : Nat) (b : Bytes) : State :=
  let st := stageStatus s b
  let s1 := (setSlot { s with sec := { s.sec with staging := none } } (!s.sec.activeSlot) b).used 1
  if st = stOk then
    fail (({ s1 with sec :=
      { s1.sec with staged := some b, stagedValid := true, stagedVersion := (fwInfo b).version } }).setSecCause 1) cid stOk
  else fail s1 cid st

/-- STAGE_DONE (R426). -/
def execStageDone (s : State) : Host.Outcome State Fault Refusal :=
  match s.sec.staging with
  | none => done s
  | some (cid, b) => doneIf s.live s (stageEnds s cid b)

/-! ### FW_ACTIVATE (R315, R433) -/

def fwActivateEff (c : Cmd) (s : State) : State :=
  if !s.sec.stagedValid then fail s c.cid stNotFound
  else { s with sec := { s.sec with activating := some c.cid, switchAt := none } }

/-- FW_ACTIVATE (R315). -/
def execFwActivate (cid : Nat) (s : State) : Host.Outcome State Fault Refusal := onCmd s cid 0x72 fwActivateEff

/-- The new firmware runs (R433 step 4). -/
def activated (s : State) (cid : Nat) (b : Bytes) : State :=
  let f := fwInfo b
  let slot := !s.sec.activeSlot
  let s1 := setControl (measureMr s 5 f.crownHeader) slot
  let s2 := ({ s1 with
    clk := { s1.clk with slot := slot }
    vertex := { s1.vertex with protoMajor := f.protoMajor, protoMinor := f.protoMinor }
    sec := { s1.sec with
      activating := none, staged := none, stagedValid := false, activeSlot := slot, running := f, fwVersion := f.version
      counter := BitVec.ofNat 7 (max s1.sec.counter.toNat (min 64 f.floor)) } }).setSecCause 2
  finish (announceAll s2 f.protoMajor.toNat f.protoMinor.toNat (s.vertex.protoMajor != f.protoMajor) (upTo 8)) cid stOk 0 f.version.toNat

/-- ACTIVATE_DONE (R433): every started command has completed, and the staged copy verifies again. -/
def execActivateDone (s : State) : Host.Outcome State Fault Refusal :=
  match s.sec.activating, s.sec.staged with
  | some cid, some b => doneIf (s.live && switching s && fwCheck s b == .ok) s (activated s cid b)
  | _, _ => done s

/-- The staged copy fails its verification, or has not started 20 ms after the switch began (R433). -/
def activationFails (s : State) : Bool :=
  switching s &&
  (s.sec.staged.all (fun b => fwCheck s b != .ok) || s.sec.switchAt.any fun t => decide (t + 20000000 ≤ s.now))

/-- FW_ACTIVATE_TIMEOUT (R433): the old firmware runs again. -/
def execFwActivateTimeout (s : State) : Host.Outcome State Fault Refusal :=
  match s.sec.activating with
  | none => done s
  | some cid =>
    doneIf (s.live && activationFails s) s
      (fail (({ s with sec := { s.sec with activating := none } }).setSecCause 3) cid stTimeout)

/-! ### KEY_PROVISION (R316, R430) -/

/-- POLICY of the block equals the command's. R430 asks it of every KIND, and R316 has KIND 0 ignore POLICY: for that
KIND the model leaves open whether a difference counts (log 85). -/
def policyAgrees (s : State) (c : Cmd) (b : Bytes) : Bool :=
  rd b 6 2 == c.f 20 4 || (c.f 16 1 == 0 && s.free % 2 == 0)

/-- The block authorises the command (R430). -/
def authorises (s : State) (c : Cmd) (b : Bytes) : Bool :=
  rd b 0 4 == 0x4B415531 && rd b 4 1 == c.f 16 1 && policyAgrees s c b &&
  slice b 8 32 == identityDigest s.sec.made.secret && blockOk (slice b 64 128) (sm3 (b.take 64)) &&
  sm3 (slice b 64 64) == (if owned s then ownerDigest s else slice c.packet 32 32)

/-- Program the lowest row, or burn policy bits (R430). -/
def provision (c : Cmd) (s' : State) (b : Bytes) : State :=
  let s := s'.used 1
  if !authorises s' c b then fail s c.cid stSecurityDenied
  else if c.f 16 1 = 0 then
    if rd b 5 1 ≠ s.sec.ownerRows.length then fail s c.cid stSecurityDenied
    else
      let k := slice c.packet 32 32
      let s1 := { s with sec := { s.sec with ownerRows := s.sec.ownerRows ++ [k] } }
      fail ((measureMr s1 7 k).setSecCause 4) c.cid stOk
  else
    let p := s.sec.policy ||| BitVec.ofNat 2 (c.f 20 4)
    let s1 := { s with sec := { s.sec with policy := p } }
    fail ((measureMr s1 7 (toLE 1 p.toNat)).setSecCause 4) c.cid stOk

def keyProvisionEff (c : Cmd) (s : State) : State :=
  let kind := c.f 16 1
  if !c.only [(16, 1), (20, 44)] || 1 < kind || (kind = 1 && (4 ≤ c.f 20 4 || !allZero (slice c.packet 32 32))) then
    fail s c.cid stInvalidParameter
  else if kind = 1 && !owned s then fail s c.cid stNotPermitted
  else if kind = 0 && decide (4 ≤ s.sec.ownerRows.length) then fail s c.cid stNoResource
  else withStruct s c (c.f 24 8) 192 false (provision c)

/-- KEY_PROVISION (R430). -/
def execKeyProvision (cid : Nat) (s : State) : Host.Outcome State Fault Refusal := onCmd s cid 0x73 keyProvisionEff

/-! ### SPDM (R429) -/

/-- The answer to an SPDM request (R429, log 17); the CHALLENGE answer signs the request's nonce and its
own. -/
def spdmAnswer (s : State) : SpdmReq → SpdmAnswer
  | .getVersion => .version [(1, 2)]
  | .getCapabilities => .capabilities true true true false
  | .negotiateAlgorithms => .algorithms [.sm2, .sm3]
  | .getDigests => .digests (sm3 s.sec.made.certificates)
  | .getCertificate slot => if slot = 0 then .certificate s.sec.made.certificates else .unsupportedRequest
  | .challenge nonce =>
    let own := freeBytes s.freeCtr 32
    .challengeAuth own (signBlock s.sec.made.secret (sm3 (nonce ++ own)) (freeNonce (s.freeCtr + 32)))
  | .getMeasurements i => if 1 ≤ i ∧ i ≤ 8 then .measurements [mrOf s (i - 1)] else .unsupportedRequest
  | .other _ => .unsupportedRequest

/-- The request reaches the responder: DOE on PF0 once PCIe is released, or MCTP at the device's address (R413,
R429). -/
def spdmReaches (s : State) : SpdmPath → Bool
  | .doe f => f == 0 && s.pcie.released && !inD3 s 0
  | .smbus a => a == smbusAddress s

/-- The responder runs: the crown ROM has started and the device has not stopped (R395, R413). -/
def responderRuns (s : State) : Bool := s.resettable && s.mode != .fatal && s.mode != .tripped

/-- SPDM_REQUEST (R429). -/
def execSpdmRequest (call : SpdmCall) (s : State) : Host.Outcome State Fault Refusal :=
  doneIf (responderRuns s && spdmReaches s call.path) s ((s.emit (.spdm call.path (spdmAnswer s call.req))).used 33)

/-! ### Debug unlock (R432) -/

/-- A read of the DEBUG_CHALLENGE register: a fresh challenge replaces the last one (R432). -/
def challengeEff (s : State) : State :=
  let b := freeBytes s.freeCtr 32
  (({ s with sec := { s.sec with challenge := some b } }).emit (.jtag b)).used 32

/-- DEBUG_CHALLENGE (R432). -/
def execDebugChallenge (s : State) : Host.Outcome State Fault Refusal := doneIf s.resettable s (challengeEff s)

/-- The block unlocks a level: signed over the challenge by the owner key, or, on an unowned device, by the
vendor root key (R432). -/
def unlocks (s : State) (level : Nat) (block : Bytes) : Bool :=
  match s.sec.challenge with
  | none => false
  | some ch =>
    blockOk block (sm3 (ch ++ identityDigest s.sec.made.secret ++ toLE 1 level)) &&
    (if level = 1 then owned s && sm3 (blockKey block) == ownerDigest s
     else level == 2 && !owned s && vendorKey s (blockKey block))

/-- The record that an unlock measures: "DBG1" and the level (R427). -/
def unlockRecord (level : Nat) : Bytes := [0x44, 0x42, 0x47, 0x31] ++ toLE 1 level ++ zeros 27

/-- An unlock attempt; after three failures every attempt fails (R432). -/
def unlockEff (s : State) (level : Nat) (block : Bytes) : State :=
  if decide (s.sec.unlockFails < 3) && unlocks s level block then
    (measureMr { s with sec := { s.sec with debugLevel := BitVec.ofNat 2 level } } 6 (unlockRecord level)).setSecCause 5
  else ({ s with sec := { s.sec with unlockFails := s.sec.unlockFails + 1 } }).setSecCause 6

/-- DEBUG_UNLOCK (R432). -/
def execDebugUnlock (level : Nat) (block : Bytes) (s : State) : Host.Outcome State Fault Refusal :=
  doneIf s.resettable s (unlockEff s level block)

end Sys2Proof.Machine
end

