-- ==== Sys2Proof/Machine/TestUnit.lean ====
section
/-! DEFINITION. Link patterns, loopback, memory self-test and boundary scan (R317 to R319, R453 to R460). -/

namespace Sys2Proof.Machine

/-! ### LINK_PATTERN (R317, R453) -/

/-- Patterns of each target (R453). -/
def patternOk (target pattern : Nat) : Bool :=
  match target with
  | 0 => decide (pattern ≤ 6)
  | 1 => decide (pattern ≤ 6) && pattern != 2
  | 2 => [0, 3, 5, 6].contains pattern
  | 3 => decide (pattern ≤ 6) && pattern != 2
  | 4 => [0, 1, 3, 6].contains pattern
  | _ => false

/-- Lanes of each target (R453). -/
def laneCount (target : Nat) : Nat := [8, 16, 32, 16, 2].getD target 0

/-- Ports, links or channels of each target (R317, R453). -/
def indexCount (target : Nat) : Nat := [8, 1, 7, 64, 16].getD target 0

/-- The parameters are in range (R317, R453). -/
def patternParamsOk (s : State) (c : Cmd) : Bool :=
  let t := c.f 16 1
  c.only [(16, 12), (32, 16)] && decide (c.f 17 1 < indexCount t) && patternOk t (c.f 18 1) && decide (c.f 19 1 < 4) &&
  decide (c.f 20 4 < 2 ^ laneCount t) && decide (1 ≤ c.f 24 4) && addrValid (c.f 40 8) &&
  (t != 4 || (s.port (c.f 17 1)).configured)

/-- Bytes of the report for `n` lanes (R455). -/
def reportBytes (n : Nat) : Nat := 16 + 24 * n

/-- The memory holds no partition's or model's data on its channels (R453). -/
def memoryQuiet (s : State) : Bool := noPartition s && !s.models.any fun kv => kv.2.used

/-- The link carries traffic of a partition or of the host (R317, R453). -/
def linkBusy (s : State) (target index lanes : Nat) : Bool :=
  match target with
  | 0 => s.vertex.portEnable.getLsbD index || (s.fabPort index).trained
  | 1 => decide (lanes % 2 ^ s.pcie.width.toNat ≠ 0)
  | 3 => !memoryQuiet s
  | 4 => (s.port index).armed || (s.port index).arm.isSome
  | _ => false

/-- The pattern that a command starts. -/
def patternOf (s : State) (c : Cmd) : Pattern :=
  let lanes := maskBits 32 (c.f 20 4)
  { cid := c.cid, fn := c.fn, target := c.f 16 1, index := c.f 17 1, pattern := c.f 18 1, mode := c.f 19 1, lanes := lanes
    durationUs := c.f 24 4, user := c.f 32 8, report := c.f 40 8, since := s.now
    checkers := if bitAt (c.f 19 1) 1 then lanes.map fun j => { lane := j } else [] }

def linkPatternEff (c : Cmd) (s : State) : State :=
  let n := popCount 32 (c.f 20 4)
  if !patternParamsOk s c then fail s c.cid stInvalidParameter
  else if c.f 16 1 = 2 && !s.test.testState then fail s c.cid stNotPermitted
  else if c.f 40 8 ≠ 0 && !mayName s c.fn (c.f 40 8) (reportBytes n) false then fail s c.cid stNotPermitted
  else if linkBusy s (c.f 16 1) (c.f 17 1) (c.f 20 4) then fail s c.cid stBusy
  else { s with test := { s.test with patterns := s.test.patterns ++ [patternOf s c], lanes := [] } }

/-- LINK_PATTERN (R317). -/
def execLinkPattern (cid : Nat) (s : State) : Host.Outcome State Fault Refusal := onCmd s cid 0x80 linkPatternEff

/-! ### Checkers (R454) -/

/-- Taps of a PRBS pattern (R453). -/
def prbsTaps : Nat → Option (Nat × Nat)
  | 0 => some (7, 6)
  | 1 => some (9, 5)
  | 3 => some (15, 14)
  | 4 => some (23, 18)
  | 5 => some (31, 28)
  | _ => none

/-- The last 64 of the received bits are what the bits before them predict (R453, R454). -/
def predicted (p : Pattern) (bs : List Bool) : Bool :=
  match prbsTaps p.pattern with
  | some (n, m) =>
    bs.length == n + 64 && (upTo 64).all fun i => bs.getD (n + i) false == (bs.getD i false ^^ bs.getD (n + i - m) false)
  | none =>
    if p.pattern = 2 then Config.prbs13qPredicts bs
    else bs.length == 64 && (upTo 64).all fun i => bs.getD i false == p.user.testBit i

/-- The checker of a lane. -/
def checkerOf (p : Pattern) (lane : Nat) : Option Checker := p.checkers.find? fun c => c.lane == lane

def modChecker (p : Pattern) (lane : Nat) (f : Checker → Checker) : Pattern :=
  { p with checkers := p.checkers.map fun (c : Checker) => if c.lane = lane then f c else c }

/-- The running pattern of a LINK_PATTERN command. -/
def patternBy (s : State) (cid : Nat) : Option Pattern := s.test.patterns.find? fun p => p.cid == cid

def setPattern (s : State) (p : Pattern) : State :=
  { s with test := { s.test with patterns := s.test.patterns.map fun (q : Pattern) => if q.cid = p.cid then p else q } }

/-- A checked lane has not locked within 10 ms (R454). -/
def lockLate (s : State) (p : Pattern) : Bool :=
  p.checkers.any (fun c => !c.everLocked) && decide (p.since + 10000000 ≤ s.now)

/-- A checker that is not locked locks; one that has not locked within 10 ms no longer does (R454). -/
def lockDue (s : State) (p : Pattern) (lane : Nat) (bs : List Bool) : Bool :=
  (checkerOf p lane).any (fun c => !c.locked) && !lockLate s p && predicted p bs

/-- CHECKER_LOCK (R454). -/
def execCheckerLock (lane : PatternLane) (bits : List Bool) (s : State) : Host.Outcome State Fault Refusal :=
  if Instr.wf (.checkerLock lane bits) then
    match patternBy s lane.cid with
    | none => done s
    | some p =>
      doneIf (s.live && lockDue s p lane.lane bits) s
        (setPattern s (modChecker p lane.lane fun c => { c with locked := true, everLocked := true }))
  else done s

/-- A 48-bit count saturates (R454). -/
def sat48 (n : Nat) : Nat := min n (2 ^ 48 - 1)

/-- Bits and errors counted while locked (R454). -/
def addCount (k : LaneCount) (c : Checker) : Checker :=
  if c.locked then { c with bits := sat48 (c.bits + k.bits), errors := sat48 (c.errors + k.errors) } else c

/-- Lock is lost: 32 of the last 64 bits mismatched (R454). -/
def loseLock (k : LaneCount) (c : Checker) : Checker :=
  { addCount k c with locked := false, lost := true, relocks := min (c.relocks + 1) (2 ^ 16 - 1) }

/-- A locked checker sees 32 of 64 consecutive bits mismatch. -/
def lossDue (p : Pattern) (lane : Nat) (window : List Bool) : Bool :=
  (checkerOf p lane).any (·.locked) && window.length == 64 && decide (32 ≤ (window.filter id).length)

/-- LOST_LOCK (R454): the counts since lock, and the mismatches of the last 64 bits. -/
def execLostLock (lane : PatternLane) (count : LaneCount) (window : List Bool) (s : State) : Host.Outcome State Fault Refusal :=
  if Instr.wf (.lostLock lane count window) then
    match patternBy s lane.cid with
    | none => done s
    | some p =>
      doneIf (s.live && lossDue p lane.lane window) s ((setPattern s (modChecker p lane.lane (loseLock count))).setTestCause 1)
  else done s

/-! ### The end of a pattern (R455, R456) -/

/-- Mantissa and exponent of a bit error ratio (R456). -/
def berOf (errors bits : Nat) : Nat × Nat :=
  if bits = 0 then (0, 0) else
  let e1 := if errors = 0 then 3 else errors
  let e := (firstBelow 80 fun e => decide (2 ^ 15 * bits ≤ e1 * 2 ^ e)).getD 0
  let m := cdiv (e1 * 2 ^ e) bits
  if m = 65536 then (32768, e - 1) else (m, e)

/-- FLAGS of a lane entry (R455, R456). -/
def laneFlags (c : Checker) : Nat :=
  if c.bits = 0 then 0 else b2n c.locked + 2 * b2n (c.errors == 0) + 4 * b2n c.lost

/-- A lane entry of the report (R455). -/
def laneEntry (lane : Nat) (c : Checker) : Bytes :=
  let b := berOf c.errors c.bits
  toLE 1 lane ++ toLE 1 (laneFlags c) ++ toLE 2 c.relocks ++ toLE 2 b.1 ++ toLE 2 b.2 ++ toLE 8 c.errors ++ toLE 8 c.bits

/-- The report of a pattern (R455). -/
def patternReport (p : Pattern) : Bytes :=
  toLE 4 0x55424552 ++ toLE 1 p.target ++ toLE 1 p.index ++ toLE 1 p.pattern ++ toLE 1 p.lanes.length ++
  toLE 4 p.durationUs ++ zeros 4 ++ p.lanes.flatMap fun j => laneEntry j ((checkerOf p j).getD { lane := j })

/-- The test register of a lane (R461). -/
def laneSlot (c : Checker) : LaneSlot :=
  { errors := BitVec.ofNat 48 c.errors, relocks := BitVec.ofNat 16 c.relocks, bits := BitVec.ofNat 48 c.bits }

/-- Add the last counts of every lane. -/
def lastCounts (p : Pattern) (ks : List LaneCount) : Pattern :=
  ks.foldl (fun p k => modChecker p k.lane (addCount k)) p

/-- A LINK_PATTERN ends: its counts are kept, the report written, and the command completes (R454, R455). -/
def patternEnds (s : State) (p0 : Pattern) (ks : List LaneCount) (status : Nat) : State :=
  let p := lastCounts p0 ks
  let slots : Tab LaneSlot := ((upTo p.checkers.length).zip p.checkers).foldl (fun t q => tabSet {} t q.1 (laneSlot q.2)) []
  let s1 := ({ s with test :=
    { s.test with patterns := s.test.patterns.filter (fun q => q.cid != p.cid), lanes := slots } }).setTestCause 0
  let sum := sat48 (sumN (p.checkers.map (·.errors)))
  if p.report = 0 then finish s1 p.cid status 0 sum
  else match s1.cmd p.cid with
    | none => s1
    | some c => writeOut s1 c p.report (patternReport p) status 0 sum

/-- DURATION_US has passed, and no lane was late to lock. -/
def patternOver (s : State) (p : Pattern) : Bool :=
  decide (p.since + 1000 * p.durationUs ≤ s.now) && (p.checkers.all (·.everLocked) || decide (p.durationUs < 10000))

/-- LINK_PATTERN_END (R455). -/
def execLinkPatternEnd (counts : PatternCounts) (s : State) : Host.Outcome State Fault Refusal :=
  match patternBy s counts.cid with
  | none => done s
  | some p => doneIf (s.live && patternOver s p) s (patternEnds s p counts.lanes stOk)

/-- CHECKER_LOCK_TIMEOUT (R454). -/
def execCheckerLockTimeout (counts : PatternCounts) (s : State) : Host.Outcome State Fault Refusal :=
  match patternBy s counts.cid with
  | none => done s
  | some p => doneIf (s.live && lockLate s p) s (patternEnds s p counts.lanes stTimeout)

/-! ### LOOPBACK (R319, R457) -/

/-- Ports or channels of a loopback target. -/
def loopCount (target : Nat) : Nat := [8, 1, 64, 16].getD target 0

/-- A range of LPDDR5X has bytes on a channel (R351). -/
def onChannel (a n ch : Nat) : Bool :=
  decide (n ≠ 0) && (upTo (min 128 ((a + n - 1) / 256 + 1 - a / 256))).any fun i =>
    ((a / 256 + i) ^^^ (256 * (a / 256 + i) / 2 ^ 14)) % 64 == ch

/-- The named link is in use (R319, R457); a MEMORY_TEST of a range uses the range's channels. -/
def loopBusy (s : State) (target index : Nat) : Bool :=
  match target with
  | 0 => (s.fabPort index).trained
  | 1 => decide (16 ≤ s.pcie.width.toNat)
  | 2 => !memoryQuiet s || s.test.bists.any fun b => b.target == 0 && onChannel b.base b.bytes index
  | 3 => (s.port index).armed || (s.port index).arm.isSome
  | _ => false

def loopbackEff (c : Cmd) (s : State) : State :=
  let k := (c.f 16 1, c.f 17 1)
  let rest := s.test.loops.filter fun l => l != k
  if !c.only [(16, 3)] || 1 < c.f 18 1 || loopCount k.1 ≤ k.2 then fail s c.cid stInvalidParameter
  else if loopBusy s k.1 k.2 then fail s c.cid stBusy
  else if c.f 18 1 = 0 then fail { s with test := { s.test with loops := rest } } c.cid stOk
  else fail { s with test := { s.test with loops := rest ++ [k] } } c.cid stOk

/-- LOOPBACK (R457). -/
def execLoopback (cid : Nat) (s : State) : Host.Outcome State Fault Refusal := onCmd s cid 0x82 loopbackEff

/-! ### MEMORY_TEST (R318, R458) -/

/-- The parameters are in range (R318). -/
def bistParamsOk (c : Cmd) : Bool :=
  let t := c.f 16 1
  c.only [(16, 3), (24, 16)] && decide (c.f 18 1 ≤ 2) &&
  match t with
  | 0 => addrValid (c.f 24 8) && addrSpace (c.f 24 8) == 1 && decide (1 ≤ c.f 32 8)
  | 1 => decide (c.f 17 1 < 2) && c.f 24 8 == 0 && c.f 32 8 == 0
  | 2 => decide (c.f 17 1 < 128) && c.f 24 8 == 0 && c.f 32 8 == 0
  | _ => false

/-- Two byte ranges meet. -/
def meet (a n b m : Nat) : Bool := decide (a < b + m ∧ b < a + n)

/-- An ADDR of this device's memory whose bytes meet a range. -/
def addrMeets (s : State) (a n v m : Nat) : Bool :=
  addrSpace v != 0 && !addrRemote s v && meet a n (v % 2 ^ 42) m

/-- The range meets the T2 region or the device pool, and there is something in it (R318, R356). -/
def ownedByDevice (s : State) (a n : Nat) : Bool :=
  let t2 := usable s - s.cache.t2Gib.toNat * 2 ^ 30
  (!s.t2.isEmpty && meet a n t2 (usable s - t2)) ||
  (poolUsed s != 0 && meet a n (functionTop s) (t2 - functionTop s))

/-- The range holds data of a partition or model: what the device keeps for itself, the image that a MODEL_REGISTER
copies, an exported window, a checkpoint ring, the host buffer of a stream, or input data of a queued RUN (R318). -/
def rangeInUse (s : State) (a n : Nat) : Bool :=
  ownedByDevice s a n ||
  (s.cmds.any fun c => c.opcode == 0x20 && c.f 16 1 == 0 && addrMeets s a n (c.f 24 8) (c.f 32 8)) ||
  s.vertex.windows.any (fun w => meet a n w.2.base w.2.bytes) ||
  (s.streams.any fun kv => kv.2.isOpen && match kv.2.sink with
    | some (.host v log2 _) => addrMeets s a n v (2 ^ log2)
    | _ => false) ||
  (s.runs.any fun r => (stagedData s r (voiceOf s (s.stream (r.members.headD 0)).voice)).any fun q =>
    addrMeets s a n q.2.1 q.2.2) ||
  s.parts.any fun kv => kv.2.valid && kv.2.ckpts.any fun r =>
    addrMeets s a n r.2.base (r.2.entries * r.2.entryBytes)

/-- The range, die or prism holds data of a partition or model (R318). -/
def bistBusy (s : State) (c : Cmd) : Bool :=
  match c.f 16 1 with
  | 0 => rangeInUse s (c.f 24 8 % 2 ^ 42) (c.f 32 8)
  | 1 => !s.t1.isEmpty || awayGeode s != 0
  | _ => prismTaken s (c.f 17 1)

/-- A TARGET 0 range lies in LPDDR5X (R318, log 79). -/
def bistRangeOk (s : State) (c : Cmd) : Bool :=
  c.f 16 1 != 0 || decide (c.f 24 8 % 2 ^ 42 + c.f 32 8 ≤ usable s)

def memoryTestEff (c : Cmd) (s : State) : State :=
  if !bistParamsOk c || !bistRangeOk s c then fail s c.cid stInvalidParameter
  else if c.f 16 1 = 0 && !mayName s c.fn (c.f 24 8) (c.f 32 8) false then fail s c.cid stNotPermitted
  else if bistBusy s c || (c.f 16 1 = 0 && memLooped s (c.f 24 8) (c.f 32 8)) then
    fail s c.cid stBusy
  else
    let b : Bist := { cid := c.cid, target := c.f 16 1, index := c.f 17 1, base := c.f 24 8 % 2 ^ 42, bytes := c.f 32 8 }
    { s with test := { s.test with bists := s.test.bists ++ [b] } }

/-- MEMORY_TEST (R458). -/
def execMemoryTest (cid : Nat) (s : State) : Host.Outcome State Fault Refusal := onCmd s cid 0x81 memoryTestEff

/-- Every byte of a range reads zero (R458). -/
def zeroRange (s : State) (a n : Nat) : State :=
  { overwritten s a n with
    mem := s.mem.filter fun q => decide (q.1 < a ∨ a + n ≤ q.1)
    poison := s.poison.filter fun q => !covers a n q.1 }

/-- BIST_FAIL_ADDR for a failing word (R461). -/
def failAddr (w : BistWord) : Word64 :=
  BitVec.ofNat 64 (w.address % 2 ^ 42 + 2 ^ 42 * (w.facet % 2 ^ 11) + 2 ^ 53 * (w.sram % 4))

/-- A MEMORY_TEST ends (R458). -/
def bistEnds (s : State) (b : Bist) (ws : List BistWord) : State :=
  let s1 := if b.target = 0 then zeroRange s b.base b.bytes else s
  let s2 := ({ s1 with test := { s1.test with bists := s1.test.bists.filter fun x => x.cid != b.cid } }).setTestCause 2
  let s3 := match ws with
    | [] => s2
    | w :: _ => ({ s2 with test := { s2.test with bistFail := failAddr w } }).setTestCause 3
  finish s3 b.cid stOk (b2n (ws.any (·.uncorrectable))) ws.length

/-- MEMORY_TEST_DONE (R458). -/
def execMemoryTestDone (failing : BistResult) (s : State) : Host.Outcome State Fault Refusal :=
  match s.test.bists.find? fun b => b.cid == failing.cid with
  | none => done s
  | some b => doneIf s.live s (bistEnds s b failing.words)

/-! ### Boundary scan (R460) -/

/-- IDCODE (R460). -/
def idcode : Nat := 0x1204814B

/-- An EXTEST-class instruction is loaded: the functions stop as in a warm reset (R460). -/
def scanBegins (s : State) : State :=
  let from_ : Mode := if s.mode = .starting then .starting else .rom
  { wiped s s.clk.resetCause with mode := .scan, pins := { s.pins with fatalInt := false, scanFrom := from_ } }

/-- Another instruction replaces it: the device starts as after a warm reset. -/
def scanEnds (s : State) : State :=
  if s.pins.scanFrom = .starting then { s with mode := .starting } else romStarts s

/-- A TAP instruction is loaded (R460). -/
def jtagEff (s : State) (i : TapInstr) : State :=
  let s1 := { s with pins := { s.pins with tap := i } }
  let s2 :=
    if s.mode = .porLow then s1
    else if tapExtest i then (if s.mode = .scan then s1 else scanBegins s1)
    else if s.mode = .scan then scanEnds s1 else s1
  if i = .idcode then s2.emit (.jtag (toLE 4 idcode)) else s2

/-- JTAG_INSTRUCTION (R460). -/
def execJtagInstruction (instr : TapInstr) (s : State) : Host.Outcome State Fault Refusal := done (jtagEff s instr)

end Sys2Proof.Machine
end

