-- ==== Sys2Proof/Machine/Dispatch.lean ====
section
/-! DEFINITION. The meaning of every command: one arm per constructor of `Instr`. -/

namespace Sys2Proof.Machine

def exec (i : Instr) (s : State) : Host.Outcome State Fault Refusal :=
  match i with
  | .nop cid => Sys2Proof.Machine.execNop cid s
  | .fence cid => Sys2Proof.Machine.execFence cid s
  | .deviceQuery cid => Sys2Proof.Machine.execDeviceQuery cid s
  | .countersRead cid => Sys2Proof.Machine.execCountersRead cid s
  | .partitionCreate cid => Sys2Proof.Machine.execPartitionCreate cid s
  | .partitionDestroy cid => Sys2Proof.Machine.execPartitionDestroy cid s
  | .partitionYield cid => Sys2Proof.Machine.execPartitionYield cid s
  | .partitionReset cid => Sys2Proof.Machine.execPartitionReset cid s
  | .latticeLoad cid => Sys2Proof.Machine.execLatticeLoad cid s
  | .latticeSwitch cid => Sys2Proof.Machine.execLatticeSwitch cid s
  | .shareTableLoad cid => Sys2Proof.Machine.execShareTableLoad cid s
  | .modelRegister cid => Sys2Proof.Machine.execModelRegister cid s
  | .modelPrefetch cid => Sys2Proof.Machine.execModelPrefetch cid s
  | .modelPin cid => Sys2Proof.Machine.execModelPin cid s
  | .modelUnpin cid => Sys2Proof.Machine.execModelUnpin cid s
  | .modelEvict cid => Sys2Proof.Machine.execModelEvict cid s
  | .modelQuery cid => Sys2Proof.Machine.execModelQuery cid s
  | .streamOpen cid => Sys2Proof.Machine.execStreamOpen cid s
  | .streamClose cid => Sys2Proof.Machine.execStreamClose cid s
  | .streamSeed cid => Sys2Proof.Machine.execStreamSeed cid s
  | .streamReset cid => Sys2Proof.Machine.execStreamReset cid s
  | .run cid => Sys2Proof.Machine.execRun cid s
  | .stateSave cid => Sys2Proof.Machine.execStateSave cid s
  | .stateRestore cid => Sys2Proof.Machine.execStateRestore cid s
  | .stateEvict cid => Sys2Proof.Machine.execStateEvict cid s
  | .streamMigrate cid => Sys2Proof.Machine.execStreamMigrate cid s
  | .checkpointSet cid => Sys2Proof.Machine.execCheckpointSet cid s
  | .portConfig cid => Sys2Proof.Machine.execPortConfig cid s
  | .portBind cid => Sys2Proof.Machine.execPortBind cid s
  | .portArm cid => Sys2Proof.Machine.execPortArm cid s
  | .portStop cid => Sys2Proof.Machine.execPortStop cid s
  | .alignGroupSet cid => Sys2Proof.Machine.execAlignGroupSet cid s
  | .windowExport cid => Sys2Proof.Machine.execWindowExport cid s
  | .windowImport cid => Sys2Proof.Machine.execWindowImport cid s
  | .copy cid => Sys2Proof.Machine.execCopy cid s
  | .fabricStatus cid => Sys2Proof.Machine.execFabricStatus cid s
  | .powerCapSet cid => Sys2Proof.Machine.execPowerCapSet cid s
  | .powerQuery cid => Sys2Proof.Machine.execPowerQuery cid s
  | .attest cid => Sys2Proof.Machine.execAttest cid s
  | .fwStage cid => Sys2Proof.Machine.execFwStage cid s
  | .fwActivate cid => Sys2Proof.Machine.execFwActivate cid s
  | .keyProvision cid => Sys2Proof.Machine.execKeyProvision cid s
  | .linkPattern cid => Sys2Proof.Machine.execLinkPattern cid s
  | .memoryTest cid => Sys2Proof.Machine.execMemoryTest cid s
  | .loopback cid => Sys2Proof.Machine.execLoopback cid s
  | .sqTailWrite fn ring value => Sys2Proof.Machine.execSqTailWrite fn ring value s
  | .packetAccept fn ring => Sys2Proof.Machine.execPacketAccept fn ring s
  | .deferredCommandStart cid => Sys2Proof.Machine.execDeferredCommandStart cid s
  | .cqHeadWrite fn ring value => Sys2Proof.Machine.execCqHeadWrite fn ring value s
  | .sqEnable fn ring on => Sys2Proof.Machine.execSqEnable fn ring on s
  | .cqEnable fn ring on => Sys2Proof.Machine.execCqEnable fn ring on s
  | .abort fn ring => Sys2Proof.Machine.execAbort fn ring s
  | .abortDone fn ring => Sys2Proof.Machine.execAbortDone fn ring s
  | .ringReset fn ring => Sys2Proof.Machine.execRingReset fn ring s
  | .completionBurstWrite fn ring written => Sys2Proof.Machine.execCompletionBurstWrite fn ring written s
  | .coalesceTimeExpiry fn ring => Sys2Proof.Machine.execCoalesceTimeExpiry fn ring s
  | .queueTailTimeout cls inst => Sys2Proof.Machine.execQueueTailTimeout cls inst s
  | .dropPacket cls inst => Sys2Proof.Machine.execDropPacket cls inst s
  | .registerWrite fn off size value => Sys2Proof.Machine.execRegisterWrite fn off size value s
  | .regLowWordRead fn off => Sys2Proof.Machine.execRegLowWordRead fn off s
  | .globalLock value => Sys2Proof.Machine.execGlobalLock value s
  | .numberValid value => Sys2Proof.Machine.execNumberValid value s
  | .intArm fn value => Sys2Proof.Machine.execIntArm fn value s
  | .msixUnmask fn => Sys2Proof.Machine.execMsixUnmask fn s
  | .acctClear fn part value => Sys2Proof.Machine.execAcctClear fn part value s
  | .localRangeWrite index sizeReg value => Sys2Proof.Machine.execLocalRangeWrite index sizeReg value s
  | .unreachableClear index value => Sys2Proof.Machine.execUnreachableClear index value s
  | .inject cls value => Sys2Proof.Machine.execInject cls value s
  | .queueItemWrite cls inst item => Sys2Proof.Machine.execQueueItemWrite cls inst item s
  | .resetControlWarm value => Sys2Proof.Machine.execResetControlWarm value s
  | .go value => Sys2Proof.Machine.execGo value s
  | .kernelStart facet => Sys2Proof.Machine.execKernelStart facet s
  | .kernelEnd facet corrected => Sys2Proof.Machine.execKernelEnd facet corrected s
  | .kernelPoisonFault facet source => Sys2Proof.Machine.execKernelPoisonFault facet source s
  | .watchdog facet poisonToo => Sys2Proof.Machine.execWatchdog facet poisonToo s
  | .teardownComplete part group => Sys2Proof.Machine.execTeardownComplete part group s
  | .partitionFault part unit => Sys2Proof.Machine.execPartitionFault part unit s
  | .partitionResetDone part => Sys2Proof.Machine.execPartitionResetDone part s
  | .deviceFatalFault code link => Sys2Proof.Machine.execDeviceFatalFault code link s
  | .latticeTick part => Sys2Proof.Machine.execLatticeTick part s
  | .latticeSwitchInstant part => Sys2Proof.Machine.execLatticeSwitchInstant part s
  | .fill part facet => Sys2Proof.Machine.execFill part facet s
  | .stateFetchBackDone stream => Sys2Proof.Machine.execStateFetchBackDone stream s
  | .modelPlacementDone part model => Sys2Proof.Machine.execModelPlacementDone part model s
  | .modelT1CopyDone model => Sys2Proof.Machine.execModelT1CopyDone model s
  | .stagedFetchLand part stream generation landingZone => Sys2Proof.Machine.execStagedFetchLand part stream generation landingZone s
  | .prismZeroingDone prism => Sys2Proof.Machine.execPrismZeroingDone prism s
  | .runComplete cid => Sys2Proof.Machine.execRunComplete cid s
  | .checkpointWrite stream written => Sys2Proof.Machine.execCheckpointWrite stream written s
  | .migrateAck stream status key sigR sigS => Sys2Proof.Machine.execMigrateAck stream status key sigR sigS s
  | .migrateAckTimeout stream => Sys2Proof.Machine.execMigrateAckTimeout stream s
  | .jumpPrepare prism facet parityError => Sys2Proof.Machine.execJumpPrepare prism facet parityError s
  | .arbitrationRound reqs => Sys2Proof.Machine.execArbitrationRound reqs s
  | .sinkWriteTx port slot poisoned => Sys2Proof.Machine.execSinkWriteTx port slot poisoned s
  | .portFrameBoundary port bclks periodPs received => Sys2Proof.Machine.execPortFrameBoundary port bclks periodPs received s
  | .portArmAction port => Sys2Proof.Machine.execPortArmAction port s
  | .prerollEnd port => Sys2Proof.Machine.execPrerollEnd port s
  | .portArmTimeout port => Sys2Proof.Machine.execPortArmTimeout port s
  | .startInEdge port => Sys2Proof.Machine.execStartInEdge port s
  | .portStopAction port => Sys2Proof.Machine.execPortStopAction port s
  | .postrollEnd port => Sys2Proof.Machine.execPostrollEnd port s
  | .portCommit port => Sys2Proof.Machine.execPortCommit port s
  | .clockLost port => Sys2Proof.Machine.execClockLost port s
  | .clockReturned port first second => Sys2Proof.Machine.execClockReturned port first second s
  | .scrubPass corrected uncorrectable => Sys2Proof.Machine.execScrubPass corrected uncorrectable s
  | .linkDown port => Sys2Proof.Machine.execLinkDown port s
  | .linkTrainAttempt port => Sys2Proof.Machine.execLinkTrainAttempt port s
  | .linkUp port width major minor peerDevice peerPort => Sys2Proof.Machine.execLinkUp port width major minor peerDevice peerPort s
  | .versionAnnounce port major minor => Sys2Proof.Machine.execVersionAnnounce port major minor s
  | .read hdr => Sys2Proof.Machine.execRead hdr s
  | .write hdr data => Sys2Proof.Machine.execWrite hdr data s
  | .message hdr data => Sys2Proof.Machine.execMessage hdr data s
  | .fetchObject hdr identity => Sys2Proof.Machine.execFetchObject hdr identity s
  | .register hdr => Sys2Proof.Machine.execRegister hdr s
  | .deregister hdr => Sys2Proof.Machine.execDeregister hdr s
  | .probe hdr => Sys2Proof.Machine.execProbe hdr s
  | .response hdr data => Sys2Proof.Machine.execResponse hdr data s
  | .fabricForward hdr type data => Sys2Proof.Machine.execFabricForward hdr type data s
  | .fabricRequestTimeout tag => Sys2Proof.Machine.execFabricRequestTimeout tag s
  | .probeTimer => Sys2Proof.Machine.execProbeTimer s
  | .bar2Access off isWrite len data ep => Sys2Proof.Machine.execBar2Access off isWrite len data ep s
  | .pcieCompletionTimeout tag => Sys2Proof.Machine.execPcieCompletionTimeout tag s
  | .l1Entry => Sys2Proof.Machine.execL1Entry s
  | .linkWidthChange width => Sys2Proof.Machine.execLinkWidthChange width s
  | .functionLevelReset fn => Sys2Proof.Machine.execFunctionLevelReset fn s
  | .vfEnableClear => Sys2Proof.Machine.execVfEnableClear s
  | .d3hotToD0 fn => Sys2Proof.Machine.execD3hotToD0 fn s
  | .spdmRequest req => Sys2Proof.Machine.execSpdmRequest req s
  | .mctpWarmReset key => Sys2Proof.Machine.execMctpWarmReset key s
  | .perstN => Sys2Proof.Machine.execPerstN s
  | .porNAssert => Sys2Proof.Machine.execPorNAssert s
  | .porNRelease trayPos bootSel => Sys2Proof.Machine.execPorNRelease trayPos bootSel s
  | .rootPllLock => Sys2Proof.Machine.execRootPllLock s
  | .firstStageVerified => Sys2Proof.Machine.execFirstStageVerified s
  | .lpddrTrainingDone result => Sys2Proof.Machine.execLpddrTrainingDone result s
  | .bootReady => Sys2Proof.Machine.execBootReady s
  | .refclkLoss => Sys2Proof.Machine.execRefclkLoss s
  | .refclkReturn => Sys2Proof.Machine.execRefclkReturn s
  | .pmuControlStep temps => Sys2Proof.Machine.execPmuControlStep temps s
  | .railSample rails railFault avsError => Sys2Proof.Machine.execRailSample rails railFault avsError s
  | .pmbAlert => Sys2Proof.Machine.execPmbAlert s
  | .thermtrip temperature => Sys2Proof.Machine.execThermtrip temperature s
  | .prismGate prism => Sys2Proof.Machine.execPrismGate prism s
  | .fwActivateTimeout => Sys2Proof.Machine.execFwActivateTimeout s
  | .debugChallenge => Sys2Proof.Machine.execDebugChallenge s
  | .debugUnlock level block => Sys2Proof.Machine.execDebugUnlock level block s
  | .jtagInstruction instr => Sys2Proof.Machine.execJtagInstruction instr s
  | .linkPatternEnd counts => Sys2Proof.Machine.execLinkPatternEnd counts s
  | .checkerLockTimeout counts => Sys2Proof.Machine.execCheckerLockTimeout counts s
  | .memoryTestDone failing => Sys2Proof.Machine.execMemoryTestDone failing s
  | .flitArrival port corrected decoded crcOk => Sys2Proof.Machine.execFlitArrival port corrected decoded crcOk s
  | .checkerLock lane bits => Sys2Proof.Machine.execCheckerLock lane bits s
  | .lostLock lane count window => Sys2Proof.Machine.execLostLock lane count window s
  | .prismWake prism => Sys2Proof.Machine.execPrismWake prism s
  | .activateDone => Sys2Proof.Machine.execActivateDone s
  | .stageDone => Sys2Proof.Machine.execStageDone s
  | .imageCopyDone cid => Sys2Proof.Machine.execImageCopyDone cid s
  | .stateCopyOutDone stream => Sys2Proof.Machine.execStateCopyOutDone stream s
  | .pcieReadCompletion tag status data => Sys2Proof.Machine.execPcieReadCompletion tag status data s
  | .d3hotEntry fn => Sys2Proof.Machine.execD3hotEntry fn s
  | .vfEnableSet numVfs => Sys2Proof.Machine.execVfEnableSet numVfs s
  | .perstNRelease => Sys2Proof.Machine.execPerstNRelease s
  | .l1Exit => Sys2Proof.Machine.execL1Exit s
  | .pmbAlertRelease => Sys2Proof.Machine.execPmbAlertRelease s

end Sys2Proof.Machine
end

