-- ==== Sys2Proof/Safety.lean ====
section
/-! DEFINITION. What counts as a safe run, and the terms of the claims about it: which fields of the state a
command may change, the canonical form of every memory, and when no function's armed interrupt is overdue. -/

namespace Sys2Proof

/-- A step answers a next state. -/
def StepsOn (s : Machine.State) : Prop := ∃ t, Machine.step s = .next t

namespace Machine

/-- The fields of the state, and of five of them the registers without what many commands touch on the way. -/
inductive Piece where
  | mode | ident | pins | clk | sec | fatal
  | pcie | memc | cache | vertex | test | latches
  | funcs | rings | cmds | nextCid | parts | prisms
  | facets | share | shareNext | bwReqs | streams | streamGens
  | runs | sinkWrites | models | modelGens | t2 | t1
  | ports | ranges | hostBase | mem | poison | hostMem
  | hostPoison | hostBroken | pcieReads | queueCause | queueEn | classes
  | ftqs | sent | freeCtr | pending
  | ringRegs | funcRegs | memRegs | pcieRegs | vertexRegs
deriving DecidableEq, Repr

/-- Number of a field. -/
def Piece.bit : Piece → Nat
  | .mode => 0 | .ident => 1 | .pins => 2 | .clk => 3 | .sec => 4
  | .fatal => 5 | .pcie => 6 | .memc => 7 | .cache => 8 | .vertex => 9
  | .test => 10 | .latches => 11 | .funcs => 12 | .rings => 13 | .cmds => 14
  | .nextCid => 15 | .parts => 16 | .prisms => 17 | .facets => 18 | .share => 19
  | .shareNext => 20 | .bwReqs => 21 | .streams => 22 | .streamGens => 23 | .runs => 24
  | .sinkWrites => 25 | .models => 26 | .modelGens => 27 | .t2 => 28 | .t1 => 29
  | .ports => 30 | .ranges => 31 | .hostBase => 32 | .mem => 33 | .poison => 34
  | .hostMem => 35 | .hostPoison => 36 | .hostBroken => 37 | .pcieReads => 38 | .queueCause => 39
  | .queueEn => 40 | .classes => 41 | .ftqs => 42 | .sent => 43 | .freeCtr => 44
  | .pending => 45 | .ringRegs => 46 | .funcRegs => 47 | .memRegs => 48 | .pcieRegs => 49
  | .vertexRegs => 50

/-- A ring pair without the entries that its coalescer holds and the coalescer's timer. -/
def Ring.regs (q : Ring) : Ring := { q with coalescer := [], coTimer := 0 }

/-- An interrupt page without ARMED and the message that waits. -/
def FuncPage.regs (p : FuncPage) : FuncPage := { p with armed := false, msixPending := false, msixHeld := false }

/-- The memory controller without its cause bits and counters, the flipped bits, the time of its scrub, and its note of
who held the memory last. -/
def MemRegs.regs (m : MemRegs) : MemRegs :=
  { m with cause := 0, ceCount := 0, ueCount := 0, scrubPasses := 0, chCe := [], flips := [], scrubAt := 0, held := [] }

/-- The PCIe controller without its idle timer and the error bits of advanced error reporting. -/
def PcieRegs.regs (p : PcieRegs) : PcieRegs :=
  { p with
    idleSince := 0, noted := 0, aerPoisonedTlp := false, aerCompletionTimeout := false, aerUnsupported := false
    aerInternal := false }

/-- What configures the fabric: its control registers, ports, routes and exported windows. -/
def Vertex.config (v : Vertex) : Vertex :=
  { timeoutUs := v.timeoutUs, hopLimit := v.hopLimit, portEnable := v.portEnable, protoMajor := v.protoMajor
    protoMinor := v.protoMinor, causeEn := v.causeEn, ports := v.ports, routes := v.routes, windows := v.windows }

/-- The field holds the same in two states. -/
def Piece.Same (s t : State) : Piece → Prop
  | .mode => t.mode = s.mode | .ident => t.ident = s.ident | .pins => t.pins = s.pins
  | .clk => t.clk = s.clk | .sec => t.sec = s.sec | .fatal => t.fatal = s.fatal
  | .pcie => t.pcie = s.pcie | .memc => t.memc = s.memc | .cache => t.cache = s.cache
  | .vertex => t.vertex = s.vertex | .test => t.test = s.test | .latches => t.latches = s.latches
  | .funcs => t.funcs = s.funcs | .rings => t.rings = s.rings | .cmds => t.cmds = s.cmds
  | .nextCid => t.nextCid = s.nextCid | .parts => t.parts = s.parts | .prisms => t.prisms = s.prisms
  | .facets => t.facets = s.facets | .share => t.share = s.share | .shareNext => t.shareNext = s.shareNext
  | .bwReqs => t.bwReqs = s.bwReqs | .streams => t.streams = s.streams | .streamGens => t.streamGens = s.streamGens
  | .runs => t.runs = s.runs | .sinkWrites => t.sinkWrites = s.sinkWrites | .models => t.models = s.models
  | .modelGens => t.modelGens = s.modelGens | .t2 => t.t2 = s.t2 | .t1 => t.t1 = s.t1
  | .ports => t.ports = s.ports | .ranges => t.ranges = s.ranges | .hostBase => t.hostBase = s.hostBase
  | .mem => t.mem = s.mem | .poison => t.poison = s.poison | .hostMem => t.hostMem = s.hostMem
  | .hostPoison => t.hostPoison = s.hostPoison | .hostBroken => t.hostBroken = s.hostBroken | .pcieReads => t.pcieReads = s.pcieReads
  | .queueCause => t.queueCause = s.queueCause | .queueEn => t.queueEn = s.queueEn | .classes => t.classes = s.classes
  | .ftqs => t.ftqs = s.ftqs | .sent => t.sent = s.sent | .freeCtr => t.freeCtr = s.freeCtr
  | .pending => t.pending = s.pending
  | .ringRegs => ∀ f r, (t.ring f r).regs = (s.ring f r).regs
  | .funcRegs => ∀ f, (t.func f).regs = (s.func f).regs
  | .memRegs => t.memc.regs = s.memc.regs
  | .pcieRegs => t.pcie.regs = s.pcie.regs
  | .vertexRegs => t.vertex.config = s.vertex.config

/-- A set of fields, as a number. -/
def pieces (ps : List Piece) : Nat := ps.foldl (fun n p => n ||| 2 ^ p.bit) 0

/-- Every field outside a set of fields holds the same in two states. -/
def Frame (set : Nat) (s t : State) : Prop := ∀ p : Piece, set.testBit p.bit = false → p.Same s t

/-- What every command may touch: pending interrupts are sent. -/
def sends : List Piece := [.funcs, .sent]

/-- What the completion of a command may touch besides. -/
def posts : List Piece := [.funcs, .sent, .rings, .cmds, .runs]

/-- The families of the commands. -/
inductive Family where
  | management | partitions | models | streams | ports | rings | queues | registers
  | kernels | lattice | fabric | pcie | resets | power | security
deriving DecidableEq, Repr

/-- The family of a command. -/
def family : Instr → Family
  | .nop _ | .fence _ | .deviceQuery _ | .countersRead _ | .fabricStatus _ | .powerCapSet _ | .powerQuery _
  | .attest _ | .fwStage _ | .fwActivate _ | .keyProvision _ | .linkPattern _ | .memoryTest _ | .loopback _ =>
    .management
  | .partitionCreate _ | .partitionDestroy _ | .partitionYield _ | .partitionReset _ | .latticeLoad _
  | .latticeSwitch _ | .shareTableLoad _ => .partitions
  | .modelRegister _ | .modelPrefetch _ | .modelPin _ | .modelUnpin _ | .modelEvict _ | .modelQuery _
  | .modelPlacementDone _ _ | .modelT1CopyDone _ | .imageCopyDone _ => .models
  | .streamOpen _ | .streamClose _ | .streamSeed _ | .streamReset _ | .run _ | .stateSave _ | .stateRestore _
  | .stateEvict _ | .streamMigrate _ | .checkpointSet _ | .runComplete _ | .checkpointWrite _ _
  | .migrateAck _ _ _ _ _ | .migrateAckTimeout _ | .stateFetchBackDone _ | .stateCopyOutDone _ => .streams
  | .portConfig _ | .portBind _ | .portArm _ | .portStop _ | .alignGroupSet _ | .sinkWriteTx _ _ _
  | .portFrameBoundary _ _ _ _ | .portArmAction _ | .prerollEnd _ | .portArmTimeout _ | .startInEdge _
  | .portStopAction _ | .postrollEnd _ | .portCommit _ | .clockLost _ | .clockReturned _ _ _ => .ports
  | .sqTailWrite _ _ _ | .packetAccept _ _ | .deferredCommandStart _ | .cqHeadWrite _ _ _ | .sqEnable _ _ _
  | .cqEnable _ _ _ | .abort _ _ | .abortDone _ _ | .ringReset _ _ | .completionBurstWrite _ _ _
  | .coalesceTimeExpiry _ _ => .rings
  | .queueTailTimeout _ _ | .dropPacket _ _ | .queueItemWrite _ _ _ | .inject _ _ => .queues
  | .registerWrite _ _ _ _ | .regLowWordRead _ _ | .globalLock _ | .numberValid _ | .intArm _ _ | .msixUnmask _
  | .acctClear _ _ _ | .localRangeWrite _ _ _ | .unreachableClear _ _ | .resetControlWarm _ | .go _ => .registers
  | .kernelStart _ | .kernelEnd _ _ | .kernelPoisonFault _ _ | .watchdog _ _ | .teardownComplete _ _
  | .partitionFault _ _ | .partitionResetDone _ | .deviceFatalFault _ _ | .jumpPrepare _ _ _ => .kernels
  | .latticeTick _ | .latticeSwitchInstant _ | .fill _ _ | .stagedFetchLand _ _ _ _ | .prismZeroingDone _
  | .arbitrationRound _ => .lattice
  | .windowExport _ | .windowImport _ | .copy _ | .scrubPass _ _ | .linkDown _ | .linkTrainAttempt _
  | .linkUp _ _ _ _ _ _ | .versionAnnounce _ _ _ | .flitArrival _ _ _ _ | .read _ | .write _ _ | .message _ _
  | .fetchObject _ _ | .register _ | .deregister _ | .probe _ | .response _ _ | .fabricForward _ _ _
  | .fabricRequestTimeout _ | .probeTimer => .fabric
  | .bar2Access _ _ _ _ _ | .pcieCompletionTimeout _ | .pcieReadCompletion _ _ _ | .l1Entry | .l1Exit
  | .linkWidthChange _ | .functionLevelReset _ | .vfEnableClear | .vfEnableSet _ | .d3hotEntry _ | .d3hotToD0 _ =>
    .pcie
  | .mctpWarmReset _ | .perstN | .perstNRelease | .porNAssert | .porNRelease _ _ | .rootPllLock
  | .firstStageVerified | .lpddrTrainingDone _ | .bootReady | .refclkLoss | .refclkReturn | .thermtrip _
  | .jtagInstruction _ => .resets
  | .pmuControlStep _ | .railSample _ _ _ | .pmbAlert | .pmbAlertRelease | .prismGate _ | .prismWake _ => .power
  | .spdmRequest _ | .fwActivateTimeout | .debugChallenge | .debugUnlock _ _ | .activateDone | .stageDone
  | .linkPatternEnd _ | .checkerLockTimeout _ | .memoryTestDone _ | .checkerLock _ _ | .lostLock _ _ _ => .security

/-- What a warm reset, and all that causes one, may change (R409). -/
def warm : List Piece :=
  [.mode, .ident, .pins, .clk, .sec, .pcie, .memc, .cache, .vertex, .test, .latches, .funcs, .rings, .cmds, .parts,
    .prisms, .facets, .share, .shareNext, .bwReqs, .streams, .streamGens, .runs, .sinkWrites, .models, .modelGens,
    .t2, .t1, .ports, .ranges, .hostBase, .pcieReads, .queueCause, .queueEn, .classes, .ftqs, .sent, .ringRegs,
    .funcRegs, .memRegs, .pcieRegs, .vertexRegs]

/-- The fields of the state that a command may change. -/
def touches : Instr → List Piece
  | .nop _ | .fence _ | .powerQuery _ => posts
  | .deviceQuery _ | .countersRead _ | .fabricStatus _ =>
    posts ++ [.memc, .vertex, .mem, .poison, .hostMem, .hostPoison]
  | .powerCapSet _ => posts ++ [.clk]
  | .attest _ => posts ++ [.memc, .vertex, .mem, .poison, .hostMem, .hostPoison, .freeCtr]
  | .fwStage _ | .keyProvision _ => posts ++ [.pcie, .sec, .memc, .vertex, .freeCtr]
  | .fwActivate _ => posts ++ [.sec]
  | .linkPattern _ | .memoryTest _ | .loopback _ => posts ++ [.test]
  | .partitionCreate _ | .latticeSwitch _ => posts ++ [.parts, .prisms]
  | .partitionDestroy _ =>
    posts ++ [.vertex, .parts, .prisms, .facets, .share, .shareNext, .streams, .streamGens, .sinkWrites, .models,
      .modelGens, .t2, .t1, .ports, .vertexRegs]
  | .partitionYield _ => posts ++ [.cache, .vertex, .parts, .prisms, .facets, .streams, .t1, .ports]
  | .partitionReset _ =>
    posts ++ [.cache, .vertex, .parts, .prisms, .facets, .streams, .streamGens, .sinkWrites, .t2, .ports]
  | .latticeLoad _ => posts ++ [.pcie, .memc, .vertex, .parts, .freeCtr]
  | .shareTableLoad _ => posts ++ [.pcie, .memc, .vertex, .shareNext, .freeCtr]
  | .modelRegister _ => posts ++ [.pcie, .memc, .cache, .vertex, .parts, .models, .t2, .freeCtr]
  | .modelPrefetch _ | .modelT1CopyDone _ => posts ++ [.t1]
  | .modelPin _ => posts ++ [.cache, .parts, .models, .t1]
  | .modelUnpin _ => posts ++ [.models]
  | .modelEvict _ => posts ++ [.parts, .models, .modelGens, .t2, .t1]
  | .modelQuery _ => posts ++ [.memc, .vertex, .mem, .poison, .hostMem, .hostPoison]
  | .modelPlacementDone _ _ => posts ++ [.cache, .parts, .t1]
  | .imageCopyDone _ => posts ++ [.pcie, .memc, .parts, .models, .t2, .freeCtr]
  | .streamOpen _ | .stateEvict _ => posts ++ [.streams, .t1]
  | .streamClose _ => posts ++ [.vertex, .parts, .facets, .streams, .streamGens, .ports]
  | .streamSeed _ | .streamReset _ | .stateCopyOutDone _ => posts ++ [.streams]
  | .run _ => posts ++ [.pcie, .memc, .vertex, .ports, .freeCtr]
  | .stateSave _ => posts ++ [.memc, .vertex, .streams, .mem, .poison, .hostMem, .hostPoison, .freeCtr]
  | .stateRestore _ => posts ++ [.pcie, .memc, .vertex, .streams, .t1, .ports, .freeCtr]
  | .streamMigrate _ => posts ++ [.vertex, .parts, .streams, .streamGens, .t1, .ports, .freeCtr]
  | .checkpointSet _ | .migrateAckTimeout _ => posts ++ [.parts, .streams]
  | .runComplete _ | .stateFetchBackDone _ =>
    posts ++ [.memc, .vertex, .parts, .streams, .streamGens, .t1, .ports, .mem, .poison, .hostMem, .hostPoison,
      .freeCtr]
  | .checkpointWrite _ _ => sends ++ [.memc, .vertex, .parts, .streams, .mem, .poison, .hostMem, .hostPoison]
  | .migrateAck _ _ _ _ _ => posts ++ [.vertex, .parts, .streams, .streamGens, .ports]
  | .portConfig _ => posts ++ [.parts, .prisms, .streams, .ports]
  | .portBind _ => posts ++ [.vertex, .streams, .ports]
  | .portArm _ | .portStop _ | .alignGroupSet _ | .prerollEnd _ | .portArmTimeout _ =>
    posts ++ [.ports]
  | .sinkWriteTx _ _ _ => sends ++ [.parts, .facets, .sinkWrites, .ports]
  | .portFrameBoundary _ _ _ _ | .postrollEnd _ | .clockLost _ | .portCommit _ => posts ++ [.parts, .prisms, .ports]
  | .portArmAction _ | .startInEdge _ | .portStopAction _ | .clockReturned _ _ _ => sends ++ [.ports]
  | .sqTailWrite _ _ _ => sends ++ [.pcie, .rings, .pcieReads, .ringRegs]
  | .packetAccept _ _ => posts ++ [.pcie, .memc, .vertex, .nextCid, .pcieReads, .freeCtr, .ringRegs]
  | .deferredCommandStart _ => posts
  | .cqHeadWrite _ _ _ | .cqEnable _ _ _ => sends ++ [.pcie, .rings, .ringRegs]
  | .sqEnable _ _ _ => sends ++ [.pcie, .rings, .pcieReads, .ringRegs]
  | .abort _ _ | .ringReset _ _ => posts ++ [.pcie, .parts, .facets, .pcieReads, .ringRegs]
  | .abortDone _ _ | .coalesceTimeExpiry _ _ => sends ++ [.rings, .ringRegs]
  | .completionBurstWrite _ _ _ => sends ++ [.memc, .rings, .mem, .poison, .hostMem, .hostPoison, .ringRegs]
  | .queueTailTimeout _ _ =>
    sends ++ [.memc, .rings, .mem, .poison, .hostMem, .hostPoison, .classes, .ftqs, .ringRegs]
  | .dropPacket _ _ => sends ++ [.classes, .ftqs]
  | .queueItemWrite _ _ _ =>
    sends ++ [.mode, .pins, .fatal, .pcie, .test, .facets, .rings, .queueCause, .classes, .ftqs, .freeCtr, .ringRegs]
  | .inject _ _ => sends ++ [.pcie, .test]
  | .registerWrite _ _ _ _ => warm ++ [.fatal, .mem, .poison, .hostMem, .hostPoison, .freeCtr]
  | .regLowWordRead _ _ => sends ++ [.pcie, .latches]
  | .globalLock _ | .numberValid _ => sends ++ [.ident, .pcie]
  | .intArm _ _ | .msixUnmask _ => sends ++ [.pcie, .funcRegs]
  | .acctClear _ _ _ => sends ++ [.pcie, .parts]
  | .localRangeWrite _ _ _ => sends ++ [.memc, .vertex, .ranges, .vertexRegs]
  | .unreachableClear _ _ => sends ++ [.vertex]
  | .resetControlWarm _ => warm
  | .go _ => sends ++ [.clk, .pcie]
  | .kernelStart _ => sends ++ [.cmds, .parts, .facets, .runs]
  | .kernelEnd _ _ =>
    posts ++ [.cache, .memc, .vertex, .parts, .prisms, .facets, .share, .shareNext, .streams, .streamGens, .sinkWrites,
      .models, .modelGens, .t2, .t1, .ports, .mem, .poison, .hostMem, .hostPoison, .vertexRegs]
  | .kernelPoisonFault _ _ =>
    posts ++ [.cache, .vertex, .parts, .prisms, .facets, .share, .shareNext, .streams, .streamGens, .sinkWrites,
      .models, .modelGens, .t2, .t1, .ports, .vertexRegs]
  | .watchdog _ _ =>
    posts ++ [.cache, .vertex, .parts, .prisms, .facets, .share, .shareNext, .streams, .streamGens, .sinkWrites, .models,
      .modelGens, .t2, .t1, .ports, .vertexRegs]
  | .teardownComplete _ _ => posts ++ [.cache, .vertex, .parts, .streams, .streamGens, .sinkWrites, .ports]
  | .partitionFault _ _ =>
    posts ++ [.cache, .vertex, .parts, .prisms, .facets, .streams, .streamGens, .sinkWrites, .t2, .ports]
  | .partitionResetDone _ => posts ++ [.parts, .prisms]
  | .deviceFatalFault _ _ => sends ++ [.mode, .pins, .fatal, .pcie, .facets]
  | .jumpPrepare _ _ _ => sends ++ [.prisms, .facets]
  | .latticeTick _ | .fill _ _ =>
    posts ++ [.pcie, .memc, .cache, .vertex, .parts, .prisms, .facets, .streams, .models, .t1, .ports, .freeCtr]
  | .latticeSwitchInstant _ => posts ++ [.parts, .prisms]
  | .stagedFetchLand _ _ _ _ => sends ++ [.vertex, .cmds, .parts, .facets]
  | .prismZeroingDone _ => posts ++ [.cache, .vertex, .parts, .prisms, .facets, .streams, .t1, .ports]
  | .arbitrationRound _ => sends ++ [.share, .shareNext, .bwReqs]
  | .windowExport _ => posts ++ [.pcie, .memc, .vertex, .freeCtr, .vertexRegs]
  | .windowImport _ => posts ++ [.vertex]
  | .copy _ => posts ++ [.pcie, .memc, .vertex, .mem, .poison, .hostMem, .hostPoison, .pcieReads, .freeCtr]
  | .scrubPass _ _ => sends ++ [.memc, .streams, .t2, .poison, .freeCtr]
  | .linkDown _ | .linkUp _ _ _ _ _ _ | .versionAnnounce _ _ _ | .flitArrival _ _ _ _ =>
    posts ++ [.memc, .cache, .vertex, .parts, .facets, .streams, .streamGens, .t2, .t1, .ports, .mem, .poison,
      .hostMem, .hostPoison, .freeCtr, .vertexRegs]
  | .linkTrainAttempt _ => sends ++ [.vertex, .vertexRegs]
  | .read _ | .fetchObject _ _ => sends ++ [.pcie, .memc, .vertex, .freeCtr]
  | .write _ _ => sends ++ [.memc, .vertex, .parts, .mem, .poison, .hostMem, .hostPoison]
  | .message _ _ => posts ++ [.vertex, .streams, .t1, .ports, .freeCtr]
  | .register _ | .deregister _ | .probe _ | .fabricForward _ _ _ | .probeTimer => sends ++ [.vertex]
  | .response _ _ | .fabricRequestTimeout _ =>
    posts ++ [.memc, .cache, .vertex, .parts, .facets, .streams, .streamGens, .t2, .t1, .ports, .mem, .poison,
      .hostMem, .hostPoison, .freeCtr]
  | .bar2Access _ _ _ _ _ => sends ++ [.pcie, .memc, .mem, .poison]
  | .pcieCompletionTimeout _ => posts ++ [.pcie, .pcieReads, .ringRegs]
  | .pcieReadCompletion _ _ _ =>
    posts ++ [.pcie, .memc, .vertex, .mem, .poison, .hostMem, .hostPoison, .pcieReads, .ringRegs]
  | .l1Entry | .l1Exit | .linkWidthChange _ | .vfEnableSet _ | .d3hotEntry _ => sends ++ [.pcie, .pcieRegs]
  | .functionLevelReset _ | .vfEnableClear =>
    posts ++ [.pcie, .cache, .vertex, .parts, .prisms, .facets, .streams, .streamGens, .sinkWrites, .t2, .ports,
      .pcieReads, .ringRegs, .funcRegs, .pcieRegs]
  | .d3hotToD0 _ => warm ++ [.freeCtr]
  | .mctpWarmReset _ | .perstN | .refclkLoss | .refclkReturn | .jtagInstruction _ => warm
  | .perstNRelease => sends ++ [.mode, .pins, .sec, .pcie, .freeCtr, .pcieRegs]
  | .porNAssert => warm ++ [.fatal, .mem, .poison]
  | .porNRelease _ _ => sends ++ [.mode, .ident, .pins, .clk, .test]
  | .rootPllLock => sends ++ [.mode, .ident, .pins, .clk, .sec, .pcie, .facets, .freeCtr, .pcieRegs]
  | .firstStageVerified => sends ++ [.mode, .clk, .sec, .memc, .freeCtr, .memRegs]
  | .lpddrTrainingDone _ => sends ++ [.mode, .clk, .sec, .memc, .memRegs]
  | .bootReady => sends ++ [.mode, .clk, .sec, .vertex, .vertexRegs]
  | .thermtrip _ => sends ++ [.mode, .pins, .pcie, .facets]
  | .pmuControlStep _ | .railSample _ _ _ => sends ++ [.clk]
  | .prismGate _ | .prismWake _ => sends ++ [.prisms]
  | .pmbAlert | .pmbAlertRelease => sends ++ [.pins, .clk]
  | .spdmRequest _ => sends ++ [.freeCtr]
  | .fwActivateTimeout => posts ++ [.sec]
  | .debugChallenge => sends ++ [.sec, .freeCtr]
  | .debugUnlock _ _ => sends ++ [.sec]
  | .activateDone =>
    posts ++ [.clk, .sec, .memc, .cache, .vertex, .parts, .facets, .streams, .streamGens, .t2, .t1, .ports, .mem,
      .poison, .hostMem, .hostPoison, .freeCtr, .vertexRegs]
  | .stageDone => posts ++ [.sec, .freeCtr]
  | .linkPatternEnd _ | .checkerLockTimeout _ =>
    posts ++ [.memc, .vertex, .test, .mem, .poison, .hostMem, .hostPoison]
  | .memoryTestDone _ => posts ++ [.test, .memc, .mem, .poison]
  | .checkerLock _ _ | .lostLock _ _ _ => sends ++ [.test]

/-- Every memory and every table of units has its canonical form: keys strictly rising, and no entry equal to
what an unlisted key holds; the numbers of accepted commands are all different, and the next one is above them
(log 15). -/
structure State.Canon (s : State) : Prop where
  funcs : tabWf {} s.funcs = true
  rings : tabWf {} s.rings = true
  parts : tabWf {} s.parts = true
  prisms : tabWf {} s.prisms = true
  facets : tabWf {} s.facets = true
  streams : tabWf {} s.streams = true
  streamGens : tabWf 0 s.streamGens = true
  models : tabWf {} s.models = true
  modelGens : tabWf 0 s.modelGens = true
  ports : tabWf {} s.ports = true
  ranges : tabWf {} s.ranges = true
  hostBase : tabWf 0 s.hostBase = true
  classes : tabWf {} s.classes = true
  ftqs : tabWf {} s.ftqs = true
  mem : Memory.wf s.mem = true
  poison : tabWf false s.poison = true
  hostMem : Memory.wf s.hostMem = true
  hostPoison : tabWf false s.hostPoison = true
  hostBroken : tabWf false s.hostBroken = true
  cids : (s.cmds.map (·.cid)).Nodup ∧ ∀ c ∈ s.cmds, c.cid < s.nextCid

/-- No function's armed interrupt is overdue: what is armed does not assert (R399). -/
def ArmedQuiet (s : State) : Prop := ∀ f, (s.func f).armed = true → asserting s f = false

/-! ### Commands of the rings -/

/-- The row of an opcode acts now on the accepted command of a number (R258 to R261, log 15). -/
abbrev Ready (s : State) (cid op : Nat) (c : Cmd) : Prop := s.cmd cid = some c ∧ ready s c op = true

/-- From `s` to `t` a command has completed: it is no longer among the accepted commands or the runs, and where
it posts an entry, its ring's coalescer holds one with these values (R262 to R264); the entry of a command whose ring
an FLR has reset is discarded (R271). -/
abbrev Completed (s t : State) (c : Cmd) (status detail result : Nat) : Prop :=
  t.cmd c.cid = none ∧ t.runOf c.cid = none ∧
  ((c.completion = true ∨ status ≠ 0) → c.orphaned = false → (s.ring c.fn c.cq).cqEnable = true →
    ∃ e ∈ (t.ring c.fn c.cq).coalescer, e.tag = c.tag ∧ e.opcode = c.opcode ∧ e.sq = c.ring ∧
      e.sequence = c.sequence ∧ e.status = status ∧ e.detail = detail % 2 ^ 16 ∧
      e.result = result % 2 ^ 64)

/-- An ADDR names host memory, LPDDR5X within its usable bytes, or a function's outbound host window (R355). -/
abbrev OnMap (s : State) (v n : Nat) : Prop :=
  addrSpace v = 0 ∨ (match regionOf s (v % 2 ^ 42) with
    | .lpddr => decide (v % 2 ^ 42 + n ≤ usable s)
    | .host _ _ => true
    | _ => false) = true

/-- The bytes at an ADDR on this device that a function may name read as `b`, without poison (R275, R358). -/
abbrev PlainRead (s : State) (f v n : Nat) (b : Bytes) : Prop :=
  addrValid v = true ∧ mayName s f v n false = true ∧ memLooped s v n = false ∧ addrRemote s v = false ∧
  OnMap s v n ∧ addrRead s v n = (b, false)

/-- A destination of `size` bytes on this device, which a function may name, takes the bytes `b` (R276, R358). -/
abbrev PlainDest (s : State) (f v size : Nat) (b : Bytes) : Prop :=
  addrValid v = true ∧ mayName s f v size false = true ∧ memLooped s v b.length = false ∧ addrRemote s v = false ∧
  b.length ≤ size ∧ (addrWrite s f v b false).2 = true

/-- The memories of `t` are those of `s` after function f's write of `b` at an ADDR of this device. -/
abbrev Stored (s t : State) (f v : Nat) (b : Bytes) : Prop :=
  t.mem = (addrWrite s f v b false).1.mem ∧ t.poison = (addrWrite s f v b false).1.poison ∧
  t.hostMem = (addrWrite s f v b false).1.hostMem ∧ t.hostPoison = (addrWrite s f v b false).1.hostPoison

/-- From `s` to `t` the device has sent `x`. -/
def Sends (s t : State) (x : Sent) : Prop := ∃ l r, t.sent = s.sent ++ l ++ x :: r

/-- A request has been answered with a STATUS and data, where a route leads back to its source (R365, R370). -/
def Answers (s t : State) (h : FabHdr) (status : Nat) (data : Bytes) (poison : Bool) : Prop :=
  (routePort s h.source).isSome = true →
    Sends s t (.fabric 8
      { reqHdr s h.vc h.source h.tag { length := data.length, poison := poison } with status := status } data)

/-- No request is held back for a change of routes (R366). -/
abbrev NoneHeld (s : State) : Prop := ∀ q ∈ s.vertex.reqs, q.heldBack = false

/-- The identity under which a MODEL_REGISTER registers: the one it gives, or the SM3 digest of the image bytes it
reads up to the end of COSTS (R229, R235, R289). -/
def Registers (s : State) (c : Cmd) (id : Bytes) : Prop :=
  registerOk s c = true ∧ (c.f 16 1 = 0 → mayName s c.fn (c.f 24 8) (c.f 32 8) false = true) ∧
  (((c.f 16 1 = 1 ∨ c.f 17 1 = 1) ∧ id = slice c.packet 48 32) ∨
   (c.f 16 1 = 0 ∧ c.f 17 1 = 0 ∧ ∃ b e, readImage s c = (b, false) ∧ costsEnd b = some e ∧ id = sm3 (b.take e)))

/-- The copy of an image into T2 has failed: everything it took is freed, nothing is registered, and its registration
and those that waited for it have completed, with the status and the number of the check (R235, R236). -/
def CopyFailed (s : State) (cid : Nat) (c : Cmd) (x : T2Copy) (status check : Nat) : Prop :=
  ∃ t, exec (.imageCopyDone cid) s = .next t ∧ (∀ y ∈ t.t2, y.identity ≠ x.identity) ∧ t.models = s.models ∧
    Completed s t c status check 0 ∧ ∀ w ∈ x.waiters, t.cmd w = none

/-- A stream command may act on the stream that its handle names: the handle is current, no close of it waits, and it
neither migrates nor is fenced (R154, R165, R182). -/
abbrev OnStream (s : State) (c : Cmd) (i : Nat) : Prop :=
  i = streamIndex c.object ∧ checkStream s c.fn c.partition c.object = none ∧ closing s i c.cid = false ∧
  (s.stream i).mig = .none

/-- A context passes the checks of a restore into a stream, with its carried state `cs` (R179). -/
abbrev Restores (s : State) (j : Nat) (b : Bytes) (needSig : Bool) (key : Bytes) (cs : List Carried) : Prop :=
  ctxCheck1 b = true ∧ ctxCheck2 b = true ∧ ctxCheck3 b = true ∧ (needSig = true → ctxCheck4 b key = true) ∧
  ctxCheck5 (voiceOf s (s.stream j).voice) (streamVoiceId s (s.stream j).voice) (s.stream j).kvPositions b = some cs ∧
  (seatsFor s (s.stream j).part (s.stream j).voice
    (if (s.stream j).resid.onFacets then 0 else voiceStateBytes (voiceOf s (s.stream j).voice))).isSome = true

/-- The state slots of a stream once a context is restored into it: its own where it has slots on facets, else new ones
(R159, R179). -/
def restoredSeats (s : State) (j : Nat) : List Seat :=
  if (s.stream j).resid.onFacets then (s.stream j).seats
  else (seatsFor s (s.stream j).part (s.stream j).voice (voiceStateBytes (voiceOf s (s.stream j).voice))).getD []

/-- The table of a RUN at an ADDR, which lies on this device, is the bytes `b`: what acceptance read (R259, R299). -/
abbrev TableIs (s : State) (c : Cmd) (v n : Nat) (snap b : Bytes) : Prop :=
  ((v = 0 ∨ n = 0) ∧ b = []) ∨
  (v ≠ 0 ∧ n ≠ 0 ∧ addrValid v = true ∧ mayName s c.fn v n false = true ∧ addrRemote s v = false ∧ b = snap)

/-- The whole-edge index data of member `j` at a descriptor of a RUN lie on this device or the host and read as `b`
(R87, R299, R300). -/
def IndexRead (s : State) (c : Cmd) (v : Voice) (q : InDesc × Nat) (j : Nat) (e : Nat × EdgeRec) (b : Bytes) : Prop :=
  (voiceInputs v).find? (fun x => x.1 == q.2) = some e ∧
  PlainRead s c.fn (q.1.address + j * q.1.stride) (dataBytes q.1 e.2 q.1.positions) b

/-- Every index of such data lies below the rows of the smallest table that it indexes (R87). -/
def indexesOk (v : Voice) (q : InDesc × Nat) (e : Nat × EdgeRec) (b : Bytes) : Bool :=
  (embedLimit v q.2).all fun lim => (upTo q.1.positions).all fun t => (upTo e.2.rowsF).all fun f =>
    (upTo e.2.elements).all fun ch => decide (rd b (4 * elemOffset e.2 q.1.positions f t ch) 4 < lim)

/-- The bytes at the completion queue's tail that the first `n` entries of a ring's coalescer make (R263, R265). -/
def burstBytes (q : Ring) (n : Nat) : Bytes := (q.coalescer.take n).flatMap fun e => entryBytes e q.phase

/-- The write of `n` entries at the tail of a completion queue succeeds and leaves the memories of `w`: the queue lies
in host memory, or in memory of this device that the function may write (R251, R265). -/
def BurstLands (s : State) (f r n : Nat) (w : State) : Prop :=
  let q := s.ring f r
  let a := baseAddr q.cqBase + 32 * q.cqTail.toNat
  let b := burstBytes q n
  baseLocal q.cqBase = false ∧ hostFails s a b.length = false ∧ w = hostStore s f a b false ∨
  baseLocal q.cqBase = true ∧ (inOwnRange s f a b.length || inOwnWindow f a b.length) = true ∧
    localWrite s a b false = (w, true)

/-! ### Resets -/

/-- From `s` to `t` a warm reset has happened: every item that R407 gives it is at its reset value, and memory, fuses,
flash, straps, CYCLE_COUNT and the fatal record are kept (R402, R407, R411). -/
structure WarmReset (s t : State) : Prop where
  rings : t.rings = []
  cmds : t.cmds = []
  runs : t.runs = []
  parts : t.parts = []
  prisms : t.prisms = []
  facets : t.facets = []
  streams : t.streams = []
  models : t.models = []
  ports : t.ports = []
  tiers : t.t1 = [] ∧ t.t2 = []
  ranges : t.ranges = []
  vertex : t.vertex = { noted := t.vertex.noted, captures := s.vertex.captures }
  cache : t.cache = {}
  cap : t.clk.capW = 650 ∧ t.clk.nextCap = none
  boot : t.clk.ready = false ∧ ∀ p, (t.prism p).gated = true
  debug : t.sec.debugLevel = 0
  interrupts : ∀ f, (t.func f).summaryEn = 0
  memory : t.mem = s.mem ∧ t.poison = s.poison ∧ t.memc.stored = s.memc.stored
  fatal : t.fatal = s.fatal
  cycles : t.ident.cycleCount = s.ident.cycleCount ∧ t.ident.trayPos = s.ident.trayPos
  fuses : t.sec.made = s.sec.made ∧ t.sec.ownerRows = s.sec.ownerRows ∧ t.sec.policy = s.sec.policy ∧
    t.sec.counter = s.sec.counter
  flash : t.sec.slotA = s.sec.slotA ∧ t.sec.slotB = s.sec.slotB

end Machine

end Sys2Proof
end

