-- ==== Sys2Proof/Certificates/Slice0/Obligations.lean ====
section
/-! DEFINITION. The statements about the block: its step, its invariants, what each command leaves alone, and what
each command does when it acts. `cid` numbers an accepted command (log 15). -/

open Sys2Proof Sys2Proof.Machine

/-! ### The step and the invariants -/

/-- A step takes the command at the front of the queue and runs it with the queue's rest. -/
def Obligations.StepRunsFrontCommand : Prop :=
  ∀ (s : State) (c : Instr) (rest : List Instr), s.pending = c :: rest →
    step s = exec c { s with pending := rest }

/-- With no command waiting, a step is one FACET_CLK cycle: CYCLE_COUNT counts where the root PLL is locked, and
where the engines do not run nothing else happens, but that training starts after the first stage has run (R31; that
the block idles by a cycle, and in which cycle STAGE becomes 2, are the model's choices, logs 2 and 84). -/
def Obligations.IdleStepCountsOneCycle : Prop :=
  ∀ s : State, s.pending = [] →
    ∃ t, step s = .next t ∧ t.pending = [] ∧
      t.ident.cycleCount = (if s.clk.rootLocked then s.ident.cycleCount + 1 else s.ident.cycleCount) ∧
      (s.live = false → t = trainingStarts (countCycle s)) ∧
      (s.live = false → s.mode ≠ .training → t = countCycle s)

/-- What reset leaves, of the values that the register tables give; both invariants below hold of it (R31, R273, R301,
R399, R407, R420). -/
def Obligations.ResetLeavesTabledValues : Prop :=
  State.reset.pins.porLow = true ∧ State.reset.ident.cycleCount = 0 ∧ State.reset.ident.lock = false ∧
  State.reset.clk.resetCause = 1 ∧ State.reset.clk.capW = 650 ∧ State.reset.clk.fBe = 64 ∧
  State.reset.clk.fLc = 64 ∧ State.reset.clk.pmuEn = 0x7E ∧ State.reset.clk.crownEn = 1 ∧
  State.reset.clk.ready = false ∧ (∀ p, (State.reset.prism p).gated = true) ∧
  State.reset.fatal.cause = 0 ∧ State.reset.fatal.record = 0 ∧
  (∀ f, (State.reset.func f).armed = true ∧ (State.reset.func f).summaryEn = 0) ∧
  (∀ p, (State.reset.port p).owner = 0xFFFF ∧ (State.reset.port p).configured = false) ∧
  (∀ f r, (State.reset.ring f r).sqEnable = false ∧ (State.reset.ring f r).cqEnable = false) ∧
  (∀ i, (State.reset.rangeOf i).valid = false) ∧ (∀ k, (State.reset.part k).valid = false) ∧
  State.reset.streams = [] ∧ State.reset.models = [] ∧ State.reset.mem = [] ∧ State.reset.pending = [] ∧
  State.reset.Canon ∧ ArmedQuiet State.reset

/-- Every step keeps the canonical form of every memory and table, and the numbers of the accepted commands different
and below the next (log 15). -/
def Obligations.StepKeepsCanonicalForm : Prop := ∀ s t : State, s.Canon → step s = .next t → t.Canon

/-- Every step keeps the rule of R399: no function that is armed asserts, since its message has gone out or is
held, and ARMED is clear. -/
def Obligations.StepKeepsArmedQuiet : Prop :=
  ∀ s t : State, ArmedQuiet s → step s = .next t → ArmedQuiet t

/-- A device-fatal fault has stopped the engines, the rings and the culets, and a command does not start them again: no
accepted command starts, no packet is accepted, no command leaves but with the rings of its function, which a reset
empties, and no kernel or descriptor joins a facet (R395). -/
def Obligations.FatalStopsEverything : Prop :=
  ∀ (i : Instr) (s t : State), s.mode = .fatal → exec i s = .next t →
    t.live = false ∧
    (∀ c ∈ t.cmds, ∃ e ∈ s.cmds, c = e ∨ c = { e with orphaned := true }) ∧
    (∀ e ∈ s.cmds, e ∈ t.cmds ∨ ∀ r < 16, t.ring e.fn r = {}) ∧ (∀ r ∈ t.runs, r ∈ s.runs) ∧
    ∀ f, ((t.facet f).running = (s.facet f).running ∨ (t.facet f).running = none) ∧
      ∀ k ∈ (t.facet f).queue, k ∈ (s.facet f).queue

/-! ### Every command -/

/-- Every command answers a next state in every state: no command faults or is refused, since R262 to R264 and R389 to
R396 make every error an effect on the state. (That a command whose operands name nothing that the block has changes
nothing is the model's choice, log 25.) -/
def Obligations.EveryCommandAnswers : Prop :=
  ∀ (i : Instr) (s : State),
    (∃ t, exec i s = .next t) ∧ (i.wf = false → exec i s = .next (settle s))

/-- A row of R279 changes nothing but interrupts that are due while no accepted command of its number and opcode
may act (log 15). -/
def Obligations.PacketRowWaitsForItsCommand : Prop :=
  ∀ (s : State) (cid : Nat) (p : (Nat → Instr) × Nat),
    p ∈ [(Instr.nop, 0x00), (.fence, 0x01), (.deviceQuery, 0x02), (.countersRead, 0x03), (.partitionCreate, 0x10),
      (.partitionDestroy, 0x11), (.partitionYield, 0x12), (.partitionReset, 0x13), (.latticeLoad, 0x14),
      (.latticeSwitch, 0x15), (.shareTableLoad, 0x16), (.modelRegister, 0x20), (.modelPrefetch, 0x21),
      (.modelPin, 0x22), (.modelUnpin, 0x23), (.modelEvict, 0x24), (.modelQuery, 0x25), (.streamOpen, 0x30),
      (.streamClose, 0x31), (.streamSeed, 0x32), (.streamReset, 0x33), (.run, 0x34), (.stateSave, 0x35),
      (.stateRestore, 0x36), (.stateEvict, 0x37), (.streamMigrate, 0x38), (.checkpointSet, 0x39),
      (.portConfig, 0x40), (.portBind, 0x41), (.portArm, 0x42), (.portStop, 0x43), (.alignGroupSet, 0x44),
      (.windowExport, 0x50), (.windowImport, 0x51), (.copy, 0x52), (.fabricStatus, 0x53), (.powerCapSet, 0x60),
      (.powerQuery, 0x61), (.attest, 0x70), (.fwStage, 0x71), (.fwActivate, 0x72), (.keyProvision, 0x73),
      (.linkPattern, 0x80), (.memoryTest, 0x81), (.loopback, 0x82)] →
    (∀ c, ¬ Ready s cid p.2 c) → exec (p.1 cid) s = .next (settle s)

/-! ### Management commands -/

/-- NOP has no parameters and completes with OK once it starts (R280). -/
def Obligations.NopCompletesWithOk : Prop :=
  ∀ (s : State) (cid : Nat) (c : Cmd), Ready s cid 0x00 c →
    ∃ t, exec (.nop cid) s = .next t ∧ Completed s t c 0x00 0 0

/-- FENCE with SCOPE 0 or 1 and its other bytes zero completes with OK, and with any other parameters with
INVALID_PARAMETER; while an earlier command that its scope names is accepted it stays held, and while it is accepted
so does every later command of its ring (R281). -/
def Obligations.FenceCompletesAfterItsScope : Prop :=
  (∀ (s : State) (cid : Nat) (c : Cmd), Ready s cid 0x01 c →
    (c.only [(16, 1)] = true → c.f 16 1 ≤ 1 → ∃ t, exec (.fence cid) s = .next t ∧ Completed s t c 0x00 0 0) ∧
    (c.only [(16, 1)] = false ∨ 1 < c.f 16 1 →
      ∃ t, exec (.fence cid) s = .next t ∧ Completed s t c stInvalidParameter 0 0)) ∧
  (∀ (s : State) (cid : Nat) (c e : Cmd), s.cmd cid = some c → c.held = true → e ∈ s.cmds → e.before c = true →
    e.fn = c.fn → e.orphaned = false →
    (c.opcode = 0x01 ∧ (e.ring = c.ring ∨ c.f 16 1 = 1) ∨ e.opcode = 0x01 ∧ e.ring = c.ring) →
    exec (.deferredCommandStart cid) s = .next (settle s) ∧ exec (.fence cid) s = .next (settle s))

/-- POWER_QUERY completes with OK and returns the cap, the LC floor, the mean power and the three throttling bits in
RESULT (R312). -/
def Obligations.PowerQueryReturnsPowerState : Prop :=
  ∀ (s : State) (cid : Nat) (c : Cmd), Ready s cid 0x61 c →
    ∃ t, exec (.powerQuery cid) s = .next t ∧
      Completed s t c 0x00 0
        (s.clk.capW.toNat + 2 ^ 16 * (queryFloor s c.partition % 2 ^ 16) + 2 ^ 32 * s.clk.meanW.toNat +
          2 ^ 48 * (if s.clk.fBe = 64 then 0 else 1) + 2 ^ 49 * (if s.clk.fLc = 64 then 0 else 1) +
          2 ^ 50 * (if s.clk.thermal then 1 else 0))

/-- POWER_CAP_SET with a cap of 200 to 650 W that no partition's floor exceeds, or with FORCE, leaves that cap to take
effect and returns the previous one; without FORCE a cap below a floor is refused with the lowest such partition
in DETAIL (R311). -/
def Obligations.PowerCapSetLeavesTheCap : Prop :=
  ∀ (s : State) (cid : Nat) (c : Cmd), Ready s cid 0x60 c → c.only [(16, 2)] = true →
    200 ≤ c.f 16 2 → c.f 16 2 ≤ 650 →
    ((c.force = true ∨ ∀ k < 128, partFloor s k ≤ c.f 16 2) →
      ∃ t, exec (.powerCapSet cid) s = .next t ∧ t.clk.nextCap = some (BitVec.ofNat 10 (c.f 16 2)) ∧
        Completed s t c 0x00 0 (s.clk.nextCap.getD s.clk.capW).toNat) ∧
    (∀ k < 128, c.force = false → c.f 16 2 < partFloor s k → (∀ j < k, partFloor s j ≤ c.f 16 2) →
      ∃ t, exec (.powerCapSet cid) s = .next t ∧ t.clk = s.clk ∧ Completed s t c 0x08 k 0)

/-- The commands that write a record at an ADDR of this device store it there and complete with OK (R282, R283, R291,
R310, R313, R428). -/
def Obligations.QueriesStoreTheirRecords : Prop :=
  ∀ (s : State) (cid : Nat) (c : Cmd),
    (Ready s cid 0x02 c → c.only [(16, 12)] = true → PlainDest s c.fn (c.f 16 8) (c.f 24 4) (deviceRecord s c.fn) →
      ∃ t, exec (.deviceQuery cid) s = .next t ∧ Stored s t c.fn (c.f 16 8) (deviceRecord s c.fn) ∧
        Completed s t c 0x00 0 64) ∧
    (Ready s cid 0x03 c → c.f 24 4 % 4 = 0 → 1 ≤ c.f 28 4 → c.f 28 4 ≤ 16384 →
      c.f 24 4 + 4 * c.f 28 4 ≤ barBytes c.fn →
      PlainDest s c.fn (c.f 16 8) (4 * c.f 28 4) (counterWords (begin' s cid) c.fn (c.f 24 4) (c.f 28 4)) →
      ∃ t, exec (.countersRead cid) s = .next t ∧
        Stored s t c.fn (c.f 16 8) (counterWords (begin' s cid) c.fn (c.f 24 4) (c.f 28 4)) ∧
        Completed s t c 0x00 0 (4 * c.f 28 4)) ∧
    (Ready s cid 0x25 c → c.only [(16, 12)] = true → checkModel s c.fn c.partition c.object = none →
      PlainDest s c.fn (c.f 16 8) (c.f 24 4) (modelRecord s c.partition (modelIndex c.object)) →
      ∃ t, exec (.modelQuery cid) s = .next t ∧
        Stored s t c.fn (c.f 16 8) (modelRecord s c.partition (modelIndex c.object)) ∧ Completed s t c 0x00 0 0) ∧
    (Ready s cid 0x53 c → c.only [(16, 8)] = true → c.f 16 8 = 0 →
      ∃ t, exec (.fabricStatus cid) s = .next t ∧ Completed s t c 0x00 0 (fabricResult s)) ∧
    (Ready s cid 0x53 c → c.only [(16, 8)] = true → c.f 16 8 ≠ 0 →
      PlainDest s c.fn (c.f 16 8) 128 (routeMask s) →
      ∃ t, exec (.fabricStatus cid) s = .next t ∧ Stored s t c.fn (c.f 16 8) (routeMask s) ∧
        Completed s t c 0x00 0 (fabricResult s)) ∧
    (Ready s cid 0x70 c → c.only [(16, 44)] = true →
      PlainDest s c.fn (c.f 48 8) (c.f 56 4) (report s (slice c.packet 16 32)) →
      ∃ t, exec (.attest cid) s = .next t ∧ Stored s t c.fn (c.f 48 8) (report s (slice c.packet 16 32)) ∧
        Completed s t c 0x00 0 (report s (slice c.packet 16 32)).length)

/-- The commands that read a structure at an ADDR of this device take it: a lattice table becomes the shadow table and
a share table waits for its round, where the device pool has room for the copy, and is refused where it has none; a
firmware package begins its copy into the inactive slot, and the active one is unchanged (R196, R209, R356, R426). -/
def Obligations.LoadsTakeTheirStructure : Prop :=
  ∀ (s : State) (cid : Nat) (c : Cmd) (b : Bytes),
    (Ready s cid 0x14 c → c.only [(16, 8), (24, 4)] = true → 48 ≤ c.f 24 4 → c.f 24 4 ≤ 16 + 32 * 256 →
      PlainRead s c.fn (c.f 16 8) (c.f 24 4) b → c.f 24 4 = 16 + 32 * rd b 0 2 →
      latticeOk s (s.part c.partition) b = true →
      ∀ u : State, u = s.modPart c.partition (fun p => { p with shadow := some (parseLattice b) }) →
      (poolFits u = true →
        ∃ t, exec (.latticeLoad cid) s = .next t ∧ (t.part c.partition).shadow = some (parseLattice b) ∧
          (t.part c.partition).active = (s.part c.partition).active ∧
          (∀ k, k ≠ c.partition → t.part k = s.part k) ∧ Completed s t c 0x00 0 0) ∧
      (poolFits u = false →
        ∃ t, exec (.latticeLoad cid) s = .next t ∧ t.parts = s.parts ∧ Completed s t c stNoResource 0 0)) ∧
    (Ready s cid 0x16 c → c.only [(16, 8)] = true → PlainRead s c.fn (c.f 16 8) 512 b → shareOk s b = true →
      (poolFits { s with shareNext := some (parseShare b) } = true →
        ∃ t, exec (.shareTableLoad cid) s = .next t ∧ t.shareNext = some (parseShare b) ∧ t.share = s.share ∧
          Completed s t c 0x00 0 0) ∧
      (poolFits { s with shareNext := some (parseShare b) } = false →
        ∃ t, exec (.shareTableLoad cid) s = .next t ∧ t.shareNext = s.shareNext ∧ t.share = s.share ∧
          Completed s t c stNoResource 0 0)) ∧
    (Ready s cid 0x71 c → c.only [(16, 16)] = true → c.f 24 8 ≠ 0 → c.f 24 8 ≤ 2 ^ 25 →
      s.sec.staging = none → s.sec.activating = none → PlainRead s c.fn (c.f 16 8) (c.f 24 8) b →
      ∃ t, exec (.fwStage cid) s = .next t ∧ t.sec.staging = some (cid, b) ∧ t.sec.stagedValid = false ∧
        t.sec.staged = none ∧ slotOf t s.sec.activeSlot = slotOf s s.sec.activeSlot ∧
        ∃ n, slotOf t (!s.sec.activeSlot) = halfCopied n (slotOf s (!s.sec.activeSlot)) b)

/-- KEY_PROVISION refuses parameters out of range, a policy for an unowned device and a fifth owner key; with a block
that authorises it, it programs the lowest owner row or burns policy bits, measures the change into MR7, sets
KEY_PROVISIONED and completes with OK; a block that does not authorise it, or names another row, is denied and sets
nothing (R316, R430). -/
def Obligations.KeyProvisionNeedsItsBlock : Prop :=
  ∀ (s : State) (cid : Nat) (c : Cmd), Ready s cid 0x73 c →
    ((c.only [(16, 1), (20, 44)] = false ∨ 1 < c.f 16 1 ∨
        c.f 16 1 = 1 ∧ (4 ≤ c.f 20 4 ∨ allZero (slice c.packet 32 32) = false)) →
      ∃ t, exec (.keyProvision cid) s = .next t ∧ t.sec = s.sec ∧ Completed s t c stInvalidParameter 0 0) ∧
    (c.only [(16, 1), (20, 44)] = true → c.f 16 1 = 1 → c.f 20 4 < 4 → allZero (slice c.packet 32 32) = true →
      owned s = false →
      ∃ t, exec (.keyProvision cid) s = .next t ∧ t.sec = s.sec ∧ Completed s t c stNotPermitted 0 0) ∧
    (c.only [(16, 1), (20, 44)] = true → c.f 16 1 = 0 → 4 ≤ s.sec.ownerRows.length →
      ∃ t, exec (.keyProvision cid) s = .next t ∧ t.sec = s.sec ∧ Completed s t c stNoResource 0 0) ∧
    (∀ b, c.only [(16, 1), (20, 44)] = true → PlainRead s c.fn (c.f 24 8) 192 b →
      (c.f 16 1 = 0 ∧ s.sec.ownerRows.length < 4 ∨
        c.f 16 1 = 1 ∧ c.f 20 4 < 4 ∧ allZero (slice c.packet 32 32) = true ∧ owned s = true) →
      ((authorises s c b = false ∨ c.f 16 1 = 0 ∧ rd b 5 1 ≠ s.sec.ownerRows.length) →
        ∃ t, exec (.keyProvision cid) s = .next t ∧ t.sec = s.sec ∧ Completed s t c stSecurityDenied 0 0) ∧
      (authorises s c b = true → c.f 16 1 = 0 → rd b 5 1 = s.sec.ownerRows.length →
        ∃ t, exec (.keyProvision cid) s = .next t ∧ t.sec.ownerRows = s.sec.ownerRows ++ [slice c.packet 32 32] ∧
          t.sec.policy = s.sec.policy ∧ t.sec.mrs = (measureMr s 7 (slice c.packet 32 32)).sec.mrs ∧
          t.sec.cause.getLsbD 4 = true ∧ Completed s t c 0x00 0 0) ∧
      (authorises s c b = true → c.f 16 1 = 1 →
        ∃ t, exec (.keyProvision cid) s = .next t ∧ t.sec.policy = s.sec.policy ||| BitVec.ofNat 2 (c.f 20 4) ∧
          t.sec.ownerRows = s.sec.ownerRows ∧ t.sec.mrs = (measureMr s 7 (toLE 1 t.sec.policy.toNat)).sec.mrs ∧
          t.sec.cause.getLsbD 4 = true ∧ Completed s t c 0x00 0 0))

/-! ### What each family of commands leaves alone -/

/-- Management, power, security and test commands change only the fields that `touches` lists for each of them. -/
def Obligations.ManagementFrame : Prop :=
  ∀ (i : Instr) (s t : State), family i ∈ [Family.management, .power, .security] → exec i s = .next t →
    Frame (pieces (touches i)) s t

/-- Partition, lattice, model and stream commands, and the events by which they go on, change only the fields that
`touches` lists for each of them. -/
def Obligations.PartitionAndStreamFrame : Prop :=
  ∀ (i : Instr) (s t : State), family i ∈ [Family.partitions, .lattice, .models, .streams] → exec i s = .next t →
    Frame (pieces (touches i)) s t

/-- Port commands and the events of the audio ports change only the fields that `touches` lists for each of them. -/
def Obligations.PortFrame : Prop :=
  ∀ (i : Instr) (s t : State), family i = .ports → exec i s = .next t → Frame (pieces (touches i)) s t

/-- Doorbells, acceptance, completion, the fall-through queues and accesses to BAR0 change only the fields that
`touches` lists for each of them. -/
def Obligations.RingAndRegisterFrame : Prop :=
  ∀ (i : Instr) (s t : State), family i ∈ [Family.rings, .queues, .registers] → exec i s = .next t →
    Frame (pieces (touches i)) s t

/-- The start, the end and the faults of kernels, resets of partitions, window commands, copies, links and fabric
requests change only the fields that `touches` lists for each of them. -/
def Obligations.KernelAndFabricFrame : Prop :=
  ∀ (i : Instr) (s t : State), family i ∈ [Family.kernels, .fabric] → exec i s = .next t →
    Frame (pieces (touches i)) s t

/-- PCI Express, pins, resets and boot change only the fields that `touches` lists for each of them. -/
def Obligations.ResetFrame : Prop :=
  ∀ (i : Instr) (s t : State), family i ∈ [Family.pcie, .resets] → exec i s = .next t →
    Frame (pieces (touches i)) s t

/-! ### Rings -/

/-- A doorbell below the ring's units becomes SQ_TAIL, and any other is a ring error 6; a CQ_HEAD that acknowledges
written entries is taken, and any other is a ring error 7 that stops the completion ring; no other ring changes
(R253, R266). While the device does not run, or the function does not exist or is in D3hot, a doorbell does nothing
(R395, R440, R450). -/
def Obligations.DoorbellsMoveTheirRing : Prop :=
  ∀ (s : State) (f r : Nat) (v : Word32), s.Canon → f < 64 → r < 16 →
    (s.serves f = true → v.toNat % 2 ^ 20 < (s.ring f r).units →
      ∃ t, exec (.sqTailWrite f r v) s = .next t ∧ (t.ring f r).sqTail.toNat = v.toNat % 2 ^ 20 ∧
        (t.ring f r).sqHead = (s.ring f r).sqHead ∧ (t.ring f r).error = (s.ring f r).error ∧
        (∀ g q, q < 16 → (g, q) ≠ (f, r) → t.ring g q = s.ring g q)) ∧
    (s.serves f = true → (s.ring f r).units ≤ v.toNat % 2 ^ 20 →
      ∃ t, exec (.sqTailWrite f r v) s = .next t ∧ (t.ring f r).sqTail = (s.ring f r).sqTail ∧
        (t.ring f r).sqHead = (s.ring f r).sqHead ∧ (t.ring f r).error = true ∧ (t.ring f r).errorCode = 6 ∧
        (t.ring f r).cause.getLsbD 1 = true ∧ (∀ g q, q < 16 → (g, q) ≠ (f, r) → t.ring g q = s.ring g q)) ∧
    (s.serves f = true → v.toNat % 2 ^ 19 < (s.ring f r).entries →
      (v.toNat % 2 ^ 19 + (s.ring f r).entries - (s.ring f r).cqHead.toNat) % (s.ring f r).entries ≤
        ((s.ring f r).cqTail.toNat + (s.ring f r).entries - (s.ring f r).cqHead.toNat) % (s.ring f r).entries →
      ∃ t, exec (.cqHeadWrite f r v) s = .next t ∧ (t.ring f r).cqHead.toNat = v.toNat % 2 ^ 19 ∧
        (t.ring f r).cqTail = (s.ring f r).cqTail ∧ (t.ring f r).error = (s.ring f r).error ∧
        (∀ g q, q < 16 → (g, q) ≠ (f, r) → t.ring g q = s.ring g q)) ∧
    (s.serves f = true →
      ((s.ring f r).entries ≤ v.toNat % 2 ^ 19 ∨
        ((s.ring f r).cqTail.toNat + (s.ring f r).entries - (s.ring f r).cqHead.toNat) % (s.ring f r).entries <
          (v.toNat % 2 ^ 19 + (s.ring f r).entries - (s.ring f r).cqHead.toNat) % (s.ring f r).entries) →
      ∃ t, exec (.cqHeadWrite f r v) s = .next t ∧ (t.ring f r).cqHead = (s.ring f r).cqHead ∧
        (t.ring f r).error = true ∧ (t.ring f r).errorCode = 7 ∧ (t.ring f r).cqStopped = true ∧
        (t.ring f r).cause.getLsbD 1 = true ∧ (∀ g q, q < 16 → (g, q) ≠ (f, r) → t.ring g q = s.ring g q)) ∧
    (s.serves f = false →
      exec (.sqTailWrite f r v) s = .next (settle s) ∧ exec (.cqHeadWrite f r v) s = .next (settle s))

/-- Enabling the completion ring empties it; enabling the submission ring needs the completion ring that it selects,
without which SQ_ENABLE stays clear and ERROR_CODE is 4; enabling what is enabled changes nothing; a completion ring
that an enabled submission ring selects stays enabled (R269). -/
def Obligations.RingsEnableInOrder : Prop :=
  ∀ (s : State) (f r : Nat), s.Canon → f < 64 → r < 16 →
    (s.serves f = false →
      ∀ on, exec (.sqEnable f r on) s = .next (settle s) ∧ exec (.cqEnable f r on) s = .next (settle s)) ∧
    (s.serves f = true →
    ((s.ring f r).cqEnable = false →
      ∃ t, exec (.cqEnable f r true) s = .next t ∧ (t.ring f r).cqEnable = true ∧ (t.ring f r).cqHead = 0 ∧
        (t.ring f r).cqTail = 0 ∧ (t.ring f r).phase = true ∧ (t.ring f r).sqEnable = (s.ring f r).sqEnable) ∧
    ((s.ring f r).cqEnable = true → ∃ t, exec (.cqEnable f r true) s = .next t ∧ t.rings = s.rings) ∧
    ((s.ring f r).sqEnable = false → (s.ring f (s.ring f r).cqSelect.toNat).cqEnable = true →
      ∃ t, exec (.sqEnable f r true) s = .next t ∧ (t.ring f r).sqEnable = true ∧ (t.ring f r).sqHead = 0 ∧
        (t.ring f r).sqTail = 0 ∧ (t.ring f r).cqEnable = (s.ring f r).cqEnable) ∧
    ((s.ring f r).sqEnable = false → (s.ring f (s.ring f r).cqSelect.toNat).cqEnable = false →
      ∃ t, exec (.sqEnable f r true) s = .next t ∧ (t.ring f r).sqEnable = false ∧ (t.ring f r).error = true ∧
        (t.ring f r).errorCode = 4 ∧ (t.ring f r).cause.getLsbD 1 = true) ∧
    ((s.ring f r).sqEnable = true → ∃ t, exec (.sqEnable f r true) s = .next t ∧ t.rings = s.rings) ∧
    (∃ t, exec (.sqEnable f r false) s = .next t ∧ (t.ring f r).sqEnable = false ∧
      (t.ring f r).cqEnable = (s.ring f r).cqEnable) ∧
    (∃ t, exec (.cqEnable f r false) s = .next t ∧ (t.ring f r).sqEnable = (s.ring f r).sqEnable ∧
      ((t.ring f r).cqEnable = true ↔ (s.ring f r).cqEnable = true ∧
        ∃ k < 16, (s.ring f k).sqEnable = true ∧ (s.ring f k).cqSelect.toNat = r)))

/-- ABORT and RING_RESET complete every accepted command of the ring that has not started, with ABORTED, and leave the
started ones; an abort in progress goes on. Once no command of the ring is left, ABORT_DONE disables the submission
ring, and after RESET the completion ring too, whose entries are discarded (R270, R271). -/
def Obligations.AbortsEndTheirRing : Prop :=
  ∀ (s : State) (f r : Nat), s.Canon → f < 64 → r < 16 →
    (s.serves f = true → (s.ring f r).abort = false →
      (∃ t, exec (.abort f r) s = .next t ∧ (t.ring f r).abort = true ∧ (t.ring f r).reset = (s.ring f r).reset ∧
        (∀ c, s.cmd c.cid = some c → c.fn = f → c.ring = r → c.started = none → Completed s t c stAborted 0 0) ∧
        (∀ c ∈ s.cmds, ((c.fn, c.ring) ≠ (f, r) ∨ c.started ≠ none) →
          c ∈ t.cmds)) ∧
      (∃ t, exec (.ringReset f r) s = .next t ∧ (t.ring f r).abort = true ∧ (t.ring f r).reset = true ∧
        (∀ c, s.cmd c.cid = some c → c.fn = f → c.ring = r → c.started = none → Completed s t c stAborted 0 0) ∧
        (∀ c ∈ s.cmds, ((c.fn, c.ring) ≠ (f, r) ∨ c.started ≠ none) →
          c ∈ t.cmds))) ∧
    (s.serves f = true → (s.ring f r).abort = true →
      (∃ t, exec (.abort f r) s = .next t ∧ t.rings = s.rings ∧ t.cmds = s.cmds) ∧
      (∃ t, exec (.ringReset f r) s = .next t ∧ (t.ring f r).abort = true ∧ (t.ring f r).reset = true ∧
        t.cmds = s.cmds)) ∧
    (s.live = true → (s.ring f r).abort = true → (∀ c ∈ s.cmds, (c.fn, c.ring) = (f, r) → c.orphaned = true) →
      ∃ t, exec (.abortDone f r) s = .next t ∧ (t.ring f r).sqEnable = false ∧ (t.ring f r).abort = false ∧
        (t.ring f r).cause.getLsbD 2 = true ∧
        ((s.ring f r).reset = false → (t.ring f r).cqEnable = (s.ring f r).cqEnable ∧
          (t.ring f r).coalescer = (s.ring f r).coalescer) ∧
        ((s.ring f r).reset = true → (t.ring f r).cqEnable = false ∧ (t.ring f r).coalescer = [] ∧
          (t.ring f r).error = false ∧ (t.ring f r).reset = false ∧ (t.ring f r).cause.getLsbD 3 = true)) ∧
    (s.live = false ∨ (s.ring f r).abort = false ∨ (∃ c ∈ s.cmds, (c.fn, c.ring) = (f, r) ∧ c.orphaned = false) →
      exec (.abortDone f r) s = .next (settle s)) ∧
    (s.serves f = false →
      exec (.abort f r) s = .next (settle s) ∧ exec (.ringReset f r) s = .next (settle s))

/-- A packet at SQ_HEAD whose units are here, with room for its entry, is accepted: SQ_HEAD passes it and it joins
the accepted commands, held while an earlier command holds it, or fails with the status of the check in its turn; LENGTH
0 or above 64 is a ring error 1 and a poisoned unit a ring error 2; without its units or the room nothing happens (R255,
R257, R258, R272, R393). A held command whose wait is over may start, or completes with the status of the check that it
failed, and no other does (R258 to R261). -/
def Obligations.PacketsAreAccepted : Prop :=
  (∀ (s : State) (f r len : Nat) (h b : Bytes) (p : Bool), s.Canon → f < 64 → r < 16 → accepting s f r = true →
    (s.ring f r).here ≠ 0 → readUnits s f (s.ring f r) (s.ring f r).sqHead.toNat 1 = (h, p) → rd h 2 2 = len →
    (p = true →
      ∃ t, exec (.packetAccept f r) s = .next t ∧ (t.ring f r).error = true ∧ (t.ring f r).errorCode = 2 ∧
        (t.ring f r).sqHead = (s.ring f r).sqHead ∧ t.cmds = s.cmds) ∧
    (p = false → (len = 0 ∨ 64 < len) →
      ∃ t, exec (.packetAccept f r) s = .next t ∧ (t.ring f r).error = true ∧ (t.ring f r).errorCode = 1 ∧
        (t.ring f r).sqHead = (s.ring f r).sqHead ∧ t.cmds = s.cmds) ∧
    (p = false → 1 ≤ len → len ≤ 64 →
      ((s.ring f r).here < len ∨ cqRoom s f (s.ring f r).cqSelect.toNat = false →
        exec (.packetAccept f r) s = .next (settle s)) ∧
      (len ≤ (s.ring f r).here → cqRoom s f (s.ring f r).cqSelect.toNat = true →
        (readUnits s f (s.ring f r) (s.ring f r).sqHead.toNat len = (b, true) →
          ∃ t, exec (.packetAccept f r) s = .next t ∧ (t.ring f r).error = true ∧ (t.ring f r).errorCode = 2 ∧
            (t.ring f r).sqHead = (s.ring f r).sqHead ∧ t.cmds = s.cmds) ∧
        (∀ c, readUnits s f (s.ring f r) (s.ring f r).sqHead.toNat len = (b, false) → c = acceptedCmd s f r len b →
          ∃ t, exec (.packetAccept f r) s = .next t ∧ t.nextCid = s.nextCid + 1 ∧
            (t.ring f r).sqHead.toNat = ((s.ring f r).sqHead.toNat + len) % (s.ring f r).units ∧
            (∀ e ∈ s.cmds, e ∈ t.cmds) ∧
            (∀ st, admitStatus s c = some st → blocked s c = false → Completed s t c st 0 0) ∧
            (∀ st, admitStatus s c = some st → blocked s c = true →
              ∃ e, t.cmd s.nextCid = some e ∧ e.held = true ∧ e.refused = some st ∧ e.started = none) ∧
            (admitStatus s c = none →
              ∃ e, t.cmd s.nextCid = some e ∧ e.packet = b ∧ e.fn = f ∧ e.ring = r ∧
                e.cq = (s.ring f r).cqSelect.toNat ∧ e.started = none ∧ e.accepted = s.now ∧
                (e.held = true ↔ blocked s c = true)) ∧
            (∀ st, packetCheck s c = some st → admitStatus s c = some st) ∧
            (packetCheck s c = none → s.mode = .ready → c.partition < 128 → c.opcode ≠ 0x13 →
              (s.part c.partition).resetting ≠ none → admitStatus s c = some stPartitionReset) ∧
            (packetCheck s c = none → s.mode = .ready →
              (c.partition < 128 → c.opcode = 0x13 ∨ (s.part c.partition).resetting = none) →
              admitStatus s c = none))))) ∧
  (∀ (s : State) (f r : Nat), f < 64 → r < 16 →
    (accepting s f r = false → exec (.packetAccept f r) s = .next (settle s)) ∧
    (accepting s f r = true → (s.ring f r).here = 0 →
      ∃ t, exec (.packetAccept f r) s = .next t ∧ t.rings = s.rings ∧ t.cmds = s.cmds ∧ t.nextCid = s.nextCid)) ∧
  (∀ (s : State) (cid : Nat) (c : Cmd), s.cmd cid = some c →
    (s.live = true → c.held = true → blocked s c = false →
      (c.refused = none →
        ∃ t, exec (.deferredCommandStart cid) s = .next t ∧ t.cmd cid = some { c with held := false }) ∧
      (∀ st, c.refused = some st →
        ∃ t, exec (.deferredCommandStart cid) s = .next t ∧ Completed s t c st 0 0)) ∧
    (s.live = false ∨ c.held = false ∨ blocked s c = true →
      exec (.deferredCommandStart cid) s = .next (settle s)))

/-- A full burst, or the entries of a flush, leave the coalescer for the completion ring in one write, once every one of
them has been read and not before; CQ_TAIL passes them, and the phase inverts at the wrap; a write that ends in an error
stops the ring with ERROR_CODE 3 and writes nothing. Before that cycle, without such entries, or where the ring does not
flow, nothing happens. Where the interval since the first signalled entry has passed, RING_CAUSE.COMPLETION is set, and
otherwise not (R265, R267, R268, R272, R384). -/
def Obligations.CompletionEntriesAreWritten : Prop :=
  ∀ (s : State) (f r : Nat) (q : Ring), s.Canon → f < 64 → r < 16 → q = s.ring f r →
    (∀ b, q.burst = some b → burstNext s f r = some b) ∧
    (q.burst = none → q.coalescer.length < fullBurst q → burstNext s f r = none) ∧
    (q.burst = none → fullBurst q ≤ q.coalescer.length →
      ∃ d, burstNext s f r = some (fullBurst q, d) ∧
        ∀ e ∈ q.coalescer.take (fullBurst q), e.since + 2 * depthOf 3 (16 * f + r) + 2 ≤ d) ∧
    (∀ n d, cqFlows s f r = true → burstNext s f r = some (n, d) → d ≤ s.now →
      (∀ w, BurstLands s f r n w →
        ∃ t, exec (.completionBurstWrite f r true) s = .next t ∧ t.hostMem = w.hostMem ∧ t.mem = w.mem ∧
          (t.ring f r).coalescer = q.coalescer.drop n ∧ (t.ring f r).burst = none ∧
          (t.ring f r).cqTail.toNat = (q.cqTail.toNat + n) % q.entries ∧
          (t.ring f r).phase = (if q.entries ≤ q.cqTail.toNat + n then !q.phase else q.phase)) ∧
      (∀ written, (written = false ∨ ∀ w, ¬ BurstLands s f r n w) →
        ∃ t, exec (.completionBurstWrite f r written) s = .next t ∧ t.hostMem = s.hostMem ∧ t.mem = s.mem ∧
          (t.ring f r).cqStopped = true ∧ (t.ring f r).error = true ∧ (t.ring f r).errorCode = 3 ∧
          (t.ring f r).cause.getLsbD 1 = true ∧ (t.ring f r).cqTail = q.cqTail ∧
          (t.ring f r).coalescer = q.coalescer)) ∧
    (∀ written, (cqFlows s f r = false ∨ burstNext s f r = none ∨ ∃ n d, burstNext s f r = some (n, d) ∧ s.now < d) →
      exec (.completionBurstWrite f r written) s = .next (settle s)) ∧
    (∀ c0, s.live = true → q.firstSignalled = some c0 → q.coTime ≠ 0 → c0 + 1000 * q.coTime.toNat ≤ s.now →
      ∃ t, exec (.coalesceTimeExpiry f r) s = .next t ∧ (t.ring f r).cause = setBit q.cause 0) ∧
    (s.live = false ∨ q.coTime = 0 ∨ (∀ c0, q.firstSignalled = some c0 → s.now < c0 + 1000 * q.coTime.toNat) →
      exec (.coalesceTimeExpiry f r) s = .next (settle s))

/-! ### Queues and registers -/

/-- A queue takes an item at its input end, with a fault where INJECT acts on it, one in each cycle of its own clock, and
a full queue takes none; a consumer drops a packet; after the tail time, what is present begins to leave, as one partial
unit, with a flush counted, and a packet or burst that is whole without one. A word is delivered corrected, or with a
poison tag, and a bad header makes the fault of its class; INJECT takes a KIND and a COUNT in the test state or with debug
unlocked, and nothing otherwise (R272, R381 to R389, R459). -/
def Obligations.QueuesMoveTheirItems : Prop :=
  ∀ (s : State) (c i : Nat) (x : QItem) (q : FtQueue), s.Canon → c < 10 → i < 65536 → q = s.ftq c i →
    (∀ u p j, s.live = true → takesItem s c i = some u → p = u.ftq c i → j = tabGet {} u.test.inject c →
      ∃ t, exec (.queueItemWrite c i x) s = .next t ∧
        (t.ftq c i).stages.length = (if p.stages = [] then depthOf c i else p.stages.length) ∧
        (p.stages ≠ [] → (t.ftq c i).stages.dropLast = p.stages.dropLast) ∧
        (injects u j x = false → (t.ftq c i).stages.getLast? = some (some x) ∧ t.test = u.test) ∧
        (injects u j x = true →
          (t.ftq c i).stages.getLast? = some (some { x with fault := kindFault j.kind.toNat }) ∧
          tabGet {} t.test.inject c =
            { kind := if j.count = 1 then 0 else j.kind, header := j.header, count := j.count - 1 } ∧
          (j.count = 1 → t.test.cause.getLsbD 4 = true))) ∧
    (inputFree q.stages = true → takesItem s c i = some s) ∧
    (inputFree q.stages = false → c = 3 ∨ 7 ≤ c ∨ q.ahead ≠ 0 → takesItem s c i = none) ∧
    (s.live = false ∨ takesItem s c i = none → exec (.queueItemWrite c i x) s = .next (settle s)) ∧
    (s.live = true →
      ∃ t, exec (.dropPacket c i) s = .next t ∧ (t.ftq c i).dropping = q.dropping + 1 ∧
        (t.qclass c).drops = addSat (s.qclass c).drops 1) ∧
    (s.live = false → exec (.dropPacket c i) s = .next (settle s)) ∧
    ((c = 3 ∧ i < 1024 ∧ coTailDue s (i / 16) (i % 16) = true) → ∀ f r, f = i / 16 → r = i % 16 →
      (cqFlows s f r = true → fullBurst (s.ring f r) ≤ (s.ring f r).coalescer.length →
        exec (.queueTailTimeout c i) s = exec (.completionBurstWrite f r true) s) ∧
      (cqFlows s f r = true → (s.ring f r).coalescer.length < fullBurst (s.ring f r) →
        ∃ t d, exec (.queueTailTimeout c i) s = .next t ∧ t.mem = s.mem ∧ t.hostMem = s.hostMem ∧
          (t.ring f r).coalescer = (s.ring f r).coalescer ∧
          (t.ring f r).burst = some ((s.ring f r).coalescer.length, d) ∧
          s.now + 2 * (s.ring f r).coalescer.length ≤ d ∧
          (∀ e ∈ (s.ring f r).coalescer, e.since + 2 * depthOf 3 i + 2 ≤ d) ∧
          (t.qclass 3).flushes = addSat (s.qclass 3).flushes 1) ∧
      (cqFlows s f r = false → exec (.queueTailTimeout c i) s = .next (settle s))) ∧
    (¬ (c = 3 ∧ i < 1024 ∧ coTailDue s (i / 16) (i % 16) = true) →
      (s.live = true → tailDue s c i = true →
        ∃ t, exec (.queueTailTimeout c i) s = .next t ∧ (t.ftq c i).stages = q.stages ∧
          (packetItems (itemsOf q) ≠ 0 →
            (t.ftq c i).flushing = packetItems (itemsOf q) ∧ (t.qclass c).flushes = (s.qclass c).flushes) ∧
          (packetItems (itemsOf q) = 0 →
            (t.ftq c i).flushing = (itemsOf q).length ∧
            (t.qclass c).flushes = addSat (s.qclass c).flushes 1)) ∧
      (s.live = false ∨ tailDue s c i = false → exec (.queueTailTimeout c i) s = .next (settle s))) ∧
    (∀ (y : QItem) rest u, q.stages = some y :: rest → u = queueCycle s c i →
      (q.dropping ≠ 0 → q.read = [] →
        u.sent = s.sent ∧ (u.ftq c i).dropping = (if y.eop then q.dropping - 1 else q.dropping)) ∧
      (q.dropping = 0 → (coalesces c = false ∧ q.read = [] ∨ coalesces c = true ∧ q.flushing ≠ 0) →
        (y.fault = .single → (u.qclass c).ceCount = addWrap (s.qclass c).ceCount 1) ∧
        (y.fault = .double → (u.qclass c).ueCount = addSat (s.qclass c).ueCount 1) ∧
        (y.fault = .parity → c ≤ 2 → (u.qclass c).parityErrors = addSat (s.qclass c).parityErrors 1) ∧
        (y.header = false ∨ isBad c y = false →
          (coalesces c = false → u.sent = s.sent ++ [.queueOut c i [delivered c y]]) ∧
          (coalesces c = true → u.sent = s.sent ∧ (u.ftq c i).read = q.read ++ [delivered c y] ∧
            (c = 3 → i < 1024 → (delivered c y).poison = true →
              (u.ring (i / 16) (i % 16)).error = true ∧ (u.ring (i / 16) (i % 16)).errorCode = 3 ∧
              (u.ring (i / 16) (i % 16)).cqStopped = true))) ∧
        (y.header = true → isBad c y = true →
          (c < 2 → u.mode = .fatal) ∧
          (2 ≤ c → u.sent = s.sent ++ [.poisonedRead c i] ∧ (u.qclass c).drops = addSat (s.qclass c).drops 1 ∧
            (u.ftq c i).dropping = (if y.eop then 0 else 1))))) ∧
    (q.flushing = 0 → q.read ≠ [] → ∃ rest, (queueCycle s c i).sent = s.sent ++ .queueOut c i q.read :: rest) ∧
    (∀ v : Word32, s.answers 0 = true → s.barUp = true → (s.test.testState = true ∨ s.sec.debugLevel ≠ 0) →
      (v.toNat % 4 = 3 → c ≤ 2) →
      ∃ t, exec (.inject c v) s = .next t ∧
        (tabGet {} t.test.inject c).kind.toNat = (if v.toNat / 2 ^ 8 % 2 ^ 8 = 0 then 0 else v.toNat % 4) ∧
        (tabGet {} t.test.inject c).header = v.getLsbD 2 ∧
        (tabGet {} t.test.inject c).count.toNat = v.toNat / 2 ^ 8 % 2 ^ 8 ∧
        (v.toNat / 2 ^ 8 % 2 ^ 8 = 0 → v.toNat % 4 ≠ 0 → t.test.cause.getLsbD 4 = true)) ∧
    (∀ v : Word32, s.answers 0 = true → s.barUp = true →
      (s.test.testState = false ∧ s.sec.debugLevel = 0 ∨ v.toNat % 4 = 3 ∧ 2 < c) →
      ∃ t, exec (.inject c v) s = .next t ∧ t.test = s.test) ∧
    (∀ v : Word32, s.answers 0 = false ∨ s.barUp = false → exec (.inject c v) s = .next (settle s))

/-- An aligned access of 4 or 8 bytes writes the register there by its field types: INT_SUMMARY_EN takes the bits that
exist, a cause register clears where 1 is written, BAR2_WINDOW takes its field, BOOT_HOST_ADDR takes a word or the
whole; a register that is read-only keeps its value. A write outside the registers, misaligned or of another size is
dropped and reported, and so is one with EP set; during boot only the clocks block takes a write. A write to the
configuration space of PF0 sets the size, the timeout, the error bits or the BAR2 size that it names (R8, R9, R249, R401,
R412, R413, R441 to R445, R451). -/
def Obligations.RegisterWritesFollowTheirFields : Prop :=
  ∀ (s : State) (f off size : Nat) (v : Word64), s.Canon → f < 64 → off < 2 ^ 28 →
    (s.answers f = true →
      (size = 4 ∧ off % 4 = 0 →
        (s.barUp = true →
          (locate s f off = some (.irq, 0x4) →
            ∃ t, exec (.registerWrite f (.bar0 off false) size v) s = .next t ∧
              (t.func f).summaryEn = BitVec.ofNat 13 (v.toNat % 2 ^ 32 &&& summaryMask f)) ∧
          (∀ k, k < 128 → locate s f off = some (.part k, 0x50) →
            ∃ t, exec (.registerWrite f (.bar0 off false) size v) s = .next t ∧
              (t.part k).modelCause = (s.part k).modelCause &&& ~~~(BitVec.ofNat 4 v.toNat)) ∧
          (locate s f off = some (.pcie, 0x4) →
            ∃ t, exec (.registerWrite f (.bar0 off false) size v) s = .next t ∧ t.pcie.bar2Gib.toNat = v.toNat % 2 ^ 9) ∧
          (locate s f off = some (.pba, 0) →
            ∃ t, exec (.registerWrite f (.bar0 off false) size v) s = .next t ∧
              Frame (pieces [.funcs, .sent, .pcie]) s t)) ∧
        (locate s f off = some (.clocks, 0x10) →
          ∃ t, exec (.registerWrite f (.bar0 off false) size v) s = .next t ∧
            t.clk.hostAddr.toNat = s.clk.hostAddr.toNat / 2 ^ 32 * 2 ^ 32 + v.toNat % 2 ^ 32) ∧
        (locate s f off = some (.clocks, 0x14) →
          ∃ t, exec (.registerWrite f (.bar0 off false) size v) s = .next t ∧
            t.clk.hostAddr.toNat = v.toNat % 2 ^ 32 * 2 ^ 32 + s.clk.hostAddr.toNat % 2 ^ 32)) ∧
      (size = 8 ∧ off % 8 = 0 →
        (s.barUp = true → locate s f off = some (.irq, 0x0) →
          ∃ t, exec (.registerWrite f (.bar0 off false) size v) s = .next t ∧
            (t.func f).summaryEn = BitVec.ofNat 13 (v.toNat / 2 ^ 32 &&& summaryMask f)) ∧
        (locate s f off = some (.clocks, 0x10) →
          ∃ t, exec (.registerWrite f (.bar0 off false) size v) s = .next t ∧ t.clk.hostAddr = v)) ∧
      (accessOk off size = true → ∀ b o, locate s f off = some (b, o) → s.barUp = false → b ≠ .clocks →
        ∃ t, exec (.registerWrite f (.bar0 off false) size v) s = .next t ∧ Frame (pieces [.funcs, .sent, .pcie]) s t) ∧
      (locate s f off = none ∨ ¬ (size = 4 ∧ off % 4 = 0 ∨ size = 8 ∧ off % 8 = 0) ∨
          (∃ b o, locate s f off = some (b, o) ∧ (s.barUp = true ∨ b = .clocks) ∧
            (rowAt s f b o = none ∨
              size = 8 ∧ (∃ q, rowAt s f b o = some q ∧ q.2.1 = false) ∧ rowAt s f b (o + 4) = none)) →
        ∃ t, exec (.registerWrite f (.bar0 off false) size v) s = .next t ∧ t.pcie.aerUnsupported = true ∧
          Frame (pieces [.funcs, .sent, .pcie]) s t)) ∧
    (s.answers f = true →
      ∃ t, exec (.registerWrite f (.bar0 off true) size v) s = .next t ∧ t.pcie.aerPoisonedTlp = true ∧
        Frame (pieces [.funcs, .sent, .pcie]) s t) ∧
    (s.answers f = false → ∀ ep, exec (.registerWrite f (.bar0 off ep) size v) s = .next (settle s)) ∧
    (∀ reg,
      (f = 0 → s.pcie.released = true → s.clk.refclkOk = true →
        ∃ t, exec (.registerWrite f (.config reg) size v) s = .next t ∧
          Frame (pieces [.funcs, .sent, .pcie, .pcieRegs]) s t ∧
          (reg = .maxPayload → t.pcie.maxPayload = min 512 (128 * 2 ^ (v.toNat % 8))) ∧
          (reg = .maxRead → t.pcie.maxRead = min 4096 (128 * 2 ^ (v.toNat % 8))) ∧
          (reg = .tenBitTags → t.pcie.tenBitTags = v.getLsbD 0) ∧
          (reg = .timeoutRange → t.pcie.completionTimeout.toNat = v.toNat % 16) ∧
          (reg = .timeoutDisable → t.pcie.completionTimeoutOff = v.getLsbD 0) ∧
          (reg = .aerStatus → v.getLsbD 12 = true → t.pcie.aerPoisonedTlp = false) ∧
          (reg = .aerStatus → v.getLsbD 20 = true → t.pcie.aerUnsupported = false) ∧
          (reg = .bar2Size → t.pcie.bar2Size.toNat =
            (if bar2Sizes.contains (2 ^ (v.toNat % 64)) then 2 ^ (v.toNat % 64) else s.pcie.bar2Size.toNat))) ∧
      (f ≠ 0 ∨ s.pcie.released = false ∨ s.clk.refclkOk = false →
        exec (.registerWrite f (.config reg) size v) s = .next (settle s)))

/-- A read of 4 bytes returns the register; a read of the low word of a 64-bit register latches its high word, which
the next read of the high word returns, and a high word that is not latched reads as it is. A read of 8 bytes returns a
64-bit register whole, or two registers. During boot every block but the clocks reads 0, and a read outside the
registers, misaligned or of another size is unsupported (R8, R413, R443, R445). -/
def Obligations.ReadsLatchTheHighWord : Prop :=
  ∀ (s : State) (f off size : Nat), f < 64 → off < 2 ^ 28 →
    (s.answers f = true →
      (∀ b o q, locate s f off = some (b, o) → (s.barUp = true ∨ b = .clocks) → rowAt s f b o = some q →
        (size = 4 → off % 4 = 0 →
          ∃ t, exec (.regLowWordRead f ⟨off, size⟩) s = .next t ∧
            (q.2.1 = false →
              (∃ rest, t.sent = s.sent ++ .regData f off (BitVec.ofNat 32 (wordOf q o)) :: rest) ∧ t.latches = s.latches) ∧
            (q.2.1 = true → o = q.1 →
              (∃ rest, t.sent = s.sent ++ .regData f off (BitVec.ofNat 32 q.2.2) :: rest) ∧
              t.latches.find? (fun l => l.1 == latchKey f (off + 4)) =
                some (latchKey f (off + 4), BitVec.ofNat 32 (q.2.2 / 2 ^ 32))) ∧
            (q.2.1 = true → o ≠ q.1 →
              (∃ rest, t.sent = s.sent ++
                .regData f off (((s.latches.find? fun l => l.1 == latchKey f off).map (·.2)).getD
                  (BitVec.ofNat 32 (q.2.2 / 2 ^ 32))) :: rest) ∧
              t.latches.find? (fun l => l.1 == latchKey f off) = none)) ∧
        (size = 8 → off % 8 = 0 →
          (q.2.1 = true →
            ∃ t rest, exec (.regLowWordRead f ⟨off, size⟩) s = .next t ∧
              t.sent = s.sent ++ .regData64 f off (BitVec.ofNat 64 q.2.2) :: rest) ∧
          (∀ h, q.2.1 = false → rowAt s f b (o + 4) = some h →
            ∃ t rest, exec (.regLowWordRead f ⟨off, size⟩) s = .next t ∧
              t.sent = s.sent ++
                .regData64 f off (BitVec.ofNat 64 (wordOf q o + 2 ^ 32 * wordOf h (o + 4))) :: rest))) ∧
      (∀ b o, locate s f off = some (b, o) → s.barUp = false → b ≠ .clocks →
        (size = 4 → off % 4 = 0 →
          ∃ t rest, exec (.regLowWordRead f ⟨off, size⟩) s = .next t ∧ t.sent = s.sent ++ .regData f off 0 :: rest) ∧
        (size = 8 → off % 8 = 0 →
          ∃ t rest, exec (.regLowWordRead f ⟨off, size⟩) s = .next t ∧ t.sent = s.sent ++ .regData64 f off 0 :: rest)) ∧
      (locate s f off = none ∨ ¬ (size = 4 ∧ off % 4 = 0 ∨ size = 8 ∧ off % 8 = 0) ∨
          (∃ b o, locate s f off = some (b, o) ∧ (s.barUp = true ∨ b = .clocks) ∧
            (rowAt s f b o = none ∨
              size = 8 ∧ (∃ q, rowAt s f b o = some q ∧ q.2.1 = false) ∧ rowAt s f b (o + 4) = none)) →
        ∃ t rest, exec (.regLowWordRead f ⟨off, size⟩) s = .next t ∧ t.sent = s.sent ++ .unsupported :: rest ∧
          t.pcie.aerUnsupported = true)) ∧
    (s.answers f = false → exec (.regLowWordRead f ⟨off, size⟩) s = .next (settle s))

/-- LOCK set keeps DEVICE_NUMBER; ARMED is set by a write of 1, upon which a function that asserts sends its message,
or holds it pending while the vector is masked; unmasking sends the pending message; CLEAR empties the accounting
counters. An access that the function does not answer, and a clear by another function, do nothing (R10, R25, R222,
R399, R413). -/
def Obligations.SpecialRegistersTakeTheirWrites : Prop :=
  ∀ (s : State) (f : Nat) (v : Word32), s.Canon → f < 64 →
    (s.answers f = true → s.barUp = true →
      (f = 0 →
        ∃ t, exec (.globalLock v) s = .next t ∧ t.ident.lock = (s.ident.lock || v.getLsbD 0) ∧
          t.ident.number = s.ident.number) ∧
      (f = 0 → s.ident.lock = false →
        ∃ t, exec (.numberValid v) s = .next t ∧ t.ident.number.toNat = v.toNat % 2 ^ 10 ∧
          t.ident.numberValid = v.getLsbD 31) ∧
      (f = 0 → s.ident.lock = true → ∃ t, exec (.numberValid v) s = .next t ∧ t.ident = s.ident) ∧
      (asserting s f = false →
        ∃ t, exec (.intArm f v) s = .next t ∧ (t.func f).armed = ((s.func f).armed || v.getLsbD 0)) ∧
      (asserting s f = true → ((s.func f).armed || v.getLsbD 0) = true →
        ((s.func f).msixMask = false →
          ∃ t, exec (.intArm f v) s = .next t ∧ (t.func f).armed = false ∧
            Sent.msix f (s.func f).msixAddr.toNat (s.func f).msixData ∈ t.sent.drop s.sent.length) ∧
        ((s.func f).msixMask = true →
          ∃ t, exec (.intArm f v) s = .next t ∧ (t.func f).armed = false ∧ (t.func f).msixPending = true)) ∧
      (∃ t, exec (.msixUnmask f) s = .next t ∧ (t.func f).msixMask = false ∧ (t.func f).msixPending = false ∧
        ((s.func f).msixPending = true →
          Sent.msix f (s.func f).msixAddr.toNat (s.func f).msixData ∈ t.sent.drop s.sent.length))) ∧
    (s.answers f = false ∨ s.barUp = false →
      (f = 0 → exec (.globalLock v) s = .next (settle s) ∧ exec (.numberValid v) s = .next (settle s)) ∧
      exec (.intArm f v) s = .next (settle s) ∧ exec (.msixUnmask f) s = .next (settle s)) ∧
    (∀ k, k < 128 →
      (s.serves f = true → (f = 0 ∨ ownsPart s f k = true) → v.getLsbD 0 = true →
        ∃ t, exec (.acctClear f k v) s = .next t ∧ (t.part k).acct = [] ∧ (t.part k).staleStages = 0 ∧
          (t.part k).lcStartMax = 0 ∧ (t.part k).valid = (s.part k).valid ∧ ∀ j, j ≠ k → t.part j = s.part j) ∧
      (s.serves f = false ∨ f ≠ 0 ∧ ownsPart s f k = false ∨ v.getLsbD 0 = false →
        exec (.acctClear f k v) s = .next (settle s)))

/-- A LOCAL_RANGE entry that is not valid takes a size, and takes a function, a base and VALID unless, valid, it would
overlap another valid entry or leave function memory, which changes nothing and sets MEM_CAUSE bit 5; a valid entry
takes only a clear, which withdraws the windows in its range and records whose data it held. A 1 written to an
UNREACHABLE bit clears it (R357, R375, R379). -/
def Obligations.RangesAndMarksTakeTheirWrites : Prop :=
  ∀ (s : State) (i : Nat) (v : Word64) (old : LocalRange), s.Canon → i < 256 → old = s.rangeOf i →
    (s.live = true →
      (old.valid = false →
        (∃ t, exec (.localRangeWrite i true v) s = .next t ∧
          t.rangeOf i = { old with size := BitVec.ofNat 21 (v.toNat / 2 ^ 21 % 2 ^ 21) } ∧
          ∀ j, j ≠ i → t.rangeOf j = s.rangeOf j) ∧
        (∀ r : LocalRange, r = { old with
            valid := v.getLsbD 0, function := BitVec.ofNat 6 (v.toNat / 2 % 2 ^ 6)
            base := BitVec.ofNat 21 (v.toNat / 2 ^ 21 % 2 ^ 21) } →
          ∃ t, exec (.localRangeWrite i false v) s = .next t ∧ (∀ j, j ≠ i → t.rangeOf j = s.rangeOf j) ∧
            (r.valid = true ∧ rangeRefused s i r = true → t.rangeOf i = old ∧ t.memc.cause.getLsbD 5 = true) ∧
            (r.valid = false ∨ rangeRefused s i r = false → t.rangeOf i = r ∧ t.memc.cause = s.memc.cause))) ∧
      (old.valid = true →
        exec (.localRangeWrite i true v) s = .next (settle s) ∧
        (v.getLsbD 0 = true → exec (.localRangeWrite i false v) s = .next (settle s)) ∧
        (v.getLsbD 0 = false →
          ∃ t, exec (.localRangeWrite i false v) s = .next t ∧ t.rangeOf i = { old with valid := false } ∧
            (∀ j, j ≠ i → t.rangeOf j = s.rangeOf j) ∧
            (old.function ≠ 0 → (old.function.toNat, old.lo, old.hi) ∈ t.memc.held) ∧
            ∀ x ∈ t.vertex.windows, ¬ (old.lo ≤ x.2.base ∧ x.2.base + x.2.bytes ≤ old.hi))) ∧
      (∀ w < 32,
        ∃ t, exec (.unreachableClear w (v.setWidth 32)) s = .next t ∧
          tabGet 0 t.vertex.unreachable w = tabGet 0 s.vertex.unreachable w &&& ~~~ v.setWidth 32 ∧
          ∀ j, j ≠ w → tabGet 0 t.vertex.unreachable j = tabGet 0 s.vertex.unreachable j)) ∧
    (s.live = false →
      (∀ b, exec (.localRangeWrite i b v) s = .next (settle s)) ∧
      ∀ w < 32, exec (.unreachableClear w (v.setWidth 32)) s = .next (settle s))

/-! ### Resets, boot and power -/

/-- Every cause of a warm reset leaves all that a warm reset reaches at its reset value, keeps memory, fuses, flash and
the fatal record, and records its code; PERST_N holds the device and resets the PCIe controller too; D3hot to D0 of a
VF is a function-level reset. A write without the key, in D3hot or while the block does not answer does nothing, nor does
an MCTP message of another address, type, vendor, command or key, and where no warm reset may act only the pin or the
power state changes (R406 to R410, R413, R420, R429, R450). -/
def Obligations.WarmResetsLeaveResetValues : Prop :=
  ∀ (s : State) (v : Word32) (m : MctpMsg) (f : Nat), s.Canon → f < 64 →
    (s.resettable = true →
      (s.pcie.released = true → inD3 s 0 = false → v.getLsbD 0 = true → v.toNat / 2 ^ 16 = Config.warmKey →
        ∃ t, exec (.resetControlWarm v) s = .next t ∧ WarmReset s t ∧ t.clk.resetCause = 3 ∧ t.mode = afterReset s) ∧
      (m = ⟨0x60 + s.ident.trayPos.toNat, 0x7E, Config.vendorId, 1, Config.warmKey⟩ →
        ∃ t, exec (.mctpWarmReset m) s = .next t ∧ WarmReset s t ∧ t.clk.resetCause = 5 ∧ t.mode = afterReset s) ∧
      (inD3 s 0 = true →
        ∃ t, exec (.d3hotToD0 0) s = .next t ∧ WarmReset s t ∧ t.mode = afterReset s ∧ inD3 t 0 = false) ∧
      (∃ t, exec .refclkLoss s = .next t ∧ WarmReset s t ∧ t.mode = .held ∧ t.clk.rootLocked = false ∧
        t.pins.refclkLost = true)) ∧
    (s.clocksUp = false ∨ inD3 s 0 = true ∨ v.getLsbD 0 = false ∨ v.toNat / 2 ^ 16 ≠ Config.warmKey →
      exec (.resetControlWarm v) s = .next (settle s)) ∧
    (s.resettable = false ∨ m ≠ ⟨0x60 + s.ident.trayPos.toNat, 0x7E, Config.vendorId, 1, Config.warmKey⟩ →
      exec (.mctpWarmReset m) s = .next (settle s)) ∧
    (s.resettable = false →
      ∃ t, exec .refclkLoss s = .next t ∧ t.clk.rootLocked = false ∧ t.clk.refclkOk = false ∧
        t.pins.refclkLost = true ∧ Frame (pieces [.funcs, .sent, .pins, .clk]) s t) ∧
    (s.mode ≠ .porLow → s.mode ≠ .starting →
      ∃ t, exec .perstN s = .next t ∧ WarmReset s t ∧ t.clk.resetCause = 2 ∧
        t.mode = (if s.mode = .scan then .scan else .held) ∧ t.pins.perstLow = true ∧ t.pcie = {} ∧ t.funcs = []) ∧
    (s.mode = .porLow ∨ s.mode = .starting →
      ∃ t, exec .perstN s = .next t ∧ t.pins.perstLow = true ∧ Frame (pieces [.funcs, .sent, .pins]) s t) ∧
    (inD3 s f = true → f ≠ 0 →
      ∃ t, exec (.d3hotToD0 f) s = .next t ∧ inD3 t f = false ∧ (∀ r < 16, t.ring f r = {}) ∧ t.func f = {} ∧
        t.mem = s.mem) ∧
    (inD3 s f = true → f = 0 → s.resettable = false →
      ∃ t, exec (.d3hotToD0 f) s = .next t ∧ inD3 t f = false ∧ Frame (pieces [.funcs, .sent, .pcie, .pcieRegs]) s t) ∧
    (inD3 s f = false → exec (.d3hotToD0 f) s = .next (settle s))

/-- POR_N takes everything but fuses and flash to its reset values and memory with it; the return of REFCLK and the
release of PERST_N start the boot again where they alone held the device, and otherwise change the pin, the clocks or
the link; at 110 °C THERMTRIP_N is latched and the device stops (R406, R407, R413, R419, R452). -/
def Obligations.PinsTakeTheDeviceThroughReset : Prop :=
  ∀ s : State,
    (∃ t, exec .porNAssert s = .next t ∧ t.mode = .porLow ∧ t.mem = [] ∧ t.fatal = {} ∧ t.rings = [] ∧ t.cmds = [] ∧
      t.parts = [] ∧ t.streams = [] ∧ t.models = [] ∧ t.ports = [] ∧ t.clk = {} ∧ t.ident = {} ∧
      t.sec.ownerRows = s.sec.ownerRows ∧ t.sec.slotA = s.sec.slotA ∧ t.sec.slotB = s.sec.slotB) ∧
    (s.pins.refclkLost = true →
      (s.mode = .held → s.pins.perstLow = false →
        ∃ t, exec .refclkReturn s = .next t ∧ WarmReset s t ∧ t.clk.resetCause = 4 ∧ t.clk.rootLocked = true ∧
          t.pins.refclkLost = false ∧
          t.mode = (if s.pins.thermtrip then .tripped else if s.test.testState then .training else .rom)) ∧
      (s.mode = .held → s.pins.perstLow = true →
        ∃ t, exec .refclkReturn s = .next t ∧ t.mode = .held ∧ t.clk.resetCause = s.clk.resetCause ∧
          t.clk.rootLocked = true ∧ t.pins.refclkLost = false ∧ Frame (pieces [.funcs, .sent, .pins, .clk]) s t) ∧
      (s.mode ≠ .held →
        ∃ t, exec .refclkReturn s = .next t ∧ t.pins.refclkLost = false ∧
          Frame (pieces [.funcs, .sent, .pins, .clk]) s t ∧ (s.mode = .porLow → t.clk = s.clk) ∧
          (s.mode ≠ .porLow → t.clk.refclkOk = true) ∧
          (s.mode ≠ .porLow → s.mode ≠ .starting → t.clk.rootLocked = true))) ∧
    (s.pins.refclkLost = false → exec .refclkReturn s = .next (settle s)) ∧
    (s.pins.perstLow = true →
      ∃ t, exec .perstNRelease s = .next t ∧ t.pins.perstLow = false ∧
        (s.mode = .porLow ∨ s.mode = .starting → Frame (pieces [.funcs, .sent, .pins]) s t) ∧
        (s.mode ≠ .porLow → s.mode ≠ .starting → t.pcie.released = true) ∧
        (s.mode = .held → s.pins.refclkLost = false →
          t.mode = (if s.pins.thermtrip then .tripped else if s.test.testState then .training else .rom)) ∧
        (s.mode ≠ .held ∨ s.pins.refclkLost = true → t.mode = s.mode)) ∧
    (s.pins.perstLow = false → exec .perstNRelease s = .next (settle s)) ∧
    (∀ x : Int, -128 ≤ x → x ≤ 127 →
      (110 ≤ x → s.resettable = true →
        ∃ t, exec (.thermtrip x) s = .next t ∧ t.mode = .tripped ∧ t.pins.thermtrip = true ∧ intNLow t = true ∧
          t.live = false) ∧
      (110 ≤ x → s.resettable = false → s.mode ≠ .porLow →
        ∃ t, exec (.thermtrip x) s = .next t ∧ t.pins.thermtrip = true ∧ Frame (pieces [.funcs, .sent, .pins]) s t) ∧
      (x < 110 ∨ s.mode = .porLow → exec (.thermtrip x) s = .next (settle s)))

/-- TRAY_POS and BOOT_SEL are sampled when POR_N is released (R24, R412); BOOT_SEL 3 is the test state, an EXTEST-class
instruction holds the device in scan, and otherwise the root PLL starts; a release without POR_N low is none (R413,
R452, R460). -/
def Obligations.StrapsAreSampledAtRelease : Prop :=
  ∀ (s : State) (tray boot : BitVec 2),
    (s.mode = .porLow →
      ∃ t, exec (.porNRelease tray boot) s = .next t ∧ t.ident.trayPos = tray ∧ t.ident.bootSel = boot ∧
        t.ident.number.toNat = tray.toNat ∧ t.pins.porLow = false ∧ (t.test.testState = true ↔ boot = 3) ∧
        t.mode = (if s.pins.tap = .extest ∨ s.pins.tap = .extestPulse ∨ s.pins.tap = .extestTrain then .scan
          else .starting)) ∧
    (s.mode ≠ .porLow → exec (.porNRelease tray boot) s = .next (settle s))

/-- Boot goes on in the order of R413: the root PLL starts CYCLE_COUNT and the ROM; the first stage that verifies, of the
active slot, else of the other, or what the host supplies, programs the regulators and releases the dies, and LPDDR5X
trains from the next cycle on; training, by stored results or from scratch, loads the main firmware; and READY sets the
cap, the stage and CROWN_CAUSE bit 0. What fails stops with the error code of the failure that leaves no fallback, without
GO the ROM waits for the host, a device that THERMTRIP_N has stopped stays so, and an event of another step of boot does
nothing (R350, R412 to R415, R419, R420, R425, R452). -/
def Obligations.BootProceedsToReady : Prop :=
  ∀ s : State,
    (s.mode = .starting → s.pins.refclkLost = false →
      ∃ t, exec .rootPllLock s = .next t ∧ t.ident.cycleCount = 0 ∧ t.clk.rootLocked = true ∧ t.sec.idKeySet = true ∧
        t.mode = (if s.pins.thermtrip then .tripped else if s.test.testState then .training else .rom)) ∧
    (s.mode ≠ .starting ∨ s.pins.refclkLost = true → exec .rootPllLock s = .next (settle s)) ∧
    (s.mode = .rom → ∀ (code : Bool → Nat) (stops : Nat → Prop), code = (fun x => packageCode s (slotOf s x) 1) →
      stops = (fun e => ∃ t, exec .firstStageVerified s = .next t ∧ t.mode = .stopped ∧ t.clk.bootError = true ∧
        t.clk.errorCode.toNat = e % 2 ^ 8) →
      (s.ident.bootSel ≠ 1 →
        (∀ slot, code slot = 0 → (slot = s.sec.control ∨
            slot = (!s.sec.control) ∧ code s.sec.control ≠ 0 ∧ code s.sec.control ≠ 5) →
          ∃ t, exec .firstStageVerified s = .next t ∧ t.mode = .training ∧ t.clk.stage = 1 ∧ t.clk.slot = slot ∧
            t.sec.activeSlot = (if s.sec.hostBoot then s.sec.hostControl else s.sec.control) ∧
            t.sec.running = fwInfo (slotOf s slot) ∧ t.clk.pmbusAddr = slice (bootConfig (slotOf s slot)) 16 16 ∧
            (∀ v ∈ t.clk.vddMv, 600 ≤ v ∧ v ≤ 850) ∧ Sends s t (.pmbus (pmbusOf (bootConfig (slotOf s slot)))) ∧
            t.clk.bootCap.toNat = rd (bootConfig (slotOf s slot)) 6 2 % 2 ^ 10 ∧
            (slot ≠ s.sec.control → t.sec.cause.getLsbD 0 = true)) ∧
        (code s.sec.control = 5 → stops 5) ∧
        (code s.sec.control ≠ 0 → code s.sec.control ≠ 5 → code (!s.sec.control) ≠ 0 →
          s.ident.bootSel ≠ 2 ∨ code (!s.sec.control) = 5 → stops (code (!s.sec.control)))) ∧
      (s.ident.bootSel = 1 ∨ s.ident.bootSel = 2 ∧ code s.sec.control ≠ 0 ∧ code s.sec.control ≠ 5 ∧
          code (!s.sec.control) ≠ 0 ∧ code (!s.sec.control) ≠ 5 →
        (s.clk.go = false → exec .firstStageVerified s = .next (settle s)) ∧
        (s.clk.go = true → hostImage s = none → stops 4) ∧
        (∀ b, s.clk.go = true → hostImage s = some b →
          (packageCode s b 4 = 0 →
            ∃ t, exec .firstStageVerified s = .next t ∧ t.mode = .training ∧ t.clk.stage = 1 ∧ t.sec.hostBoot = true ∧
              t.sec.hostA = b ∧ t.sec.running = fwInfo b ∧ t.clk.bootCap.toNat = rd (bootConfig b) 6 2 % 2 ^ 10) ∧
          (packageCode s b 4 ≠ 0 → stops (packageCode s b 4))))) ∧
    (s.mode ≠ .rom → exec .firstStageVerified s = .next (settle s)) ∧
    (s.mode = .training → s.clk.stage = 1 → s.pending = [] → ∃ t, step s = .next t ∧ t.clk.stage = 2) ∧
    (∀ r, s.mode = .training →
      ∃ t, exec (.lpddrTrainingDone r) s = .next t ∧ t.mode = (if s.test.testState then .test else .loading) ∧
        (s.test.testState = false → t.clk.stage = 3) ∧
        (capacityOk r = true → fastTraining s r = true →
          t.memc.trained = true ∧ t.memc.fastTrained = true ∧ t.memc.rate = s.memc.rate ∧
          t.memc.installedGib.toNat = installed r) ∧
        (∀ q, capacityOk r = true → fastTraining s r = false →
          scratchRate s.memc.rate.toNat r.passed = some q →
          t.memc.trained = true ∧ t.memc.rate.toNat = q ∧ t.memc.installedGib.toNat = installed r ∧
          t.memc.retention = some (q, installed r) ∧
          (∀ o, s.memc.trainStore = some o → tabGet (0, 0) t.memc.stored o = (q, installed r)) ∧
          (s.memc.trainStore = none → t.memc.stored = s.memc.stored) ∧
          (q ≠ s.memc.rate.toNat → t.memc.cause.getLsbD 2 = true)) ∧
        (capacityOk r = false ∨
            fastTraining s r = false ∧ scratchRate s.memc.rate.toNat r.passed = none →
          t.memc.trainFailed = true ∧ t.memc.cause.getLsbD 3 = true)) ∧
    (∀ r, s.mode ≠ .training → exec (.lpddrTrainingDone r) s = .next (settle s)) ∧
    (∀ r, capacityOk r = true → installed r = 128 ∨ installed r = 256 ∨ installed r = 512) ∧
    (s.mode = .loading →
      ∃ t, exec .bootReady s = .next t ∧ t.mode = .ready ∧ t.live = true ∧ t.clk.stage = 4 ∧ t.clk.ready = true ∧
        t.clk.capW = s.clk.bootCap ∧ t.clk.crownCause.getLsbD 0 = true ∧ t.sec.fwVersion = s.sec.running.version) ∧
    (s.mode ≠ .loading → exec .bootReady s = .next (settle s)) ∧
    (∀ v : Word32,
      (s.answers 0 = true →
        ∃ t, exec (.go v) s = .next t ∧ t.clk.hostBytes.toNat = v.toNat % 2 ^ 23 ∧
          t.clk.go = (s.clk.go || v.getLsbD 31)) ∧
      (s.answers 0 = false → exec (.go v) s = .next (settle s)))

/-- A control step, 100 µs after the last one, puts the pending cap into force, moves the issue levels by the mean power
and by Tj, the hottest sensor, and keeps the compute rails within their range; a rail sample, 10 µs after the last one,
takes the mean over its window; PMB_ALERT_N stops best-effort issue; an idle prism is gated and wakes. Before their time,
or before the engines run, a step and a sample do nothing, and in reset only the pin and ALERT follow PMB_ALERT_N (R415 to
R419). -/
def Obligations.PowerUnitFollowsItsRules : Prop :=
  ∀ (s : State) (temps : List Int),
    (∀ (h : Int) (cap mean : Nat), s.live = true → s.clk.stepAt + 100000 ≤ s.now → temps.length = 64 →
      (∀ x ∈ temps, -128 ≤ x ∧ x ≤ 127) → h ∈ temps → (∀ x ∈ temps, x ≤ h) → cap = (s.clk.nextCap.getD s.clk.capW).toNat → mean = s.clk.meanW.toNat →
      ∃ t, exec (.pmuControlStep temps) s = .next t ∧ t.clk.capW.toNat = cap ∧ t.clk.nextCap = none ∧
        t.clk.tj = BitVec.ofInt 8 h ∧ t.clk.meanW = s.clk.meanW ∧ t.clk.stepAt = s.now ∧
        (∀ v ∈ t.clk.vddMv, 600 ≤ v ∧ v ≤ 850) ∧
        t.clk.fBe.toNat = (if cap < mean ∨ 100 ≤ h then s.clk.fBe.toNat - 8
          else if 100 * mean < 97 * cap then min 64 (s.clk.fBe.toNat + 1) else s.clk.fBe.toNat) ∧
        t.clk.fLc.toNat =
          (if cap < mean ∧ (s.clk.fLc ≠ 64 ∨ s.clk.fBe = 0 ∧ cap < lcFloor s none) ∨ 105 < h then s.clk.fLc.toNat - 8
          else if 100 * mean < 97 * cap then min 64 (s.clk.fLc.toNat + 1) else s.clk.fLc.toNat) ∧
        (t.clk.thermal = true ↔ 100 ≤ h ∨ s.clk.thermal = true ∧ 97 ≤ h) ∧
        (s.clk.fBe = 64 → t.clk.fBe.toNat < 64 → t.clk.pmuCause.getLsbD 0 = true) ∧
        (s.clk.fLc = 64 → t.clk.fLc.toNat < 64 → t.clk.pmuCause.getLsbD 1 = true) ∧
        (100 ≤ h → t.clk.pmuCause.getLsbD 2 = true) ∧ (105 < h → t.clk.pmuCause.getLsbD 3 = true)) ∧
    (s.live = false ∨ s.now < s.clk.stepAt + 100000 → exec (.pmuControlStep temps) s = .next (settle s)) ∧
    (∀ rails flt avs,
      (s.live = true → s.clk.railAt + 10000 ≤ s.now →
        ∃ t, exec (.railSample rails flt avs) s = .next t ∧ t.clk.railAt = s.now ∧
          t.clk.rails = (sumN rails :: s.clk.rails).take 100 ∧ t.clk.fBe = s.clk.fBe ∧
          t.clk.meanW.toNat = min 1023 (sumN t.clk.rails / t.clk.rails.length / 1000) ∧
          (flt = true → t.clk.pmuCause.getLsbD 4 = true) ∧ (avs = true → t.clk.pmuCause.getLsbD 6 = true)) ∧
      (s.live = false ∨ s.now < s.clk.railAt + 10000 → exec (.railSample rails flt avs) s = .next (settle s))) ∧
    (∃ t, exec .pmbAlert s = .next t ∧ t.pins.pmbAlertLow = true ∧ t.clk.fLc = s.clk.fLc ∧
      (s.resettable = true → t.clk.fBe = 0 ∧ t.clk.alert = true ∧ t.clk.pmuCause.getLsbD 5 = true) ∧
      (s.resettable = false → t.clk.fBe = s.clk.fBe ∧ (t.clk.alert = true ↔ s.mode ≠ .porLow) ∧
        t.clk.pmuCause = s.clk.pmuCause)) ∧
    (∃ t, exec .pmbAlertRelease s = .next t ∧ t.clk.alert = false ∧ t.pins.pmbAlertLow = false ∧
      t.clk.fBe = s.clk.fBe) ∧
    (∀ p < 128,
      (s.live = true → mayGate s p = true →
        ∃ t, exec (.prismGate p) s = .next t ∧ (t.prism p).gated = true ∧
          ∀ q, q ≠ p → t.prism q = s.prism q) ∧
      (s.live = false ∨ mayGate s p = false → exec (.prismGate p) s = .next (settle s)) ∧
      (s.live = true → wakeOver s p = true →
        ∃ t, exec (.prismWake p) s = .next t ∧ (t.prism p).gated = false ∧ (t.prism p).waking = none ∧
          (t.prism p).idleSince = s.now) ∧
      (s.live = false ∨ wakeOver s p = false → exec (.prismWake p) s = .next (settle s)))

/-! ### PCI Express -/

/-- A function-level reset returns the function's ring pairs and page to their reset values, and that of PF0 those of the
VFs too; VF Enable makes and removes the VFs; D3hot holds a function; the link enters and leaves L1 and changes width;
where the function, the VFs or the link do not allow it, nothing changes (R410, R435, R437, R440, R450). -/
def Obligations.FunctionsResetAndSleep : Prop :=
  ∀ s : State,
    (∀ f, f < 64 →
      (s.pcie.released = true → funcExists s f = true →
        ∃ t, exec (.functionLevelReset f) s = .next t ∧ (∀ r < 16, t.ring f r = {}) ∧ t.func f = {} ∧
          inD3 t f = false ∧ t.mem = s.mem ∧
          (f = 0 → t.pcie.vfEnable = false ∧
            (s.pcie.vfEnable = true → ∀ g, 1 ≤ g → g ≤ s.pcie.numVfs.toNat → ∀ r < 16, t.ring g r = {}))) ∧
      (s.pcie.released = false ∨ funcExists s f = false → exec (.functionLevelReset f) s = .next (settle s)) ∧
      (s.pcie.released = true → funcExists s f = true → inD3 s f = false →
        ∃ t, exec (.d3hotEntry f) s = .next t ∧ inD3 t f = true ∧ t.answers f = false ∧
          Frame (pieces [.funcs, .sent, .pcie, .pcieRegs]) s t) ∧
      (s.pcie.released = false ∨ funcExists s f = false ∨ inD3 s f = true →
        exec (.d3hotEntry f) s = .next (settle s))) ∧
    (∀ n, n < 64 →
      (s.pcie.released = true → s.pcie.vfEnable = false →
        ∃ t, exec (.vfEnableSet n) s = .next t ∧ t.pcie.vfEnable = true ∧ t.pcie.numVfs.toNat = n ∧
          ∀ f, funcExists t f = true ↔ f ≤ n) ∧
      (s.pcie.released = false ∨ s.pcie.vfEnable = true → exec (.vfEnableSet n) s = .next (settle s))) ∧
    (s.pcie.vfEnable = true → s.pcie.released = true →
      ∃ t, exec .vfEnableClear s = .next t ∧ t.pcie.vfEnable = false ∧ (∀ f, funcExists t f = true ↔ f = 0) ∧
        ∀ f, 1 ≤ f → f ≤ s.pcie.numVfs.toNat → (∀ r < 16, t.ring f r = {}) ∧ t.func f = {}) ∧
    (s.pcie.vfEnable = false ∨ s.pcie.released = false → exec .vfEnableClear s = .next (settle s)) ∧
    (s.live = true → mayL1 s = true → ∃ t, exec .l1Entry s = .next t ∧ t.pcie.l1 = true) ∧
    (s.live = false ∨ mayL1 s = false → exec .l1Entry s = .next (settle s)) ∧
    (s.pcie.l1 = true → ∃ t, exec .l1Exit s = .next t ∧ t.pcie.l1 = false ∧ t.pcie.idleSince = s.now) ∧
    (s.pcie.l1 = false → exec .l1Exit s = .next (settle s)) ∧
    (∀ w : WidthChange,
      (s.pcie.released = true → widthOk s w.width = true → mayChange s w = true →
        ∃ t, exec (.linkWidthChange w) s = .next t ∧ t.pcie.l0pWidth.toNat = w.width ∧
          t.pcie.bandwidthChanged = true) ∧
      (s.pcie.released = false ∨ widthOk s w.width = false ∨ mayChange s w = false →
        exec (.linkWidthChange w) s = .next (settle s)))

/-- BAR2 reaches the bytes of a valid LOCAL_RANGE entry of PF0 that its window shows and nothing else; the completion of
a read of submission units gives them to the ring, and that of a COPY its bytes to the destination; a read that fails or
times out is a ring error 2, or POISONED_DATA for a COPY (R253, R272, R309, R359, R442 to R446, R457). -/
def Obligations.Bar2AndDeviceReads : Prop :=
  ∀ s : State, s.Canon →
    (∀ off n (w : Bool) data ep, (w = true → data.length = n) →
      (s.answers 0 = true → memLooped s (2 ^ 62 + bar2Addr s off) n = false →
        (n = 0 ∨ inOwnRange s 0 (bar2Addr s off) n = true → off + n ≤ s.pcie.bar2Size.toNat * 2 ^ 30 →
          (w = true →
            ∃ t, exec (.bar2Access off w n data ep) s = .next t ∧ t.mem = writeBytes s.mem (bar2Addr s off) data ∧
              (s.memc.inlineEcc = true → flipsIn s (bar2Addr s off) n = [] →
                t.poison = poisonAfter s.poison (bar2Addr s off) n ep) ∧
              (s.memc.inlineEcc = false →
                t.poison = s.poison ∧ (ep = true → t.memc.cause.getLsbD 6 = true)) ∧ t.hostMem = s.hostMem ∧
              (ep = true → t.pcie.aerPoisonedTlp = true)) ∧
          (w = false →
            ∃ t rest, exec (.bar2Access off w n data ep) s = .next t ∧ t.mem = s.mem ∧
              t.sent = s.sent ++
                .bar2Data (lpBytes s (bar2Addr s off) n) (lpPoison s (bar2Addr s off) n) :: rest)) ∧
        (n ≠ 0 ∧ inOwnRange s 0 (bar2Addr s off) n = false ∨ s.pcie.bar2Size.toNat * 2 ^ 30 < off + n →
          ∃ t, exec (.bar2Access off w n data ep) s = .next t ∧ t.mem = s.mem ∧ t.pcie.aerUnsupported = true ∧
            (w = false → ∃ rest, t.sent = s.sent ++ .unsupported :: rest))) ∧
      (s.answers 0 = false ∨ memLooped s (2 ^ 62 + bar2Addr s off) n = true →
        exec (.bar2Access off w n data ep) s = .next (settle s))) ∧
    (∀ tag st data, readOf s tag = none →
      exec (.pcieReadCompletion tag st data) s = .next (settle s) ∧
      exec (.pcieCompletionTimeout tag) s = .next (settle s)) ∧
    (∀ (r : PcieRead) (data : Bytes), readOf s r.tag = some r →
      (s.live = true →
        (∀ f k, r.purpose = .units f k →
          (data.length = r.len →
            ∃ t, exec (.pcieReadCompletion r.tag .ok data) s = .next t ∧
              t.hostMem = writeBytes s.hostMem r.addr data ∧ (t.ring f k).sqHead = (s.ring f k).sqHead ∧
              (t.ring f k).unitsIn = (s.ring f k).unitsIn +
                (if (s.ring f k).sqEnable = true ∧
                  r.addr = baseAddr (s.ring f k).sqBase + 16 * (s.ring f k).nextUnit then r.len / 16 else 0) ∧
              ∀ x ∈ s.pcieReads, x.tag ≠ r.tag → x ∈ t.pcieReads) ∧
          (∀ st, st ≠ .ok →
            ∃ t, exec (.pcieReadCompletion r.tag st data) s = .next t ∧
              ((∀ c ∈ s.cmds, c.rest = []) → readOf t r.tag = none) ∧
              (t.ring f k).error = true ∧ (t.ring f k).errorCode = 2 ∧
              (st = .poisoned → t.pcie.aerPoisonedTlp = true)) ∧
          (readLate s r = true →
            ∃ t, exec (.pcieCompletionTimeout r.tag) s = .next t ∧
              ((∀ c ∈ s.cmds, c.rest = []) → readOf t r.tag = none) ∧
              t.pcie.aerCompletionTimeout = true ∧ (t.ring f k).error = true ∧ (t.ring f k).errorCode = 2)) ∧
        (r.purpose = .stale → data.length = r.len →
          ∃ t, exec (.pcieReadCompletion r.tag .ok data) s = .next t ∧ t.rings = s.rings ∧ t.mem = s.mem) ∧
        (∀ cid c x y z, r.purpose = .copy cid → s.cmd cid = some c → c.opcode = 0x52 → c.final = some (x, y, z) →
          (∀ d, d = c.f 24 8 + (r.addr - (place s c.fn (c.f 16 8)).2) → data.length = r.len →
            addrRemote s (c.f 24 8) = false → mayName s c.fn d r.len false = true →
            (addrWrite s c.fn d data false).2 = true →
            ∃ t, exec (.pcieReadCompletion r.tag .ok data) s = .next t ∧
              t.mem = (addrWrite s c.fn d data false).1.mem ∧
              (c.wanting ≤ 1 → Completed s t c 0x00 0 (z + r.len)) ∧
              (1 < c.wanting → c.rest = [] →
                t.cmd cid = some { c with wanting := c.wanting - 1, final := some (x, y, z + r.len) })) ∧
          (∀ st, st ≠ .ok →
            ∃ t, exec (.pcieReadCompletion r.tag st data) s = .next t ∧ t.mem = s.mem ∧
              Completed s t c stPoisonedData 0 z) ∧
          (readLate s r = true →
            ∃ t, exec (.pcieCompletionTimeout r.tag) s = .next t ∧ t.pcie.aerCompletionTimeout = true ∧
              Completed s t c stPoisonedData 0 z))) ∧
      (s.live = false ∨ data.length ≠ r.len → exec (.pcieReadCompletion r.tag .ok data) s = .next (settle s)) ∧
      (s.live = false → ∀ st, exec (.pcieReadCompletion r.tag st data) s = .next (settle s)) ∧
      (s.live = false ∨ readLate s r = false → exec (.pcieCompletionTimeout r.tag) s = .next (settle s)))

/-! ### Partitions and the lattice -/

/-- PARTITION_CREATE of free prisms makes the partition numbered after its lowest prism, which owns exactly these
prisms, and is BUSY with a prism that is taken; parameters out of range are refused, and every creation after a failed
training. PARTITION_DESTROY of a partition without open streams, or with FORCE, frees its prisms to be zeroed, waits
for a running kernel, and is BUSY otherwise (R187, R190, R191, R284, R350). -/
def Obligations.PartitionsAreCreatedAndDestroyed : Prop :=
  ∀ (s : State) (cid : Nat) (c : Cmd), s.Canon →
    (Ready s cid 0x10 c →
      (s.memc.trainFailed = true →
        ∃ t, exec (.partitionCreate cid) s = .next t ∧ Completed s t c stNoResource 0 0 ∧ t.parts = s.parts) ∧
      (s.memc.trainFailed = false → createOk s c = false →
        ∃ t, exec (.partitionCreate cid) s = .next t ∧ Completed s t c stInvalidParameter 0 0 ∧ t.parts = s.parts) ∧
      (s.memc.trainFailed = false → createOk s c = true →
        (∃ p < 128, (c.f 16 16).testBit p = true ∧ prismTaken s p = true) →
        ∃ t, exec (.partitionCreate cid) s = .next t ∧ Completed s t c stBusy 0 0 ∧ t.parts = s.parts) ∧
      (s.memc.trainFailed = false → createOk s c = true →
        (∀ p < 128, (c.f 16 16).testBit p = true → prismTaken s p = false) →
        ∀ k < 128, (c.f 16 16).testBit k = true → (∀ j < k, (c.f 16 16).testBit j = false) →
          ∃ t, exec (.partitionCreate cid) s = .next t ∧ Completed s t c 0x00 0 k ∧ (t.part k).valid = true ∧
            (t.part k).function.toNat = c.f 32 1 ∧ (t.part k).prisms.toNat = c.f 16 16 ∧
            (t.part k).active = none ∧ ∀ j, j ≠ k → t.part j = s.part j)) ∧
    (Ready s cid 0x11 c → (openGroups s c.partition = [] ∨ c.force = true) →
      (partRunning s c.partition = false →
        ∃ t, exec (.partitionDestroy cid) s = .next t ∧ Completed s t c 0x00 0 0 ∧
          (t.part c.partition).valid = false ∧
          (∀ p < 128, (s.part c.partition).prisms.getLsbD p = true → (t.prism p).zeroing = true) ∧
          ∀ w ∈ t.vertex.windows, w.2.owner ≠ c.partition) ∧
      (partRunning s c.partition = true →
        ∃ t, exec (.partitionDestroy cid) s = .next t ∧ (t.part c.partition).destroying = some cid ∧
          t.cmd cid ≠ none ∧ ∀ f, ∀ q ∈ (t.facet f).queue, q.part ≠ c.partition)) ∧
    (Ready s cid 0x11 c → openGroups s c.partition ≠ [] → c.force = false →
      ∃ t, exec (.partitionDestroy cid) s = .next t ∧ Completed s t c stBusy 0 0 ∧ t.parts = s.parts)

/-- PARTITION_YIELD that re-admits, or is forced, withdraws the prisms of its mask: one without a running kernel is
zeroed at once, and one with a running kernel leaves when it ends; an empty mask completes. One that does not re-admit
is refused with the failing group, and a mask that names the partition's first prism or one that it does not hold with
INVALID_PARAMETER. A prism is zeroed for 6,144 cycles (R191, R219, R285). -/
def Obligations.YieldReleasesItsPrisms : Prop :=
  ∀ (s : State) (cid : Nat) (c : Cmd) (k m : Nat) (rest : Partition), s.Canon → k = c.partition → m = c.f 16 16 →
    rest = { s.part k with prisms := (s.part k).prisms &&& ~~~ BitVec.ofNat 128 m } →
    (Ready s cid 0x12 c → c.only [(16, 16)] = true → m.testBit k = false →
      (∀ p < 128, m.testBit p = true → (s.part k).prisms.getLsbD p = true) →
      (m ≠ 0 → (readmit s k rest = none ∨ c.force = true) →
        ∃ t, exec (.partitionYield cid) s = .next t ∧ t.cmd cid ≠ none ∧
          (∀ p < 128, m.testBit p = true →
            ((∀ i < 16, (s.facet (16 * p + i)).running = none) → (t.prism p).zeroing = true) ∧
            ((∃ i < 16, (s.facet (16 * p + i)).running ≠ none) → (t.prism p).leaving = true)) ∧
          (t.part k).yielding = some (cid, BitVec.ofNat 128 m)) ∧
      (m = 0 → (readmit s k rest = none ∨ c.force = true) →
        ∃ t, exec (.partitionYield cid) s = .next t ∧ Completed s t c 0x00 0 0) ∧
      (∀ g n, c.force = false → readmit s k rest = some (g, n) →
        ∃ t, exec (.partitionYield cid) s = .next t ∧ t.prisms = s.prisms ∧ t.parts = s.parts ∧
          Completed s t c stAdmissionRefused n g)) ∧
    (Ready s cid 0x12 c →
      (c.only [(16, 16)] = false ∨ k < 128 ∧ m.testBit k = true ∨
        ∃ p < 128, m.testBit p = true ∧ (s.part k).prisms.getLsbD p = false) →
      ∃ t, exec (.partitionYield cid) s = .next t ∧ t.prisms = s.prisms ∧ t.parts = s.parts ∧
        Completed s t c stInvalidParameter 0 0) ∧
    (∀ p < 128,
      (s.live = true → (s.prism p).zeroing = true → partOfPrism s p = none →
        (s.prism p).zeroSince + 6144 ≤ s.now →
        ∃ t, exec (.prismZeroingDone p) s = .next t ∧ (t.prism p).zeroing = false) ∧
      (s.live = false ∨ (s.prism p).zeroing = false ∨ partOfPrism s p ≠ none ∨
        s.now < (s.prism p).zeroSince + 6144 →
        exec (.prismZeroingDone p) s = .next (settle s)))

/-- A partition reset, by command or by the fault of a privileged unit, ends the kernels of every prism and zeroes it,
ends its commands and streams and records its kind; a second one joins it; at its end RESET_DONE is set and PART_RESETS
counts (R286, R390, R393, R394, R403). -/
def Obligations.PartitionResetsRunTheirSteps : Prop :=
  ∀ (s : State) (k : Nat), s.Canon → k < 128 →
    (∀ cid c, Ready s cid 0x13 c → c.partition = k → (s.part k).resetting = none →
      ∃ t, exec (.partitionReset cid) s = .next t ∧ (t.part k).resetting = some [cid] ∧ (t.part k).ticking = false ∧
        (t.part k).faultRecord.toNat / 2 ^ 12 % 2 ^ 4 = 7 ∧
        (∀ p < 128, (s.part k).prisms.getLsbD p = true →
          (t.prism p).zeroing = true ∧
            ∀ i < 16, (t.facet (16 * p + i)).running = none ∧ (t.facet (16 * p + i)).queue = []) ∧
        (∀ e ∈ s.cmds, e.partition = k → e.opcode ≠ 0x13 → t.cmd e.cid = none) ∧
        (∀ i, (t.stream i).isOpen = true → (t.stream i).part ≠ k)) ∧
    (∀ cid c cs, Ready s cid 0x13 c → c.partition = k → (s.part k).resetting = some cs →
      ∃ t, exec (.partitionReset cid) s = .next t ∧ (t.part k).resetting = some (cs ++ [cid]) ∧ t.cmd cid ≠ none) ∧
    (∀ u : PrivUnit,
      (s.live = true → (s.part k).valid = true → (s.part k).resetting = none →
        ∃ t, exec (.partitionFault k u) s = .next t ∧ (t.part k).resetting = some [] ∧
          (t.part k).faultRecord.toNat / 2 ^ 12 % 2 ^ 4 = unitKind u ∧
          (∀ b, (u, b) ∈ [(PrivUnit.culet, 1), (.dma, 2), (.latticeSequencer, 3)] →
            (t.part k).faultCause.getLsbD b = true) ∧
          (∀ p < 128, (s.part k).prisms.getLsbD p = true → (t.prism p).zeroing = true) ∧
          (∀ e ∈ s.cmds, e.partition = k → e.opcode ≠ 0x13 → t.cmd e.cid = none)) ∧
      (∀ cs, s.live = true → (s.part k).valid = true → (s.part k).resetting = some cs →
        ∃ t, exec (.partitionFault k u) s = .next t ∧ (t.part k).resetting = some cs ∧ t.prisms = s.prisms) ∧
      (s.live = false ∨ (s.part k).valid = false → exec (.partitionFault k u) s = .next (settle s))) ∧
    (s.live = true → resetOver s k = true →
      ∃ t, exec (.partitionResetDone k) s = .next t ∧ (t.part k).resetting = none ∧
        (t.part k).faultCause.getLsbD 4 = true ∧ (t.part k).partResets = addSat (s.part k).partResets 1 ∧
        (∀ p < 128, (s.part k).prisms.getLsbD p = true → (t.prism p).zeroing = false) ∧
        (∀ e ∈ s.cmds, e.partition = k → e.opcode = 0x13 → Completed s t e 0x00 0 0)) ∧
    (s.live = false ∨ resetOver s k = false → exec (.partitionResetDone k) s = .next (settle s))

/-- LATTICE_SWITCH without a shadow table is NOT_FOUND, and refused where the shadow does not re-admit or would overlap
the active table of its source; it takes the shadow table when no table ticks and waits for the switch instant when one
does. At the instant the shadow becomes active and every waiting switch completes. A tick of the table's source, at
the switch instant after the switch, launches the tick (R28, R192, R199, R214, R287). -/
def Obligations.LatticeSwitchesAndTicks : Prop :=
  ∀ (s : State) (k : Nat), s.Canon → k < 128 →
    (∀ cid c, Ready s cid 0x15 c → c.partition = k → (s.part k).shadow = none →
      ∃ t, exec (.latticeSwitch cid) s = .next t ∧ t.parts = s.parts ∧ Completed s t c stNotFound 0 0) ∧
    (∀ cid c sh, Ready s cid 0x15 c → c.partition = k → (s.part k).shadow = some sh →
      (∀ g n, readmit s k { s.part k with active := some sh } = some (g, n) →
        ∃ t, exec (.latticeSwitch cid) s = .next t ∧ t.parts = s.parts ∧ Completed s t c stAdmissionRefused n g) ∧
      (readmit s k { s.part k with active := some sh } = none → ∀ apart : Lattice → Prop,
        apart = (fun a => sameSource a sh = false ∨
          switchApart s a sh (switchTick s (s.part k) a) = true) →
        ((s.part k).active = none ∨ (s.part k).ticking = false ∧ (∀ a, (s.part k).active = some a → apart a) →
          ∃ t, exec (.latticeSwitch cid) s = .next t ∧ (t.part k).active = some sh ∧ (t.part k).shadow = none ∧
            (t.part k).partCause.getLsbD 1 = true ∧ Completed s t c 0x00 0 0) ∧
        (∀ a, (s.part k).active = some a → ¬ apart a →
          ∃ t, exec (.latticeSwitch cid) s = .next t ∧ t.parts = s.parts ∧ Completed s t c stAdmissionRefused 0 0) ∧
        (∀ a, (s.part k).active = some a → (s.part k).ticking = true → apart a →
          ∃ t, exec (.latticeSwitch cid) s = .next t ∧ (t.part k).active = some a ∧
            (t.part k).switch = (s.part k).switch ++ [cid] ∧ t.cmd cid ≠ none))) ∧
    (s.live = true → switchDue s k = true →
      ∃ t, exec (.latticeSwitchInstant k) s = .next t ∧ (t.part k).switch = [] ∧
        (∀ cid ∈ (s.part k).switch, t.cmd cid = none) ∧
        (∀ sh, (s.part k).shadow = some sh → (t.part k).active = some sh ∧ (t.part k).shadow = none) ∧
        ((s.part k).shadow = none → (t.part k).active = (s.part k).active)) ∧
    (s.live = false ∨ switchDue s k = false → exec (.latticeSwitchInstant k) s = .next (settle s)) ∧
    (s.live = true → (s.part k).valid = true →
      (switchDue s k = true → exec (.latticeTick k) s = exec (.latticeTick k) (switchNow s k)) ∧
      (∀ l, switchDue s k = false → (s.part k).active = some l → (s.part k).resetting = none →
        tickDue s (s.part k) l = true → ((s.part k).awaitBoundary = false ∨ tickIndexOf s l = 0) →
        ∃ t, exec (.latticeTick k) s = .next t ∧ (t.part k).tickIndex = tickIndexOf s l ∧
          (t.part k).ticking = true ∧ (t.part k).awaitBoundary = false ∧
          (t.part k).lastTick = some (sourceTick s l) ∧
          (t.part k).periods = (if tickIndexOf s l = 0 then addWrap (s.part k).periods 1 else (s.part k).periods)) ∧
      (switchDue s k = false →
        (∀ l, (s.part k).active = some l → (s.part k).resetting ≠ none ∨ tickDue s (s.part k) l = false ∨
          (s.part k).awaitBoundary = true ∧ tickIndexOf s l ≠ 0) →
        exec (.latticeTick k) s = .next (settle s))) ∧
    (s.live = false ∨ (s.part k).valid = false → exec (.latticeTick k) s = .next (settle s))

/-- A free facet that no window claims takes the next kernel of the first best-effort RUN where that kernel may go to it;
a facet that is not free takes none. A staged fetch that has arrived lands in the landing zone, or where its generation
is the stream's; of another generation it is discarded, counted and asked for again, and so is one that nothing asked
for (R204, R220, R223). -/
def Obligations.FillAndStagingFeedTheFacets : Prop :=
  ∀ (s : State) (k : Nat), s.Canon → k < 128 →
    (∀ f u a c cs r kn, f < 2048 → s.live = true → fillFree s k f = true → u = feed (evictForced s k) k →
      fillFree u k f = true → beRuns u k = c :: cs → a = advanceRun u c → a.runOf c = some r → runIdle a r = true →
      nextKernel a r = some kn → (kernelFacets a r kn.batch (kernelReads a kn)).contains f = true →
      ∃ t, exec (.fill k f) s = .next t ∧ (t.facet f).queue = (a.facet f).queue ++ [kn]) ∧
    (∀ f, f < 2048 → s.live = false ∨ fillFree s k f = false → exec (.fill k f) s = .next (settle s)) ∧
    (∀ i gen (zone : Bool) asked, i < 16384 → s.live = true → (s.part k).valid = true →
      asked = (s.part k).stages.filter (fun q => q.stream == i && q.gen == gen && (s.cmd q.cid).isSome) →
      (∀ q, asked.find? (stageArrived s) = some q →
        (zone = true ∨ gen = (s.stream i).placementGen.toNat →
          ∃ t, exec (.stagedFetchLand k i gen zone) s = .next t ∧
            (t.part k).stages = dropStage q (s.part k).stages ∧
            (t.part k).staleStages = (s.part k).staleStages) ∧
        (zone = false → gen ≠ (s.stream i).placementGen.toNat →
          ∃ t, exec (.stagedFetchLand k i gen zone) s = .next t ∧
            (t.part k).staleStages = addSat (s.part k).staleStages 1 ∧ (t.part k).partCause.getLsbD 5 = true ∧
            (t.part k).stages =
              dropStage q (s.part k).stages ++ [{ q with gen := (s.stream q.stream).placementGen.toNat }])) ∧
      (asked = [] → zone = false →
        ∃ t, exec (.stagedFetchLand k i gen zone) s = .next t ∧
          (t.part k).staleStages = addSat (s.part k).staleStages 1 ∧ (t.part k).partCause.getLsbD 5 = true ∧
          (t.part k).stages = (s.part k).stages) ∧
      (asked.find? (stageArrived s) = none → asked ≠ [] ∨ zone = true →
        exec (.stagedFetchLand k i gen zone) s = .next (settle s))) ∧
    (∀ i gen zone, i < 16384 → s.live = false ∨ (s.part k).valid = false →
      exec (.stagedFetchLand k i gen zone) s = .next (settle s))

/-- A round of arbitration puts the share table loaded last into effect, and serves of each resource no more than its
capacity for the round (R209, R210); before the engines run there is none. -/
def Obligations.ArbitrationStaysWithinCapacity : Prop :=
  ∀ (s : State) (reqs : List BwReq), (∀ q ∈ reqs, q.partition < 128) →
    (s.live = true →
      ∃ t, exec (.arbitrationRound reqs) s = .next t ∧ t.share = s.shareNext.getD s.share ∧ t.shareNext = none ∧
        ∀ r, sumN ((t.sent.drop s.sent.length).filterMap fun x => match x with
            | .served q n => if q.resource = r then some n else none
            | _ => none) ≤ capacity s r * 512 / 1000) ∧
    (s.live = false → exec (.arbitrationRound reqs) s = .next (settle s))

/-! ### Kernels and containment -/

/-- The kernel at the head of a facet's queue starts when it may; at its end the facet is free and counts it; a jump
unit lands the next starting state of the first queued kernel that waits for one. An event that is not due does nothing
(R19, R71, R72, R90, R142, R143). -/
def Obligations.KernelsStartAndEnd : Prop :=
  ∀ (s : State) (f : Nat) (k : Kernel), s.Canon → f < 2048 →
    (∀ rest, (s.facet f).queue = k :: rest →
      (s.live = true → mayStart s f k = true →
        ∃ t, exec (.kernelStart f) s = .next t ∧ (t.facet f).running = some k ∧ (t.facet f).queue = rest ∧
          (t.facet f).since = s.now ∧ (∀ g, g ≠ f → t.facet g = s.facet g) ∧
          ∀ c, s.cmd k.cid = some c → ∃ d, t.cmd k.cid = some d ∧ d.started = some (c.started.getD s.now)) ∧
      (s.live = false ∨ mayStart s f k = false → exec (.kernelStart f) s = .next (settle s))) ∧
    ((s.facet f).queue = [] → exec (.kernelStart f) s = .next (settle s)) ∧
    (∀ n, (s.facet f).running = some k →
      (s.live = true → endDue s f k = true →
        ∃ t, exec (.kernelEnd f n) s = .next t ∧ (t.facet f).running = none ∧
          (t.facet f).kernels = addWrap (s.facet f).kernels 1 ∧ (t.facet f).ceCount = addSat (s.facet f).ceCount n ∧
          (n ≠ 0 → (t.facet f).cause.getLsbD 2 = true) ∧
          (∀ g, g ≠ f → (t.facet g).running = (s.facet g).running)) ∧
      (s.live = false ∨ endDue s f k = false → exec (.kernelEnd f n) s = .next (settle s))) ∧
    (∀ n, (s.facet f).running = none → exec (.kernelEnd f n) s = .next (settle s)) ∧
    (∀ j i n pe a b, f = 16 * j + i → i < 16 → (s.facet f).queue = a ++ k :: b → (∀ x ∈ a, x.noise = 0) →
      k.noise = n + 1 →
      (s.live = true →
        ∃ t, exec (.jumpPrepare j i pe) s = .next t ∧
          (t.facet f).queue = a ++ { k with noise := n, poison := k.poison || pe } :: b ∧
          (pe = true → (t.prism j).jumpCause = 1)) ∧
      (s.live = false → exec (.jumpPrepare j i pe) s = .next (settle s))) ∧
    (∀ j i pe, f = 16 * j + i → i < 16 → (∀ x ∈ (s.facet f).queue, x.noise = 0) →
      exec (.jumpPrepare j i pe) s = .next (settle s))

/-- A kernel that consumes poison or overruns twice its declared duration commits nothing: its facet is free, the
facet's cause bits say why, and the group's teardown begins where the partition is not being reset or destroyed; once
no kernel of the group runs the group's streams are freed. Without such a kernel or teardown nothing happens (R64, R75,
R166, R390, R391, R394). -/
def Obligations.FaultsTearTheirGroupDown : Prop :=
  ∀ (s : State) (f : Nat) (k : Kernel), s.Canon → f < 2048 →
    ((s.facet f).running = some k → s.live = true →
      (∀ src, ∃ t, exec (.kernelPoisonFault f src) s = .next t ∧ (t.facet f).running = none ∧
        (t.facet f).kernels = (s.facet f).kernels ∧ (t.facet f).cause.getLsbD 0 = true ∧
        (t.facet f).cause.getLsbD 3 = true ∧
        ((s.part k.part).valid = true → (s.part k.part).resetting = none → (s.part k.part).destroying = none →
          k.group ∈ (t.part k.part).tearing)) ∧
      (∀ p : Option PoisonSource, (s.facet f).since + 2 * k.dur < s.now →
        ∃ t, exec (.watchdog f p) s = .next t ∧ (t.facet f).running = none ∧
          (t.facet f).kernels = (s.facet f).kernels ∧ (t.facet f).cause.getLsbD 1 = true ∧
          (p ≠ none → (t.facet f).cause.getLsbD 0 = true) ∧
          ((s.part k.part).valid = true → (s.part k.part).resetting = none → (s.part k.part).destroying = none →
            k.group ∈ (t.part k.part).tearing))) ∧
    (∀ src p, ((s.facet f).running = none ∨ s.live = false →
        exec (.kernelPoisonFault f src) s = .next (settle s) ∧ exec (.watchdog f p) s = .next (settle s)) ∧
      ((s.facet f).running = some k → s.now ≤ (s.facet f).since + 2 * k.dur →
        exec (.watchdog f p) s = .next (settle s))) ∧
    (∀ p g, p < 128 →
      (s.live = true → g ∈ (s.part p).tearing → groupRunning s p g = false →
        ∃ t, exec (.teardownComplete p g) s = .next t ∧ g ∉ (t.part p).tearing ∧
          (t.part p).faultCause.getLsbD 0 = true ∧ (t.part p).streamCause.getLsbD 2 = true ∧
          (t.part p).teardowns = addWrap (s.part p).teardowns 1 ∧
          ∀ i, (t.stream i).isOpen = true → (t.stream i).part = p → (t.stream i).group ≠ g) ∧
      (s.live = false ∨ g ∉ (s.part p).tearing ∨ groupRunning s p g = true →
        exec (.teardownComplete p g) s = .next (settle s)))

/-- A device-fatal fault sets its bit of FATAL_CAUSE, keeps the first FATAL_RECORD, drives INT_N and stops the device
with every kernel on it (R395, R400, R402); a device that POR_N or PERST_N holds raises none. -/
def Obligations.FatalFaultStopsAndRecords : Prop :=
  ∀ (s : State) (code link : Nat), 1 ≤ code → code ≤ 6 → link < 256 →
    (s.mode ≠ .porLow → s.mode ≠ .held →
      ∃ t, exec (.deviceFatalFault code link) s = .next t ∧ t.mode = .fatal ∧ t.live = false ∧ intNLow t = true ∧
        t.fatal.cause.getLsbD (fatalBit code) = true ∧
        (s.fatal.record = 0 →
          t.fatal.record.toNat = s.now % 2 ^ 48 + 2 ^ 48 * link + 2 ^ 56 * code) ∧
        (s.fatal.record ≠ 0 → t.fatal.record = s.fatal.record) ∧
        t.cmds = s.cmds ∧ ∀ f, (t.facet f).running = none ∧ (t.facet f).queue = []) ∧
    (s.mode = .porLow ∨ s.mode = .held → exec (.deviceFatalFault code link) s = .next (settle s))

/-! ### Models -/

/-- A registration of an identity that the partition already holds answers its handle; one of a held image passes
its checks 5 and 7 or is refused by the first that fails; one of a new identity begins a copy into T2, or waits for the
copy of that identity that is under way, at whose end an image that the function may still name and that passes checks 3
to 6 is registered, and any other is freed with the status of the check for every registration that waited (R235, R236,
R289, R350, R357). -/
def Obligations.ModelsAreRegistered : Prop :=
  ∀ (s : State) (cid : Nat) (c : Cmd), s.Canon →
    (Ready s cid 0x20 c → ∀ ends : Nat → Nat → Prop,
      ends = (fun st d => ∃ t, exec (.modelRegister cid) s = .next t ∧ t.models = s.models ∧ t.t2 = s.t2 ∧
        Completed s t c st d 0) →
      (s.memc.trainFailed = true → ends stNoResource 0) ∧
      (s.memc.trainFailed = false → registerOk s c = false → ends stInvalidParameter 1) ∧
      (s.memc.trainFailed = false → registerOk s c = true → c.f 16 1 = 0 →
        (mayName s c.fn (c.f 24 8) (c.f 32 8) false = false → ends stNotPermitted 0) ∧
        (mayName s c.fn (c.f 24 8) (c.f 32 8) false = true → c.f 17 1 = 0 →
          ((readImage s c).2 = true → ends stModelFetchFailed 3) ∧
          ((readImage s c).2 = false → costsEnd (readImage s c).1 = none → ends stModelUnsupported 4))) ∧
      (∀ id, s.memc.trainFailed = false → Registers s c id →
        (∀ i, regIn s c.partition id = some i →
          ∃ t, exec (.modelRegister cid) s = .next t ∧ t.models = s.models ∧ t.t2 = s.t2 ∧
            Completed s t c 0x00 0x8000 (s.modelHandle i)) ∧
        (regIn s c.partition id = none → 65536 ≤ gapFrom 0 (tabKeys s.models) → ends stNoResource 1) ∧
        (∀ n x m, regIn s c.partition id = none → n = gapFrom 0 (tabKeys s.models) → n < 65536 →
          t2Find s id = some x → m = imageOfId s id →
          (imageSigned s id x.image = false → ends stSecurityDenied 5) ∧
          (imageSigned s id x.image = true → m.adapter = true → regIn s c.partition m.baseId = none →
            ends stNotFound 7) ∧
          (imageSigned s id x.image = true → m.adapter = true → regIn s c.partition m.baseId ≠ none →
            adapterFits (imageOfId s m.baseId) m = false → ends stModelUnsupported 7) ∧
          (imageSigned s id x.image = true →
            (m.adapter = true → regIn s c.partition m.baseId ≠ none ∧ adapterFits (imageOfId s m.baseId) m = true) →
            ∃ t, exec (.modelRegister cid) s = .next t ∧ t.model n = { part := c.partition, identity := id } ∧
              (∀ j, j ≠ n → t.model j = s.model j) ∧ t.t2 = s.t2 ∧ Completed s t c 0x00 0 (t.modelHandle n))) ∧
        (regIn s c.partition id = none → gapFrom 0 (tabKeys s.models) < 65536 → t2Find s id = none →
          ((∃ x ∈ s.t2, x.identity = id) →
            ∃ t, exec (.modelRegister cid) s = .next t ∧ t.models = s.models ∧ t.cmd cid ≠ none ∧
              ∀ y ∈ t.t2, y.identity = id → cid ∈ y.waiters) ∧
          ((∀ x ∈ s.t2, x.identity ≠ id) →
            (c.f 16 1 = 0 → t2Room s (sourceBytes s c) = false → ends stNoResource 2) ∧
            (c.f 16 1 = 1 → t2Room s 0 = false → ends stNoResource 2) ∧
            (c.f 16 1 = 0 → t2Room s (sourceBytes s c) = true →
              ∃ t, exec (.modelRegister cid) s = .next t ∧ t.models = s.models ∧ t.cmd cid ≠ none ∧
                ∃ x ∈ t.t2, x.identity = id ∧ x.copying = some cid ∧ x.image.length = sourceBytes s c) ∧
            (c.f 16 1 = 1 → t2Room s 0 = true →
              (∀ r < 4, replica c r ≠ 0xFFFF → routePort s (replica c r) = none) → ends stModelFetchFailed 3) ∧
            (c.f 16 1 = 1 → t2Room s 0 = true → replica c 0 ≠ 0xFFFF → routePort s (replica c 0) ≠ none →
              unreachable s (replica c 0) = false →
              ∃ t, exec (.modelRegister cid) s = .next t ∧ t.models = s.models ∧ t.cmd cid ≠ none ∧
                (∃ x ∈ t.t2, x.identity = id ∧ x.copying = some cid ∧ x.missing = [(0, 0)]) ∧
                ∃ q ∈ t.vertex.reqs, q.type = 4 ∧ q.dest = replica c 0 ∧ q.purpose = .fetchPiece cid 0 ∧
                  q.data = id ∧ q.hdr.address = 0))))) ∧
    (∀ x b, s.live = true → s.cmd cid = some c → s.t2.find? (fun y => y.copying == some cid) = some x →
      x.missing = [] → b = copiedImage s c →
      (c.f 16 1 = 0 → mayName s c.fn (c.f 24 8) (c.f 32 8) false = false → CopyFailed s cid c x stNotPermitted 0) ∧
      ((c.f 16 1 = 0 → mayName s c.fn (c.f 24 8) (c.f 32 8) false = true) →
      (b.2 = true → CopyFailed s cid c x stModelFetchFailed 3) ∧
      (b.2 = false → costsEnd b.1 = none → CopyFailed s cid c x stModelUnsupported 4) ∧
      (∀ e, b.2 = false → costsEnd b.1 = some e →
        (sm3 (b.1.take e) ≠ x.identity → CopyFailed s cid c x stIntegrityFailed 4) ∧
        (sm3 (b.1.take e) = x.identity →
          (imageSigned s x.identity b.1 = false → CopyFailed s cid c x stSecurityDenied 5) ∧
          (imageSigned s x.identity b.1 = true → checkedImage b.1 = none →
            CopyFailed s cid c x stModelUnsupported 6) ∧
          (∀ m n a, imageSigned s x.identity b.1 = true → checkedImage b.1 ≠ none → a = b.1.take (rd b.1 8 8) →
            imageSigned s x.identity a = true → parseImage a = some m → n = gapFrom 0 (tabKeys s.models) →
            n < 65536 → regIn s c.partition x.identity = none →
            (m.adapter = true → regIn s c.partition m.baseId = none →
              ∃ t, exec (.imageCopyDone cid) s = .next t ∧ Completed s t c stNotFound 7 0) ∧
            ((m.adapter = true →
                regIn s c.partition m.baseId ≠ none ∧ adapterFits (imageOfId s m.baseId) m = true) →
              ∃ t, exec (.imageCopyDone cid) s = .next t ∧
                t.model n = { part := c.partition, identity := x.identity } ∧
                (∃ y, t2Find t x.identity = some y ∧ y.image = a) ∧ Completed s t c 0x00 0 (t.modelHandle n) ∧
                ∀ w ∈ x.waiters, t.cmd w = none)))))) ∧
    ((∀ x, s.cmd cid = some c → s.t2.find? (fun y => y.copying == some cid) = some x →
        s.live = false ∨ x.missing ≠ []) →
      (s.cmd cid = none ∨ s.cmd cid = some c) → exec (.imageCopyDone cid) s = .next (settle s))

/-- MODEL_PREFETCH and MODEL_PIN complete at once on a copy that is present, wait for one that is under way or begins,
and are NO_RESOURCE without room; the end of a copy or a placement completes what waits for it. MODEL_UNPIN clears the
pin. MODEL_EVICT drops the copy of its tier, is BUSY where it is pinned or, at T0 without FORCE, in use or kept for a
kernel that reads a copy found poisoned, and with every tier frees a registration that no stream and no adapter names
(R239, R241, R243, R244, R290). -/
def Obligations.ModelsMoveBetweenTiers : Prop :=
  ∀ (s : State) (cid : Nat) (c : Cmd) (i k : Nat) (id : Bytes), s.Canon → i = modelIndex c.object →
    k = c.partition → id = (s.model i).identity → ∀ ends : (Nat → Instr) → Nat → Nat → Prop,
    ends = (fun row st d => ∃ t, exec (row cid) s = .next t ∧ t.models = s.models ∧ t.parts = s.parts ∧ t.t1 = s.t1 ∧
      Completed s t c st d 0) →
    (∀ p ∈ [(Instr.modelPrefetch, 0x21), (.modelPin, 0x22), (.modelUnpin, 0x23), (.modelEvict, 0x24)], ∀ st,
      Ready s cid p.2 c → checkModel s c.fn k c.object = some st → ends p.1 st 0) ∧
    (Ready s cid 0x21 c → checkModel s c.fn k c.object = none →
      (c.only [] = false → ends .modelPrefetch stInvalidParameter 0) ∧
      (c.only [] = true → (s.t1.any fun x => x.identity == id && !x.copying) = true →
        ends .modelPrefetch stOk 0) ∧
      (∀ u, c.only [] = true → (s.t1.any fun x => x.identity == id && !x.copying) = false →
        beginT1 (begin' s cid) id [cid] = some u →
        ∃ t, exec (.modelPrefetch cid) s = .next t ∧ t.t1 = u.t1 ∧ t.cmds = u.cmds ∧
          ∃ x ∈ t.t1, x.identity = id ∧ cid ∈ x.waiters) ∧
      (c.only [] = true → (s.t1.any fun x => x.identity == id && !x.copying) = false →
        beginT1 (begin' s cid) id [cid] = none → ends .modelPrefetch stNoResource 0)) ∧
    (Ready s cid 0x22 c → checkModel s c.fn k c.object = none →
      (c.only [(16, 1)] = false ∨ 1 < c.f 16 1 → ends .modelPin stInvalidParameter 0) ∧
      (c.only [(16, 1)] = true → c.f 16 1 = 0 →
        ((imageOfId s id).adapter = true → basePinned s k (imageOfId s id) = false →
          ends .modelPin stInvalidParameter 0) ∧
        ((imageOfId s id).adapter = false ∨ basePinned s k (imageOfId s id) = true →
          (t0Placed (s.part k) id = true →
            ∃ t, exec (.modelPin cid) s = .next t ∧ t.model i = { s.model i with pinT0 := true } ∧
              Completed s t c 0x00 0 0) ∧
          (t0Placed (s.part k) id = false → t0Find (s.part k) id ≠ none →
            ∃ t, exec (.modelPin cid) s = .next t ∧ t.model i = { s.model i with pinT0 := true } ∧
              t.cmd cid ≠ none ∧ ∀ x ∈ (t.part k).t0, x.identity = id → cid ∈ x.waiters) ∧
          (∀ u, t0Find (s.part k) id = none → beginPlace (begin' s cid) k id [cid] = some u →
            ∃ t, exec (.modelPin cid) s = .next t ∧ t.model i = { s.model i with pinT0 := true } ∧
              t.cmds = u.cmds ∧ t.parts = u.parts ∧ ∃ x ∈ (t.part k).t0, x.identity = id ∧ x.waiters = [cid]) ∧
          (t0Find (s.part k) id = none → beginPlace (begin' s cid) k id [cid] = none →
            ends .modelPin stNoResource 0))) ∧
      (∀ u, c.only [(16, 1)] = true → c.f 16 1 = 1 →
        u = (begin' s cid).modModel i (fun r => { r with pinT1 := true }) →
        ((s.t1.any fun x => x.identity == id && !x.copying) = true → t1PinnedWith s id ≤ Config.t1PinLimit →
          ∃ t, exec (.modelPin cid) s = .next t ∧ t.model i = { s.model i with pinT1 := true } ∧ t.t1 = s.t1 ∧
            Completed s t c 0x00 0 0) ∧
        (∀ v, (s.t1.any fun x => x.identity == id && !x.copying) = false → t1PinnedWith s id ≤ Config.t1PinLimit →
          beginT1 u id [cid] = some v →
          ∃ t, exec (.modelPin cid) s = .next t ∧ t.model i = { s.model i with pinT1 := true } ∧ t.t1 = v.t1 ∧
            t.cmds = v.cmds) ∧
        ((s.t1.any fun x => x.identity == id && !x.copying) = false → beginT1 u id [cid] = none →
          ∃ t, exec (.modelPin cid) s = .next t ∧ t.model i = s.model i ∧ Completed s t c stNoResource 0 0) ∧
        (Config.t1PinLimit < t1PinnedWith s id → ends .modelPin stNoResource 0))) ∧
    (Ready s cid 0x23 c → checkModel s c.fn k c.object = none →
      (c.only [(16, 1)] = false ∨ 1 < c.f 16 1 → ends .modelUnpin stInvalidParameter 0) ∧
      (c.only [(16, 1)] = true → c.f 16 1 ≤ 1 →
        ∃ t, exec (.modelUnpin cid) s = .next t ∧ Completed s t c 0x00 0 0 ∧
          t.model i = (if c.f 16 1 = 0 then { s.model i with pinT0 := false }
            else { s.model i with pinT1 := false }) ∧ ∀ j, j ≠ i → t.model j = s.model j)) ∧
    (Ready s cid 0x24 c → checkModel s c.fn k c.object = none →
      (c.only [(16, 1)] = false ∨ 1 < c.f 16 1 ∧ c.f 16 1 ≠ 0xFF → ends .modelEvict stInvalidParameter 0) ∧
      (c.only [(16, 1)] = true → c.f 16 1 = 0 →
        (t0Find (s.part k) id = none → ends .modelEvict stOk 0) ∧
        (∀ x, t0Find (s.part k) id = some x →
          (t0Pinned s k id = true → ends .modelEvict stBusy 1) ∧
          (t0Pinned s k id = false → t0InUse s k id = false → x.dead = false →
            ∃ t, exec (.modelEvict cid) s = .next t ∧ t0Find (t.part k) id = none ∧ t.models = s.models ∧
              Completed s t c 0x00 0 0) ∧
          (t0Pinned s k id = false → t0InUse s k id = true ∨ x.dead = true → c.force = false →
            ends .modelEvict stBusy 0) ∧
          (t0Pinned s k id = false → t0InUse s k id = true ∨ x.dead = true → c.force = true →
            ∃ t, exec (.modelEvict cid) s = .next t ∧ t.cmd cid ≠ none ∧
              ∀ y ∈ (t.part k).t0, y.identity = id → cid ∈ y.forced))) ∧
      (c.only [(16, 1)] = true → c.f 16 1 = 1 →
        (t1Find s id = none → ends .modelEvict stOk 0) ∧
        (∀ x, t1Find s id = some x →
          (t1Pinned s id = true → ends .modelEvict stBusy 1) ∧
          (t1Pinned s id = false →
            ∃ t, exec (.modelEvict cid) s = .next t ∧ t1Find t id = none ∧ t.models = s.models ∧
              (∀ w ∈ x.waiters, t.cmd w = none) ∧ Completed s t c 0x00 0 0))) ∧
      (c.only [(16, 1)] = true → c.f 16 1 = 0xFF →
        (modelUsers s i ≠ 0 ∨ namedAsBase s k id = true → ends .modelEvict stBusy 2) ∧
        (modelUsers s i = 0 → namedAsBase s k id = false →
          ∃ t, exec (.modelEvict cid) s = .next t ∧ t.model i = {} ∧ (∀ j, j ≠ i → t.model j = s.model j) ∧
            Completed s t c 0x00 0 0))) ∧
    (∀ q due, q < 128 → i < 65536 →
      (due ↔ s.live = true ∧ id ≠ [] ∧
        ((s.part q).resetting = none ∨ (s.part q).resetSince + 6144 ≤ s.now) ∧
        ∃ x ∈ (s.part q).t0, x.identity = id ∧ x.placed = false ∧ x.dead = false) →
      (due →
        ∃ t, exec (.modelPlacementDone q i) s = .next t ∧
          ((∀ x ∈ (s.part q).t0, x.identity = id → x.dead = false) →
            ∀ y ∈ (t.part q).t0, y.identity = id → y.placed = true) ∧
          ∀ x ∈ (s.part q).t0, x.identity = id → ∀ w ∈ x.waiters, t.cmd w = none) ∧
      (¬ due → exec (.modelPlacementDone q i) s = .next (settle s))) ∧
    (∀ due, i < 65536 →
      (due ↔ s.live = true ∧ id ≠ [] ∧ ∃ x ∈ s.t1, x.identity = id ∧ x.copying = true) →
      (due →
        ∃ t, exec (.modelT1CopyDone i) s = .next t ∧ (∀ y ∈ t.t1, y.identity = id → y.copying = false) ∧
          ∀ x ∈ s.t1, x.identity = id → ∀ w ∈ x.waiters, t.cmd w = none) ∧
      (¬ due → exec (.modelT1CopyDone i) s = .next (settle s)))

/-! ### Streams and runs -/

/-- A stream command whose handle fails its checks completes with the status of the check. STREAM_OPEN of a
best-effort stream that fits makes the lowest free stream with what the packet gives, and of a latency-critical one
where admission passes; it is refused by parameters, handles, admission or room. STREAM_CLOSE frees the stream after an
executing run, aborts queued RUNs with FORCE and is BUSY with one otherwise; STREAM_SEED and STREAM_RESET wait for the
next base step (R112, R138, R154, R155, R159, R165, R200, R213, R292 to R294). -/
def Obligations.StreamsOpenAndClose : Prop :=
  ∀ (s : State) (cid : Nat) (c : Cmd) (i k : Nat), s.Canon → k = c.partition →
    ∀ ends : (Nat → Instr) → Nat → Nat → Prop,
    ends = (fun row st d => ∃ t, exec (row cid) s = .next t ∧ t.streams = s.streams ∧ Completed s t c st d 0) →
    (∀ p ∈ [(Instr.streamClose, 0x31), (.streamSeed, 0x32), (.streamReset, 0x33), (.stateSave, 0x35),
        (.stateRestore, 0x36), (.stateEvict, 0x37), (.streamMigrate, 0x38), (.portBind, 0x41)],
      Ready s cid p.2 c →
        (∀ st, checkStream s c.fn k c.object = some st → ends p.1 st 0) ∧
        (checkStream s c.fn k c.object = none → closing s (streamIndex c.object) cid = true →
          ends p.1 stStaleHandle 0)) ∧
    (∀ hs v b good, Ready s cid 0x30 c → hs = [c.f 16 4, c.f 20 4, c.f 24 4, c.f 28 4] → v = voiceOf s hs →
      b = begin' s cid →
      (good ↔ c.only [(16, 28), (48, 32)] = true ∧ c.f 33 1 ≤ 1 ∧
        (c.f 33 1 = 0 → allZero (slice c.packet 48 32) = true)) →
      (¬ good → ends .streamOpen stInvalidParameter 0) ∧
      (∀ st, good → ((hs.filter (· ≠ 0)).findSome? fun h => checkModel s c.fn k h) = some st →
        ends .streamOpen st 0) ∧
      (good → (∀ h ∈ hs, h ≠ 0 → checkModel s c.fn k h = none) →
        (voiceOk s hs = false ∨ kvPositionsOk v (c.f 40 4) = false ∨
            groupClassOk s k (c.f 32 1) (c.f 34 2) = false → ends .streamOpen stInvalidParameter 0) ∧
        (voiceOk s hs = true → kvPositionsOk v (c.f 40 4) = true →
          (groupClassOk s k 0 (c.f 34 2) = true → c.f 32 1 = 0 →
            (i = freeStreamIndex s → i < 16384 → poolUsed s + voiceKvBytes v (c.f 40 4) ≤ poolBytes s →
              (seatsFor s k hs (voiceStateBytes v)).isSome = true →
              ∃ t, exec (.streamOpen cid) s = .next t ∧ Completed s t c 0x00 0 (t.streamHandle i) ∧
                (t.stream i).isOpen = true ∧ (t.stream i).part = k ∧ (t.stream i).voice = hs ∧
                (t.stream i).lc = false ∧ (t.stream i).group = c.f 34 2 ∧ (t.stream i).maxPrompt = c.f 36 4 ∧
                (t.stream i).kvPositions = c.f 40 4 ∧ (t.stream i).step = 0 ∧ (t.stream i).placementGen = 0 ∧
                ((t.stream i).awaitContext = true ↔ c.f 33 1 = 1) ∧
                sumN ((t.stream i).seats.map (·.bytes)) = voiceStateBytes v ∧
                ∀ j, j ≠ i → t.stream j = s.stream j) ∧
            (openAlloc b c (newStream b c hs) = none → ends .streamOpen stNoResource 0)) ∧
          (∀ a, groupClassOk s k 1 (c.f 34 2) = true → c.f 32 1 = 1 →
            a = admit213 b k (b.part k) (c.f 34 2) ((lcMembers b k (c.f 34 2)).map b.stream ++ [newStream b c hs])
              (lcFloor b (some (k, c.f 34 2, hs))) true →
            (∀ n, a = some n → n = 1 ∨ n = 2 ∨ openAlloc b c (newStream b c hs) ≠ none →
              ends .streamOpen stAdmissionRefused n) ∧
            (a ≠ some 1 → a ≠ some 2 → openAlloc b c (newStream b c hs) = none →
              ends .streamOpen stNoResource 4) ∧
            (∀ u j, a = none → openAlloc b c (newStream b c hs) = some (u, j) →
              ∃ t, exec (.streamOpen cid) s = .next t ∧ t.streams = u.streams ∧ (t.stream j).isOpen = true ∧
                (t.stream j).lc = true ∧ (t.stream j).voice = hs ∧ Completed s t c 0x00 0 (t.streamHandle j)))))) ∧
    (OnStream s c i →
      (Ready s cid 0x31 c →
        (runsQueued s i cid ≠ [] → c.force = false → ends .streamClose stBusy 0) ∧
        (runsQueued s i cid = [] ∨ c.force = true →
          (runExecuting s i cid = false →
            ∃ t, exec (.streamClose cid) s = .next t ∧ (t.stream i).isOpen = false ∧ Completed s t c 0x00 0 0 ∧
              ∀ e ∈ s.cmds, e.cid ∈ runsQueued s i cid → Completed s t e stAborted 0 0) ∧
          (runExecuting s i cid = true →
            ∃ t, exec (.streamClose cid) s = .next t ∧ t.streams = s.streams ∧
              (∃ e, t.cmd cid = some e ∧ e.waitStream = some i) ∧
              ∀ e ∈ s.cmds, e.cid ∈ runsQueued s i cid → Completed s t e stAborted 0 0))) ∧
      (Ready s cid 0x32 c →
        (c.only [(16, 8), (24, 4)] = false → ends .streamSeed stInvalidParameter 0) ∧
        (c.only [(16, 8), (24, 4)] = true →
          ∃ t, exec (.streamSeed cid) s = .next t ∧
            t.stream i = { s.stream i with pendSeed := some (c.f 16 8, c.f 24 4) } ∧ Completed s t c 0x00 0 0)) ∧
      (Ready s cid 0x33 c →
        (c.only [(16, 2)] = false ∨ 1 < c.f 16 2 → ends .streamReset stInvalidParameter 0) ∧
        (c.only [(16, 2)] = true → c.f 16 2 ≤ 1 →
          ∃ t, exec (.streamReset cid) s = .next t ∧ Completed s t c 0x00 0 0 ∧
            t.stream i = { s.stream i with
              pendReset := some (decide (c.f 16 2 = 1) || (s.stream i).pendReset == some true) })))

/-- STATE_EVICT moves the state slots of a stream to the tier that it names, once no run executes and no copy is in
progress: of a resident stream the copy out begins, at whose end the stream is away and the command completes; without
room it is NO_RESOURCE, and with a queued RUN and no FORCE, BUSY. A fetch back makes the stream resident again.
CHECKPOINT_SET gives the group its ring, after an entry that is being written, or takes it away; a due checkpoint writes
its entry there, while the partition's function may name it, or is skipped (R160 to R164, R183 to R185, R296, R298,
R357). -/
def Obligations.StreamStateMovesAndIsCheckpointed : Prop :=
  ∀ (s : State) (cid : Nat) (c : Cmd) (i : Nat), s.Canon → i < 16384 → ∀ ends : (Nat → Instr) → Nat → Nat → Prop,
    ends = (fun row st d => ∃ t, exec (row cid) s = .next t ∧ t.streams = s.streams ∧ t.parts = s.parts ∧
      Completed s t c st d 0) →
    (Ready s cid 0x37 c → OnStream s c i →
      (c.only [(16, 1)] = false ∨ 1 < c.f 16 1 → ends .stateEvict stInvalidParameter 0) ∧
      (c.only [(16, 1)] = true → c.f 16 1 ≤ 1 →
        (runsQueued s i cid ≠ [] → c.force = false → ends .stateEvict stBusy 0) ∧
        (runsQueued s i cid = [] ∨ c.force = true →
          (runExecuting s i cid = true ∨ (s.stream i).resid.moving = true →
            ∃ t, exec (.stateEvict cid) s = .next t ∧ t.streams = s.streams ∧
              ∃ e, t.cmd cid = some e ∧ e.waitStream = some i) ∧
          (∀ geode n room, runExecuting s i cid = false → geode = decide (c.f 16 1 = 0) →
            n = voiceStateBytes (voiceOf s (s.stream i).voice) →
            room = (if geode then (roomGeode s n).isSome else decide (poolUsed s + n ≤ poolBytes s)) →
            ((s.stream i).resid = (if geode then .awayGeode else .awayLpddr) → ends .stateEvict stOk 0) ∧
            (room = false → (s.stream i).resid = .resident ∨
                (s.stream i).resid = (if geode then .awayLpddr else .awayGeode) →
              ends .stateEvict stNoResource 0) ∧
            (room = true → (s.stream i).resid = .resident →
              ∃ t, exec (.stateEvict cid) s = .next t ∧ t.cmd cid ≠ none ∧
                (t.stream i).resid = .movingOut geode ∧ (t.stream i).seats = (s.stream i).seats) ∧
            (room = true → (s.stream i).resid = (if geode then .awayLpddr else .awayGeode) →
              ∃ t, exec (.stateEvict cid) s = .next t ∧ Completed s t c 0x00 0 0 ∧
                (t.stream i).resid = (if geode then .awayGeode else .awayLpddr)))))) ∧
    (∀ g, s.live = true → (s.stream i).resid = .movingOut g →
      ∃ t, exec (.stateCopyOutDone i) s = .next t ∧ (t.stream i).seats = [] ∧
        (t.stream i).resid = (if g then .awayGeode else .awayLpddr) ∧
        ∀ e, (s.cmds.find? fun x => x.opcode == 0x37 && x.started.isSome && x.waitStream.isNone &&
            streamIndex x.object == i) = some e → Completed s t e 0x00 0 0) ∧
    (s.live = false ∨ (∀ g, (s.stream i).resid ≠ .movingOut g) →
      exec (.stateCopyOutDone i) s = .next (settle s)) ∧
    (∀ g, s.live = true → (s.stream i).resid = .fetching g →
      (waiting s i = [] →
        ∃ t, exec (.stateFetchBackDone i) s = .next t ∧ (t.stream i).resid = .resident ∧
          (t.stream i).placementGen = (s.stream i).placementGen) ∧
      (∀ e, waiting s i = [e] → e.opcode = 0x31 → runExecuting s i e.cid = false →
        ∃ t, exec (.stateFetchBackDone i) s = .next t ∧ (t.stream i).isOpen = false ∧ Completed s t e 0x00 0 0)) ∧
    (s.live = false ∨ (∀ g, (s.stream i).resid ≠ .fetching g) →
      exec (.stateFetchBackDone i) s = .next (settle s)) ∧
    (∀ k g ring, Ready s cid 0x39 c → k = c.partition → g = c.f 16 2 →
      ring = { base := c.f 24 8, entries := c.f 32 4, entryBytes := c.f 36 4, periodK := c.f 20 4,
               sign := decide (c.f 18 2 = 1) } →
      (c.only [(16, 24)] = false ∨ 4095 < g ∨ 1 < c.f 18 2 ∨ 65535 < c.f 20 4 →
        ends .checkpointSet stInvalidParameter 0) ∧
      (c.only [(16, 24)] = true → g ≤ 4095 → c.f 18 2 ≤ 1 → c.f 20 4 ≤ 65535 → ∀ takes : CkptRing → Prop,
        takes = (fun x => ∃ t, exec (.checkpointSet cid) s = .next t ∧ Completed s t c 0x00 0 0 ∧
          (groupWriting s k g = false → tabGet {} (t.part k).ckpts g = x ∧
            ∀ j, (s.stream j).isOpen = true → (s.stream j).part = k → (s.stream j).group = g →
              (t.stream j).ckptSeq = 0) ∧
          (groupWriting s k g = true → t.streams = s.streams ∧ (t.part k).ckpts = (s.part k).ckpts ∧
            (t.part k).ckptNext = ((s.part k).ckptNext.filter fun q => q.1 != g) ++ [(g, x)])) →
        ∀ fits, (fits ↔ addrSpace ring.base = 2 ∧ addrValid ring.base = true ∧ ring.base % 4096 = 0 ∧
          2 ≤ ring.entries ∧ ring.entries ≤ 65536 ∧ 4096 ≤ ring.entryBytes ∧ ring.entryBytes ≤ 2 ^ 30 ∧
          ring.entryBytes % 4096 = 0 ∧
          2 * (streamsOf s k fun t => t.group == g).length ≤ ring.entries) →
        (c.f 20 4 = 0 → takes {}) ∧
        (c.f 20 4 ≠ 0 → ¬ fits → ends .checkpointSet stInvalidParameter 0) ∧
        (c.f 20 4 ≠ 0 → fits → mayName s c.fn ring.base (ring.entries * ring.entryBytes) false = false →
          ends .checkpointSet stNotPermitted 0) ∧
        (c.f 20 4 ≠ 0 → fits → mayName s c.fn ring.base (ring.entries * ring.entryBytes) false = true → ∀ b a,
          b = begin' s cid →
          a = admit213 b k { b.part k with ckpts := tabSet {} (b.part k).ckpts g ring } g
            ((lcMembers b k g).map b.stream) (lcFloor b none) (decide (stateUsed b k ≤ stateRoom (b.part k))) →
          (lcMembers s k g = [] ∨ a = none → takes ring) ∧
          (∀ n, lcMembers s k g ≠ [] → a = some n → ends .checkpointSet stAdmissionRefused n)))) ∧
    (∀ b rest ring a f, s.live = true → (s.stream i).ckptCopies = b :: rest → ckptBusy s i = false →
      ring = tabGet {} (s.part (s.stream i).part).ckpts (s.stream i).group → a = ring.base + ring.next * ring.entryBytes →
      f = (s.part (s.stream i).part).function.toNat →
      ∀ skips : Bool → Prop,
      skips = (fun w => ∃ t, exec (.checkpointWrite i w) s = .next t ∧ (t.stream i).ckptCopies = rest ∧
        t.mem = s.mem ∧ (t.stream i).ckptSeq = (s.stream i).ckptSeq ∧
        (t.part (s.stream i).part).ckptSkipped = addSat (s.part (s.stream i).part).ckptSkipped 1 ∧
        (t.part (s.stream i).part).streamCause.getLsbD 0 = true) →
      (ring.periodK = 0 → ∀ w, ∃ t, exec (.checkpointWrite i w) s = .next t ∧ (t.stream i).ckptCopies = rest ∧
        t.mem = s.mem ∧ t.parts = s.parts) ∧
      (ring.periodK ≠ 0 → skips false) ∧
      (ring.periodK ≠ 0 → ring.entryBytes < b.length + 64 → b ≠ [] → skips true) ∧
      (ring.periodK ≠ 0 → b.length + 64 ≤ ring.entryBytes →
        (hostRemote s a = false → mayName s f a 64 false = false → skips true) ∧
        (hostRemote s a = false → hostRemote s (a + 64) = false → mayName s f a 64 false = true →
          mayName s f (a + 64) b.length false = true → a % 2 ^ 42 + 64 + b.length ≤ usable s →
          a % 2 ^ 42 + 64 < 2 ^ 42 → regionOf s (a % 2 ^ 42) = .lpddr →
          regionOf s ((a + 64) % 2 ^ 42) = .lpddr →
          ∃ t, exec (.checkpointWrite i true) s = .next t ∧ (t.stream i).ckptCopies = rest ∧
            (t.stream i).ckptSeq = (s.stream i).ckptSeq + 1 ∧
            (t.part (s.stream i).part).ckptWritten = addWrap (s.part (s.stream i).part).ckptWritten 1 ∧
            tabGet {} (t.part (s.stream i).part).ckpts (s.stream i).group =
              { ring with next := (ring.next + 1) % max 1 ring.entries } ∧
            t.mem = writeBytes (writeBytes (writeBytes s.mem (a % 2 ^ 42) (ckptPiece s i 0).2) (a % 2 ^ 42 + 64) b)
              (a % 2 ^ 42) (ckptPiece s i 2).2) ∧
        (hostRemote s a = true → a % 4096 = 0 → unreachable s (addrDevice a) = false →
          routePort s (addrDevice a) ≠ none →
          ∃ t, exec (.checkpointWrite i true) s = .next t ∧ (t.stream i).ckptCopies = b :: rest ∧ t.mem = s.mem ∧
            ∃ q ∈ t.vertex.reqs, q.type = 2 ∧ q.dest = addrDevice a ∧ q.purpose = .checkpoint i 0 ∧
              q.hdr.address = a % 2 ^ 52 ∧ q.data = (ckptPiece s i 0).2) ∧
        (hostRemote s a = true → a % 4096 = 0 →
          unreachable s (addrDevice a) = true ∨ routePort s (addrDevice a) = none → skips true))) ∧
    (s.live = false ∨ (s.stream i).ckptCopies = [] ∨ ckptBusy s i = true →
      ∀ w, exec (.checkpointWrite i w) s = .next (settle s))

/-- STATE_SAVE waits for an executing run and stores the stream's context, signed where its flag asks for that; slots
that hold poison are not saved or migrated (R389). STATE_RESTORE of a context that passes its checks makes the stream
what the context says, its generation one more, with the values of slower producers as they were captured here, or
free ones of a context captured elsewhere (log 29), and otherwise completes with the number and status of the failing
check; STREAM_MIGRATE waits for the runs before it, to a stream of this device restores it there with the source's
values and frees the source, and to another device sends the signed context; what the acknowledgement says decides,
and without one the stream stays fenced, when it takes only a close, a save and a repeated migration (R35, R154, R169,
R178 to R182, R295 to R297). -/
def Obligations.StreamsSaveRestoreAndMigrate : Prop :=
  ∀ (s : State) (cid : Nat) (c : Cmd) (i : Nat), s.Canon → i < 16384 →
    ∀ ends : (Nat → Instr) → Nat → Nat → Nat → Prop,
    ends = (fun row st d r => ∃ t, exec (row cid) s = .next t ∧ t.streams = s.streams ∧ Completed s t c st d r) →
    (∀ b w, Ready s cid 0x35 c → OnStream s c i → w = s.modStream i applySeed →
      b = captureCtx w i (decide (c.f 18 2 = 1)) →
      (c.only [(16, 4), (24, 16)] = false ∨ 1 < c.f 18 2 ∨ addrValid (c.f 24 8) = false →
        ends .stateSave stInvalidParameter 0 0) ∧
      (c.only [(16, 4), (24, 16)] = true → c.f 18 2 ≤ 1 → addrValid (c.f 24 8) = true →
        (mayName s c.fn (c.f 24 8) (c.f 32 8) false = false → ends .stateSave stNotPermitted 0 0) ∧
        (mayName s c.fn (c.f 24 8) (c.f 32 8) false = true →
          (c.f 16 1 ≠ 1 ∨ c.f 17 1 ≠ 0 → ends .stateSave stVersionMismatch 0 0) ∧
          (c.f 16 1 = 1 → c.f 17 1 = 0 →
            (runExecuting s i cid = true →
              ∃ t, exec (.stateSave cid) s = .next t ∧ t.streams = s.streams ∧
                ∃ e, t.cmd cid = some e ∧ e.waitStream = some i) ∧
            (runExecuting s i cid = false → (s.stream i).poison = true → ends .stateSave stPoisonedData 0 0) ∧
            (runExecuting s i cid = false → (s.stream i).poison = false → PlainDest s c.fn (c.f 24 8) (c.f 32 8) b →
              ∃ t, exec (.stateSave cid) s = .next t ∧ t.stream i = applySeed (s.stream i) ∧
                Stored s t c.fn (c.f 24 8) b ∧ Completed s t c 0x00 0 b.length ∧
                t.vertex.captures = { bytes := b, edges := (s.stream i).edges, carried := (s.stream i).carried } ::
                  s.vertex.captures))))) ∧
    (Ready s cid 0x36 c → OnStream s c i →
      (c.only [(16, 2), (24, 16), (48, 32)] = false ∨ 1 < c.f 16 2 → ends .stateRestore stInvalidParameter 0 0) ∧
      (c.only [(16, 2), (24, 16), (48, 32)] = true → c.f 16 2 ≤ 1 →
        ((s.stream i).awaitContext = false → runsNaming s i cid ≠ [] → ends .stateRestore stBusy 0 0) ∧
        (∀ b t' v, (s.stream i).awaitContext = true ∨ runsNaming s i cid = [] →
          PlainRead s c.fn (c.f 24 8) (c.f 32 8) b → t' = s.stream i → v = voiceOf s t'.voice →
          (ctxCheck1 b = false → ends .stateRestore stInvalidParameter 1 0) ∧
          (ctxCheck1 b = true → ctxCheck2 b = false → ends .stateRestore stVersionMismatch 2 0) ∧
          (ctxCheck1 b = true → ctxCheck2 b = true → ctxCheck3 b = false →
            ends .stateRestore stIntegrityFailed 3 0) ∧
          (ctxCheck1 b = true → ctxCheck2 b = true → ctxCheck3 b = true → restoreNeedsSig s c = true →
            ctxCheck4 b (slice c.packet 48 32) = false → ends .stateRestore stSecurityDenied 4 0) ∧
          (ctxCheck1 b = true → ctxCheck2 b = true → ctxCheck3 b = true →
            (restoreNeedsSig s c = true → ctxCheck4 b (slice c.packet 48 32) = true) →
            ctxCheck5 v (streamVoiceId s t'.voice) t'.kvPositions b = none →
            ends .stateRestore stInvalidParameter 5 0) ∧
          (∀ cs r, Restores s i b (restoreNeedsSig s c) (slice c.packet 48 32) cs →
            r = restoreStream t' (ctxHead b) (continued s v b cs).1 (continued s v b cs).2.1 (restoredSeats s i) →
            (t'.sink = none →
              ∃ t, exec (.stateRestore cid) s = .next t ∧ Completed s t c 0x00 0 0 ∧ t.stream i = r) ∧
            (∀ p sl w g, t'.sink = some (.port p sl w) → g = BitVec.ofNat 16 ((ctxHead b).gen + 1) →
              ∃ t, exec (.stateRestore cid) s = .next t ∧ Completed s t c 0x00 0 0 ∧ t.stream i = r ∧
                ((t.port p).slot sl).regGen = (if ((s.port p).slot sl).stream = i ∧
                  newer g ((s.port p).slot sl).regGen = true then g else ((s.port p).slot sl).regGen)))))) ∧
    (Ready s cid 0x38 c → OnStream s c i →
      (c.only [(16, 2), (20, 4), (32, 32)] = false ∨ 1023 < c.f 16 2 →
        ends .streamMigrate stInvalidParameter 0 0) ∧
      (c.only [(16, 2), (20, 4), (32, 32)] = true → c.f 16 2 ≤ 1023 →
        (runsNaming s i cid ≠ [] →
          ∃ t, exec (.streamMigrate cid) s = .next t ∧ (t.stream i).mig = .draining cid ∧
            ∃ e, t.cmd cid = some e ∧ e.waitStream = some i) ∧
        (∀ j, runsNaming s i cid = [] → c.f 16 2 = s.ident.number.toNat → j = streamIndex (c.f 20 4) →
          ∀ refused : Nat → Prop,
          refused = (fun st => ∃ t, exec (.streamMigrate cid) s = .next t ∧ (t.stream i).mig = .none ∧
            (t.stream i).pendSeed = none ∧ t.stream j = (if j = i then t.stream i else s.stream j) ∧
            (t.part (s.stream i).part).streamCause.getLsbD 1 = true ∧ Completed s t c st 0 0) →
          ∀ names, (names ↔ (s.stream i).poison = false ∧ (s.stream j).isOpen = true ∧
            (s.stream j).part = streamPart (c.f 20 4) ∧ s.streamGenOf j = streamGen (c.f 20 4)) →
          ((s.stream i).poison = true → refused stPoisonedData) ∧
          ((s.stream i).poison = false → ¬ names → refused stStaleHandle) ∧
          (names → (s.stream j).restoredFrom ≠ some (s.stream i).placementGen.toNat →
            (s.stream j).awaitContext = false ∨ j = i → refused stBusy) ∧
          (names → (s.stream j).restoredFrom = some (s.stream i).placementGen.toNat → j ≠ i →
            ∃ t, exec (.streamMigrate cid) s = .next t ∧ (t.stream i).isOpen = false ∧
              t.stream j = s.stream j ∧ Completed s t c 0x00 0 (s.stream i).step) ∧
          (∀ b cs, names → (s.stream j).restoredFrom ≠ some (s.stream i).placementGen.toNat → j ≠ i →
            (s.stream j).awaitContext = true → (s.stream i).sink = none → (s.stream j).sink = none →
            b = captureCtx (s.modStream i applySeed) i false → Restores s j b false [] cs →
            ∃ t, exec (.streamMigrate cid) s = .next t ∧ (t.stream i).isOpen = false ∧
              t.stream j = restoreStream (s.stream j) (ctxHead b) (s.stream i).edges (s.stream i).carried
                (restoredSeats s j) ∧
              Completed s t c 0x00 0 (s.stream i).step)) ∧
        (∀ b, runsNaming s i cid = [] → (s.stream i).poison = false → c.f 16 2 ≠ s.ident.number.toNat →
          b = captureCtx (s.modStream i applySeed) i true → b.length < 2 ^ 32 →
          (unreachable s (c.f 16 2) = false → routePort s (c.f 16 2) ≠ none →
            ∃ t, exec (.streamMigrate cid) s = .next t ∧ t.cmd cid ≠ none ∧
              (t.stream i).mig = .delivered cid (s.stream i).step (ctxDigest b) s.now ∧
              ∃ q ∈ t.vertex.reqs, q.type = 3 ∧ q.dest = c.f 16 2 ∧ q.purpose = .migrate i ∧
                q.hdr.address = c.f 20 4 ∧ q.data = b) ∧
          (unreachable s (c.f 16 2) = true ∨ routePort s (c.f 16 2) = none →
            ∃ t, exec (.streamMigrate cid) s = .next t ∧ (t.stream i).mig = .fenced (c.f 16 2) (c.f 20 4) ∧
              Completed s t c stFabricUnreachable 0 0)))) ∧
    (∀ d h, i = streamIndex c.object → checkStream s c.fn c.partition c.object = none → closing s i c.cid = false →
      (s.stream i).mig = .fenced d h →
      (∀ p ∈ [(Instr.streamSeed, 0x32), (.streamReset, 0x33), (.stateRestore, 0x36), (.stateEvict, 0x37),
          (.portBind, 0x41)], Ready s cid p.2 c → ends p.1 stBusy 0 1) ∧
      (Ready s cid 0x38 c → c.only [(16, 2), (20, 4), (32, 32)] = true → c.f 16 2 ≤ 1023 →
        c.f 16 2 ≠ d ∨ c.f 20 4 ≠ h → ends .streamMigrate stBusy 0 1)) ∧
    (∀ m, i = streamIndex c.object → checkStream s c.fn c.partition c.object = none → closing s i c.cid = false →
      (s.stream i).mig = .draining m → m ≠ cid →
      ∀ p ∈ [(Instr.streamClose, 0x31), (.streamSeed, 0x32), (.streamReset, 0x33), (.stateRestore, 0x36),
          (.stateEvict, 0x37), (.streamMigrate, 0x38), (.portBind, 0x41)], Ready s cid p.2 c → ends p.1 stBusy 0 2) ∧
    (∀ step digest since, (s.stream i).mig = .delivered cid step digest since → s.cmd cid = some c →
      (∀ status key r sg, s.live = true →
        (status ≠ 0 →
          ∃ t, exec (.migrateAck i status key r sg) s = .next t ∧ (t.stream i).mig = .none ∧
            Completed s t c status 0 0) ∧
        (status = 0 → sm3 key = slice c.packet 32 32 → sm2Verify key r sg digest = true →
          ∃ t, exec (.migrateAck i status key r sg) s = .next t ∧ (t.stream i).isOpen = false ∧
            Completed s t c 0x00 0 step) ∧
        (status = 0 → sm3 key ≠ slice c.packet 32 32 ∨ sm2Verify key r sg digest = false →
          ∃ t, exec (.migrateAck i status key r sg) s = .next t ∧
            (t.stream i).mig = .fenced (c.f 16 2) (c.f 20 4) ∧ Completed s t c stSecurityDenied 0 0)) ∧
      (s.live = true → since + 1000 * fabricTimeoutUs s ≤ s.now →
        ∃ t, exec (.migrateAckTimeout i) s = .next t ∧ (t.stream i).mig = .fenced (c.f 16 2) (c.f 20 4) ∧
          Completed s t c stFabricUnreachable 0 0) ∧
      (s.live = false ∨ s.now < since + 1000 * fabricTimeoutUs s →
        exec (.migrateAckTimeout i) s = .next (settle s))) ∧
    ((∀ m step digest since, (s.stream i).mig = .delivered m step digest since → s.live = false ∨ s.cmd m = none) →
      (∀ status key r sg, exec (.migrateAck i status key r sg) s = .next (settle s)) ∧
      exec (.migrateAckTimeout i) s = .next (settle s))

/-- A RUN whose tables lie on this device or the host, and which passes the checks of R299 and R300, joins the culet's
queue; one that fails a check completes with the status of the first that it fails, after the RUNs of its streams
before it. Once every base step has run, the members hold its SEQUENCE, a checkpoint that is due is captured, unless
the slots hold poison or the pool has no room for it (log 87), and the RUN completes with the step it reached; one that
a counter limit stopped completes with INVALID_PARAMETER and that member (R116, R158, R184, R221, R259, R299, R300). -/
def Obligations.RunsQueueAndComplete : Prop :=
  (∀ (s : State) (cid : Nat) (c : Cmd), Ready s cid 0x34 c →
    (c.wanting ≠ 0 → exec (.run cid) s = .next (settle s)) ∧
    (c.wanting = 0 → ∀ refuses : Nat → Nat → Nat → Prop,
      refuses = (fun st d res =>
        (behindRun s c = false → ∃ t, exec (.run cid) s = .next t ∧ t.streams = s.streams ∧
          Completed s t c st d res) ∧
        (behindRun s c = true → exec (.run cid) s = .next (settle s))) →
      (runFieldsOk c = false → refuses stInvalidParameter 0 0) ∧
      (∀ dt mt bt hs v ds n, runFieldsOk c = true → TableIs s c (c.f 32 8) (32 * c.f 24 1) c.descTable dt →
        TableIs s c (c.f 40 8) (4 * c.f 22 2) c.memberList mt →
        TableIs s c (c.f 48 8) (bitmapBytes (c.f 22 2) (c.f 16 4)) c.bitmap bt →
        hs = (if c.f 40 8 = 0 then [c.object] else (chunks 4 mt).map leNat) →
        v = voiceOf s (s.stream ((hs.map streamIndex).headD 0)).voice → ds = (chunks 32 dt).map parseDesc →
        n = hs.length →
        (c.readStatus ≠ 0 → refuses c.readStatus 0 0) ∧
        (c.readStatus = 0 → hs.headD 0 ≠ c.object → refuses stInvalidParameter 0 0) ∧
        (c.readStatus = 0 → hs.headD 0 = c.object →
          (∀ st d res, membersCheck s c hs [] 0 = some (st, d, res) → refuses st d res) ∧
          (membersCheck s c hs [] 0 = none →
            (∀ m, badInline c = some m → refuses stInvalidParameter m 0) ∧
            (∀ x, badInline c = none → (bitmapCodes (c.f 16 4) bt).find? (fun x => x.2.2 == 2) = some x →
              refuses stInvalidParameter x.1 0) ∧
            (badInline c = none → (∀ x ∈ bitmapCodes (c.f 16 4) bt, x.2.2 ≠ 2) →
              (∀ d, descsCheck s c v (hs.map streamIndex) (chunks 32 dt) ds = some d →
                refuses stInvalidParameter d 0) ∧
              (descsCheck s c v (hs.map streamIndex) (chunks 32 dt) ds = none →
                (∀ q ∈ ds.zip (upTo ds.length), q.1.format = 3 → 0 < q.1.positions → ∀ j < n, ∀ e,
                  (voiceInputs v).find? (fun x => x.1 == q.2) = some e →
                  ∃ b, IndexRead s c v q j e b ∧ indexesOk v q e b = true) →
                ∃ t, exec (.run cid) s = .next t ∧ t.cmd cid ≠ none ∧
                  ∃ r ∈ t.runs, r.cid = cid ∧ r.members = hs.map streamIndex ∧ r.steps = c.f 16 4 ∧
                    r.part = c.partition ∧ r.descs = ds ∧
                    r.group = (s.stream ((hs.map streamIndex).headD 0)).group ∧
                    r.lc = (s.stream ((hs.map streamIndex).headD 0)).lc ∧ r.dispatched = false) ∧
              (∀ q j, descsCheck s c v (hs.map streamIndex) (chunks 32 dt) ds = none →
                ((ds.zip (upTo ds.length)).filter fun x => x.1.format == 3 && decide (0 < x.1.positions)) = [q] →
                j < n → (∀ i < j, ∃ e b, IndexRead s c v q i e b ∧ indexesOk v q e b = true) →
                (∃ e b, IndexRead s c v q j e b ∧ indexesOk v q e b = false) →
                refuses stInvalidParameter j 0))))))) ∧
  (∀ (s : State) (cid : Nat), s.Canon →
    (∀ c r, s.live = true → s.cmd cid = some c → s.runOf cid = some r → runOver s r = true →
      (∃ t, exec (.runComplete cid) s = .next t ∧ t.cmd cid = none ∧ t.runOf cid = none) ∧
      (r.fin = r.steps → (∀ i ∈ r.members, waiting s i = []) →
        ∃ t, exec (.runComplete cid) s = .next t ∧
          Completed s t c 0x00 (b2n r.stateMiss + 2 * b2n r.modelMiss + 4 * b2n r.longPrompt)
            (s.stream (r.members.headD 0)).step) ∧
      (r.fin < r.steps → (∀ i ∈ r.members, waiting s i = []) →
        ∃ t, exec (.runComplete cid) s = .next t ∧
          Completed s t c stInvalidParameter ((r.stopAt.map (·.2)).getD 0) (s.stream (r.members.headD 0)).step) ∧
      (r.fin = r.steps → r.members.Nodup → (∀ i ∈ r.members, waiting s i = []) →
        ∃ t, exec (.runComplete cid) s = .next t ∧ ∀ i ∈ r.members, ∀ ring due,
          ring = tabGet {} (s.part (s.stream i).part).ckpts (s.stream i).group →
          due = decide (ring.periodK ≠ 0 ∧ ((s.stream i).runsDone + 1) % ring.periodK = 0) →
          (t.stream i).lastSequence = c.sequence ∧ (t.stream i).lastRun = s.now ∧
          (t.stream i).runsDone = (s.stream i).runsDone + 1 ∧
          (due = false ∨ (s.stream i).poison = true → (t.stream i).ckptCopies = (s.stream i).ckptCopies) ∧
          (due = true → (s.stream i).poison = true →
            (t.part (s.stream i).part).streamCause.getLsbD 0 = true) ∧
          ∀ w b, due = true → (s.stream i).poison = false → r.members = [i] →
            w = s.modStream i (fun x =>
              { x with lastSequence := c.sequence, runsDone := x.runsDone + 1, lastRun := s.now }) →
            b = captureCtx w i ring.sign → poolUsed s + b.length ≤ poolBytes s →
            (t.stream i).ckptCopies = (s.stream i).ckptCopies ++ [b])) ∧
    ((∀ r, s.runOf cid = some r → s.live = false ∨ runOver s r = false) →
      exec (.runComplete cid) s = .next (settle s)))

/-! ### Audio ports -/

/-- PORT_CONFIG without clocks takes its configuration, masks and owner at once, and with clocks waits for a frame; a
change of RATE removes the port's bindings. PORT_BIND stages a binding or removes it, or registers a host buffer;
PORT_ARM and PORT_STOP wait for their frames, and an armed slave without clocks holds; ALIGN_GROUP_SET leaves each port
its change for the next frame boundary. Each is refused by its checks, in their order (R301 to R306, R330, R331, R334,
R338 to R341, R372). -/
def Obligations.PortCommandsTakeEffect : Prop :=
  ∀ (s : State) (cid : Nat) (c : Cmd) (p : Nat), s.Canon → ∀ ends : (Nat → Instr) → Nat → Prop,
    ends = (fun row st => ∃ t, exec (row cid) s = .next t ∧ t.ports = s.ports ∧ t.streams = s.streams ∧
      Completed s t c st 0 0) →
    (∀ b q ok rate, Ready s cid 0x40 c → p = c.object → b = slice c.packet 16 24 → q = s.port p →
      (ok ↔ p < 16 ∧ c.only [(16, 24)] = true ∧ ownerOk s (par b 30 2) = true ∧
        (if commitOnly b then commitOnlyOk s p b else configOk s p b) = true) →
      rate = (!commitOnly b && q.configured && par b 18 1 != q.rate.toNat) →
      (¬ ok → ends .portConfig stInvalidParameter) ∧
      (ok → c.fn ≠ 0 → par b 30 2 ≠ q.owner.toNat → ends .portConfig stNotPermitted) ∧
      (ok → c.fn = 0 ∨ par b 30 2 = q.owner.toNat →
        (q.armed = true → changesFields q b = true → ends .portConfig stBusy) ∧
        (q.armed = false ∨ changesFields q b = false →
          (rate = true → lcSource s p = true ∨ (∃ i ∈ portStreams s p, hasRun s i = true) →
            ends .portConfig stBusy) ∧
          (rate = false ∨ lcSource s p = false ∧ (∀ i ∈ portStreams s p, hasRun s i = false) →
            (clocksOn s p = true →
              ∃ t, exec (.portConfig cid) s = .next t ∧ t.cmd cid ≠ none ∧ (t.port p).txMask = q.txMask ∧
                (t.port p).rxMask = q.rxMask ∧ (t.port p).txShadow.toNat = par b 32 4 ∧
                (t.port p).rxShadow.toNat = par b 36 4 ∧
                (t.port p).commits = q.commits ++ [{ cid := cid, since := s.now, params := b }] ∧
                (rate = true → ∀ i k id, (s.stream i).sink = some (.port p k id) → (t.stream i).sink = none)) ∧
            (clocksOn s p = false → q.commits = [] →
              ∃ t, exec (.portConfig cid) s = .next t ∧ Completed s t c 0x00 0 0 ∧
                (t.port p).txMask.toNat = par b 32 4 ∧ (t.port p).rxMask.toNat = par b 36 4 ∧
                (t.port p).owner.toNat = par b 30 2 ∧ (t.port p).cause.getLsbD 10 = true ∧
                (commitOnly b = false → (t.port p).configured = true ∧ (t.port p).rate.toNat = par b 18 1 ∧
                  (t.port p).slots.toNat = par b 19 1 ∧ (t.port p).sample.toNat = par b 21 1 ∧
                  (t.port p).format.toNat = par b 16 1 ∧ (t.port p).clock.toNat = par b 17 1 ∧
                  (t.port p).preroll.toNat = par b 24 2 ∧ (t.port p).postroll.toNat = par b 26 2 ∧
                  (t.port p).startOffset.toNat = par b 28 2) ∧
                (rate = true → ∀ i k id, (s.stream i).sink = some (.port p k id) → (t.stream i).sink = none) ∧
                ∀ x, x ≠ p → t.port x = s.port x))))) ∧
    (∀ i, Ready s cid 0x41 c → OnStream s c i →
      (c.only [(16, 16)] = false ∨ 2 < c.f 16 1 → ends .portBind stInvalidParameter) ∧
      (c.only [(16, 16)] = true → c.f 16 1 ≤ 2 → runsNaming s i cid ≠ [] → ends .portBind stBusy) ∧
      (c.only [(16, 16)] = true → runsNaming s i cid = [] →
        (c.f 16 1 = 0 →
          ∃ t, exec (.portBind cid) s = .next t ∧ (t.stream i).sink = none ∧ Completed s t c 0x00 0 0) ∧
        (c.f 16 1 = 1 → p = c.f 17 1 →
          (16 ≤ p → ends .portBind stInvalidParameter) ∧
          (p < 16 → (s.port p).owner.toNat ≠ c.partition → ends .portBind stNotPermitted) ∧
          (p < 16 → (s.port p).owner.toNat = c.partition → ∀ fits,
            (fits ↔ (s.port p).configured = true ∧ c.f 18 1 < (s.port p).slots.toNat ∧
              portVoiceOk s p (voiceOf s (s.stream i).voice) = true) →
            (¬ fits → ends .portBind stInvalidParameter) ∧
            (fits → slotTaken ((s.port p).slot (c.f 18 1)) i = true → ends .portBind stBusy) ∧
            (fits → slotTaken ((s.port p).slot (c.f 18 1)) i = false →
              ∃ t, exec (.portBind cid) s = .next t ∧ Completed s t c 0x00 0 0 ∧
                (t.stream i).sink = some (.port p (c.f 18 1) (c.f 20 4)) ∧
                ((t.port p).slot (c.f 18 1)).staged = some (some (i, c.f 20 4))))) ∧
        (∀ v n id ok, c.f 16 1 = 2 → v = c.f 24 8 → n = c.f 19 1 → id = c.f 20 4 →
          (ok ↔ 12 ≤ n ∧ n ≤ 30 ∧ addrSpace v = 2 ∧ addrValid v = true ∧ v % 4096 = 0) →
          (¬ ok → ends .portBind stInvalidParameter) ∧
          (ok → mayName s c.fn v (2 ^ n) false = false → ends .portBind stNotPermitted) ∧
          (ok → mayName s c.fn v (2 ^ n) false = true → addrRemote s v = true → ∀ d, d = addrDevice (v % 2 ^ 52) →
            (unreachable s d = false → routePort s d ≠ none →
              ∃ t, exec (.portBind cid) s = .next t ∧ t.cmd cid ≠ none ∧
                t.stream i = { s.stream i with sink := some (.host (v % 2 ^ 52) n id), sinkRegistered := false } ∧
                ∃ q ∈ t.vertex.reqs, q.type = 5 ∧ q.dest = d ∧ q.purpose = .registerSink cid i ∧
                  q.hdr.address = v % 2 ^ 52 ∧ q.hdr.sinkId = id) ∧
            (unreachable s d = true ∨ routePort s d = none → ends .portBind stFabricUnreachable)) ∧
          (ok → mayName s c.fn v (2 ^ n) false = true → addrRemote s v = false → ∀ key, key = hostKey s c.partition id →
            (regFind s key ≠ none ∨ s.vertex.regs.length < 65536 →
              ∃ t, exec (.portBind cid) s = .next t ∧ Completed s t c 0x00 0 0 ∧ regFind t key ≠ none ∧
                (t.stream i).sink = some (.host (v % 2 ^ 52) n id) ∧ (t.stream i).sinkRegistered = true) ∧
            (regFind s key = none → 65536 ≤ s.vertex.regs.length → ends .portBind stNoResource))))) ∧
    (Ready s cid 0x42 c → p = c.object → ∀ ok, (ok ↔ p < 16 ∧ c.only [(16, 1)] = true ∧ c.f 16 1 ≤ 3) →
      (¬ ok → ends .portArm stInvalidParameter) ∧
      (ok → (s.port p).configured = false → ends .portArm stNotFound) ∧
      (ok → (s.port p).configured = true → (s.port p).armed = true ∨ (3, p) ∈ s.test.loops →
        ends .portArm stBusy) ∧
      (ok → (s.port p).configured = true → (s.port p).armed = false → (3, p) ∉ s.test.loops →
        ∃ t, exec (.portArm cid) s = .next t ∧ (t.port p).armed = true ∧ (t.port p).arm = some (cid, s.now) ∧
          ((t.port p).immediate = true ↔ c.f 16 1 % 2 = 1) ∧ ((t.port p).startMaster = true ↔ 2 ≤ c.f 16 1) ∧
          (t.port p).state = (if (s.port p).clock = 2 ∧ clocksOn s p = false then 5 else 0) ∧ t.cmd cid ≠ none)) ∧
    (Ready s cid 0x43 c → p = c.object →
      (16 ≤ p ∨ c.only [] = false → ends .portStop stInvalidParameter) ∧
      (p < 16 → c.only [] = true → (s.port p).armed = false ∨ (s.port p).stop ≠ none → ends .portStop stBusy) ∧
      (p < 16 → c.only [] = true → (s.port p).armed = true → (s.port p).stop = none →
        ∃ t, exec (.portStop cid) s = .next t ∧ (t.port p).stop = some (some cid, s.now) ∧
          (t.port p).state = (s.port p).state ∧ t.cmd cid ≠ none)) ∧
    (∀ g (mask : Nat → Nat) (named : Nat → Prop) own ok, Ready s cid 0x44 c → g = c.f 16 1 →
      mask = (fun q => c.f (32 + 4 * q) 4) → named = (fun q => q < 16 ∧ (mask q ≠ 0 ∨ inGroup (s.port q) g ≠ [])) →
      (own ↔ c.fn = 0 ∨ ∀ q, named q → ownsPort s c.fn q = true) →
      (ok ↔ c.only [(16, 2), (32, 64)] = true ∧ g ≤ 15 ∧ c.f 17 1 ≤ 1 ∧
        ∀ q, named q → mask q < 2 ^ (s.port q).slots.toNat ∧
          ∀ k < 32, (mask q).testBit k = true → (groupOf (s.port q) k).all (fun x => x % 16 == g) = true) →
      (¬ own → ends .alignGroupSet stNotPermitted) ∧
      (own → ¬ ok → ends .alignGroupSet stInvalidParameter) ∧
      (own → ok →
        ∃ t, exec (.alignGroupSet cid) s = .next t ∧ Completed s t c 0x00 0 0 ∧ ∀ q < 16, ∀ k < 32,
          ((mask q).testBit k = true → (k, some (g + 16 * c.f 17 1)) ∈ (t.port q).regroup) ∧
          ((mask q).testBit k = false → k ∈ inGroup (s.port q) g → (k, none) ∈ (t.port q).regroup)))

/-- An arm acts at a frame, pre-roll leads to WAIT_START or RUN, START names the first data frame, a stop discards what
is queued and runs to the end of post-roll, a commit takes its masks, and loss of clock holds an armed port until its
clocks are framed again. In a frame of RUN each transmit slot sends the oldest sample of its queue, or its last sample
again, or zero before its first, and each receive slot takes the sample of its word; in the other states slots send
zeros; so they do once a fatal fault or THERMTRIP_N has stopped the device (R304, R305, R330 to R337, R339, R343, R344,
R389, R395, R419, R481). -/
def Obligations.PortsFollowTheirStates : Prop :=
  ∀ (s : State) (p : Nat), s.Canon → p < 16 → ∀ stays : Instr → Prop,
    stays = (fun i => exec i s = .next (settle s)) →
    (s.live = true → armDue s p = true →
      ∃ t, exec (.portArmAction p) s = .next t ∧ (t.port p).state = 1 ∧ (t.port p).armFrame = some (nextOf s p)) ∧
    (s.live = false ∨ armDue s p = false → stays (.portArmAction p)) ∧
    (s.live = true → prerollDue s p = true →
      ∃ t, exec (.prerollEnd p) s = .next t ∧ (t.port p).arm = none ∧
        (t.port p).state = (if (s.port p).immediate then 3 else 2) ∧
        ∀ cid at' c, (s.port p).arm = some (cid, at') → s.cmd cid = some c →
          Completed s t c 0x00 0 (nextOf s p)) ∧
    (s.live = false ∨ prerollDue s p = false → stays (.prerollEnd p)) ∧
    (s.live = true → armLate s p = true →
      ∃ t, exec (.portArmTimeout p) s = .next t ∧ (t.port p).armed = false ∧ (t.port p).arm = none ∧
        (t.port p).stop = none ∧ (t.port p).state = (if (s.port p).state = 5 then 0 else (s.port p).state) ∧
        ∀ cid at' c, (s.port p).arm = some (cid, at') → s.cmd cid = some c →
          Completed s t c stTimeout 0 0 ∧
          ∀ cid' at'' c', (s.port p).stop = some (some cid', at'') → s.cmd cid' = some c' → cid' ≠ cid →
            Completed s t c' stBusy 0 0) ∧
    (s.live = false ∨ armLate s p = false → stays (.portArmTimeout p)) ∧
    (s.live = true →
      ((s.port p).state = 2 → (s.port p).dataKnown = false →
        ∃ t, exec (.startInEdge p) s = .next t ∧ (t.port p).dataKnown = true ∧ (t.port p).cause.getLsbD 2 = true ∧
          (t.port p).startFrame = BitVec.ofNat 64 (framesOf s p - 1) ∧
          (t.port p).dataFrame = BitVec.ofNat 64 (framesOf s p - 1 + max 1 (s.port p).startOffset.toNat)) ∧
      ((s.port p).state = 1 →
        ∃ t, exec (.startInEdge p) s = .next t ∧ (t.port p).cause.getLsbD 3 = true ∧ (t.port p).state = 1 ∧
          (t.port p).dataKnown = (s.port p).dataKnown) ∧
      ((s.port p).state ≠ 1 → (s.port p).state ≠ 2 ∨ (s.port p).dataKnown = true →
        ∃ t, exec (.startInEdge p) s = .next t ∧ ∀ x, t.port x = s.port x)) ∧
    (s.live = false → stays (.startInEdge p)) ∧
    (s.live = true → stopDue s p = true →
      ∃ t, exec (.portStopAction p) s = .next t ∧ (t.port p).state = 4 ∧ (t.port p).stopFrame = some (nextOf s p) ∧
        ∀ k, ((t.port p).slot k).txq = [] ∧ ((t.port p).slot k).rxq = []) ∧
    (s.live = false ∨ stopDue s p = false → stays (.portStopAction p)) ∧
    (s.live = true → postrollDue s p = true →
      ∃ t, exec (.postrollEnd p) s = .next t ∧ (t.port p).state = 0 ∧ (t.port p).armed = false ∧
        ∀ cid at' c, (s.port p).stop = some (some cid, at') → s.cmd cid = some c →
          (∀ x, ∀ m ∈ (s.port x).commits, m.cid ≠ cid) →
          Completed s t c 0x00 0
            (((s.port p).stopFrame.getD 0 + (s.port p).postroll.toNat + 2 ^ 64 - 1) % 2 ^ 64)) ∧
    (s.live = false ∨ postrollDue s p = false → stays (.postrollEnd p)) ∧
    (∀ m, s.live = true → commitDue s p = some m →
      ∃ t, exec (.portCommit p) s = .next t ∧ (t.port p).cause.getLsbD 10 = true ∧
        ((s.port p).commits = [m] ∨ (commitOnly m.params = true ∧ clocksOn s p = true) →
          (t.port p).txMask.toNat = par m.params 32 4 ∧ (t.port p).rxMask.toNat = par m.params 36 4) ∧
        ∀ c, s.cmd m.cid = some c → Completed s t c 0x00 0 0) ∧
    (s.live = false ∨ commitDue s p = none → stays (.portCommit p)) ∧
    (∀ due, (due ↔ s.live = true ∧ (s.port p).clock = 2 ∧ (s.port p).clockOk = true ∧ leaderOf s p = p ∧
        clockSilent s p = true) →
      (due →
        ∃ t, exec (.clockLost p) s = .next t ∧ ∀ q ∈ sharing s p, (t.port q).clockOk = false ∧
          (t.port q).everOk = true ∧ (t.port q).cause.getLsbD 0 = true ∧
          ((s.port q).armed = true → (t.port q).state = 5)) ∧
      (¬ due → stays (.clockLost p))) ∧
    (∀ a b n due, n = (s.port p).slots.toNat * widthBits (s.port p).width.toNat →
      (due ↔ s.live = true ∧ (s.port p).configured = true ∧ (s.port p).clock = 2 ∧ (s.port p).clockOk = false ∧
        leaderOf s p = p ∧ a = n ∧ b = n) →
      (due →
        ∃ t, exec (.clockReturned p a b) s = .next t ∧ ∀ q ∈ sharing s p, (t.port q).clockOk = true ∧
          ((s.port q).everOk = true → (t.port q).cause.getLsbD 1 = true) ∧
          (t.port q).state = (if (s.port q).state = 5 then (s.port q).heldState else (s.port q).state)) ∧
      (¬ due → stays (.clockReturned p a b))) ∧
    (∀ k poisoned, k < 32 →
      (∀ w, s.live = true → txWrite s p k = some w →
        (((s.port p).slot k).bound = true → w.gen = ((s.port p).slot k).regGen →
          (poisoned = false → w.poison = false →
            ∃ t, exec (.sinkWriteTx p k poisoned) s = .next t ∧ t.sinkWrites.length + 1 = s.sinkWrites.length ∧
              ((t.port p).slot k).txq = ((s.port p).slot k).txq ++ [w.value]) ∧
          (poisoned = true ∨ w.poison = true →
            ∃ t, exec (.sinkWriteTx p k poisoned) s = .next t ∧ t.sinkWrites.length + 1 = s.sinkWrites.length ∧
              ((t.port p).slot k).txq = ((s.port p).slot k).txq ++
                [((s.port p).slot k).txq.getLastD ((s.port p).slot k).last] ∧
              ((s.part w.part).valid = true → (s.part w.part).resetting = none →
                w.group ∈ (t.part w.part).tearing))) ∧
        (((s.port p).slot k).bound = false ∨ w.gen ≠ ((s.port p).slot k).regGen →
          ∃ t, exec (.sinkWriteTx p k poisoned) s = .next t ∧ t.sinkWrites.length + 1 = s.sinkWrites.length ∧
            (t.port p).slotTab = (s.port p).slotTab ∧ (t.port p).staleDrops = addSat (s.port p).staleDrops 1 ∧
            (t.port p).cause.getLsbD 6 = true)) ∧
      (s.live = false ∨ txWrite s p k = none → stays (.sinkWriteTx p k poisoned))) ∧
    (∀ bclks ps rx q, q = s.port p →
      (∀ n, s.live = true → q.configured = true → frameDue s p = true → frameActs s p = s → clocksOn s p = true →
        n = nextOf s p → ∃ t, exec (.portFrameBoundary p bclks ps rx) s = .next t ∧ (t.port p).nextFrame = n + 1 ∧
          (q.clock = 2 → bclks ≠ q.slots.toNat * widthBits q.width.toNat →
            (t.port p).framingErrors = addSat q.framingErrors 1 ∧ (t.port p).cause.getLsbD 8 = true) ∧
          (q.clock ≠ 2 ∨ bclks = q.slots.toNat * widthBits q.width.toNat →
            (q.state = 0 ∨ q.state = 5 → (t.port p).sdo = []) ∧
            (q.state ≠ 0 → q.state ≠ 3 → q.state ≠ 5 → (t.port p).sdo =
              (upTo q.slots.toNat).map fun k => if q.txMask.getLsbD k then some q.zeroWord else offWord q) ∧
            (∀ k x, q.state = 3 → k < q.slots.toNat → q.regroup = [] → x = q.slot k →
              (q.txMask.getLsbD k = false → (t.port p).sdo.getD k none = offWord q) ∧
              (q.txMask.getLsbD k = true → x.release = false → x.group = none → x.bound = true →
                ((t.port p).slot k).txq = x.txq.drop 1 ∧
                (∀ a r, x.txq = a :: r → (t.port p).sdo.getD k none = some (q.word a)) ∧
                (x.txq = [] → x.started = true → (t.port p).sdo.getD k none = some (q.word x.last) ∧
                  ((t.port p).slot k).txRepeats = addSat x.txRepeats 1) ∧
                (x.txq = [] → x.started = false → (t.port p).sdo.getD k none = some q.zeroWord)) ∧
              (q.rxMask.getLsbD k = true → x.owed = 0 →
                (x.rxq.length < q.depth → ((t.port p).slot k).rxq =
                  x.rxq ++ [slotCode q.sample.toNat q.width.toNat (rx.getD k 0)]) ∧
                (q.depth ≤ x.rxq.length → ((t.port p).slot k).rxq = x.rxq ∧ ((t.port p).slot k).owed = 1 ∧
                  (t.port p).cause.getLsbD 5 = true))))) ∧
      (s.mode = .fatal ∨ s.mode = .tripped → clocksOn s p = true →
        ∃ t, exec (.portFrameBoundary p bclks ps rx) s = .next t ∧ (t.port p).nextFrame = q.nextFrame + 1 ∧
          (t.port p).startOut = false ∧
          (q.state ≠ 0 → q.state ≠ 5 → (t.port p).sdo = List.replicate q.slots.toNat (some q.zeroWord))) ∧
      (s.mode ≠ .fatal → s.mode ≠ .tripped → s.live = false ∨ q.configured = false ∨ frameDue s p = false →
        stays (.portFrameBoundary p bclks ps rx)))


/-! ### The vertex: windows, links, requests -/

/-- WINDOW_EXPORT adds a window whose number is RESULT, with the readers that its mask names, or withdraws one with its
registrations; WINDOW_IMPORT answers for a window of this device and asks another device; a COPY within LPDDR5X leaves
the source's bytes at the destination and every other byte as it was, ends with POISONED_DATA at a poisoned source, and
reads the host or another device first; each is refused by its checks, in their order. A write at an ADDR changes its
bytes alone (R307 to R309, R352, R355, R368, R369). -/
def Obligations.WindowsAndCopies : Prop :=
  (∀ (s : State) (cid : Nat) (c : Cmd) (ends : Nat → Prop), Ready s cid 0x50 c →
    ends = (fun st => ∃ t, exec (.windowExport cid) s = .next t ∧ t.vertex.windows = s.vertex.windows ∧
      t.vertex.regs = s.vertex.regs ∧ Completed s t c st 0 0) →
    (c.only [(16, 1), (24, 24)] = false ∨ 1 < c.f 16 1 → ends stInvalidParameter) ∧
    (c.only [(16, 1), (24, 24)] = true → c.f 16 1 ≤ 1 →
      (c.object ≠ 0 →
        (c.f 32 8 ≠ 0 → ends stInvalidParameter) ∧
        (c.f 32 8 = 0 → (∀ q ∈ s.vertex.windows, q.1 + 1 = c.object → q.2.owner ≠ c.partition) → ends stNotFound) ∧
        (∀ q ∈ s.vertex.windows, q.1 + 1 = c.object → q.2.owner = c.partition → c.f 32 8 = 0 →
          ∃ t, exec (.windowExport cid) s = .next t ∧ (∀ x ∈ t.vertex.windows, x.1 ≠ q.1) ∧
            (∀ x ∈ s.vertex.windows, x.1 ≠ q.1 → x ∈ t.vertex.windows) ∧ (∀ x ∈ t.vertex.regs, x.1.1 ≠ q.1) ∧
            Completed s t c 0x00 0 0)) ∧
      (∀ fits, c.object = 0 → (fits ↔ addrSpace (c.f 24 8) = 1 ∧ addrValid (c.f 24 8) = true ∧
          c.f 24 8 % 4096 = 0 ∧ c.f 32 8 % 4096 = 0) →
        (¬ fits → ends stInvalidParameter) ∧
        (fits → mayName s c.fn (c.f 24 8) (c.f 32 8) false = false → ends stNotPermitted) ∧
        (∀ readers w, fits → mayName s c.fn (c.f 24 8) (c.f 32 8) false = true →
          (c.f 40 8 = 0 ∧ readers = none ∨
            ∃ b, c.f 40 8 ≠ 0 ∧ PlainRead s c.fn (c.f 40 8) 128 b ∧ readers = some (leNat b)) →
          w = gapFrom 0 (sortNat (s.vertex.windows.map (·.1))) →
          (4096 ≤ w → ends stNoResource) ∧
          (w < 4096 →
            ∃ t win, exec (.windowExport cid) s = .next t ∧ t.vertex.windows = s.vertex.windows ++ [(w, win)] ∧
              ((s.vertex.windows.map (·.1)).Nodup → ∀ q ∈ s.vertex.windows, q.1 ≠ w) ∧ win.owner = c.partition ∧
              (win.writable = true ↔ c.f 16 1 = 1) ∧ win.base = c.f 24 8 % 2 ^ 42 ∧ win.bytes = c.f 32 8 ∧
              win.readers = readers ∧ Completed s t c 0x00 (min 0xFFFF win.images.length) w))))) ∧
  (∀ (s : State) (cid : Nat) (c : Cmd) (ends : Nat → Prop), Ready s cid 0x51 c →
    ends = (fun st => ∃ t, exec (.windowImport cid) s = .next t ∧ t.vertex = s.vertex ∧ Completed s t c st 0 0) →
    (c.only [(16, 4)] = false ∨ 1023 < c.f 16 2 → ends stInvalidParameter) ∧
    (c.only [(16, 4)] = true → c.f 16 2 ≤ 1023 → c.f 16 2 = s.ident.number.toNat →
      (s.vertex.windows.find? (fun x => x.1 == c.f 18 2) = none → ends stNotFound) ∧
      (∀ q, s.vertex.windows.find? (fun x => x.1 == c.f 18 2) = some q →
        (q.2.readable s.ident.number.toNat = false → ends stNotPermitted) ∧
        (q.2.readable s.ident.number.toNat = true →
          ∃ t, exec (.windowImport cid) s = .next t ∧
            Completed s t c 0x00 (if q.2.writable then 1 else 0) (s.ident.number.toNat * 2 ^ 42 + q.2.base)))) ∧
    (c.only [(16, 4)] = true → c.f 16 2 ≤ 1023 → c.f 16 2 ≠ s.ident.number.toNat →
      (unreachable s (c.f 16 2) = true ∨ routePort s (c.f 16 2) = none → ends stFabricUnreachable) ∧
      (∀ p, unreachable s (c.f 16 2) = false → routePort s (c.f 16 2) = some p →
        ∃ t q, exec (.windowImport cid) s = .next t ∧ t.vertex.reqs = s.vertex.reqs ++ [q] ∧ q.type = 7 ∧
          q.dest = c.f 16 2 ∧ q.port = p ∧ q.purpose = .windowImport cid ∧ q.hdr.address = c.f 18 2 + 1 ∧
          t.cmd cid ≠ none))) ∧
  (∀ (s : State) (cid : Nat) (c : Cmd) (u v a b n : Nat) (ends : Nat → Prop), s.Canon → Ready s cid 0x52 c →
    u = c.f 16 8 → v = c.f 24 8 → a = u % 2 ^ 42 → b = v % 2 ^ 42 → n = c.f 32 8 →
    ends = (fun st => ∃ t, exec (.copy cid) s = .next t ∧ t.mem = s.mem ∧ t.hostMem = s.hostMem ∧
      Completed s t c st 0 0) →
    ∀ ok may, (ok ↔ c.only [(16, 24)] = true ∧ addrValid u = true ∧ addrValid v = true ∧ copyOverlaps s c = false) →
    (may ↔ mayName s c.fn u n true = true ∧ mayName s c.fn v n false = true ∧ intoObject s c = false) →
    (¬ ok → ends stInvalidParameter) ∧
    (ok → ¬ may → ends stNotPermitted) ∧
    (ok → may → memLooped s u n = true ∨ memLooped s v n = true → ends stBusy) ∧
    (ok → may → memLooped s u n = false → memLooped s v n = false →
      (n = 0 → ends 0x00) ∧
      (n ≠ 0 → addrSpace u ≠ 0 → addrRemote s u = false → a + n ≤ usable s →
        (lpPoison s a n = false → addrSpace v ≠ 0 → addrRemote s v = false → b + n ≤ usable s →
          ∃ t, exec (.copy cid) s = .next t ∧ (∀ i < n, byteAt t.mem (b + i) = lpByte s (a + i)) ∧
            (∀ x, x < b ∨ b + n ≤ x → byteAt t.mem x = byteAt s.mem x) ∧ t.hostMem = s.hostMem ∧
            Completed s t c 0x00 0 n) ∧
        (lpPoison s a n = true → addrSpace v ≠ 0 → addrRemote s v = false → b + n ≤ usable s →
          ∃ t r, exec (.copy cid) s = .next t ∧ r < n ∧
            (∀ x, x < b ∨ b + n ≤ x → byteAt t.mem x = byteAt s.mem x) ∧ Completed s t c stPoisonedData 0 r) ∧
        (lpPoison s a n = false → addrRemote s v = true → unreachable s (addrDevice v) = false →
          routePort s (addrDevice v) ≠ none →
          ∃ t, exec (.copy cid) s = .next t ∧ t.mem = s.mem ∧ t.cmd cid ≠ none ∧
            ∃ q ∈ t.vertex.reqs, q.type = 2 ∧ q.dest = addrDevice v ∧ q.purpose = .copyWrite cid)) ∧
      (n ≠ 0 → addrRemote s u = true →
        (unreachable s (addrDevice u) = true ∨ routePort s (addrDevice u) = none → ends stFabricUnreachable) ∧
        (unreachable s (addrDevice u) = false → routePort s (addrDevice u) ≠ none →
          ∃ t, exec (.copy cid) s = .next t ∧ t.mem = s.mem ∧ t.cmd cid ≠ none ∧
            ∃ q ∈ t.vertex.reqs, q.type = 1 ∧ q.dest = addrDevice u ∧ q.purpose = .copyRead cid)) ∧
      (n ≠ 0 → addrSpace u = 0 → nextPcieTag s ≠ none →
        ∃ t, exec (.copy cid) s = .next t ∧ t.mem = s.mem ∧ t.cmd cid ≠ none ∧
          ∃ x ∈ t.pcieReads, x.fn = c.fn ∧ x.addr = addrBits u ∧ x.purpose = .copy cid))) ∧
  (∀ (s : State) (f v : Nat) (d : Bytes), s.Canon → d ≠ [] →
    (addrSpace v = 0 → hostFails s (addrBits v) d.length = false →
      (addrWrite s f v d false).1.mem = s.mem ∧
      ∀ x, byteAt (addrWrite s f v d false).1.hostMem x =
        if addrBits v ≤ x ∧ x < addrBits v + d.length then d.getD (x - addrBits v) 0 else byteAt s.hostMem x) ∧
    (addrSpace v ≠ 0 → v % 2 ^ 42 + d.length ≤ usable s →
      (addrWrite s f v d false).1.hostMem = s.hostMem ∧
      ∀ x, byteAt (addrWrite s f v d false).1.mem x =
        if v % 2 ^ 42 ≤ x ∧ x < v % 2 ^ 42 + d.length then d.getD (x - v % 2 ^ 42) 0 else byteAt s.mem x))

/-- A link that goes down, a training attempt, 1 ms after the last one or the loss of the link, its end, a version
announced on a trained link, a flit that is acknowledged or asked for again, with the acknowledgements, credits and
replay it carries, and a pass of the scrub, once in its interval, have the effects of R352, R354 and R360 to R363;
without the link or the setting that they need, they leave the device as it is. A transmitter serves a packet whose
channel has a credit, VC 0 first and requests of latency-critical partitions next (R364). -/
def Obligations.LinksAndScrubFollowTheirRules : Prop :=
  ∀ (s : State) (p : Nat), p < 8 → ∀ stays : Instr → Prop, stays = (fun i => exec i s = .next (settle s)) →
    (s.live = true → (s.fabPort p).trained = true →
      ∃ t, exec (.linkDown p) s = .next t ∧ (t.fabPort p).trained = false ∧
        (t.fabPort p).linkDowns = addSat (s.fabPort p).linkDowns 1 ∧ (t.fabPort p).replayBuf = [] ∧
        (t.fabPort p).nextAttempt = s.now + 1000000 ∧
        (NoneHeld s → t.vertex.cause.getLsbD 0 = true ∧ t.vertex.reqs = s.vertex.reqs)) ∧
    (∀ train, (train ↔ s.ident.numberValid = true ∧ s.vertex.portEnable.getLsbD p = true ∧
        (s.fabPort p).trained = false ∧ (0, p) ∉ s.test.loops) →
      (s.live = true → train → (s.fabPort p).nextAttempt ≤ s.now →
        ∃ t, exec (.linkTrainAttempt p) s = .next t ∧ (t.fabPort p).attempting = true ∧
          (t.fabPort p).nextAttempt = s.now + 1000000 ∧
          Sends s t (.announce p s.ident.number.toNat s.vertex.protoMajor.toNat s.vertex.protoMinor.toNat)) ∧
      (s.live = false ∨ ¬ train ∨ s.now < (s.fabPort p).nextAttempt → stays (.linkTrainAttempt p)) ∧
      ∀ w major minor dev peer, w < 3 → major < 256 → minor < 256 → dev < 1024 → peer < 8 →
        (s.live = true → train → (s.fabPort p).attempting = true → major = s.vertex.protoMajor.toNat →
          ∃ t, exec (.linkUp p w major minor dev peer) s = .next t ∧ (t.fabPort p).trained = true ∧
            (t.fabPort p).width.toNat = w ∧ (t.fabPort p).linkMinor.toNat = min minor s.vertex.protoMinor.toNat ∧
            (t.fabPort p).peerMinor.toNat = minor ∧ (t.fabPort p).peerDevice.toNat = dev ∧
            (t.fabPort p).peerPort.toNat = peer ∧ (t.fabPort p).versionRefused = false ∧
            (t.fabPort p).txSeq = 0 ∧ (t.fabPort p).rxSeq = 0 ∧
            (NoneHeld s →
              t.vertex.unreachable = tabMod 0 s.vertex.unreachable (dev / 32) (fun m => clearBit m (dev % 32)) ∧
              t.vertex.cause.getLsbD 1 = true ∧
              (w ≠ 0 → t.vertex.cause.getLsbD 2 = true))) ∧
        (s.live = true → train → (s.fabPort p).attempting = true → major ≠ s.vertex.protoMajor.toNat →
          ∃ t, exec (.linkUp p w major minor dev peer) s = .next t ∧ (t.fabPort p).trained = false ∧
            (t.fabPort p).versionRefused = true ∧ t.vertex.cause.getLsbD 3 = true) ∧
        (s.live = false ∨ ¬ train ∨ (s.fabPort p).attempting = false →
          stays (.linkUp p w major minor dev peer))) ∧
    (∀ major minor, s.live = true → (s.fabPort p).trained = true → major < 256 → minor < 256 →
      ∃ t, exec (.versionAnnounce p major minor) s = .next t ∧
        (major = s.vertex.protoMajor.toNat → (t.fabPort p).trained = true ∧
          (t.fabPort p).linkMinor.toNat = min minor s.vertex.protoMinor.toNat ∧
          (t.fabPort p).peerMinor.toNat = minor) ∧
        (major ≠ s.vertex.protoMajor.toNat → (t.fabPort p).trained = false)) ∧
    (∀ h decoded crcOk, Instr.wf (.flitArrival p h decoded crcOk) = true → s.live = true →
      (s.fabPort p).trained = true →
      ∃ t, exec (.flitArrival p h decoded crcOk) s = .next t ∧
        (t.fabPort p).fecCorrected = addWrap (s.fabPort p).fecCorrected h.corrected ∧
        (decoded = true → crcOk = true →
          (t.fabPort p).replaysInRow = 0 ∧ (t.fabPort p).replays = (s.fabPort p).replays ∧
          (t.fabPort p).rxSeq = h.seq + 1 ∧ (NoneHeld s → Sends s t (.flitAck p h.seq)) ∧
          (h.replay = none → (t.fabPort p).trained = true ∧
            (t.fabPort p).replayBuf = (s.fabPort p).replayBuf.filter (fun f => !h.acks.contains f.seq) ∧
            ∀ vc < 4, (t.fabPort p).credit vc = (s.fabPort p).credit vc + h.credits.getD vc 0) ∧
          ∀ n f, h.replay = some n →
            ((s.fabPort p).replayBuf.filter fun x => !h.acks.contains x.seq).find? (fun x => x.seq == n) = some f →
            ((t.fabPort p).trained = true ↔ f.replays < 31) ∧ (NoneHeld s → Sends s t (.flit p n f.vc))) ∧
        ((decoded = false ∨ crcOk = false) →
          (t.fabPort p).replays = addSat (s.fabPort p).replays 1 ∧
          (NoneHeld s → Sends s t (.flitReplay p (s.fabPort p).rxSeq)) ∧
          ((t.fabPort p).trained = true ↔ (s.fabPort p).replaysInRow < 31)) ∧
        (decoded = false → (t.fabPort p).fecUncorrected = addSat (s.fabPort p).fecUncorrected 1)) ∧
    (∀ q : FabPort,
      (nextPacket q = none ↔ ∀ x ∈ q.outq, q.credit x.vc = 0) ∧
      ∀ o, nextPacket q = some o → o ∈ q.outq ∧ 0 < q.credit o.vc ∧
        (o.vc ≠ 0 → (∀ x ∈ q.outq, x.vc = 0 → q.credit 0 = 0) ∧
          (o.lc = false → ∀ x ∈ q.outq, x.lc = true → q.credit x.vc = 0))) ∧
    (s.live = false ∨ (s.fabPort p).trained = false →
      stays (.linkDown p) ∧ (∀ major minor, stays (.versionAnnounce p major minor)) ∧
      ∀ h decoded crcOk, stays (.flitArrival p h decoded crcOk)) ∧
    (∀ ces ues due, (due ↔ s.live = true ∧ s.memc.trained = true ∧ s.memc.inlineEcc = true ∧ s.memc.scrubH ≠ 0 ∧
        s.memc.scrubAt + s.memc.scrubH.toNat * 3600000000000 ≤ s.now) →
      (due →
        ∃ t, exec (.scrubPass ces ues) s = .next t ∧ t.memc.scrubPasses = addSat s.memc.scrubPasses 1 ∧ t.mem = s.mem ∧
          t.memc.scrubAt = s.now ∧ t.memc.flips = [] ∧
          (s.Canon → ∀ k, tabGet false t.poison k =
            (tabGet false s.poison k || (decide (32 * k + 32 ≤ usable s) &&
              (ues.contains k || s.memc.flips.any fun q => q.1 == k && q.2 != 1)))) ∧
          (∀ k ∈ ces, 32 * k + 32 ≤ usable s → t.memc.cause.getLsbD 0 = true) ∧
          (∀ k ∈ ues, 32 * k + 32 ≤ usable s → t.memc.cause.getLsbD 1 = true)) ∧
      (¬ due → stays (.scrubPass ces ues)))

/-- What each request of another device does here and what it is answered, and what forwarding, a response, the lack
of one and the 1 ms timer of the vertex do; a request of a TYPE that the device does not know is answered UNSUPPORTED
(R308, R365 to R368, R370 to R375). -/
def Obligations.RequestsAreServedAndAnswered : Prop :=
  ∀ (s : State) (h : FabHdr), ∀ stays : Instr → Prop, stays = (fun i => exec i s = .next (settle s)) →
    (s.live = true → h.dest = s.ident.number.toNat →
      (∃ t, exec (.read h) s = .next t ∧ t.mem = s.mem ∧
        (if blockOk4k h = true ∧ (windowFor s h h.length fun _ => true).isSome = true then
          Answers s t h 0 (localRead s (h.address % 2 ^ 42) h.length).1 (localRead s (h.address % 2 ^ 42) h.length).2
         else Answers s t h 1 [] false)) ∧
      (∀ d,
        (blockOk4k h = false ∨ d.length ≠ h.length ∨ jobWindow s h h.length (fun _ => true) = none →
          ∃ t, exec (.write h d) s = .next t ∧ t.mem = s.mem ∧ t.hostMem = s.hostMem ∧ Answers s t h 1 [] false) ∧
        (blockOk4k h = true → d.length = h.length →
          (jobWindow s h h.length (writeCurrent s h) ≠ none →
            ∃ t, exec (.write h d) s = .next t ∧ t.mem = (localWrite s (h.address % 2 ^ 42) d h.poison).1.mem ∧
              t.hostMem = (localWrite s (h.address % 2 ^ 42) d h.poison).1.hostMem ∧
              Answers s t h (if (localWrite s (h.address % 2 ^ 42) d h.poison).2 then 0 else 5) [] false) ∧
          (jobWindow s h h.length (writeCurrent s h) = none → jobWindow s h h.length (fun _ => true) ≠ none →
            ∃ t, exec (.write h d) s = .next t ∧ t.mem = s.mem ∧ t.hostMem = s.hostMem ∧
              t.vertex.staleDrops = addWrap s.vertex.staleDrops 1 ∧ t.vertex.cause.getLsbD 6 = true ∧
              Answers s t h 4 [] false))) ∧
      (∀ n allows, jobWindow s h n allows = none ↔ addrDevice h.address ≠ s.ident.number.toNat ∨
        ∀ w ∈ s.vertex.windows, w.2.readable h.source = false ∨ w.2.writable = false ∨ allows w = false ∨
          h.address % 2 ^ 42 < w.2.base ∨ w.2.base + w.2.bytes < h.address % 2 ^ 42 + n) ∧
      (∀ w, writeCurrent s h w = true ↔
        h.sink = false ∨ regFind s (w.1, h.sinkId) = some (BitVec.ofNat 16 h.generation)) ∧
      (∀ d, ∀ turned : Nat → Prop,
        turned = (fun st => ∃ t, exec (.message h d) s = .next t ∧ t.streams = s.streams ∧ Answers s t h st [] false) →
        (messageStream s h = none → turned 2) ∧
        (∀ i, messageStream s h = some i →
          (h.length = 0 ∨ d.length ≠ h.length ∨ 2 ^ 32 ≤ h.length → turned 1) ∧
          (h.length ≠ 0 → d.length = h.length → h.length < 2 ^ 32 →
            (h.poison = true → turned 5) ∧
            (h.poison = false → inboxRoom s i d.length = false → turned 3) ∧
            (h.poison = false → inboxRoom s i d.length = true →
              ((s.stream i).restoredFrom = some (ctxHead d).gen ∨ (s.stream i).awaitContext = false ∨
                ctxCheck1 d = false → turned 0) ∧
              (∀ cs v, s.Canon → v = voiceOf s (s.stream i).voice → (s.stream i).awaitContext = true →
                (s.stream i).restoredFrom ≠ some (ctxHead d).gen → Restores s i d true (s.stream i).sourceKey cs →
                (s.stream i).sink = none →
                ∃ t, exec (.message h d) s = .next t ∧
                  t.stream i = restoreStream (s.stream i) (ctxHead d) (continued s v d cs).1 (continued s v d cs).2.1
                    (restoredSeats s i) ∧
                  Answers s t h 0 [] false))))) ∧
      (∀ id,
        (h.address % 2 ^ 20 ≠ 0 ∨ h.length = 0 ∨ 2 ^ 20 < h.length →
          ∃ t, exec (.fetchObject h id) s = .next t ∧ Answers s t h 1 [] false) ∧
        (h.address % 2 ^ 20 = 0 → h.length ≠ 0 → h.length ≤ 2 ^ 20 →
          (findObject s h.source id = none →
            ∃ t, exec (.fetchObject h id) s = .next t ∧ Answers s t h 2 [] false) ∧
          (∀ a n, findObject s h.source id = some (a, n) →
            ∃ t b, exec (.fetchObject h id) s = .next t ∧
              b = localRead s (a + h.address) (min h.length (n - h.address)) ∧ Answers s t h 0 b.1 b.2))) ∧
      (jobWindow s h 1 (fun _ => true) = none →
        (∃ t, exec (.register h) s = .next t ∧ t.vertex.regs = s.vertex.regs ∧ Answers s t h 1 [] false) ∧
        ∃ t, exec (.deregister h) s = .next t ∧ t.vertex.regs = s.vertex.regs ∧ Answers s t h 1 [] false) ∧
      (∀ w g, g = BitVec.ofNat 16 h.generation → jobWindow s h 1 (fun _ => true) = some w →
        (regFind s (w.1, h.sinkId) = none → s.vertex.regs.length < 65536 →
          ∃ t, exec (.register h) s = .next t ∧ regFind t (w.1, h.sinkId) = some g ∧ Answers s t h 0 [] false) ∧
        (∀ old, regFind s (w.1, h.sinkId) = some old →
          ∃ t, exec (.register h) s = .next t ∧ regFind t (w.1, h.sinkId) = some (if newer g old then g else old) ∧
            Answers s t h 0 [] false) ∧
        (regFind s (w.1, h.sinkId) = none → 65536 ≤ s.vertex.regs.length →
          ∃ t, exec (.register h) s = .next t ∧ t.vertex.regs = s.vertex.regs ∧ t.vertex.cause.getLsbD 9 = true ∧
            Answers s t h 6 [] false) ∧
        (∃ t, exec (.deregister h) s = .next t ∧ Answers s t h 0 [] false ∧
          ∀ x, x ∈ t.vertex.regs ↔ x ∈ s.vertex.regs ∧ x ≠ ((w.1, h.sinkId), g))) ∧
      (h.address = 0 → ∃ t, exec (.probe h) s = .next t ∧ Answers s t h 0 [] false) ∧
      (h.address ≠ 0 →
        (s.vertex.windows.find? (fun x => x.1 == h.address - 1) = none →
          ∃ t, exec (.probe h) s = .next t ∧ Answers s t h 2 [] false) ∧
        (∀ q, s.vertex.windows.find? (fun x => x.1 == h.address - 1) = some q →
          (q.2.readable h.source = false → ∃ t, exec (.probe h) s = .next t ∧ Answers s t h 1 [] false) ∧
          (q.2.readable h.source = true → (routePort s h.source).isSome = true →
            ∃ t, exec (.probe h) s = .next t ∧ Sends s t (.fabric 8
              { reqHdr s h.vc h.source h.tag { address := s.ident.number.toNat * 2 ^ 42 + q.2.base, sink := q.2.writable }
                with status := 0 } [])))) ∧
      (∀ d, (∀ q ∈ s.vertex.reqs, q.tag = h.tag → q.heldBack = true) →
        ∃ t, exec (.response h d) s = .next t ∧ t.vertex.lateResponses = addSat s.vertex.lateResponses 1 ∧
          t.vertex.cause.getLsbD 8 = true ∧ t.mem = s.mem) ∧
      (∀ d q c, NoneHeld s → s.vertex.reqs.find? (fun x => x.tag == h.tag) = some q → h.poison = false →
        (∀ cid, q.purpose = .windowImport cid → s.cmd cid = some c →
          (h.status = 0 → ∃ t, exec (.response h d) s = .next t ∧ (∀ x ∈ t.vertex.reqs, x.tag ≠ h.tag) ∧
            Completed s t c 0x00 (if h.sink then 1 else 0) (h.address % 2 ^ 52)) ∧
          (h.status = 2 → ∃ t, exec (.response h d) s = .next t ∧ (∀ x ∈ t.vertex.reqs, x.tag ≠ h.tag) ∧
            Completed s t c stNotFound 0 0)) ∧
        (q.purpose = .probe → h.status = 0 →
          ∃ t, exec (.response h d) s = .next t ∧
            t.vertex.unreachable =
              tabMod 0 s.vertex.unreachable (q.dest / 32) (fun m => clearBit m (q.dest % 32))))) ∧
    (s.live = true → h.dest ≠ s.ident.number.toNat → ∀ type d,
      (∀ p, 1 < h.hops → routePort s h.dest = some p →
        ∃ t, exec (.fabricForward h type d) s = .next t ∧
          Sends s t (.forwarded type p { h with hops := h.hops - 1 } d)) ∧
      (h.hops ≤ 1 ∨ routePort s h.dest = none →
        ∃ t, exec (.fabricForward h type d) s = .next t ∧ t.vertex.hopDrops = addSat s.vertex.hopDrops 1 ∧
          t.vertex.cause.getLsbD 7 = true)) ∧
    (s.live = false ∨ h.dest ≠ s.ident.number.toNat →
      stays (.read h) ∧ stays (.register h) ∧ stays (.deregister h) ∧ stays (.probe h) ∧
      ∀ d, stays (.write h d) ∧ stays (.message h d) ∧ stays (.fetchObject h d) ∧ stays (.response h d)) ∧
    (∀ type d,
      (s.live = false ∨ h.dest = s.ident.number.toNat ∧ 1 ≤ type ∧ type ≤ 8 → stays (.fabricForward h type d)) ∧
      (s.live = true → h.dest = s.ident.number.toNat → type = 0 ∨ 8 < type →
        ∃ t, exec (.fabricForward h type d) s = .next t ∧ t.mem = s.mem ∧ Answers s t h 7 [] false)) ∧
    (∀ tag q cid c, s.live = true → NoneHeld s → s.vertex.reqs.find? (fun x => x.tag == tag) = some q →
      q.since + 1000 * fabricTimeoutUs s ≤ s.now → q.purpose = .windowImport cid → s.cmd cid = some c →
      ∃ t, exec (.fabricRequestTimeout tag) s = .next t ∧ t.vertex.timeouts = addWrap s.vertex.timeouts 1 ∧
        unreachable t q.dest = true ∧ t.vertex.cause.getLsbD 4 = true ∧ (∀ x ∈ t.vertex.reqs, x.tag ≠ tag) ∧
        Completed s t c stFabricUnreachable 0 0) ∧
    (∀ tag, s.live = false ∨ (∀ q ∈ s.vertex.reqs, q.tag = tag → q.heldBack = true ∨
        s.now < q.since + 1000 * fabricTimeoutUs s) → stays (.fabricRequestTimeout tag)) ∧
    (s.live = true → s.vertex.probeAt ≤ s.now → ∃ t, exec .probeTimer s = .next t ∧
      t.vertex.probeAt = s.now + 1000000 ∧ (∀ q ∈ s.vertex.reqs, q ∈ t.vertex.reqs) ∧
      ∀ d, unreachable s d = true → (routePort s d).isSome = true →
        ∃ q ∈ t.vertex.reqs, q.dest = d ∧ q.type = 7 ∧ q.purpose = .probe ∧ q.since = s.now) ∧
    (s.live = false ∨ s.now < s.vertex.probeAt → stays .probeTimer)

/-! ### Security -/

/-- FW_STAGE reads a package and begins its copy into the inactive slot, where it is verified; FW_ACTIVATE waits
for the commands that have started, and then the new firmware runs and is announced on the links, or, where it does not
verify or start in time, the old one again; the crown answers SPDM on each of its two paths; debug unlock follows its
challenge and is measured (R314, R315, R363, R424, R426, R427, R429, R432, R433; which of two statuses a package has
whose signature fails is open, log 64). -/
def Obligations.FirmwareAndDebugFollowTheirRules : Prop :=
  (∀ (s : State) (cid : Nat) (c : Cmd),
    (Ready s cid 0x71 c → ∀ ok, (ok ↔ c.only [(16, 16)] = true ∧ c.f 24 8 ≠ 0 ∧ c.f 24 8 ≤ 2 ^ 25) →
      (s.sec.staging ≠ none ∨ s.sec.activating ≠ none →
        ∃ t, exec (.fwStage cid) s = .next t ∧ t.sec = { s.sec with stagedValid := false } ∧
          Completed s t c stBusy 0 0) ∧
      (s.sec.staging = none → s.sec.activating = none →
        (¬ ok → ∃ t, exec (.fwStage cid) s = .next t ∧ t.sec = { s.sec with stagedValid := false } ∧
          Completed s t c stInvalidParameter 0 0) ∧
        (∀ b, ok → PlainRead s c.fn (c.f 16 8) (c.f 24 8) b →
          ∃ t, exec (.fwStage cid) s = .next t ∧ t.sec.staging = some (cid, b) ∧ t.sec.stagedValid = false ∧
            t.sec.staged = none ∧ slotOf t s.sec.activeSlot = slotOf s s.sec.activeSlot ∧ t.cmd cid ≠ none))) ∧
    (Ready s cid 0x72 c →
      (s.sec.stagedValid = true →
        ∃ t, exec (.fwActivate cid) s = .next t ∧ t.sec.activating = some cid ∧ t.cmd cid ≠ none) ∧
      (s.sec.stagedValid = false → ∃ t, exec (.fwActivate cid) s = .next t ∧ Completed s t c stNotFound 0 0))) ∧
  (∀ (s : State) (cid : Nat) (c : Cmd) (b : Bytes), s.live = true → s.cmd cid = some c →
    (s.sec.activating = some cid → (∀ e ∈ s.cmds, e.started = none ∨ e.cid = cid) →
      (s.sec.staged = some b → fwCheck s b = .ok →
        ∃ t, exec .activateDone s = .next t ∧ t.sec.activeSlot = !s.sec.activeSlot ∧ t.sec.activating = none ∧
          t.sec.fwVersion = (fwInfo b).version ∧ t.sec.stagedValid = false ∧ s.sec.counter.toNat ≤ t.sec.counter.toNat ∧
          t.vertex.protoMajor = (fwInfo b).protoMajor ∧ t.vertex.protoMinor = (fwInfo b).protoMinor ∧
          t.sec.cause.getLsbD 2 = true ∧
          (∀ p < 8, (s.fabPort p).trained = true → (fwInfo b).protoMajor = s.vertex.protoMajor →
            Sends s t (.announce p s.ident.number.toNat (fwInfo b).protoMajor.toNat (fwInfo b).protoMinor.toNat) ∧
            (t.fabPort p).trained = true ∧
            (t.fabPort p).linkMinor.toNat = min (fwInfo b).protoMinor.toNat (s.fabPort p).peerMinor.toNat) ∧
          (∀ p < 8, (fwInfo b).protoMajor ≠ s.vertex.protoMajor → (t.fabPort p).trained = false) ∧
          Completed s t c 0x00 0 (fwInfo b).version.toNat) ∧
      (s.sec.staged = none ∨ (∀ b, s.sec.staged = some b → fwCheck s b ≠ .ok) →
        exec .activateDone s = .next (settle s)) ∧
      (s.sec.staged = none ∨ (∃ b, s.sec.staged = some b ∧ fwCheck s b ≠ .ok) ∨
          (∃ x, s.sec.switchAt = some x ∧ x + 20000000 ≤ s.now) →
        ∃ t, exec .fwActivateTimeout s = .next t ∧ t.sec.activeSlot = s.sec.activeSlot ∧ t.sec.activating = none ∧
          t.sec.cause.getLsbD 3 = true ∧ Completed s t c stTimeout 0 0) ∧
      (s.sec.staged = some b → fwCheck s b = .ok → (∀ x, s.sec.switchAt = some x → s.now < x + 20000000) →
        exec .fwActivateTimeout s = .next (settle s))) ∧
    (s.sec.staging = some (cid, b) →
      ∀ turned : Nat → Prop,
      turned = (fun st => ∃ t, exec .stageDone s = .next t ∧ t.sec.staging = none ∧
        t.sec.stagedValid = s.sec.stagedValid ∧ slotOf t (!s.sec.activeSlot) = b ∧
        slotOf t s.sec.activeSlot = slotOf s s.sec.activeSlot ∧ Completed s t c st 0 0) →
      (fwCheck s b = .ok → fwLevelOk b = true →
        ∃ t, exec .stageDone s = .next t ∧ t.sec.staging = none ∧ t.sec.stagedValid = true ∧ t.sec.staged = some b ∧
          t.sec.stagedVersion = (fwInfo b).version ∧ slotOf t (!s.sec.activeSlot) = b ∧
          slotOf t s.sec.activeSlot = slotOf s s.sec.activeSlot ∧ t.sec.cause.getLsbD 1 = true ∧
          Completed s t c 0x00 0 0) ∧
      (fwCheck s b = .ok → fwLevelOk b = false → turned stVersionMismatch) ∧
      (fwCheck s b = .digest → turned stIntegrityFailed) ∧
      (fwCheck s b = .signature → turned stSecurityDenied ∨ turned stIntegrityFailed) ∧
      (fwCheck s b = .rollback → turned stSecurityDenied))) ∧
  (∀ s : State,
    (s.live = false ∨ s.sec.activating = none ∨
        (∃ e ∈ s.cmds, e.started ≠ none ∧ s.sec.activating ≠ some e.cid) →
      exec .activateDone s = .next (settle s) ∧ exec .fwActivateTimeout s = .next (settle s)) ∧
    (s.live = false ∨ s.sec.staging = none → exec .stageDone s = .next (settle s))) ∧
  (∀ s : State,
    (∀ path runs,
      (runs ↔ s.resettable = true ∧ s.mode ≠ .fatal ∧ s.mode ≠ .tripped ∧
        (path = .doe 0 ∧ s.pcie.released = true ∧ inD3 s 0 = false ∨ path = .smbus (smbusAddress s))) →
      (runs →
        (∀ req, ∃ t, exec (.spdmRequest ⟨path, req⟩) s = .next t ∧ t.sec = s.sec ∧
          Sends s t (.spdm path (spdmAnswer s req))) ∧
        (∃ t, exec (.spdmRequest ⟨path, .getVersion⟩) s = .next t ∧ Sends s t (.spdm path (.version [(1, 2)]))) ∧
        (∀ i, 1 ≤ i → i ≤ 8 →
          ∃ t, exec (.spdmRequest ⟨path, .getMeasurements i⟩) s = .next t ∧
            Sends s t (.spdm path (.measurements [mrOf s (i - 1)]))) ∧
        (∀ nonce, ∃ t own sg, exec (.spdmRequest ⟨path, .challenge nonce⟩) s = .next t ∧ own.length = 32 ∧
          Sends s t (.spdm path (.challengeAuth own sg)) ∧
          sg = signBlock s.sec.made.secret (sm3 (nonce ++ own)) (freeNonce (s.freeCtr + 32)))) ∧
      (¬ runs → ∀ req, exec (.spdmRequest ⟨path, req⟩) s = .next (settle s))) ∧
    (s.resettable = true →
      (∃ t b, exec .debugChallenge s = .next t ∧ t.sec.challenge = some b ∧ b.length = 32 ∧ Sends s t (.jtag b)) ∧
      ∀ level block,
        (s.sec.unlockFails < 3 → unlocks s level block = true →
          ∃ t, exec (.debugUnlock level block) s = .next t ∧ t.sec.debugLevel = BitVec.ofNat 2 level ∧
            mrOf t 6 = sm3 (mrOf s 6 ++ unlockRecord level) ∧ t.sec.cause.getLsbD 5 = true) ∧
        ((3 ≤ s.sec.unlockFails ∨ unlocks s level block = false) →
          ∃ t, exec (.debugUnlock level block) s = .next t ∧ t.sec.debugLevel = s.sec.debugLevel ∧
            t.sec.unlockFails = s.sec.unlockFails + 1 ∧ t.sec.cause.getLsbD 6 = true)) ∧
    (s.resettable = false → exec .debugChallenge s = .next (settle s) ∧
      ∀ level block, exec (.debugUnlock level block) s = .next (settle s)))

/-! ### Test -/

/-- LINK_PATTERN, MEMORY_TEST and LOOPBACK start their engines, or are refused by their checks; a checker locks, loses
lock and is counted; a pattern and a memory test end with their results; an EXTEST-class instruction stops the functions
(R317 to R319, R453 to R460). -/
def Obligations.TestEnginesFollowTheirRules : Prop :=
  (∀ (s : State) (cid : Nat) (c : Cmd) (ends : (Nat → Instr) → Nat → Prop),
    ends = (fun row st => ∃ t, exec (row cid) s = .next t ∧ t.test = s.test ∧ Completed s t c st 0 0) →
    (Ready s cid 0x80 c → ∀ may, (may ↔ (c.f 16 1 = 2 → s.test.testState = true) ∧
        (c.f 40 8 = 0 ∨ mayName s c.fn (c.f 40 8) (16 + 24 * popCount 32 (c.f 20 4)) false = true)) →
      (patternParamsOk s c = false → ends .linkPattern stInvalidParameter) ∧
      (patternParamsOk s c = true → ¬ may → ends .linkPattern stNotPermitted) ∧
      (patternParamsOk s c = true → may → linkBusy s (c.f 16 1) (c.f 17 1) (c.f 20 4) = true →
        ends .linkPattern stBusy) ∧
      (patternParamsOk s c = true → may → linkBusy s (c.f 16 1) (c.f 17 1) (c.f 20 4) = false →
        ∃ t p, exec (.linkPattern cid) s = .next t ∧ t.test.patterns = s.test.patterns ++ [p] ∧ p.cid = cid ∧
          p.target = c.f 16 1 ∧ p.index = c.f 17 1 ∧ p.pattern = c.f 18 1 ∧ p.lanes = maskBits 32 (c.f 20 4) ∧
          p.durationUs = c.f 24 4 ∧ p.since = s.now ∧
          (∀ k ∈ p.checkers, k.locked = false ∧ k.bits = 0 ∧ k.errors = 0) ∧ t.cmd cid ≠ none)) ∧
    (Ready s cid 0x81 c → ∀ ok, (ok ↔ bistParamsOk c = true ∧ bistRangeOk s c = true) →
      (¬ ok → ends .memoryTest stInvalidParameter) ∧
      (ok → c.f 16 1 = 0 → mayName s c.fn (c.f 24 8) (c.f 32 8) false = false →
        ends .memoryTest stNotPermitted) ∧
      (ok → (c.f 16 1 = 0 → mayName s c.fn (c.f 24 8) (c.f 32 8) false = true) →
        (bistBusy s c = true ∨ c.f 16 1 = 0 ∧ memLooped s (c.f 24 8) (c.f 32 8) = true →
          ends .memoryTest stBusy) ∧
        (bistBusy s c = false → (c.f 16 1 = 0 → memLooped s (c.f 24 8) (c.f 32 8) = false) →
          ∃ t b, exec (.memoryTest cid) s = .next t ∧ t.test.bists = s.test.bists ++ [b] ∧ b.cid = cid ∧
            b.target = c.f 16 1 ∧ b.index = c.f 17 1 ∧ b.base = c.f 24 8 % 2 ^ 42 ∧ b.bytes = c.f 32 8 ∧
            t.cmd cid ≠ none))) ∧
    (Ready s cid 0x82 c → ∀ ok, (ok ↔ c.only [(16, 3)] = true ∧ c.f 18 1 ≤ 1 ∧ c.f 17 1 < loopCount (c.f 16 1)) →
      (¬ ok → ends .loopback stInvalidParameter) ∧
      (ok → loopBusy s (c.f 16 1) (c.f 17 1) = true → ends .loopback stBusy) ∧
      (ok → loopBusy s (c.f 16 1) (c.f 17 1) = false →
        ∃ t, exec (.loopback cid) s = .next t ∧ Completed s t c 0x00 0 0 ∧
          ((c.f 16 1, c.f 17 1) ∈ t.test.loops ↔ c.f 18 1 = 1) ∧
          ∀ x, x ≠ (c.f 16 1, c.f 17 1) → (x ∈ t.test.loops ↔ x ∈ s.test.loops)))) ∧
  (∀ (s : State) (cid lane : Nat), lane < 32 →
    (∀ p k, s.live = true → patternBy s cid = some p → checkerOf p lane = some k →
      (∀ bs, k.locked = false → predicted p bs = true →
        ((∀ x ∈ p.checkers, x.everLocked = true) ∨ s.now < p.since + 10000000) →
        ∃ t q, exec (.checkerLock ⟨cid, lane⟩ bs) s = .next t ∧ patternBy t cid = some q ∧
          checkerOf q lane = some { k with locked := true, everLocked := true }) ∧
      (∀ bs, k.locked = true ∨ predicted p bs = false ∨
          (∃ x ∈ p.checkers, x.everLocked = false) ∧ p.since + 10000000 ≤ s.now →
        exec (.checkerLock ⟨cid, lane⟩ bs) s = .next (settle s)) ∧
      (∀ n window, n.lane = lane →
        (k.locked = true → window.length = 64 → 32 ≤ (window.filter id).length →
          ∃ t q k', exec (.lostLock ⟨cid, lane⟩ n window) s = .next t ∧ patternBy t cid = some q ∧
            checkerOf q lane = some k' ∧ k'.locked = false ∧ k'.lost = true ∧
            k'.bits = min (k.bits + n.bits) (2 ^ 48 - 1) ∧ k'.errors = min (k.errors + n.errors) (2 ^ 48 - 1) ∧
            k'.relocks = min (k.relocks + 1) 65535 ∧ t.test.cause.getLsbD 1 = true) ∧
        (k.locked = false ∨ window.length ≠ 64 ∨ (window.filter id).length < 32 →
          exec (.lostLock ⟨cid, lane⟩ n window) s = .next (settle s)))) ∧
    (s.live = false ∨ patternBy s cid = none ∨ (∀ p, patternBy s cid = some p → checkerOf p lane = none) →
      (∀ bs, exec (.checkerLock ⟨cid, lane⟩ bs) s = .next (settle s)) ∧
      ∀ n window, exec (.lostLock ⟨cid, lane⟩ n window) s = .next (settle s))) ∧
  (∀ (s : State) (cid : Nat) (ks : List LaneCount),
    (∀ p c sum ended late, s.live = true → patternBy s cid = some p → s.cmd cid = some c →
      sum = sat48 (sumN ((lastCounts p ks).checkers.map (·.errors))) →
      (ended ↔ ((∀ k ∈ p.checkers, k.everLocked = true) ∨ p.durationUs < 10000) ∧
        p.since + 1000 * p.durationUs ≤ s.now) →
      (late ↔ (∃ k ∈ p.checkers, k.everLocked = false) ∧ p.since + 10000000 ≤ s.now) →
      (∀ row st, row = Instr.linkPatternEnd ⟨cid, ks⟩ ∧ st = 0x00 ∧ ended ∨
          row = .checkerLockTimeout ⟨cid, ks⟩ ∧ st = stTimeout ∧ late →
        (p.report = 0 →
          ∃ t, exec row s = .next t ∧ patternBy t cid = none ∧ t.test.cause.getLsbD 0 = true ∧
            Completed s t c st 0 sum) ∧
        (∀ size, p.report ≠ 0 → PlainDest s c.fn p.report size (patternReport (lastCounts p ks)) →
          ∃ t, exec row s = .next t ∧ patternBy t cid = none ∧ t.test.cause.getLsbD 0 = true ∧
            Stored s t c.fn p.report (patternReport (lastCounts p ks)) ∧ Completed s t c st 0 sum)) ∧
      (¬ ended → exec (.linkPatternEnd ⟨cid, ks⟩) s = .next (settle s)) ∧
      (¬ late → exec (.checkerLockTimeout ⟨cid, ks⟩) s = .next (settle s))) ∧
    (s.live = false ∨ patternBy s cid = none →
      exec (.linkPatternEnd ⟨cid, ks⟩) s = .next (settle s) ∧
      exec (.checkerLockTimeout ⟨cid, ks⟩) s = .next (settle s))) ∧
  (∀ (s : State) (cid : Nat) (ws : List BistWord), s.Canon →
    (∀ b c, s.live = true → s.test.bists.find? (fun x => x.cid == cid) = some b → s.cmd cid = some c →
      ∃ t, exec (.memoryTestDone ⟨cid, ws⟩) s = .next t ∧ (∀ x ∈ t.test.bists, x.cid ≠ cid) ∧
        t.test.cause.getLsbD 2 = true ∧
        (∀ x, byteAt t.mem x = if b.target = 0 ∧ b.base ≤ x ∧ x < b.base + b.bytes then 0 else byteAt s.mem x) ∧
        (∀ w, ws.head? = some w → t.test.bistFail = failAddr w ∧ t.test.cause.getLsbD 3 = true) ∧
        Completed s t c 0x00 (if ws.any (·.uncorrectable) then 1 else 0) ws.length) ∧
    (s.live = false ∨ s.test.bists.find? (fun x => x.cid == cid) = none →
      exec (.memoryTestDone ⟨cid, ws⟩) s = .next (settle s))) ∧
  (∀ (s : State) (i : TapInstr), ∃ t, exec (.jtagInstruction i) s = .next t ∧ t.pins.tap = i ∧
    (s.mode ≠ .porLow → (t.mode = .scan ↔ i = .extest ∨ i = .extestPulse ∨ i = .extestTrain)) ∧
    (s.mode = .porLow → t.mode = .porLow) ∧ (i = .idcode → Sends s t (.jtag (toLE 4 idcode))))
end

