-- ==== Sys2Proof/Laws/Tables.lean ====
section
/-! SUPPORT. Tables and memories: what setting a key does to every read, and that it keeps the canonical form. -/

-- These proofs wait on the same definitions: they are elaborated in order.
set_option Elab.async false

namespace Sys2Proof.Machine

variable {α : Type} [DecidableEq α] {d : α}

theorem tabWfFrom_mono {b c : Nat} {t : Tab α} (hbc : b ≤ c) (h : tabWfFrom d c t = true) :
    tabWfFrom d b t = true := by
  cases t with
  | nil => rfl
  | cons kv r =>
    obtain ⟨k, v⟩ := kv
    simp only [tabWfFrom, Bool.and_eq_true, decide_eq_true_eq] at *
    exact ⟨⟨by omega, h.1.2⟩, h.2⟩

/-- Below the bound of a canonical table every key reads as the default. -/
theorem tabGet_below {t : Tab α} {b k : Nat} (h : tabWfFrom d b t = true) (hk : k < b) : tabGet d t k = d := by
  induction t generalizing b with
  | nil => rfl
  | cons kv r ih =>
    obtain ⟨k', v⟩ := kv
    simp only [tabWfFrom, Bool.and_eq_true, decide_eq_true_eq] at h
    have hne : k ≠ k' := by omega
    simp only [tabGet, if_neg hne]
    exact ih h.2 (by omega)

/-- Keeping some keys of a canonical table keeps the form. -/
theorem tabWfFrom_filter {t : Tab α} {b : Nat} (p : Nat × α → Bool) (h : tabWfFrom d b t = true) :
    tabWfFrom d b (t.filter p) = true := by
  induction t generalizing b with
  | nil => rfl
  | cons kv r ih =>
    obtain ⟨k, v⟩ := kv
    simp only [tabWfFrom, Bool.and_eq_true, decide_eq_true_eq] at h
    have hr := ih h.2
    rw [List.filter_cons]
    split
    · simp [tabWfFrom, h.1.1, h.1.2, hr]
    · exact tabWfFrom_mono (by omega) hr

theorem tabWfFrom_put {t : Tab α} {b k : Nat} {v : α} (h : tabWfFrom d b t = true) (hk : b ≤ k) (hv : v ≠ d) :
    tabWfFrom d b (tabPut t k v) = true := by
  induction t generalizing b with
  | nil => simp [tabPut, tabWfFrom, hk, hv]
  | cons kv r ih =>
    obtain ⟨k', v'⟩ := kv
    simp only [tabWfFrom, Bool.and_eq_true, decide_eq_true_eq] at h
    unfold tabPut
    split
    · rename_i hlt
      have : k + 1 ≤ k' := hlt
      simp [tabWfFrom, hk, hv, h.1.2, h.2, this]
    · split
      · subst_vars
        simp [tabWfFrom, hk, hv, h.2]
      · have : tabWfFrom d (k' + 1) (tabPut r k v) = true := ih h.2 (by omega)
        simp [tabWfFrom, h.1.1, h.1.2, this]

theorem tabWfFrom_set {t : Tab α} {b k : Nat} {v : α} (h : tabWfFrom d b t = true) (hk : b ≤ k) :
    tabWfFrom d b (tabSet d t k v) = true := by
  unfold tabSet
  split
  · exact tabWfFrom_filter _ h
  · exact tabWfFrom_put h hk ‹_›

/-- Setting a key keeps the canonical form. -/
theorem tabWf_set {t : Tab α} {k : Nat} {v : α} (h : tabWf d t = true) : tabWf d (tabSet d t k v) = true :=
  tabWfFrom_set h (Nat.zero_le k)

theorem tabWf_mod {t : Tab α} {k : Nat} {f : α → α} (h : tabWf d t = true) : tabWf d (tabMod d t k f) = true :=
  tabWf_set h

omit [DecidableEq α] in
theorem tabGet_put (t : Tab α) (k j : Nat) (v : α) : tabGet d (tabPut t k v) j = if j = k then v else tabGet d t j := by
  induction t with
  | nil => rfl
  | cons kv r ih =>
    obtain ⟨k', v'⟩ := kv
    unfold tabPut
    split
    · rfl
    · split
      · subst_vars
        simp only [tabGet]
        split <;> rfl
      · rename_i h1 h2
        simp only [tabGet, ih]
        by_cases hj : j = k'
        · simp [hj, show k' ≠ k by omega]
        · simp [hj]

omit [DecidableEq α] in
theorem tabGet_del (t : Tab α) (k j : Nat) : tabGet d (tabDel t k) j = if j = k then d else tabGet d t j := by
  induction t with
  | nil => simp [tabDel, tabGet]
  | cons kv r ih =>
    obtain ⟨k', v'⟩ := kv
    unfold tabDel at *
    by_cases h : k' = k
    · subst h
      simp only [List.filter_cons, bne_self_eq_false, Bool.false_eq_true, if_false, ih, tabGet]
      by_cases hj : j = k' <;> simp [hj]
    · simp only [List.filter_cons, bne_iff_ne, ne_eq, h, not_false_iff, if_true, tabGet, ih]
      by_cases hj : j = k'
      · simp [hj, h]
      · simp [hj]

/-- A table reads, at the key set, the value set, and elsewhere what it read before, whatever its form. -/
theorem tabGet_set (t : Tab α) (k j : Nat) (v : α) : tabGet d (tabSet d t k v) j = if j = k then v else tabGet d t j := by
  unfold tabSet
  split
  · rename_i h
    rw [tabGet_del, h]
  · exact tabGet_put t k j v

omit [DecidableEq α] in
theorem tabGet_nil (k : Nat) : tabGet d ([] : Tab α) k = d := rfl

/-- Setting another key leaves a read alone. -/
theorem tabGet_set_other {t : Tab α} {k j : Nat} {v : α} (h : j ≠ k) :
    tabGet d (tabSet d t k v) j = tabGet d t j := (tabGet_set t k j v).trans (if_neg h)

/-- The value set reads back. -/
theorem tabGet_set_self (t : Tab α) (k : Nat) (v : α) : tabGet d (tabSet d t k v) k = v :=
  (tabGet_set t k k v).trans (if_pos rfl)

/-- A change of a key reads back. -/
theorem tabGet_mod_self (t : Tab α) (k : Nat) (f : α → α) : tabGet d (tabMod d t k f) k = f (tabGet d t k) :=
  tabGet_set_self t k _

theorem tabGet_mod_other {t : Tab α} {k j : Nat} {f : α → α} (h : j ≠ k) :
    tabGet d (tabMod d t k f) j = tabGet d t j := tabGet_set_other h

theorem tabWf_filter {t : Tab α} (p : Nat × α → Bool) (h : tabWf d t = true) : tabWf d (t.filter p) = true :=
  tabWfFrom_filter p h

/-- Changing every listed entry keeps the canonical form. -/
theorem tabWf_mapAll {t u : Tab α} (f : Nat → α → α) (h : tabWf d u = true) : tabWf d (tabMapAll d f t u) = true := by
  induction t generalizing u with
  | nil => exact h
  | cons kv r ih => exact ih (tabWf_set h)

theorem tabWf_mapV {t : Tab α} {f : Nat → α → α} (h : tabWf d t = true) : tabWf d (tabMapV d t f) = true :=
  tabWf_mapAll f h

/-- A change of a table that keeps its canonical form. -/
inductive TabStep (d : α) (t : Tab α) : Tab α → Prop where
  | same : TabStep d t t
  | nil : TabStep d t []
  | set (k : Nat) (v : α) : TabStep d t (tabSet d t k v)
  | mod (k : Nat) (f : α → α) : TabStep d t (tabMod d t k f)
  | mapV (f : Nat → α → α) : TabStep d t (tabMapV d t f)
  | filter (p : Nat × α → Bool) : TabStep d t (t.filter p)
  | of {u : Tab α} (h : tabWf d t = true → tabWf d u = true) : TabStep d t u

theorem TabStep.wf {t u : Tab α} (h : TabStep d t u) (w : tabWf d t = true) : tabWf d u = true := by
  cases h with
  | same => exact w
  | nil => rfl
  | set => exact tabWf_set w
  | mod => exact tabWf_mod w
  | mapV => exact tabWf_mapV w
  | filter => exact tabWf_filter _ w
  | of h => exact h w

/-! ### Memories -/

/-- Writing bytes keeps the canonical form of a memory. -/
theorem writeBytes_wf {m : List Host.Cell} (a : Nat) (b : Bytes) (h : Memory.wf m = true) :
    Memory.wf (writeBytes m a b) = true := by
  induction b generalizing a with
  | nil => exact h
  | cons x r ih => exact tabWf_set (ih (a + 1))

/-- Each byte after a write: the byte written, or the one before. -/
theorem byteAt_writeBytes (m : List Host.Cell) (a : Nat) (b : Bytes) (j : Nat) :
    byteAt (writeBytes m a b) j = if a ≤ j ∧ j < a + b.length then b.getD (j - a) 0 else byteAt m j := by
  induction b generalizing a with
  | nil => simp [writeBytes, show ¬(a ≤ j ∧ j < a) by omega]
  | cons x r ih =>
    unfold writeBytes byteAt
    rw [tabGet_set]
    by_cases hj : j = a
    · subst hj
      simp
    · rw [if_neg hj]
      have := ih (a + 1)
      unfold byteAt at this
      rw [this]
      by_cases hin : a + 1 ≤ j ∧ j < a + 1 + r.length
      · have h2 : a ≤ j ∧ j < a + (x :: r).length := by simp; omega
        rw [if_pos hin, if_pos h2]
        have : j - a = (j - (a + 1)) + 1 := by omega
        rw [this]
        simp
      · have h2 : ¬(a ≤ j ∧ j < a + (x :: r).length) := by simp; omega
        rw [if_neg hin, if_neg h2]

/-- A byte outside a write reads as before. -/
theorem byteAt_writeBytes_other {m : List Host.Cell} (a : Nat) (b : Bytes) (j : Nat) (h : ¬(a ≤ j ∧ j < a + b.length)) :
    byteAt (writeBytes m a b) j = byteAt m j := (byteAt_writeBytes m a b j).trans (if_neg h)

/-- The poison tags after a write keep the canonical form. -/
theorem poisonAfter_wf {t : Tab Bool} (a n : Nat) (p : Bool) (h : tabWf false t = true) :
    tabWf false (poisonAfter t a n p) = true := by
  unfold poisonAfter
  induction sectors a n generalizing t with
  | nil => exact h
  | cons k r ih =>
    simp only [List.foldl_cons]
    apply ih
    split
    · exact tabWf_set h
    · split
      · exact tabWf_set h
      · exact h

end Sys2Proof.Machine
end

