-- ==== Sys2Proof/Laws/Evolves.lean ====
section
/-! SUPPORT. `Evolves`: what a function over the state may change, said once for each of them. A function's
lemma names the fields it may write (the sum of 2 ^ `Piece.bit` over them) and says that it keeps the canonical
form of every memory and table. -/

-- These proofs wait on the same definitions: they are elaborated in order.
set_option Elab.async false

namespace Sys2Proof.Machine

theorem Piece.same_refl (s : State) (p : Piece) : p.Same s s := by
  cases p <;> first | rfl | exact fun _ _ => rfl | exact fun _ => rfl

theorem Piece.same_trans {s t u : State} {p : Piece} (h : p.Same s t) (k : p.Same t u) : p.Same s u := by
  cases p <;> first | exact Eq.trans k h | exact fun a b => (k a b).trans (h a b) | exact fun a => (k a).trans (h a)

/-- A function leads from `s` to `t`: only the fields of the set differ, and memories and tables keep their form. -/
structure Evolves (set : Nat) (s t : State) : Prop where
  frame : Frame set s t
  form : s.Canon → t.Canon

namespace Evolves

variable {A T : Nat} {s t u : State}

theorem refl (T : Nat) (s : State) : Evolves T s s := ⟨fun p _ => p.same_refl s, id⟩

theorem mono (h : Evolves A s t) (hm : A &&& T = A := by decide) : Evolves T s t := by
  refine ⟨fun p hp => h.frame p ?_, h.form⟩
  have := congrArg (·.testBit p.bit) hm
  simp only [Nat.testBit_and, hp, Bool.and_false] at this
  exact this.symm

theorem trans (h : Evolves T s t) (k : Evolves T t u) : Evolves T s u :=
  ⟨fun p hp => Piece.same_trans (h.frame p hp) (k.frame p hp), k.form ∘ h.form⟩

/-- The last function of a chain, peeled off. -/
theorem step (k : Evolves A t u) (h : Evolves T s t) (hm : A &&& T = A := by decide) : Evolves T s u :=
  h.trans (k.mono hm)

theorem foldl {α : Type} {f : State → α → State} (l : List α) (hf : ∀ s x, Evolves T s (f s x))
    (h : Evolves T s t) : Evolves T s (l.foldl f t) := by
  induction l generalizing t with
  | nil => exact h
  | cons x r ih => exact ih (h.trans (hf t x))

theorem optGetD {o : Option State} (ho : ∀ t, o = some t → Evolves T s t) (h : Evolves T s u) :
    Evolves T s (o.getD u) := by
  cases o with
  | none => exact h
  | some t => exact ho t rfl

theorem ofSome {o : Option State} (h : o = some t) (k : Evolves A s (o.getD u)) : Evolves A s t := by
  rw [h] at k
  exact k

theorem ofFst {α : Type} {q : State × α} {b : α} (h : q = (t, b)) (k : Evolves A s q.1) : Evolves A s t := by
  rw [h] at k
  exact k

theorem ofSomeFst {α : Type} {o : Option (State × α)} {b : α} (h : o = some (t, b))
    (k : Evolves A s ((o.map (·.1)).getD u)) : Evolves A s t := by
  rw [h] at k
  exact k

theorem iteR {c : Prop} [Decidable c] (h : Evolves T s t) (k : Evolves T t u) : Evolves T s (if c then u else t) := by
  split
  · exact h.trans k
  · exact h

theorem iteL {c : Prop} [Decidable c] (h : Evolves T s t) (k : Evolves T t u) : Evolves T s (if c then t else u) := by
  split
  · exact h
  · exact h.trans k

end Evolves

/-! ### Updates -/

theorem upd_host_ev (s : State) (a b) (hf : s.Canon → Memory.wf a = true ∧ tabWf false b = true) :
    Evolves 103079215104 s { s with hostMem := a, hostPoison := b } :=
  ⟨fun p hp => by cases p <;> first | rfl | exact fun _ _ => rfl | exact fun _ => rfl | exact absurd hp (by decide),
    fun h => { h with hostMem := (hf h).1, hostPoison := (hf h).2 }⟩

theorem upd_host_sent_ev (s : State) (a b x) (hf : s.Canon → Memory.wf a = true ∧ tabWf false b = true) :
    Evolves 8899172237312 s { s with hostMem := a, hostPoison := b, sent := x } :=
  ⟨fun p hp => by cases p <;> first | rfl | exact fun _ _ => rfl | exact fun _ => rfl | exact absurd hp (by decide),
    fun h => { h with hostMem := (hf h).1, hostPoison := (hf h).2 }⟩

theorem upd_funcsQ_sent_ev (s : State) (x1 x2) (h1 : TabStep {} s.funcs x1)
    (q1 : ∀ f, (tabGet {} x1 f).regs = (s.func f).regs) :
    Evolves 8796093026304 s { s with funcs := x1, sent := x2 } :=
  ⟨fun p hp => by cases p <;> first | exact q1 | rfl | exact fun _ _ => rfl | exact fun _ => rfl | exact absurd hp (by decide),
    fun h => { h with funcs := h1.wf h.funcs }⟩

theorem upd_ringsQ_ev (s : State) (x1) (h1 : TabStep {} s.rings x1 := by with_reducible constructor)
    (q1 : ∀ f r, (tabGet {} x1 (16 * f + r)).regs = (s.ring f r).regs) : Evolves 8192 s { s with rings := x1 } :=
  ⟨fun p hp => by cases p <;> first | exact q1 | rfl | exact fun _ _ => rfl | exact fun _ => rfl | exact absurd hp (by decide),
    fun h => { h with rings := h1.wf h.rings }⟩

theorem upd_local_ev (s : State) (a b) (hf : s.Canon → Memory.wf a = true ∧ tabWf false b = true) :
    Evolves 25769803776 s { s with mem := a, poison := b } :=
  ⟨fun p hp => by cases p <;> first | rfl | exact fun _ _ => rfl | exact fun _ => rfl | exact absurd hp (by decide), 
    fun h => { h with mem := (hf h).1, poison := (hf h).2 }⟩

theorem upd_sent_ev (s : State) (x1) : Evolves 8796093022208 s { s with sent := x1 } :=
  ⟨fun p hp => by cases p <;> first | rfl | exact fun _ _ => rfl | exact fun _ => rfl | exact absurd hp (by decide), fun h => { h with }⟩

theorem upd_pcieQ_ev (s : State) (x1) (q1 : x1.regs = s.pcie.regs := by rfl) : Evolves 64 s { s with pcie := x1 } :=
  ⟨fun p hp => by cases p <;> first | exact q1 | rfl | exact fun _ _ => rfl | exact fun _ => rfl | exact absurd hp (by decide), fun h => { h with }⟩

/-- The accepted commands keep their numbers, or some of them leave. -/
abbrev CidsIn (l' l : List Cmd) : Prop := (l'.map (·.cid)).Sublist (l.map (·.cid))

theorem CidsIn.map {g : Cmd → Cmd} (hg : ∀ c, (g c).cid = c.cid) (l : List Cmd) : CidsIn (l.map g) l := by
  unfold CidsIn
  rw [List.map_map, show (fun c : Cmd => c.cid) ∘ g = fun c => c.cid from funext hg]

theorem CidsIn.filter (f : Cmd → Bool) (l : List Cmd) : CidsIn (l.filter f) l := List.Sublist.map _ List.filter_sublist

theorem CidsIn.ok {l' l : List Cmd} {n : Nat} (h : CidsIn l' l)
    (k : (l.map (·.cid)).Nodup ∧ ∀ c ∈ l, c.cid < n) : (l'.map (·.cid)).Nodup ∧ ∀ c ∈ l', c.cid < n := by
  refine ⟨h.nodup k.1, fun c hc => ?_⟩
  obtain ⟨e, he, hn⟩ := List.mem_map.mp (h.subset (List.mem_map_of_mem hc))
  exact hn ▸ k.2 e he

theorem upd_cmds_ev (s : State) (x1) (h1 : CidsIn x1 s.cmds) : Evolves 16384 s { s with cmds := x1 } :=
  ⟨fun p hp => by cases p <;> first | rfl | exact fun _ _ => rfl | exact fun _ => rfl | exact absurd hp (by decide),
    fun h => { h with cids := h1.ok h.cids }⟩

theorem cids_append {l : List Cmd} {n : Nat} {c : Cmd} (hc : c.cid = n)
    (k : (l.map (·.cid)).Nodup ∧ ∀ e ∈ l, e.cid < n) :
    ((l ++ [c]).map (·.cid)).Nodup ∧ ∀ e ∈ l ++ [c], e.cid < n + 1 := by
  refine ⟨?_, fun e he => ?_⟩
  · rw [List.map_append, List.nodup_append]
    refine ⟨k.1, by simp, fun a ha b hb => ?_⟩
    obtain ⟨e, he, rfl⟩ := List.mem_map.mp ha
    have := k.2 e he
    simp only [List.map_cons, List.map_nil, List.mem_singleton] at hb
    omega
  · rcases List.mem_append.mp he with he | he
    · exact Nat.lt_succ_of_lt (k.2 e he)
    · rw [List.mem_singleton.mp he, hc]
      exact Nat.lt_succ_self _

/-- A command joins the accepted commands under the next number (log 15). -/
theorem upd_admit_ev (s : State) (c : Cmd) (hc : c.cid = s.nextCid) :
    Evolves 49152 s { s with cmds := s.cmds ++ [c], nextCid := s.nextCid + 1 } :=
  ⟨fun p hp => by cases p <;> first | rfl | exact fun _ _ => rfl | exact fun _ => rfl | exact absurd hp (by decide),
    fun h => { h with cids := cids_append hc h.cids }⟩

theorem upd_vertex_ev (s : State) (x1) : Evolves 1125899906843136 s { s with vertex := x1 } :=
  ⟨fun p hp => by cases p <;> first | rfl | exact fun _ _ => rfl | exact fun _ => rfl | exact absurd hp (by decide), fun h => { h with }⟩

theorem upd_facets_ev (s : State) (x1) (h1 : TabStep {} s.facets x1 := by with_reducible constructor) :
    Evolves 262144 s { s with facets := x1 } :=
  ⟨fun p hp => by cases p <;> first | rfl | exact fun _ _ => rfl | exact fun _ => rfl | exact absurd hp (by decide), fun h => { h with facets := h1.wf h.facets }⟩

theorem upd_funcs_ev (s : State) (x1) (h1 : TabStep {} s.funcs x1 := by with_reducible constructor) :
    Evolves 140737488359424 s { s with funcs := x1 } :=
  ⟨fun p hp => by cases p <;> first | rfl | exact fun _ _ => rfl | exact fun _ => rfl | exact absurd hp (by decide), fun h => { h with funcs := h1.wf h.funcs }⟩

theorem upd_models_ev (s : State) (x1) (h1 : TabStep {} s.models x1 := by with_reducible constructor) :
    Evolves 67108864 s { s with models := x1 } :=
  ⟨fun p hp => by cases p <;> first | rfl | exact fun _ _ => rfl | exact fun _ => rfl | exact absurd hp (by decide), fun h => { h with models := h1.wf h.models }⟩

theorem upd_parts_ev (s : State) (x1) (h1 : TabStep {} s.parts x1 := by with_reducible constructor) :
    Evolves 65536 s { s with parts := x1 } :=
  ⟨fun p hp => by cases p <;> first | rfl | exact fun _ _ => rfl | exact fun _ => rfl | exact absurd hp (by decide), fun h => { h with parts := h1.wf h.parts }⟩

theorem upd_ports_ev (s : State) (x1) (h1 : TabStep {} s.ports x1 := by with_reducible constructor) :
    Evolves 1073741824 s { s with ports := x1 } :=
  ⟨fun p hp => by cases p <;> first | rfl | exact fun _ _ => rfl | exact fun _ => rfl | exact absurd hp (by decide), fun h => { h with ports := h1.wf h.ports }⟩

theorem upd_prisms_ev (s : State) (x1) (h1 : TabStep {} s.prisms x1 := by with_reducible constructor) :
    Evolves 131072 s { s with prisms := x1 } :=
  ⟨fun p hp => by cases p <;> first | rfl | exact fun _ _ => rfl | exact fun _ => rfl | exact absurd hp (by decide), fun h => { h with prisms := h1.wf h.prisms }⟩

theorem upd_classes_ev (s : State) (x1) (h1 : TabStep {} s.classes x1 := by with_reducible constructor) :
    Evolves 2199023255552 s { s with classes := x1 } :=
  ⟨fun p hp => by cases p <;> first | rfl | exact fun _ _ => rfl | exact fun _ => rfl | exact absurd hp (by decide), fun h => { h with classes := h1.wf h.classes }⟩

theorem upd_rings_ev (s : State) (x1) (h1 : TabStep {} s.rings x1 := by with_reducible constructor) :
    Evolves 70368744185856 s { s with rings := x1 } :=
  ⟨fun p hp => by cases p <;> first | rfl | exact fun _ _ => rfl | exact fun _ => rfl | exact absurd hp (by decide), fun h => { h with rings := h1.wf h.rings }⟩

theorem upd_runs_ev (s : State) (x1) : Evolves 16777216 s { s with runs := x1 } :=
  ⟨fun p hp => by cases p <;> first | rfl | exact fun _ _ => rfl | exact fun _ => rfl | exact absurd hp (by decide), fun h => { h with }⟩

theorem upd_streams_ev (s : State) (x1) (h1 : TabStep {} s.streams x1 := by with_reducible constructor) :
    Evolves 4194304 s { s with streams := x1 } :=
  ⟨fun p hp => by cases p <;> first | rfl | exact fun _ _ => rfl | exact fun _ => rfl | exact absurd hp (by decide), fun h => { h with streams := h1.wf h.streams }⟩

theorem upd_clk_ev (s : State) (x1) : Evolves 8 s { s with clk := x1 } :=
  ⟨fun p hp => by cases p <;> first | rfl | exact fun _ _ => rfl | exact fun _ => rfl | exact absurd hp (by decide), fun h => { h with }⟩

theorem upd_ftqs_ev (s : State) (x1) (h1 : TabStep {} s.ftqs x1 := by with_reducible constructor) :
    Evolves 4398046511104 s { s with ftqs := x1 } :=
  ⟨fun p hp => by cases p <;> first | rfl | exact fun _ _ => rfl | exact fun _ => rfl | exact absurd hp (by decide), fun h => { h with ftqs := h1.wf h.ftqs }⟩

theorem upd_memcQ_ev (s : State) (x1) (q1 : x1.regs = s.memc.regs := by rfl) : Evolves 128 s { s with memc := x1 } :=
  ⟨fun p hp => by cases p <;> first | exact q1 | rfl | exact fun _ _ => rfl | exact fun _ => rfl | exact absurd hp (by decide), fun h => { h with }⟩

theorem upd_queueCause_ev (s : State) (x1) : Evolves 549755813888 s { s with queueCause := x1 } :=
  ⟨fun p hp => by cases p <;> first | rfl | exact fun _ _ => rfl | exact fun _ => rfl | exact absurd hp (by decide), fun h => { h with }⟩

theorem upd_sec_ev (s : State) (x1) : Evolves 16 s { s with sec := x1 } :=
  ⟨fun p hp => by cases p <;> first | rfl | exact fun _ _ => rfl | exact fun _ => rfl | exact absurd hp (by decide), fun h => { h with }⟩

theorem upd_test_ev (s : State) (x1) : Evolves 1024 s { s with test := x1 } :=
  ⟨fun p hp => by cases p <;> first | rfl | exact fun _ _ => rfl | exact fun _ => rfl | exact absurd hp (by decide), fun h => { h with }⟩

theorem upd_vertexQ_ev (s : State) (x1) (q1 : x1.config = s.vertex.config := by rfl) :
    Evolves 512 s { s with vertex := x1 } :=
  ⟨fun p hp => by cases p <;> first | exact q1 | rfl | exact fun _ _ => rfl | exact fun _ => rfl | exact absurd hp (by decide), fun h => { h with }⟩

theorem upd_freeCtr_ev (s : State) (x1) : Evolves 17592186044416 s { s with freeCtr := x1 } :=
  ⟨fun p hp => by cases p <;> first | rfl | exact fun _ _ => rfl | exact fun _ => rfl | exact absurd hp (by decide), fun h => { h with }⟩

theorem upd_parts_facets_ev (s : State) (x1 x2) (h1 : TabStep {} s.parts x1 := by with_reducible constructor)
    (h2 : TabStep {} s.facets x2 := by with_reducible constructor) :
    Evolves 327680 s { s with parts := x1, facets := x2 } :=
  ⟨fun p hp => by cases p <;> first | rfl | exact fun _ _ => rfl | exact fun _ => rfl | exact absurd hp (by decide), fun h => { h with parts := h1.wf h.parts, facets := h2.wf h.facets }⟩

theorem upd_cmds_runs_ev (s : State) (x1 x2) (h1 : CidsIn x1 s.cmds) :
    Evolves 16793600 s { s with cmds := x1, runs := x2 } :=
  ⟨fun p hp => by cases p <;> first | rfl | exact fun _ _ => rfl | exact fun _ => rfl | exact absurd hp (by decide),
    fun h => { h with cids := h1.ok h.cids }⟩

theorem upd_pcieReads_ev (s : State) (x1) : Evolves 274877906944 s { s with pcieReads := x1 } :=
  ⟨fun p hp => by cases p <;> first | rfl | exact fun _ _ => rfl | exact fun _ => rfl | exact absurd hp (by decide), fun h => { h with }⟩

theorem upd_clk_sec_vertex_ev (s : State) (x1 x2 x3) :
    Evolves 1125899906843160 s { s with clk := x1, sec := x2, vertex := x3 } :=
  ⟨fun p hp => by cases p <;> first | rfl | exact fun _ _ => rfl | exact fun _ => rfl | exact absurd hp (by decide), fun h => { h with }⟩

theorem upd_cache_ev (s : State) (x1) : Evolves 256 s { s with cache := x1 } :=
  ⟨fun p hp => by cases p <;> first | rfl | exact fun _ _ => rfl | exact fun _ => rfl | exact absurd hp (by decide), fun h => { h with }⟩

theorem upd_t1_ev (s : State) (x1) : Evolves 536870912 s { s with t1 := x1 } :=
  ⟨fun p hp => by cases p <;> first | rfl | exact fun _ _ => rfl | exact fun _ => rfl | exact absurd hp (by decide), fun h => { h with }⟩

theorem upd_vertexQ_streams_streamGens_ev (s : State) (x1 x2 x3) (h2 : TabStep {} s.streams x2 := by
    with_reducible constructor) (h3 : TabStep 0 s.streamGens x3 := by with_reducible constructor) (q1 :
    x1.config = s.vertex.config := by rfl) :
    Evolves 12583424 s { s with vertex := x1, streams := x2, streamGens := x3 } :=
  ⟨fun p hp => by cases p <;> first | exact q1 | rfl | exact fun _ _ => rfl | exact fun _ => rfl | exact absurd hp (by decide), fun h => { h with streams := h2.wf h.streams, streamGens := h3.wf h.streamGens }⟩

theorem upd_sinkWrites_ev (s : State) (x1) : Evolves 33554432 s { s with sinkWrites := x1 } :=
  ⟨fun p hp => by cases p <;> first | rfl | exact fun _ _ => rfl | exact fun _ => rfl | exact absurd hp (by decide), fun h => { h with }⟩

theorem upd_t2_ev (s : State) (x1) : Evolves 268435456 s { s with t2 := x1 } :=
  ⟨fun p hp => by cases p <;> first | rfl | exact fun _ _ => rfl | exact fun _ => rfl | exact absurd hp (by decide), fun h => { h with }⟩

theorem upd_models_modelGens_ev (s : State) (x1 x2) (h1 : TabStep {} s.models x1 := by with_reducible
    constructor) (h2 : TabStep 0 s.modelGens x2 := by with_reducible constructor) :
    Evolves 201326592 s { s with models := x1, modelGens := x2 } :=
  ⟨fun p hp => by cases p <;> first | rfl | exact fun _ _ => rfl | exact fun _ => rfl | exact absurd hp (by decide), fun h => { h with models := h1.wf h.models, modelGens := h2.wf h.modelGens }⟩

theorem upd_t2_t1_ev (s : State) (x1 x2) : Evolves 805306368 s { s with t2 := x1, t1 := x2 } :=
  ⟨fun p hp => by cases p <;> first | rfl | exact fun _ _ => rfl | exact fun _ => rfl | exact absurd hp (by decide), fun h => { h with }⟩

theorem upd_share_shareNext_sinkWrites_ports_ev (s : State) (x1 x2 x3 x4) (h4 : TabStep {} s.ports x4 := by
    with_reducible constructor) :
    Evolves 1108869120 s { s with share := x1, shareNext := x2, sinkWrites := x3, ports := x4 } :=
  ⟨fun p hp => by cases p <;> first | rfl | exact fun _ _ => rfl | exact fun _ => rfl | exact absurd hp (by decide), fun h => { h with ports := h4.wf h.ports }⟩

theorem upd_mode_pins_pcieQ_facets_ev (s : State) (x1 x2 x4 x5) (q4 : x4.regs = s.pcie.regs := by rfl)
    (h5 : TabStep {} s.facets x5 := by with_reducible constructor) :
    Evolves 262213 s { s with mode := x1, pins := x2, pcie := x4, facets := x5 } :=
  ⟨fun p hp => by cases p <;> first | exact q4 | rfl | exact fun _ _ => rfl | exact fun _ => rfl | exact absurd hp (by decide), fun h => { h with facets := h5.wf h.facets }⟩

theorem upd_bwReqs_sent_ev (s : State) (x1 x2) : Evolves 8796095119360 s { s with bwReqs := x1, sent := x2 } :=
  ⟨fun p hp => by cases p <;> first | rfl | exact fun _ _ => rfl | exact fun _ => rfl | exact absurd hp (by decide), fun h => { h with }⟩

theorem upd_share_shareNext_bwReqs_ev (s : State) (x1 x2 x3) :
    Evolves 3670016 s { s with share := x1, shareNext := x2, bwReqs := x3 } :=
  ⟨fun p hp => by cases p <;> first | rfl | exact fun _ _ => rfl | exact fun _ => rfl | exact absurd hp (by decide), fun h => { h with }⟩

theorem upd_mode_sec_ev (s : State) (x1 x2) : Evolves 17 s { s with mode := x1, sec := x2 } :=
  ⟨fun p hp => by cases p <;> first | rfl | exact fun _ _ => rfl | exact fun _ => rfl | exact absurd hp (by decide), fun h => { h with }⟩

theorem upd_warm_ev (s : State) (x1 x2 x3 x4 x5 x6 x7 x8 x9 x10 x11 x12 x13 x14 x15 x16 x17 x18 x19 x20 x21 x22
    x23 x24 x25 x26 x27 x28 x29 x30 x31 x32 x33 x34 x35) (h11 : TabStep {} s.funcs x11 := by with_reducible
    constructor) (h12 : TabStep {} s.rings x12 := by with_reducible constructor) (h13 : CidsIn x13 s.cmds) (h14 : TabStep {} s.parts x14
    := by with_reducible constructor) (h15 : TabStep {} s.prisms x15 := by with_reducible constructor) (h16 :
    TabStep {} s.facets x16 := by with_reducible constructor) (h20 : TabStep {} s.streams x20 := by
    with_reducible constructor) (h21 : TabStep 0 s.streamGens x21 := by with_reducible constructor) (h24 :
    TabStep {} s.models x24 := by with_reducible constructor) (h25 : TabStep 0 s.modelGens x25 := by
    with_reducible constructor) (h28 : TabStep {} s.ports x28 := by with_reducible constructor) (h29 : TabStep
    {} s.ranges x29 := by with_reducible constructor) (h30 : TabStep 0 s.hostBase x30 := by with_reducible
    constructor) (h34 : TabStep {} s.classes x34 := by with_reducible constructor) (h35 : TabStep {} s.ftqs x35
    := by with_reducible constructor) :
    Evolves 2189960874524638 s { s with
      ident := x1, pins := x2, clk := x3, sec := x4, pcie := x5, memc := x6, cache := x7, vertex := x8,
      test := x9, latches := x10, funcs := x11, rings := x12, cmds := x13, parts := x14, prisms := x15,
      facets := x16, share := x17, shareNext := x18, bwReqs := x19, streams := x20, streamGens := x21,
      runs := x22, sinkWrites := x23, models := x24, modelGens := x25, t2 := x26, t1 := x27, ports := x28,
      ranges := x29, hostBase := x30, pcieReads := x31, queueCause := x32, queueEn := x33, classes := x34,
      ftqs := x35 } :=
  ⟨fun p hp => by cases p <;> first | rfl | exact fun _ _ => rfl | exact fun _ => rfl | exact absurd hp (by decide), fun h => { h with funcs := h11.wf h.funcs, rings := h12.wf h.rings, cids := h13.ok h.cids, parts := h14.wf h.parts, prisms := h15.wf h.prisms, facets := h16.wf h.facets, streams := h20.wf h.streams, streamGens := h21.wf h.streamGens, models := h24.wf h.models, modelGens := h25.wf h.modelGens, ports := h28.wf h.ports, ranges := h29.wf h.ranges, hostBase := h30.wf h.hostBase, classes := h34.wf h.classes, ftqs := h35.wf h.ftqs }⟩

theorem upd_ident_ev (s : State) (x1) : Evolves 2 s { s with ident := x1 } :=
  ⟨fun p hp => by cases p <;> first | rfl | exact fun _ _ => rfl | exact fun _ => rfl | exact absurd hp (by decide), fun h => { h with }⟩

theorem upd_ranges_ev (s : State) (x1) (h1 : TabStep {} s.ranges x1 := by with_reducible constructor) :
    Evolves 2147483648 s { s with ranges := x1 } :=
  ⟨fun p hp => by cases p <;> first | rfl | exact fun _ _ => rfl | exact fun _ => rfl | exact absurd hp (by decide), fun h => { h with ranges := h1.wf h.ranges }⟩

theorem upd_memc_ev (s : State) (x1) : Evolves 281474976710784 s { s with memc := x1 } :=
  ⟨fun p hp => by cases p <;> first | rfl | exact fun _ _ => rfl | exact fun _ => rfl | exact absurd hp (by decide), fun h => { h with }⟩

theorem upd_hostBase_ev (s : State) (x1) (h1 : TabStep 0 s.hostBase x1 := by with_reducible constructor) :
    Evolves 4294967296 s { s with hostBase := x1 } :=
  ⟨fun p hp => by cases p <;> first | rfl | exact fun _ _ => rfl | exact fun _ => rfl | exact absurd hp (by decide), fun h => { h with hostBase := h1.wf h.hostBase }⟩

theorem upd_pcie_ev (s : State) (x1) : Evolves 562949953421376 s { s with pcie := x1 } :=
  ⟨fun p hp => by cases p <;> first | rfl | exact fun _ _ => rfl | exact fun _ => rfl | exact absurd hp (by decide), fun h => { h with }⟩

theorem upd_queueEn_ev (s : State) (x1) : Evolves 1099511627776 s { s with queueEn := x1 } :=
  ⟨fun p hp => by cases p <;> first | rfl | exact fun _ _ => rfl | exact fun _ => rfl | exact absurd hp (by decide), fun h => { h with }⟩

theorem upd_fatal_ev (s : State) (x1) : Evolves 32 s { s with fatal := x1 } :=
  ⟨fun p hp => by cases p <;> first | rfl | exact fun _ _ => rfl | exact fun _ => rfl | exact absurd hp (by decide), fun h => { h with }⟩

theorem upd_mode_clk_sec_memc_ev (s : State) (x1 x2 x3 x4) :
    Evolves 281474976710809 s { s with mode := x1, clk := x2, sec := x3, memc := x4 } :=
  ⟨fun p hp => by cases p <;> first | rfl | exact fun _ _ => rfl | exact fun _ => rfl | exact absurd hp (by decide), fun h => { h with }⟩

theorem upd_mode_clk_ev (s : State) (x1 x2) : Evolves 9 s { s with mode := x1, clk := x2 } :=
  ⟨fun p hp => by cases p <;> first | rfl | exact fun _ _ => rfl | exact fun _ => rfl | exact absurd hp (by decide), fun h => { h with }⟩

theorem upd_rings_cmds_pcieReads_ev (s : State) (x1 x2 x3) (h2 : CidsIn x2 s.cmds) (h1 : TabStep {} s.rings x1 := by
    with_reducible constructor) :
    Evolves 70643622109184 s { s with rings := x1, cmds := x2, pcieReads := x3 } :=
  ⟨fun p hp => by cases p <;> first | rfl | exact fun _ _ => rfl | exact fun _ => rfl | exact absurd hp (by decide), fun h => { h with rings := h1.wf h.rings, cids := h2.ok h.cids }⟩

theorem upd_pcie_funcs_ev (s : State) (x1 x2) (h2 : TabStep {} s.funcs x2 := by with_reducible constructor) :
    Evolves 703687441780800 s { s with pcie := x1, funcs := x2 } :=
  ⟨fun p hp => by cases p <;> first | rfl | exact fun _ _ => rfl | exact fun _ => rfl | exact absurd hp (by decide), fun h => { h with funcs := h2.wf h.funcs }⟩

theorem upd_streams_runs_ev (s : State) (x1 x2) (h1 : TabStep {} s.streams x1 := by with_reducible constructor)
    :
    Evolves 20971520 s { s with streams := x1, runs := x2 } :=
  ⟨fun p hp => by cases p <;> first | rfl | exact fun _ _ => rfl | exact fun _ => rfl | exact absurd hp (by decide), fun h => { h with streams := h1.wf h.streams }⟩

theorem upd_mode_pins_ev (s : State) (x1 x2) : Evolves 5 s { s with mode := x1, pins := x2 } :=
  ⟨fun p hp => by cases p <;> first | rfl | exact fun _ _ => rfl | exact fun _ => rfl | exact absurd hp (by decide), fun h => { h with }⟩

theorem upd_mode_ev (s : State) (x1) : Evolves 1 s { s with mode := x1 } :=
  ⟨fun p hp => by cases p <;> first | rfl | exact fun _ _ => rfl | exact fun _ => rfl | exact absurd hp (by decide), fun h => { h with }⟩

theorem upd_pins_ev (s : State) (x1) : Evolves 4 s { s with pins := x1 } :=
  ⟨fun p hp => by cases p <;> first | rfl | exact fun _ _ => rfl | exact fun _ => rfl | exact absurd hp (by decide), fun h => { h with }⟩

theorem upd_mode_pins_pcie_funcs_ev (s : State) (x1 x2 x3 x4) (h4 : TabStep {} s.funcs x4 := by with_reducible
    constructor) :
    Evolves 703687441780805 s { s with mode := x1, pins := x2, pcie := x3, funcs := x4 } :=
  ⟨fun p hp => by cases p <;> first | rfl | exact fun _ _ => rfl | exact fun _ => rfl | exact absurd hp (by decide), fun h => { h with funcs := h4.wf h.funcs }⟩

theorem upd_ident_clk_ev (s : State) (x1 x2) : Evolves 10 s { s with ident := x1, clk := x2 } :=
  ⟨fun p hp => by cases p <;> first | rfl | exact fun _ _ => rfl | exact fun _ => rfl | exact absurd hp (by decide), fun h => { h with }⟩

theorem upd_mode_ident_pins_clk_test_ev (s : State) (x1 x2 x3 x4 x5) :
    Evolves 1039 s { s with mode := x1, ident := x2, pins := x3, clk := x4, test := x5 } :=
  ⟨fun p hp => by cases p <;> first | rfl | exact fun _ _ => rfl | exact fun _ => rfl | exact absurd hp (by decide), fun h => { h with }⟩

theorem upd_mode_clk_sec_vertex_ev (s : State) (x1 x2 x3 x4) :
    Evolves 1125899906843161 s { s with mode := x1, clk := x2, sec := x3, vertex := x4 } :=
  ⟨fun p hp => by cases p <;> first | rfl | exact fun _ _ => rfl | exact fun _ => rfl | exact absurd hp (by decide), fun h => { h with }⟩

theorem upd_pins_clk_ev (s : State) (x1 x2) : Evolves 12 s { s with pins := x1, clk := x2 } :=
  ⟨fun p hp => by cases p <;> first | rfl | exact fun _ _ => rfl | exact fun _ => rfl | exact absurd hp (by decide), fun h => { h with }⟩

theorem upd_latches_ev (s : State) (x1) : Evolves 2048 s { s with latches := x1 } :=
  ⟨fun p hp => by cases p <;> first | rfl | exact fun _ _ => rfl | exact fun _ => rfl | exact absurd hp (by decide), fun h => { h with }⟩

theorem upd_shareNext_ev (s : State) (x1) : Evolves 1048576 s { s with shareNext := x1 } :=
  ⟨fun p hp => by cases p <;> first | rfl | exact fun _ _ => rfl | exact fun _ => rfl | exact absurd hp (by decide), fun h => { h with }⟩

theorem upd_mode_pins_pcieQ_ev (s : State) (x1 x2 x3) (q3 : x3.regs = s.pcie.regs := by rfl) :
    Evolves 69 s { s with mode := x1, pins := x2, pcie := x3 } :=
  ⟨fun p hp => by cases p <;> first | exact q3 | rfl | exact fun _ _ => rfl | exact fun _ => rfl | exact absurd hp (by decide), fun h => { h with }⟩

end Sys2Proof.Machine
end

