-- ==== Sys2Proof/Laws/FrameBase.lean ====
section
/-! SUPPORT. What each function of the model may change (`Evolves`): Ops, Flags, Complete, FabOut, Rings, Cache, Streams, Codec, Admission. -/

-- These proofs wait on the same definitions: they are elaborated in order.
set_option Elab.async false

namespace Sys2Proof.Machine

/-! ### Ops -/

theorem State.emit_ev (s : State) (x1) : Evolves 8796093022208 s (State.emit s x1) := by
  unfold State.emit
  exact .step (upd_sent_ev ..) <| .refl ..

theorem State.modCmd_ev (s : State) (x1 x2) (h : ∀ c, (x2 c).cid = c.cid := by intro _; first | rfl | (split <;> rfl)) :
    Evolves 16384 s (State.modCmd s x1 x2) := by
  unfold State.modCmd
  refine .step (upd_cmds_ev _ _ (CidsIn.map (fun c => ?_) _)) <| .refl ..
  split
  · exact h c
  · rfl

theorem State.modFabPort_ev (s : State) (x1 x2) : Evolves 1125899906843136 s (State.modFabPort s x1 x2) := by
  unfold State.modFabPort
  exact .step (upd_vertex_ev ..) <| .refl ..

theorem State.modFacet_ev (s : State) (x1 x2) : Evolves 262144 s (State.modFacet s x1 x2) := by
  unfold State.modFacet
  exact .step (upd_facets_ev ..) <| .refl ..

theorem State.modFunc_ev (s : State) (x1 x2) : Evolves 140737488359424 s (State.modFunc s x1 x2) := by
  unfold State.modFunc
  exact .step (upd_funcs_ev ..) <| .refl ..

theorem State.modModel_ev (s : State) (x1 x2) : Evolves 67108864 s (State.modModel s x1 x2) := by
  unfold State.modModel
  exact .step (upd_models_ev ..) <| .refl ..

theorem State.modPart_ev (s : State) (x1 x2) : Evolves 65536 s (State.modPart s x1 x2) := by
  unfold State.modPart
  exact .step (upd_parts_ev ..) <| .refl ..

theorem State.modPort_ev (s : State) (x1 x2) : Evolves 1073741824 s (State.modPort s x1 x2) := by
  unfold State.modPort
  exact .step (upd_ports_ev ..) <| .refl ..

theorem State.modPrism_ev (s : State) (x1 x2) : Evolves 131072 s (State.modPrism s x1 x2) := by
  unfold State.modPrism
  exact .step (upd_prisms_ev ..) <| .refl ..

theorem State.modQclass_ev (s : State) (x1 x2) : Evolves 2199023255552 s (State.modQclass s x1 x2) := by
  unfold State.modQclass
  exact .step (upd_classes_ev ..) <| .refl ..

theorem State.modRing_ev (s : State) (x1 x2 x3) : Evolves 70368744185856 s (State.modRing s x1 x2 x3) := by
  unfold State.modRing
  exact .step (upd_rings_ev ..) <| .refl ..

theorem State.modRun_ev (s : State) (x1 x2) : Evolves 16777216 s (State.modRun s x1 x2) := by
  unfold State.modRun
  exact .step (upd_runs_ev ..) <| .refl ..

theorem State.modSlot_ev (s : State) (x1 x2 x3) : Evolves 1073741824 s (State.modSlot s x1 x2 x3) := by
  unfold State.modSlot
  exact .step (State.modPort_ev ..) <| .refl ..

theorem State.modStream_ev (s : State) (x1 x2) : Evolves 4194304 s (State.modStream s x1 x2) := by
  unfold State.modStream
  exact .step (upd_streams_ev ..) <| .refl ..

theorem State.setMemCause_ev (s : State) (x1) : Evolves 128 s (State.setMemCause s x1) := by
  unfold State.setMemCause
  exact .step (upd_memcQ_ev ..) <| .refl ..

theorem State.used_ev (s : State) (x1) : Evolves 17592186044416 s (State.used s x1) := by
  unfold State.used
  exact .step (upd_freeCtr_ev ..) <| .refl ..

theorem hostStore_ev (s : State) (x1 x2 x3 x4) : Evolves 8899172237312 s (hostStore s x1 x2 x3 x4) := by
  unfold hostStore
  exact .step (upd_host_sent_ev _ _ _ _ fun h => ⟨writeBytes_wf _ _ h.hostMem, poisonAfter_wf _ _ _ h.hostPoison⟩) <|
    .refl ..

theorem correctSector_ev (s : State) (x1) : Evolves 128 s (correctSector s x1) := by
  unfold correctSector
  exact .step (State.setMemCause_ev ..) <| .step (upd_memcQ_ev ..) <| .refl ..

theorem loseSector_ev (s : State) (x1) : Evolves 17179869312 s (loseSector s x1) := by
  refine .step (State.setMemCause_ev _ _) ?_
  exact ⟨fun p hp => by cases p <;> first | rfl | exact fun _ _ => rfl | exact fun _ => rfl | exact absurd hp (by decide),
    fun h => { h with poison := by dsimp only; exact tabWf_set h.poison }⟩

theorem overwritten_ev (s : State) (x1 x2) : Evolves 128 s (overwritten s x1 x2) := by
  unfold overwritten
  exact .step (upd_memcQ_ev ..) <| .refl ..

theorem partialReads_ev (s : State) (x1 x2) : Evolves 17179869312 s (partialReads s x1 x2) := by
  unfold partialReads
  refine .step (overwritten_ev ..) <| .foldl _ (fun s x => ?_) ?_
  · split
    · exact .step (correctSector_ev ..) <| .refl ..
    · exact .step (loseSector_ev ..) <| .refl ..
  · exact .refl ..

theorem lpWrite_ev (s : State) (x1 x2 x3) : Evolves 25769803904 s (lpWrite s x1 x2 x3) := by
  unfold lpWrite
  extract_lets l1 l2
  split
  · exact .step (upd_local_ev _ _ _ fun h => ⟨writeBytes_wf _ _ h.mem, poisonAfter_wf _ _ _ h.poison⟩) <|
      .step (partialReads_ev ..) <| .refl ..
  · have h2 : Evolves 25769803904 s l2 :=
      .step (upd_local_ev _ _ l1.poison fun h => ⟨writeBytes_wf _ _ h.mem, h.poison⟩) <|
        .step (partialReads_ev ..) <| .refl ..
    split
    · exact .step (State.setMemCause_ev ..) h2
    · exact h2

theorem localWrite_ev (s : State) (x1 x2 x3) : Evolves 8924942041216 s (localWrite s x1 x2 x3).1 := by
  unfold localWrite
  split
  · split
    · dsimp -zeta only
      exact .step (lpWrite_ev ..) <| .refl ..
    · dsimp -zeta only
      exact .step (State.setMemCause_ev ..) <| .refl ..
  · split
    · dsimp -zeta only
      exact .refl ..
    · dsimp -zeta only
      exact .step (hostStore_ev ..) <| .refl ..
  · dsimp -zeta only
    exact .refl ..
  · dsimp -zeta only
    exact .step (State.setMemCause_ev ..) <| .refl ..

theorem addrWrite_ev (s : State) (x1 x2 x3 x4) : Evolves 8924942041216 s (addrWrite s x1 x2 x3 x4).1 := by
  unfold addrWrite
  split
  · split
    · dsimp -zeta only
      exact .refl ..
    · dsimp -zeta only
      exact .step (hostStore_ev ..) <| .refl ..
  · exact .step (localWrite_ev ..) <| .refl ..

theorem countUe_ev (s : State) : Evolves 128 s (countUe s) := by
  unfold countUe
  exact .step (State.setMemCause_ev ..) <| .step (upd_memcQ_ev ..) <| .refl ..

theorem lpReadEff_ev (s : State) (x1 x2) : Evolves 128 s (lpReadEff s x1 x2) := by
  unfold lpReadEff
  refine .foldl _ (fun s x => ?_) ?_
  · split
    · exact .step (correctSector_ev ..) <| .refl ..
    · exact .step (countUe_ev ..) <| .refl ..
  · exact .refl ..

theorem hostReadEff_ev (s : State) (x1 x2 x3) : Evolves 26388279066688 s (hostReadEff s x1 x2 x3) := by
  unfold hostReadEff
  extract_lets l1 l2
  split
  · exact .step (State.used_ev ..) <| .step (upd_pcieQ_ev ..) <| .step (upd_sent_ev ..) <| .refl ..
  · exact .step (upd_sent_ev ..) <| .refl ..

theorem localReadEff_ev (s : State) (x1 x2) : Evolves 26388279066816 s (localReadEff s x1 x2) := by
  unfold localReadEff
  split
  · split
    · exact .step (lpReadEff_ev ..) <| .refl ..
    · exact .step (State.setMemCause_ev ..) <| .refl ..
  · exact .step (hostReadEff_ev ..) <| .refl ..
  · exact .step (State.used_ev ..) <| .refl ..
  · exact .step (State.setMemCause_ev ..) <| .refl ..

/-! ### Flags -/

theorem State.setCrownCause_ev (s : State) (x1) : Evolves 8 s (State.setCrownCause s x1) := by
  unfold State.setCrownCause
  exact .step (upd_clk_ev ..) <| .refl ..

theorem State.setFacetCause_ev (s : State) (x1 x2) : Evolves 262144 s (State.setFacetCause s x1 x2) := by
  unfold State.setFacetCause
  exact .step (State.modFacet_ev ..) <| .refl ..

theorem State.setModelCause_ev (s : State) (x1 x2) : Evolves 65536 s (State.setModelCause s x1 x2) := by
  unfold State.setModelCause
  exact .step (State.modPart_ev ..) <| .refl ..

theorem State.setPartCause_ev (s : State) (x1 x2) : Evolves 65536 s (State.setPartCause s x1 x2) := by
  unfold State.setPartCause
  exact .step (State.modPart_ev ..) <| .refl ..

theorem State.setPmuCause_ev (s : State) (x1) : Evolves 8 s (State.setPmuCause s x1) := by
  unfold State.setPmuCause
  exact .step (upd_clk_ev ..) <| .refl ..

theorem State.setQueueCause_ev (s : State) (x1) : Evolves 549755813888 s (State.setQueueCause s x1) := by
  unfold State.setQueueCause
  exact .step (upd_queueCause_ev ..) <| .refl ..

theorem State.setRingCause_ev (s : State) (x1 x2 x3) : Evolves 70368744185856 s (State.setRingCause s x1 x2 x3) := by
  unfold State.setRingCause
  exact .step (State.modRing_ev ..) <| .refl ..

theorem State.setSecCause_ev (s : State) (x1) : Evolves 16 s (State.setSecCause s x1) := by
  unfold State.setSecCause
  exact .step (upd_sec_ev ..) <| .refl ..

theorem State.setStreamCause_ev (s : State) (x1 x2) : Evolves 65536 s (State.setStreamCause s x1 x2) := by
  unfold State.setStreamCause
  exact .step (State.modPart_ev ..) <| .refl ..

theorem State.setTestCause_ev (s : State) (x1) : Evolves 1024 s (State.setTestCause s x1) := by
  unfold State.setTestCause
  exact .step (upd_test_ev ..) <| .refl ..

theorem State.setVertexCause_ev (s : State) (x1) : Evolves 512 s (State.setVertexCause s x1) := by
  unfold State.setVertexCause
  exact .step (upd_vertexQ_ev ..) <| .refl ..

/-- Firing interrupts keeps the table of interrupt pages canonical. -/
theorem fireAll_wf (s : State) (fs : List Nat) (h : tabWf {} s.funcs = true) : tabWf {} (fireAll s fs).1 = true := by
  induction fs with
  | nil => exact h
  | cons f r ih =>
    unfold fireAll
    dsimp only
    split
    · exact tabWf_set ih
    · exact ih

/-- Firing interrupts changes no register of an interrupt page but ARMED. -/
theorem fireAll_regs (s : State) (fs : List Nat) (g : Nat) :
    (tabGet {} (fireAll s fs).1 g).regs = (s.func g).regs := by
  induction fs with
  | nil => rfl
  | cons f r ih =>
    unfold fireAll
    dsimp only
    split
    · rename_i ha
      by_cases hg : g = f
      · subst hg
        have h : (firePage s g (s.func g)).1.armed = false ∧ (firePage s g (s.func g)).1.regs = (s.func g).regs := by
          unfold firePage
          rw [if_pos ha]
          split
          · exact ⟨rfl, rfl⟩
          · split <;> exact ⟨rfl, rfl⟩
        rw [tabGet_set_self]
        exact h.2
      · rw [tabGet_set_other hg]
        exact ih
    · exact ih

theorem settle_ev (s : State) : Evolves 8796093026304 s (settle s) :=
  .step (upd_funcsQ_sent_ev (h1 := .of (fireAll_wf s _)) (q1 := fireAll_regs s _) ..) <| .refl ..

/-! ### Complete -/

theorem postEntry_ev (s : State) (x1 x2 x3) : Evolves 8192 s (postEntry s x1 x2 x3) := by
  unfold postEntry
  split
  · refine .step (upd_ringsQ_ev (q1 := fun f r => ?_) ..) <| .refl ..
    unfold tabMod
    by_cases hk : 16 * f + r = 16 * x1 + x2
    · unfold State.ring
      rw [hk, tabGet_set_self]
      rfl
    · rw [tabGet_set_other hk]
      rfl
  · exact .refl ..

theorem finish_ev (s : State) (x1 x2 x3 x4) : Evolves 16801792 s (finish s x1 x2 x3 x4) := by
  unfold finish
  split
  · exact .refl ..
  · extract_lets l1
    refine .iteR ?_ ?_
    · exact .step (upd_cmds_runs_ev _ _ _ (CidsIn.filter ..)) <| .refl ..
    · exact .step (postEntry_ev ..) <| .refl ..

theorem fail_ev (s : State) (x1 x2) : Evolves 16801792 s (fail s x1 x2) := by
  unfold fail
  exact .step (finish_ev ..) <| .refl ..

theorem finishAll_ev (s : State) (x1 x2) : Evolves 16801792 s (finishAll s x1 x2) := by
  fun_induction finishAll s x1 x2
  · exact .refl ..
  · exact .step (by assumption) <| .step (fail_ev ..) <| .refl ..

theorem begin'_ev (s : State) (x1) : Evolves 16384 s (begin' s x1) := by
  unfold begin'
  exact .step (State.modCmd_ev ..) <| .refl ..

/-! ### FabOut -/

theorem issueReq_ev (s : State) (x1 x2 x3 x4 x5) : Evolves 8796093022720 s (issueReq s x1 x2 x3 x4 x5).1 := by
  unfold issueReq
  split
  · dsimp -zeta only
    exact .refl ..
  · split
    · dsimp -zeta only
      exact .refl ..
    · extract_lets l1 l2 l3 l4 l5 l6 l7
      dsimp -zeta only
      refine .iteL ?_ ?_
      · exact .step (upd_vertexQ_ev ..) <| .refl ..
      · exact .step (State.emit_ev ..) <| .refl ..

theorem issueReads_ev (s : State) (x1 x2 x3) : Evolves 8796093022720 s (issueReads s x1 x2 x3).1 := by
  fun_induction issueReads s x1 x2 x3
  · dsimp -zeta only
    exact .refl ..
  · exact .step (by assumption) <| .step (issueReq_ev ..) <| .refl ..
  · dsimp -zeta only
    exact .step (issueReq_ev ..) <| .refl ..

theorem issueWrites_ev (s : State) (x1 x2 x3 x4 x5 x6) :
    Evolves 8796093022720 s (issueWrites s x1 x2 x3 x4 x5 x6).1 := by
  fun_induction issueWrites s x1 x2 x3 x4 x5 x6
  · dsimp -zeta only
    exact .refl ..
  · exact .step (by assumption) <| .step (issueReq_ev ..) <| .refl ..
  · dsimp -zeta only
    exact .step (issueReq_ev ..) <| .refl ..

theorem writeOut_ev (s : State) (x1 x2 x3 x4 x5 x6) :
    Evolves 8924958843520 s (writeOut s x1 x2 x3 x4 x5 x6) := by
  unfold writeOut
  split
  · exact .step (fail_ev ..) <| .refl ..
  · split
    · extract_lets l1 l2
      split
      · exact .step (State.modCmd_ev ..) <| .step (issueWrites_ev ..) <| .refl ..
      · exact .step (fail_ev ..) <| .step (issueWrites_ev ..) <| .refl ..
    · extract_lets l1
      split
      · exact .step (finish_ev ..) <| .step (addrWrite_ev ..) <| .refl ..
      · exact .step (fail_ev ..) <| .step (addrWrite_ev ..) <| .refl ..

theorem writeSized_ev (s : State) (x1 x2 x3 x4 x5) : Evolves 8924958843520 s (writeSized s x1 x2 x3 x4 x5) := by
  unfold writeSized
  split
  · exact .step (fail_ev ..) <| .refl ..
  · split
    · exact .step (fail_ev ..) <| .refl ..
    · split
      · exact .step (finish_ev ..) <| .refl ..
      · exact .step (writeOut_ev ..) <| .refl ..

theorem addrReadEff_ev (s : State) (x1 x2 x3) : Evolves 26388279066816 s (addrReadEff s x1 x2 x3) := by
  unfold addrReadEff
  split
  · exact .step (hostReadEff_ev ..) <| .refl ..
  · exact .step (localReadEff_ev ..) <| .refl ..

theorem withStruct_ev {T : Nat} {s u : State} {c v n g k} (hm : 26388295869120 &&& T = 26388295869120)
    (h : Evolves T s u) (hk : ∀ t b, Evolves T s t → Evolves T s (k t b)) : Evolves T s (withStruct u c v n g k) := by
  have hr (m : Nat) (hm' : m &&& 26388295869120 = m) : m &&& T = m := by rw [← hm', Nat.and_assoc, hm]
  unfold withStruct
  split
  · exact .step (fail_ev ..) h (hr _ (by decide))
  · split
    · exact .step (fail_ev ..) h (hr _ (by decide))
    · split
      · exact .step (fail_ev ..) h (hr _ (by decide))
      · split
        · split
          · exact hk _ _ h
          · extract_lets ps q
            have hq : Evolves T s q.1 := .step (issueReads_ev ..) h (hr _ (by decide))
            split
            · exact .step (State.modCmd_ev ..) hq (hr _ (by decide))
            · exact .step (fail_ev ..) hq (hr _ (by decide))
        · extract_lets r s1
          have h1 : Evolves T s s1 := .step (addrReadEff_ev ..) h (hr _ (by decide))
          split
          · exact .step (fail_ev ..) h1 (hr _ (by decide))
          · exact hk _ _ h1

/-! ### Rings -/

theorem State.linkUsed_ev (s : State) : Evolves 64 s (State.linkUsed s) := by
  unfold State.linkUsed
  exact .step (upd_pcieQ_ev ..) <| .refl ..

theorem abortDoneEff_ev (s : State) (x1 x2) : Evolves 70368744185856 s (abortDoneEff s x1 x2) := by
  unfold abortDoneEff
  exact .step (State.modRing_ev ..) <| .refl ..

theorem dropKernels_ev (s : State) (x1) : Evolves 327680 s (dropKernels s x1) := by
  unfold dropKernels
  exact .step (upd_parts_facets_ev ..) <| .refl ..

theorem staleReads_ev (s : State) (x1 x2) : Evolves 274877906944 s (staleReads s x1 x2) := by
  unfold staleReads
  exact .step (upd_pcieReads_ev ..) <| .refl ..

theorem abortEff_ev (s : State) (x1 x2) : Evolves 70643639214080 s (abortEff s x1 x2) := by
  unfold abortEff
  split
  · exact .refl ..
  · extract_lets l1 l2
    exact .step (finishAll_ev ..) <| .step (dropKernels_ev ..) <| .step (staleReads_ev ..) <|
      .step (State.modRing_ev ..) <| .refl ..

theorem admitCmd_ev (s : State) (x1) (h : x1.cid = s.nextCid) : Evolves 16834560 s (admitCmd s x1) := by
  unfold admitCmd
  extract_lets l1
  have h1 : Evolves 16834560 s l1 := .step (upd_admit_ev s x1 h) <| .refl ..
  split
  · split
    · exact .step (State.modCmd_ev ..) h1
    · exact .step (fail_ev ..) h1
  · exact .step (State.modCmd_ev ..) h1

theorem askUnits_ev (s : State) (x1 x2) : Evolves 274877906944 s (askUnits s x1 x2) := by
  unfold askUnits
  extract_lets l1 l2
  split
  · exact .refl ..
  · split
    · exact .refl ..
    · exact .step (upd_pcieReads_ev ..) <| .refl ..

theorem ringError_ev (s : State) (x1 x2 x3 x4) : Evolves 70368744185856 s (ringError s x1 x2 x3 x4) := by
  unfold ringError
  exact .step (State.modRing_ev ..) <| .refl ..

theorem askTable_ev (s : State) (x1 x2 x3) : Evolves 8796093039104 s (askTable s x1 x2 x3) := by
  unfold askTable
  split
  · exact .refl ..
  · exact .step (State.modCmd_ev ..) <| .step (issueReads_ev ..) <| .refl ..

theorem askTables_ev (s : State) (x1) : Evolves 8796093039104 s (askTables s x1) := by
  unfold askTables
  split
  · exact .refl ..
  · extract_lets l1
    exact .step (State.modCmd_ev ..) <| .step (askTable_ev ..) <| .step (askTable_ev ..) <| .step (askTable_ev ..) <|
      .refl ..

theorem snapTableEff_ev (s : State) (x1 x2 x3) : Evolves 26388279066816 s (snapTableEff s x1 x2 x3) := by
  unfold snapTableEff
  split
  · exact .refl ..
  · exact .step (addrReadEff_ev ..) <| .refl ..

theorem snapEff_ev (s : State) (x1) : Evolves 26388279066816 s (snapEff s x1) := by
  unfold snapEff
  exact .step (snapTableEff_ev ..) <| .step (snapTableEff_ev ..) <| .step (snapTableEff_ev ..) <| .refl ..

theorem acceptPacket_ev (s : State) (x1 x2 x3) : Evolves 97031917986496 s (acceptPacket s x1 x2 x3) := by
  unfold acceptPacket
  extract_lets l1 l2 l3 l4 l5 l6 l7
  split
  · exact .step (ringError_ev ..) <| .refl ..
  · have h5 : Evolves 96757023252672 s l5 := .step (State.modRing_ev ..) <| .refl ..
    have h6 : Evolves 96757023252672 s l6 := by
      subst l6
      refine .iteR h5 <| .step (snapEff_ev ..) <| .refl ..
    have h7 : Evolves 96757023252672 s l7 := by
      subst l7
      refine .iteR h6 <| .step (localReadEff_ev ..) <| .refl ..
    have hc : l3.cid = l7.nextCid := by
      rw [show l7.nextCid = s.nextCid from h7.frame .nextCid (by decide)]
      subst l3
      simp only [acceptedCmd]
      split <;> rfl
    exact .step (askUnits_ev ..) <| .step (askTables_ev ..) <| .step (admitCmd_ev _ _ hc) <| h7.mono

theorem cqHeadEff_ev (s : State) (x1 x2 x3) : Evolves 70368744185856 s (cqHeadEff s x1 x2 x3) := by
  unfold cqHeadEff
  extract_lets l1 l2 l3 l4
  split
  · exact .step (State.modRing_ev ..) <| .step (ringError_ev ..) <| .refl ..
  · exact .step (State.modRing_ev ..) <| .refl ..

theorem cqEnableEff_ev (s : State) (x1 x2 x3) : Evolves 70368744185856 s (cqEnableEff s x1 x2 x3) := by
  unfold cqEnableEff
  extract_lets l1
  split
  · split
    · exact .refl ..
    · exact .step (State.modRing_ev ..) <| .refl ..
  · split
    · exact .refl ..
    · exact .step (State.modRing_ev ..) <| .refl ..

theorem ringResetEff_ev (s : State) (x1 x2) : Evolves 70643639214080 s (ringResetEff s x1 x2) := by
  unfold ringResetEff
  exact .step (State.modRing_ev ..) <| .step (abortEff_ev ..) <| .refl ..

theorem sqEnableEff_ev (s : State) (x1 x2 x3) : Evolves 70643622092800 s (sqEnableEff s x1 x2 x3) := by
  unfold sqEnableEff
  extract_lets l1
  split
  · exact .step (staleReads_ev ..) <| .step (State.modRing_ev ..) <| .refl ..
  · split
    · exact .refl ..
    · split
      · exact .step (State.modRing_ev ..) <| .refl ..
      · exact .step (State.modRing_ev ..) <| .refl ..

theorem sqTailEff_ev (s : State) (x1 x2 x3) : Evolves 70643622092800 s (sqTailEff s x1 x2 x3) := by
  unfold sqTailEff
  extract_lets l1 l2 l3
  split
  · exact .step (ringError_ev ..) <| .refl ..
  · exact .step (askUnits_ev ..) <| .step (State.modRing_ev ..) <| .refl ..

theorem writeBurst_ev (s : State) (x1 x2 x3 x4) : Evolves 79293686227072 s (writeBurst s x1 x2 x3 x4) := by
  unfold writeBurst
  extract_lets l1 l2 l3 l4 l5 l6
  split
  · refine .step (State.modRing_ev ..) ?_
    subst l5
    split
    · split
      · dsimp -zeta only
        exact .refl ..
      · dsimp -zeta only
        exact .step (hostStore_ev ..) <| .refl ..
    · split
      · exact .step (localWrite_ev ..) <| .refl ..
      · dsimp -zeta only
        exact .refl ..
  · exact .step (State.modRing_ev ..) <| .step (ringError_ev ..) <| .refl ..

theorem burstEff_ev (s : State) (x1 x2 x3) : Evolves 79293686227072 s (burstEff s x1 x2 x3) := by
  unfold burstEff
  split
  · exact .refl ..
  · split
    · exact .step (writeBurst_ev ..) <| .refl ..
    · exact .refl ..

theorem coFlush_ev (s : State) (x1 x2) : Evolves 81492709482624 s (coFlush s x1 x2) := by
  unfold coFlush
  extract_lets l1
  split
  · exact .step (burstEff_ev ..) <| .refl ..
  · exact .step (State.modQclass_ev ..) <| .step (State.modRing_ev ..) <| .refl ..

theorem packetAcceptEff_ev (s : State) (x1 x2) : Evolves 97031917986496 s (packetAcceptEff s x1 x2) := by
  unfold packetAcceptEff
  extract_lets l1 l2 l3
  split
  · exact .refl ..
  · split
    · exact .step (askUnits_ev ..) <| .refl ..
    · split
      · exact .step (ringError_ev ..) <| .refl ..
      · split
        · exact .step (ringError_ev ..) <| .refl ..
        · split
          · exact .refl ..
          · exact .step (acceptPacket_ev ..) <| .refl ..

/-! ### Cache -/

theorem dropT0_ev (s : State) (x1 x2) : Evolves 65536 s (dropT0 s x1 x2) := by
  unfold dropT0
  exact .step (State.modPart_ev ..) <| .refl ..

theorem evictNowT0_ev (s : State) (x1 x2) : Evolves 16867328 s (evictNowT0 s x1 x2) := by
  unfold evictNowT0
  exact .step (finishAll_ev ..) <| .step (dropT0_ev ..) <| .refl ..

theorem roomT0_ev (x1) (s : State) (x2 x3 x4 x5 x6) :
    Evolves 16867328 s ((roomT0 x1 s x2 x3 x4 x5 x6).getD s) := by
  fun_induction roomT0 x1 s x2 x3 x4 x5 x6
  · rw [Option.getD_some]
    exact .refl ..
  · rw [Option.getD_none]
    exact .refl ..
  · rw [Option.getD_none]
    exact .refl ..
  · refine .optGetD (fun t h => ?_) ?_
    · exact .step (.ofSome (by assumption) (by assumption)) <| .step (evictNowT0_ev ..) <| .refl ..
    · exact .refl ..

theorem beginPlace_ev (s : State) (x1 x2 x3) : Evolves 16867584 s ((beginPlace s x1 x2 x3).getD s) := by
  unfold beginPlace
  extract_lets l1 l2 l3
  split
  · rw [Option.getD_none]
    exact .refl ..
  · extract_lets l4 l5 l6
    rw [Option.getD_some]
    exact .step (State.modPart_ev ..) <| .step (upd_cache_ev ..) <| .step (.ofSome (by assumption) (roomT0_ev ..)) <|
      .refl ..

theorem dropT1_ev (s : State) (x1) : Evolves 536870912 s (dropT1 s x1) := by
  unfold dropT1
  exact .step (upd_t1_ev ..) <| .refl ..

theorem evictNowT1_ev (s : State) (x1) : Evolves 553672704 s (evictNowT1 s x1) := by
  unfold evictNowT1
  exact .step (finishAll_ev ..) <| .step (dropT1_ev ..) <| .refl ..

theorem roomT1_ev (x1) (s : State) (x2 x3 x4) : Evolves 553672704 s ((roomT1 x1 s x2 x3 x4).getD s) := by
  fun_induction roomT1 x1 s x2 x3 x4
  · rw [Option.getD_some]
    exact .refl ..
  · rw [Option.getD_none]
    exact .refl ..
  · rw [Option.getD_none]
    exact .refl ..
  · refine .optGetD (fun t h => ?_) ?_
    · exact .step (.ofSome (by assumption) (by assumption)) <| .step (evictNowT1_ev ..) <| .refl ..
    · exact .refl ..

theorem beginT1_ev (s : State) (x1 x2) : Evolves 553672704 s ((beginT1 s x1 x2).getD s) := by
  unfold beginT1
  split
  · rw [Option.getD_some]
    exact .step (upd_t1_ev ..) <| .refl ..
  · extract_lets l1
    split
    · rw [Option.getD_none]
      exact .refl ..
    · rw [Option.getD_some]
      exact .step (upd_t1_ev ..) <| .step (.ofSome (by assumption) (roomT1_ev ..)) <| .refl ..

theorem unregister_ev (s : State) (x1) : Evolves 1006698496 s (unregister s x1) := by
  unfold unregister
  extract_lets l1 l2 l3 l4 l5
  split
  · subst l5
    split
    · exact .step (upd_models_modelGens_ev ..) <| .refl ..
    · exact .step (dropT0_ev ..) <| .step (upd_models_modelGens_ev ..) <| .refl ..
  · refine .step (upd_t2_t1_ev ..) ?_
    subst l5
    split
    · exact .step (upd_models_modelGens_ev ..) <| .refl ..
    · exact .step (dropT0_ev ..) <| .step (upd_models_modelGens_ev ..) <| .refl ..

/-! ### Streams -/

theorem roomGeode_ev (s : State) (x1) : Evolves 553672704 s ((roomGeode s x1).getD s) := by
  unfold roomGeode
  split
  · exact .step (roomT1_ev ..) <| .refl ..
  · rw [Option.getD_none]
    exact .refl ..

theorem moveAway_ev (s : State) (x1) : Evolves 557867008 s ((moveAway s x1).getD s) := by
  unfold moveAway
  extract_lets l1
  split
  · rw [Option.getD_some]
    exact .step (State.modStream_ev ..) <| .step (.ofSome (by assumption) (roomGeode_ev ..)) <| .refl ..
  · split
    · rw [Option.getD_some]
      exact .step (State.modStream_ev ..) <| .refl ..
    · rw [Option.getD_none]
      exact .refl ..

theorem roomState_ev (n) (s : State) (k hs need) : Evolves 557867008 s ((roomState n s k hs need).getD s) := by
  induction n generalizing s with
  | zero =>
    unfold roomState
    split <;> exact .refl ..
  | succ n ih =>
    unfold roomState
    split
    · exact .refl ..
    · dsimp only
      split
      · exact .refl ..
      · refine .optGetD (fun t h => ?_) (.refl ..)
        obtain ⟨s1, h1, h2⟩ := Option.bind_eq_some_iff.mp h
        exact .trans (.step (.ofSome h1 (moveAway_ev ..)) <| .refl ..) (.ofSome h2 (ih s1))

theorem tryRestore_ev {s : State} {i b x k} {t : State} (h : tryRestore s i b x k = .ok t) : Evolves 17592743911424 s t := by
  unfold tryRestore at h
  extract_lets at h
  split at h; · cases h
  split at h; · cases h
  split at h; · cases h
  split at h; · cases h
  split at h
  · cases h
  · split at h
    · cases h
    · cases h
      exact .step (State.used_ev ..) <| .step (State.modStream_ev ..) <|
        .step (.ofSome (by assumption) (roomState_ev ..)) <| .refl ..

theorem beginTeardown_ev (s : State) (x1 x2 x3 x4) : Evolves 327680 s (beginTeardown s x1 x2 x3 x4) := by
  unfold beginTeardown
  extract_lets l1 l2
  split
  · exact .refl ..
  · exact .step (dropKernels_ev ..) <| .step (State.modPart_ev ..) <| .refl ..

theorem sinkFault_ev (s : State) (x1 x2) : Evolves 327680 s (sinkFault s x1 x2) := by
  unfold sinkFault
  exact .step (beginTeardown_ev ..) <| .refl ..

theorem finishTorn_ev (s : State) (x1) : Evolves 16801792 s (finishTorn s x1) := by
  fun_induction finishTorn s x1
  · exact .refl ..
  · exact .step (by assumption) <| .step (fail_ev ..) <| .refl ..

theorem dropReader_ev (s : State) (x1) : Evolves 1073741824 s (dropReader s x1) := by
  unfold dropReader
  exact .step (upd_ports_ev ..) <| .refl ..

theorem regDrop_ev (s : State) (x1 x2) : Evolves 512 s (regDrop s x1 x2) := by
  unfold regDrop
  exact .step (upd_vertexQ_ev ..) <| .refl ..

theorem releaseSink_ev (s : State) (x1) : Evolves 8797166764544 s (releaseSink s x1) := by
  unfold releaseSink
  extract_lets l1
  split
  · exact .refl ..
  · extract_lets l2
    split
    · exact .step (State.modSlot_ev ..) <| .refl ..
    · exact .refl ..
  · split
    · exact .step (issueReq_ev ..) <| .refl ..
    · exact .step (regDrop_ev ..) <| .refl ..

theorem freeStream_ev (s : State) (x1) : Evolves 8797179347456 s (freeStream s x1) := by
  unfold freeStream
  extract_lets l1 l2 l3
  exact .step (upd_vertexQ_streams_streamGens_ev ..) <| .step (dropReader_ev ..) <| .step (releaseSink_ev ..) <|
    .refl ..

theorem freeStreams_ev (s : State) (x1) : Evolves 8797179347456 s (freeStreams s x1) := by
  fun_induction freeStreams s x1
  · exact .refl ..
  · exact .step (by assumption) <| .step (freeStream_ev ..) <| .refl ..

theorem freeGroup_ev (s : State) (x1 x2) : Evolves 8797229703680 s (freeGroup s x1 x2) := by
  unfold freeGroup
  extract_lets l1 l2 l3
  exact .step (upd_sinkWrites_ev ..) <| .step (freeStreams_ev ..) <| .step (finishTorn_ev ..) <| .refl ..

theorem freeDead_ev (s : State) (x1) : Evolves 16867584 s (freeDead s x1) := by
  unfold freeDead
  refine .foldl _ (fun s x => ?_) ?_
  · extract_lets l1
    split
    · exact .step (beginPlace_ev ..) <| .step (evictNowT0_ev ..) <| .refl ..
    · exact .step (evictNowT0_ev ..) <| .refl ..
  · exact .refl ..

theorem evictForced_ev (s : State) (x1) : Evolves 16867584 s (evictForced s x1) := by
  unfold evictForced
  extract_lets l1
  refine .foldl _ (fun s x => ?_) ?_
  · exact .step (evictNowT0_ev ..) <| .refl ..
  · exact .step (freeDead_ev ..) <| .refl ..

theorem regPut_ev (s : State) (x1 x2) : Evolves 512 s (regPut s x1 x2).1 := by
  unfold regPut
  split
  · extract_lets l1 l2
    split
    · dsimp -zeta only
      exact .step (upd_vertexQ_ev ..) <| .refl ..
    · dsimp -zeta only
      exact .refl ..
  · split
    · dsimp -zeta only
      exact .step (upd_vertexQ_ev ..) <| .refl ..
    · dsimp -zeta only
      exact .step (State.setVertexCause_ev ..) <| .refl ..

theorem registerSink_ev (s : State) (x1 x2) :
    Evolves 8797170958848 s (((registerSink s x1 x2).map (·.1)).getD s) := by
  unfold registerSink
  extract_lets l1
  split
  · rw [Option.map_some]
    rw [Option.getD_some]
    dsimp -zeta only
    exact .refl ..
  · rw [Option.map_some]
    rw [Option.getD_some]
    dsimp -zeta only
    exact .step (State.modSlot_ev ..) <| .refl ..
  · split
    · extract_lets l2
      split
      · rw [Option.map_some]
        rw [Option.getD_some]
        dsimp -zeta only
        exact .step (issueReq_ev ..) <| .refl ..
      · rw [Option.map_none]
        rw [Option.getD_none]
        exact .refl ..
    · extract_lets l2
      split
      · rw [Option.map_some]
        rw [Option.getD_some]
        dsimp -zeta only
        exact .step (State.modStream_ev ..) <| .step (regPut_ev ..) <| .refl ..
      · rw [Option.map_none]
        rw [Option.getD_none]
        exact .refl ..

theorem endTeardown_ev (s : State) (x1 x2) : Evolves 8797229769472 s (endTeardown s x1 x2) := by
  unfold endTeardown
  extract_lets l1
  exact .step (State.modPart_ev ..) <| .step (evictForced_ev ..) <| .step (freeGroup_ev ..) <| .refl ..

end Sys2Proof.Machine
end

