-- ==== Sys2Proof/Laws/Complete.lean ====
section
/-! SUPPORT. Completion: what `finish` leaves, and that functions which touch no ring, command or run keep it. -/

-- These proofs wait on the same definitions: they are elaborated in order.
set_option Elab.async false

namespace Sys2Proof.Machine

theorem State.cmd_modCmd (s : State) (cid : Nat) (g : Cmd → Cmd) (hg : ∀ c, (g c).cid = c.cid) :
    (s.modCmd cid g).cmd cid = (s.cmd cid).map g := by
  unfold State.cmd State.modCmd
  dsimp only
  induction s.cmds with
  | nil => rfl
  | cons x r ih =>
    by_cases hx : x.cid = cid <;> simp [hx, hg, ih]

theorem State.cmd_cid {s : State} {cid : Nat} {c : Cmd} (h : s.cmd cid = some c) : c.cid = cid := by
  have := List.find?_some h
  simpa using this

/-- In a canonical state, an accepted command is what its number finds, and the next number finds none. -/
theorem State.Canon.cmd_of_mem {s : State} (h : s.Canon) {c : Cmd} (hc : c ∈ s.cmds) : s.cmd c.cid = some c := by
  have hn := h.cids.1
  unfold State.cmd
  revert hc hn
  induction s.cmds with
  | nil => exact fun hc => nomatch hc
  | cons x r ih =>
    intro hc hn
    rw [List.map_cons, List.nodup_cons] at hn
    rcases List.mem_cons.mp hc with rfl | hr
    · simp
    · have hx : x.cid ≠ c.cid := fun he => hn.1 (he ▸ List.mem_map_of_mem hr)
      simpa [hx] using ih hr hn.2

theorem State.Canon.cmd_nextCid {s : State} (h : s.Canon) : s.cmd s.nextCid = none :=
  List.find?_eq_none.mpr fun c hc => by simpa using (h.cids.2 c hc).ne

/-- The row of a packet acts: the outcome is the effect on the state with the command begun, then settled. -/
theorem onCmd_ready {s : State} {cid op : Nat} {c : Cmd} (h : Ready s cid op c) (act : Cmd → State → State) :
    onCmd s cid op act = .next (settle (act c (begin' s cid))) := by
  simp [onCmd, h.1, h.2, done]

/-- The command as `begin'` leaves it. -/
def Cmd.begun (s : State) (c : Cmd) : Cmd :=
  { c with started := if c.started.isNone then some s.now else c.started, resume := false }

theorem begin'_cmd {s : State} {cid : Nat} {c : Cmd} (h : s.cmd cid = some c) :
    (begin' s cid).cmd cid = some (c.begun s) := by
  have := State.cmd_modCmd s cid (Cmd.begun s) fun _ => rfl
  rw [h] at this
  exact this

/-- An enabled completion queue takes the entry. -/
theorem postEntry_mem {s : State} {f q : Nat} (e : CplEntry) (h : (s.ring f q).cqEnable = true) :
    { e with since := s.now } ∈ ((postEntry s f q e).ring f q).coalescer := by
  unfold postEntry
  rw [if_pos h]
  unfold State.modRing State.ring
  dsimp only
  unfold tabMod
  rw [tabGet_set_self]
  simp

theorem postEntry_cmds (s : State) (f q : Nat) (e : CplEntry) :
    (postEntry s f q e).cmds = s.cmds ∧ (postEntry s f q e).runs = s.runs := by
  unfold postEntry State.modRing
  split <;> exact ⟨rfl, rfl⟩

theorem finish_completed {s : State} {cid : Nat} {c : Cmd} (h : s.cmd cid = some c) (st d r : Nat) :
    Completed s (finish s cid st d r) c st d r := by
  have hc := State.cmd_cid h
  unfold finish
  rw [h]
  dsimp only
  refine ⟨?_, ?_, fun hs ho hq => ?_⟩
  · unfold State.cmd
    split <;> simp [postEntry_cmds, hc, List.find?_filter]
  · unfold State.runOf
    split <;> simp [postEntry_cmds, hc, List.find?_filter]
  · rw [if_pos (by simpa using ⟨hs, ho⟩)]
    exact ⟨_, postEntry_mem _ hq, rfl, rfl, rfl, rfl, rfl, rfl, rfl⟩

/-- Functions that touch no ring, command or run keep a completion. -/
theorem Completed.mono {T : Nat} {s t u : State} {c : Cmd} {st d r : Nat} (h : Completed s t c st d r)
    (k : Evolves T t u) (hT : T &&& 16801792 = 0 := by decide) : Completed s u c st d r := by
  have hb (p : Piece) (hp : (16801792 : Nat).testBit p.bit = true) : p.Same t u := k.frame p (by
    have := congrArg (·.testBit p.bit) hT
    simpa [Nat.testBit_and, hp] using this)
  have h1 := hb .rings (by decide)
  have h2 := hb .cmds (by decide)
  have h3 := hb .runs (by decide)
  simp only [Piece.Same] at h1 h2 h3
  unfold Completed State.cmd State.runOf State.ring at *
  rw [h1, h2, h3]
  exact h

/-- What came before, with no ring touched, does not matter. -/
theorem Completed.after {T : Nat} {s s' t : State} {c : Cmd} {st d r : Nat} (k : Evolves T s s')
    (h : Completed s' t c st d r) (hT : T &&& 8192 = 0 := by decide) : Completed s t c st d r := by
  have h1 := k.frame .rings (by
    have := congrArg (·.testBit Piece.rings.bit) hT
    simpa [Nat.testBit_and, Piece.bit, show (8192 : Nat).testBit 13 = true by decide] using this)
  simp only [Piece.Same] at h1
  unfold Completed State.ring at *
  rw [h1] at h
  exact h

/-- The values that a completion entry takes from the packet do not change when the command begins. -/
theorem Completed.ofBegun {s t s' : State} {c : Cmd} {st d r : Nat} (h : Completed s t (c.begun s') st d r) :
    Completed s t c st d r := h

/-- A command that acts and finishes, with the accepted commands and rings as they were when it began, has
completed. -/
theorem Ready.completed {s u : State} {cid op : Nat} {c : Cmd} (h : Ready s cid op c)
    (hu : u.cmds = (begin' s cid).cmds) (hr : u.rings = s.rings) (st d r : Nat) :
    Completed s (settle (finish u c.cid st d r)) c st d r := by
  have hc : u.cmd c.cid = some (c.begun s) := by
    have := begin'_cmd h.1
    rw [State.cmd_cid h.1]
    unfold State.cmd at *
    rw [hu]
    exact this
  have := (finish_completed hc st d r).mono (settle_ev _)
  unfold Completed State.ring at *
  rw [hr] at this
  exact this

end Sys2Proof.Machine
end

