-- ==== Sys2Proof/Laws/FrameStream.lean ====
section
/-! SUPPORT. What each function of the model may change (`Evolves`): StreamCmds, RunCmd, Plan, Lifecycle, Kernels. -/

-- These proofs wait on the same definitions: they are elaborated in order.
set_option Elab.async false

namespace Sys2Proof.Machine

/-! ### StreamCmds -/

theorem ckptFinish_ev (s : State) (x1) : Evolves 4259840 s (ckptFinish s x1) := by
  unfold ckptFinish
  extract_lets l1 l2
  exact .step (State.modPart_ev ..) <| .step (State.modStream_ev ..) <| .refl ..

theorem ckptSkip_ev (s : State) (x1) : Evolves 4259840 s (ckptSkip s x1) := by
  unfold ckptSkip
  extract_lets l1
  exact .step (State.setStreamCause_ev ..) <| .step (State.modPart_ev ..) <| .step (State.modStream_ev ..) <| .refl ..

theorem namedWrite_ev (s : State) (x1 x2 x3) : Evolves 8924942041216 s (namedWrite s x1 x2 x3).1 := by
  unfold namedWrite
  split
  · exact .step (localWrite_ev ..) <| .refl ..
  · dsimp -zeta only
    exact .refl ..

theorem ckptFrom_ev (x1) (s : State) (x2) : Evolves 8924946301568 s (ckptFrom x1 s x2) := by
  fun_induction ckptFrom x1 s x2
  · exact .step (ckptFinish_ev ..) <| .refl ..
  · exact .step (issueWrites_ev ..) <| .refl ..
  · exact .step (ckptSkip_ev ..) <| .step (issueWrites_ev ..) <| .refl ..
  · exact .step (by assumption) <| .step (namedWrite_ev ..) <| .refl ..
  · exact .step (ckptSkip_ev ..) <| .step (namedWrite_ev ..) <| .refl ..

theorem setRing_ev (s : State) (x1 x2 x3) : Evolves 4259840 s (setRing s x1 x2 x3) := by
  unfold setRing
  refine .foldl _ (fun s x => ?_) ?_
  · exact .step (State.modStream_ev ..) <| .refl ..
  · exact .step (State.modPart_ev ..) <| .refl ..

theorem replaceRing_ev (s : State) (x1 x2 x3) : Evolves 4259840 s (replaceRing s x1 x2 x3) := by
  unfold replaceRing
  split
  · exact .step (State.modPart_ev ..) <| .refl ..
  · exact .step (setRing_ev ..) <| .refl ..

theorem settleRingList_ev (s : State) (x1 x2) : Evolves 4259840 s (settleRingList s x1 x2) := by
  fun_induction settleRingList s x1 x2
  · exact .refl ..
  · refine .step (by assumption) ?_
    split
    · exact .refl ..
    · exact .step (setRing_ev ..) <| .refl ..

theorem settleRings_ev (s : State) (x1) : Evolves 4259840 s (settleRings s x1) := by
  fun_induction settleRings s x1
  · exact .refl ..
  · exact .step (by assumption) <| .step (settleRingList_ev ..) <| .refl ..

theorem ckptAnswered_ev (s : State) (x1 x2 x3) : Evolves 8924946301568 s (ckptAnswered s x1 x2 x3) := by
  unfold ckptAnswered
  extract_lets l1 l2
  split
  · exact .refl ..
  · split
    · exact .step (ckptSkip_ev ..) <| .step (upd_vertexQ_ev ..) <| .refl ..
    · split
      · exact .refl ..
      · exact .step (ckptFrom_ev ..) <| .refl ..

theorem ckptAnswer_ev (s : State) (x1 x2 x3) : Evolves 8924946301568 s (ckptAnswer s x1 x2 x3) := by
  unfold ckptAnswer
  exact .step (settleRings_ev ..) <| .step (ckptAnswered_ev ..) <| .refl ..

theorem migrateFenced_ev (s : State) (x1 x2 x3) : Evolves 21061632 s (migrateFenced s x1 x2 x3) := by
  unfold migrateFenced
  extract_lets l1
  exact .step (fail_ev ..) <| .step (State.setStreamCause_ev ..) <| .step (State.modStream_ev ..) <| .refl ..

theorem migrateRefused_ev (s : State) (x1 x2 x3) : Evolves 21061632 s (migrateRefused s x1 x2 x3) := by
  unfold migrateRefused
  extract_lets l1
  exact .step (fail_ev ..) <| .step (State.setStreamCause_ev ..) <| .step (State.modStream_ev ..) <| .refl ..

theorem closeNow_ev (s : State) (x1 x2) : Evolves 8797196149248 s (closeNow s x1 x2) := by
  unfold closeNow
  extract_lets l1
  exact .step (fail_ev ..) <| .step (freeStream_ev ..) <| .refl ..

theorem evictNow_ev (s : State) (x1 x2) : Evolves 557867008 s (evictNow s x1 x2) := by
  unfold evictNow
  extract_lets l1 l2 l3 l4
  split
  · exact .step (fail_ev ..) <| .step (State.modCmd_ev ..) <| .refl ..
  · split
    · exact .step (fail_ev ..) <| .step (State.modCmd_ev ..) <| .refl ..
    · split
      · refine .step (State.modStream_ev ..) ?_
        refine .ofSome (u := s) (by assumption) ?_
        split
        · refine .optGetD (fun t h => ?_) ?_
          · exact .step (.ofSome (by assumption) (roomGeode_ev ..)) <| .step (State.modCmd_ev ..) <| .refl ..
          · exact .refl ..
        · split
          · rw [Option.getD_some]
            exact .step (State.modCmd_ev ..) <| .refl ..
          · rw [Option.getD_none]
            exact .refl ..
      · refine .step (fail_ev ..) <| .step (State.modStream_ev ..) ?_
        refine .ofSome (u := s) (by assumption) ?_
        split
        · refine .optGetD (fun t h => ?_) ?_
          · exact .step (.ofSome (by assumption) (roomGeode_ev ..)) <| .step (State.modCmd_ev ..) <| .refl ..
          · exact .refl ..
        · split
          · rw [Option.getD_some]
            exact .step (State.modCmd_ev ..) <| .refl ..
          · rw [Option.getD_none]
            exact .refl ..

theorem migrateEnd_ev (s : State) (x1 x2 x3) : Evolves 8797196149248 s (migrateEnd s x1 x2 x3) := by
  unfold migrateEnd
  exact .step (finish_ev ..) <| .step (freeStream_ev ..) <| .refl ..

theorem moveSink_ev (s : State) (x1 x2) : Evolves 1077936128 s (moveSink s x1 x2) := by
  unfold moveSink
  split
  · exact .refl ..
  · extract_lets l1 l2
    subst l1
    split
    · exact .step (State.modSlot_ev ..) <| .step (State.modStream_ev ..) <| .step (State.modStream_ev ..) <| .refl ..
    · exact .step (State.modStream_ev ..) <| .step (State.modStream_ev ..) <| .refl ..

theorem migrateLocalNow_ev (s : State) (x1 x2 x3 x4) : Evolves 26389919130112 s (migrateLocalNow s x1 x2 x3 x4) := by
  unfold migrateLocalNow
  split
  · exact .step (migrateRefused_ev ..) <| .refl ..
  · extract_lets l1
    split
    · exact .step (migrateEnd_ev ..) <| .step (State.modStream_ev ..) <| .step (moveSink_ev ..) <|
        .step (tryRestore_ev (by assumption)) <| .refl ..
    · split
      · exact .step (migrateEnd_ev ..) <| .step (.ofSomeFst (by assumption) (registerSink_ev ..)) <|
          .step (moveSink_ev ..) <| .step (tryRestore_ev (by assumption)) <| .refl ..
      · exact .step (migrateRefused_ev ..) <| .refl ..

theorem sendRegister_ev (s : State) (x1 x2 x3 x4) :
    Evolves 8796093022720 s ((sendRegister s x1 x2 x3 x4).getD s) := by
  unfold sendRegister
  extract_lets l1
  split
  · rw [Option.getD_some]
    exact .step (issueReq_ev ..) <| .refl ..
  · rw [Option.getD_none]
    exact .refl ..

theorem noteCapture_ev (s : State) (x1 x2) : Evolves 512 s (noteCapture s x1 x2) := by
  unfold noteCapture
  extract_lets l1 l2
  exact .step (upd_vertexQ_ev ..) <| .refl ..

theorem migrateLocal_ev (s : State) (x1 x2) : Evolves 26389919130112 s (migrateLocal s x1 x2) := by
  unfold migrateLocal
  extract_lets l1 l2 l3 l4
  split
  · exact .step (migrateRefused_ev ..) <| .refl ..
  · split
    · exact .step (migrateEnd_ev ..) <| .refl ..
    · split
      · exact .step (migrateRefused_ev ..) <| .refl ..
      · split
        · split
          · exact .step (migrateRefused_ev ..) <| .refl ..
          · exact .step (State.modCmd_ev ..) <| .step (noteCapture_ev ..) <|
              .step (.ofSome (by assumption) (sendRegister_ev ..)) <| .refl ..
        · exact .step (migrateLocalNow_ev ..) <| .step (noteCapture_ev ..) <| .refl ..

theorem migrateRemote_ev (s : State) (x1 x2) : Evolves 26388300128768 s (migrateRemote s x1 x2) := by
  unfold migrateRemote
  extract_lets l1 l2 l3
  split
  · exact .step (migrateRefused_ev ..) <| .step (noteCapture_ev ..) <| .step (State.used_ev ..) <| .refl ..
  · split
    · exact .step (State.modStream_ev ..) <| .step (issueReq_ev ..) <| .step (noteCapture_ev ..) <|
        .step (State.used_ev ..) <| .refl ..
    · exact .step (migrateFenced_ev ..) <| .step (issueReq_ev ..) <| .step (noteCapture_ev ..) <|
        .step (State.used_ev ..) <| .refl ..

theorem waitOn_ev (s : State) (x1 x2) : Evolves 16384 s (waitOn s x1 x2) := by
  unfold waitOn
  exact .step (State.modCmd_ev ..) <| .refl ..

theorem migrateGo_ev (s : State) (x1 x2) : Evolves 26389919130112 s (migrateGo s x1 x2) := by
  unfold migrateGo
  split
  · extract_lets l1
    split
    · exact .step (migrateRefused_ev ..) <| .step (State.modCmd_ev ..) <| .step (State.modStream_ev ..) <| .refl ..
    · split
      · exact .step (migrateLocal_ev ..) <| .step (State.modCmd_ev ..) <| .step (State.modStream_ev ..) <| .refl ..
      · exact .step (migrateRemote_ev ..) <| .step (State.modCmd_ev ..) <| .step (State.modStream_ev ..) <| .refl ..
  · exact .step (waitOn_ev ..) <| .refl ..

theorem saveNow_ev (s : State) (x1 x2) : Evolves 26517149082240 s (saveNow s x1 x2) := by
  unfold saveNow
  extract_lets l1 l2 l3
  split
  · exact .step (fail_ev ..) <| .refl ..
  · refine .step (writeSized_ev ..) <| .step (noteCapture_ev ..) ?_
    split
    · exact .step (State.used_ev ..) <| .step (State.modStream_ev ..) <| .refl ..
    · exact .step (State.modStream_ev ..) <| .refl ..

theorem resumeOne_ev (s : State) (x1 x2) : Evolves 26518768149120 s (resumeOne s x1 x2) := by
  unfold resumeOne
  split
  · split
    · exact .refl ..
    · exact .step (closeNow_ev ..) <| .refl ..
  · split
    · exact .refl ..
    · exact .step (saveNow_ev ..) <| .step (State.modCmd_ev ..) <| .refl ..
  · split
    · exact .refl ..
    · exact .step (evictNow_ev ..) <| .refl ..
  · exact .step (migrateGo_ev ..) <| .refl ..
  · exact .refl ..

theorem resumeList_ev (s : State) (x1 x2) : Evolves 26518768149120 s (resumeList s x1 x2) := by
  fun_induction resumeList s x1 x2
  · exact .refl ..
  · refine .step (by assumption) ?_
    split
    · exact .step (resumeOne_ev ..) <| .refl ..
    · exact .refl ..

theorem resumeWaiting_ev (s : State) (x1) : Evolves 26518768149120 s (resumeWaiting s x1) := by
  fun_induction resumeWaiting s x1
  · exact .refl ..
  · exact .step (by assumption) <| .step (resumeList_ev ..) <| .refl ..

theorem restoreNow_ev (s : State) (x1 x2 x3) : Evolves 17592743911424 s (restoreNow s x1 x2 x3) := by
  unfold restoreNow
  split
  · exact .step (finish_ev ..) <| .refl ..
  · exact .step (fail_ev ..) <| .step (State.modStream_ev ..) <| .step (tryRestore_ev (by assumption)) <| .refl ..

theorem checkpointEff_ev (s : State) (x1 x2) : Evolves 8924946301568 s (checkpointEff s x1 x2) := by
  unfold checkpointEff
  extract_lets l1 l2 l3
  split
  · exact .step (State.modStream_ev ..) <| .refl ..
  · split
    · exact .step (ckptSkip_ev ..) <| .refl ..
    · exact .step (ckptFrom_ev ..) <| .refl ..

theorem checkpointSetEff_ev (x1) (s : State) : Evolves 21061632 s (checkpointSetEff x1 s) := by
  unfold checkpointSetEff
  extract_lets l1 l2 l3 l4 l5 l6 l7 l8 l9
  split
  · exact .step (fail_ev ..) <| .refl ..
  · split
    · exact .step (fail_ev ..) <| .step (replaceRing_ev ..) <| .refl ..
    · split
      · exact .step (fail_ev ..) <| .refl ..
      · split
        · exact .step (fail_ev ..) <| .refl ..
        · clear_value l9
          split
          · exact .step (finish_ev ..) <| .refl ..
          · exact .step (fail_ev ..) <| .step (replaceRing_ev ..) <| .refl ..

theorem copyOutEff_ev (s : State) (x1 x2) : Evolves 20996096 s (copyOutEff s x1 x2) := by
  unfold copyOutEff
  extract_lets l1
  split
  · exact .step (fail_ev ..) <| .step (State.modStream_ev ..) <| .refl ..
  · exact .step (State.modStream_ev ..) <| .refl ..

theorem migrateAckEff_ev (s : State) (x1 x2 x3 x4 x5 x6 x7 x8) :
    Evolves 8797196214784 s (migrateAckEff s x1 x2 x3 x4 x5 x6 x7 x8) := by
  unfold migrateAckEff
  split
  · exact .step (migrateRefused_ev ..) <| .refl ..
  · split
    · exact .step (migrateEnd_ev ..) <| .refl ..
    · exact .step (migrateFenced_ev ..) <| .refl ..

theorem openAlloc_ev (s : State) (x1 x2) : Evolves 557867008 s (((openAlloc s x1 x2).map (·.1)).getD s) := by
  unfold openAlloc
  extract_lets l1 l2
  split
  · rw [Option.map_none]
    rw [Option.getD_none]
    exact .refl ..
  · split
    · rw [Option.map_none]
      rw [Option.getD_none]
      exact .refl ..
    · rw [Option.map_some]
      rw [Option.getD_some]
      dsimp -zeta only
      exact .step (upd_streams_ev ..) <| .step (.ofSome (by assumption) (roomState_ev ..)) <| .refl ..

theorem withStream_ev {T : Nat} {s u : State} {c a b k} (hm : 16801792 &&& T = 16801792) (h : Evolves T s u)
    (hk : ∀ x, Evolves T s (k x)) : Evolves T s (withStream u c a b k) := by
  unfold withStream
  extract_lets i
  split
  · exact .step (fail_ev ..) h hm
  · split
    · exact .step (fail_ev ..) h hm
    · split
      · exact hk _
      · split
        · exact hk _
        · exact .step (finish_ev ..) h hm
      · split
        · exact hk _
        · exact .step (finish_ev ..) h hm
      · split
        · exact hk _
        · exact .step (finish_ev ..) h hm

theorem restoreFrom_ev (x1 x2) (s : State) (x3) : Evolves 26389910675968 s (restoreFrom x1 x2 s x3) := by
  unfold restoreFrom
  split
  · exact .step (finish_ev ..) <| .refl ..
  · split
    · split
      · exact .step (fail_ev ..) <| .refl ..
      · exact .step (State.modCmd_ev ..) <| .step (.ofSome (by assumption) (sendRegister_ev ..)) <| .refl ..
    · split
      · exact .step (fail_ev ..) <| .step (.ofSomeFst (by assumption) (registerSink_ev ..)) <|
          .step (tryRestore_ev (by assumption)) <| .refl ..
      · exact .step (finish_ev ..) <| .refl ..

theorem stateEvictEff_ev (x1) (s : State) : Evolves 557867008 s (stateEvictEff x1 s) := by
  unfold stateEvictEff
  refine withStream_ev (by decide) ?_ (fun x => ?_)
  · exact .refl ..
  · split
    · exact .step (fail_ev ..) <| .refl ..
    · split
      · exact .step (fail_ev ..) <| .refl ..
      · split
        · exact .step (waitOn_ev ..) <| .refl ..
        · exact .step (evictNow_ev ..) <| .refl ..

theorem stateRestoreEff_ev (x1) (s : State) : Evolves 26389910676160 s (stateRestoreEff x1 s) := by
  unfold stateRestoreEff
  refine withStream_ev (by decide) ?_ (fun x => ?_)
  · exact .refl ..
  · split
    · exact .step (fail_ev ..) <| .refl ..
    · split
      · exact .step (fail_ev ..) <| .refl ..
      · refine withStruct_ev (by decide) ?_ (fun s' b h' => ?_)
        · exact .refl ..
        · exact .step (restoreFrom_ev ..) <| .step (by assumption) <| .refl ..

theorem stateSaveEff_ev (x1) (s : State) : Evolves 26517149082240 s (stateSaveEff x1 s) := by
  unfold stateSaveEff
  refine withStream_ev (by decide) ?_ (fun x => ?_)
  · exact .refl ..
  · split
    · exact .step (fail_ev ..) <| .refl ..
    · split
      · exact .step (fail_ev ..) <| .refl ..
      · split
        · exact .step (fail_ev ..) <| .refl ..
        · split
          · exact .step (waitOn_ev ..) <| .refl ..
          · exact .step (saveNow_ev ..) <| .step (State.modCmd_ev ..) <| .refl ..

theorem streamCloseEff_ev (x1) (s : State) : Evolves 8797196476928 s (streamCloseEff x1 s) := by
  unfold streamCloseEff
  refine withStream_ev (by decide) ?_ (fun x => ?_)
  · exact .refl ..
  · extract_lets l1 l2
    split
    · exact .step (fail_ev ..) <| .refl ..
    · split
      · exact .step (waitOn_ev ..) <| .step (finishAll_ev ..) <| .step (dropKernels_ev ..) <| .refl ..
      · exact .step (closeNow_ev ..) <| .step (finishAll_ev ..) <| .step (dropKernels_ev ..) <| .refl ..

theorem streamMigrateEff_ev (x1) (s : State) : Evolves 26389919130112 s (streamMigrateEff x1 s) := by
  unfold streamMigrateEff
  refine withStream_ev (by decide) ?_ (fun x => ?_)
  · exact .refl ..
  · split
    · exact .step (fail_ev ..) <| .refl ..
    · split
      · exact .step (finish_ev ..) <| .refl ..
      · exact .step (migrateGo_ev ..) <| .step (State.modStream_ev ..) <| .refl ..

theorem streamOpenEff_ev (x1) (s : State) : Evolves 557867008 s (streamOpenEff x1 s) := by
  unfold streamOpenEff
  extract_lets l1 l2 l3 l4 l5 l6 l7 l8
  split
  · exact .step (fail_ev ..) <| .refl ..
  · split
    · exact .step (fail_ev ..) <| .refl ..
    · split
      · exact .step (fail_ev ..) <| .refl ..
      · split
        · exact .step (fail_ev ..) <| .refl ..
        · split
          · split
            · exact .step (finish_ev ..) <| .refl ..
            · split
              · exact .step (finish_ev ..) <| .refl ..
              · subst l8
                split
                · exact .step (finish_ev ..) <| .refl ..
                · exact .step (finish_ev ..) <| .step (.ofSomeFst (by assumption) (openAlloc_ev ..)) <| .refl ..
          · split
            · exact .step (fail_ev ..) <| .refl ..
            · exact .step (finish_ev ..) <| .step (.ofSomeFst (by assumption) (openAlloc_ev ..)) <| .refl ..

theorem streamResetEff_ev (x1) (s : State) : Evolves 20996096 s (streamResetEff x1 s) := by
  unfold streamResetEff
  refine withStream_ev (by decide) ?_ (fun x => ?_)
  · exact .refl ..
  · split
    · exact .step (fail_ev ..) <| .refl ..
    · exact .step (fail_ev ..) <| .step (State.modStream_ev ..) <| .refl ..

theorem streamSeedEff_ev (x1) (s : State) : Evolves 20996096 s (streamSeedEff x1 s) := by
  unfold streamSeedEff
  refine withStream_ev (by decide) ?_ (fun x => ?_)
  · exact .refl ..
  · split
    · exact .step (fail_ev ..) <| .refl ..
    · exact .step (fail_ev ..) <| .step (State.modStream_ev ..) <| .refl ..

/-! ### RunCmd -/

theorem claimSlots_ev (s : State) (x1 x2) : Evolves 1073741824 s (claimSlots s x1 x2) := by
  fun_induction claimSlots s x1 x2
  · exact .refl ..
  · refine .step (by assumption) ?_
    split
    · exact .step (State.modSlot_ev ..) <| .refl ..
    · exact .refl ..

theorem acceptRun_ev (x1 x2 x3 x4 x5) (s : State) : Evolves 1090535424 s (acceptRun x1 x2 x3 x4 x5 s) := by
  unfold acceptRun
  extract_lets l1 l2 l3 l4 l5
  exact .step (State.modCmd_ev ..) <| .step (upd_runs_ev ..) <| .step (claimSlots_ev ..) <| .refl ..

theorem readIndices_ev {T : Nat} {s u : State} {c v ds fin l acc} (hm : 26388295869120 &&& T = 26388295869120)
    (h : Evolves T s u) (hk : ∀ t b, Evolves T s t → Evolves T s (fin t b)) :
    Evolves T s (readIndices u c v ds fin l acc) := by
  have hr (m : Nat) (hm' : m &&& 26388295869120 = m) : m &&& T = m := by rw [← hm', Nat.and_assoc, hm]
  induction l generalizing u acc with
  | nil => exact hk _ _ h
  | cons q r ih =>
    unfold readIndices
    extract_lets d
    split
    · exact ih h
    · refine withStruct_ev hm h fun t b ht => ?_
      extract_lets e xs
      split
      · exact .step (finish_ev ..) ht (hr _ (by decide))
      · exact ih ht

theorem runChecks_ev (x1 x2 x3 x4) (s : State) : Evolves 26389369610944 s (runChecks x1 x2 x3 x4 s) := by
  unfold runChecks
  extract_lets l1 l2 l3 l4 l5 l6 l7 l8
  split
  · exact .step (fail_ev ..) <| .refl ..
  · split
    · exact .step (finish_ev ..) <| .refl ..
    · split
      · exact .step (finish_ev ..) <| .refl ..
      · split
        · exact .step (finish_ev ..) <| .refl ..
        · exact .step (finish_ev ..) <| .refl ..
        · split
          · exact .step (finish_ev ..) <| .refl ..
          · refine readIndices_ev (by decide) ?_ (fun s' b h' => ?_)
            · exact .refl ..
            · exact .step (acceptRun_ev ..) <| .step (by assumption) <| .refl ..

theorem runTable_ev {T : Nat} {s u : State} {c v n g k} (hm : 26388295869120 &&& T = 26388295869120)
    (h : Evolves T s u) (hk : ∀ t b, Evolves T s t → Evolves T s (k t b)) : Evolves T s (runTable u c v n g k) := by
  have hr (m : Nat) (hm' : m &&& 26388295869120 = m) : m &&& T = m := by rw [← hm', Nat.and_assoc, hm]
  unfold runTable
  split
  · exact hk _ _ h
  · split
    · exact .step (fail_ev ..) h (hr _ (by decide))
    · split
      · exact .step (fail_ev ..) h (hr _ (by decide))
      · split
        · split
          · exact .step (fail_ev ..) h (hr _ (by decide))
          · exact withStruct_ev hm h hk
        · exact hk _ _ h

theorem runEff_ev (x1) (s : State) : Evolves 26389369610944 s (runEff x1 s) := by
  unfold runEff
  split
  · exact .refl ..
  · split
    · exact .step (fail_ev ..) <| .refl ..
    · refine runTable_ev (by decide) ?_ (fun s' b h' => ?_)
      · exact .refl ..
      · refine runTable_ev (by decide) ?_ (fun s' b h' => ?_)
        · exact .step (by assumption) <| .refl ..
        · refine runTable_ev (by decide) ?_ (fun s' b h' => ?_)
          · exact .step (by assumption) <| .refl ..
          · exact .step (runChecks_ev ..) <| .step (by assumption) <| .refl ..

/-! ### Plan -/

theorem placeAll_ev (s : State) (x1 x2) : Evolves 16867584 s (placeAll s x1 x2) := by
  fun_induction placeAll s x1 x2
  · exact .refl ..
  · refine .step (by assumption) ?_
    split
    · exact .refl ..
    · exact .step (beginPlace_ev ..) <| .refl ..

theorem modelMissEff_ev (s : State) (x1) : Evolves 16867584 s (modelMissEff s x1) := by
  unfold modelMissEff
  extract_lets l1 l2
  refine .step (placeAll_ev ..) ?_
  subst l2
  split
  · exact .refl ..
  · exact .step (State.modRun_ev ..) <| .step (State.setModelCause_ev ..) <| .step (State.modPart_ev ..) <| .refl ..

theorem stageDone_ev (s : State) (x1) : Evolves 16777216 s (stageDone s x1) := by
  unfold stageDone
  extract_lets l1
  split
  · exact .step (State.modRun_ev ..) <| .refl ..
  · exact .refl ..

theorem fetchBack_ev (s : State) (x1) : Evolves 557867008 s (fetchBack s x1) := by
  unfold fetchBack
  extract_lets l1
  split
  · split
    · exact .refl ..
    · exact .step (State.modStream_ev ..) <| .step (.ofSome (by assumption) (roomState_ev ..)) <| .refl ..
  · split
    · exact .refl ..
    · exact .step (State.modStream_ev ..) <| .step (.ofSome (by assumption) (roomState_ev ..)) <| .refl ..
  · exact .refl ..

theorem fetchBacks_ev (s : State) (x1) : Evolves 557867008 s (fetchBacks s x1) := by
  fun_induction fetchBacks s x1
  · exact .refl ..
  · exact .step (by assumption) <| .step (fetchBack_ev ..) <| .refl ..

theorem stateMissEff_ev (s : State) (x1) : Evolves 557932544 s (stateMissEff s x1) := by
  unfold stateMissEff
  extract_lets l1 l2
  refine .step (fetchBacks_ev ..) ?_
  subst l2
  split
  · exact .refl ..
  · exact .step (State.modRun_ev ..) <| .step (State.setStreamCause_ev ..) <| .step (State.modPart_ev ..) <| .refl ..

theorem stageRemote_ev (s : State) (x1 x2) : Evolves 8796093104640 s (stageRemote s x1 x2).1 := by
  fun_induction stageRemote s x1 x2
  · dsimp -zeta only
    exact .refl ..
  · exact .step (by assumption) <| .refl ..
  · dsimp -zeta only
    exact .step (issueReads_ev ..) <| .refl ..
  · exact .step (by assumption) <| .step (State.modPart_ev ..) <| .step (State.modCmd_ev ..) <|
      .step (issueReads_ev ..) <| .refl ..

theorem firstStreamed_ev (s : State) (x1) : Evolves 620781568 s (firstStreamed s x1) := by
  unfold firstStreamed
  split
  · exact .refl ..
  · extract_lets l1
    split
    · exact .step (upd_models_ev ..) <| .refl ..
    · exact .step (beginT1_ev ..) <| .step (upd_models_ev ..) <| .refl ..

theorem streamedEff_ev (s : State) (x1) : Evolves 620847104 s (streamedEff s x1) := by
  unfold streamedEff
  extract_lets l1
  split
  · exact .refl ..
  · refine .foldl _ (fun s x => ?_) ?_
    · exact .step (firstStreamed_ev ..) <| .refl ..
    · exact .step (roomT0_ev ..) <| .step (State.setModelCause_ev ..) <| .step (State.modPart_ev ..) <| .refl ..

theorem stageLocal_ev (s : State) (x1 x2) : Evolves 26388279083200 s (stageLocal s x1 x2) := by
  unfold stageLocal
  refine .foldl _ (fun s x => ?_) ?_
  · split
    · exact .refl ..
    · exact .step (State.modCmd_ev ..) <| .step (addrReadEff_ev ..) <| .refl ..
  · exact .refl ..

theorem startRun_ev (s : State) (x1 x2) : Evolves 26388904370880 s (startRun s x1 x2) := by
  unfold startRun
  extract_lets l1 l2 l3 l4 l5 l6 l7
  split
  · refine .step (sinkFault_ev ..) <| .step (stageLocal_ev ..) <| .step (streamedEff_ev ..) <|
      .step (State.modRun_ev ..) ?_
    subst l2
    refine .foldl _ (fun s x => ?_) ?_
    · exact .step (State.modStream_ev ..) <| .refl ..
    · exact .refl ..
  · split
    · refine .step (stageRemote_ev ..) <| .step (stageLocal_ev ..) <| .step (streamedEff_ev ..) <|
        .step (State.modRun_ev ..) ?_
      subst l2
      refine .foldl _ (fun s x => ?_) ?_
      · exact .step (State.modStream_ev ..) <| .refl ..
      · exact .refl ..
    · refine .step (sinkFault_ev ..) <| .step (stageRemote_ev ..) <| .step (stageLocal_ev ..) <|
        .step (streamedEff_ev ..) <| .step (State.modRun_ev ..) ?_
      subst l2
      refine .foldl _ (fun s x => ?_) ?_
      · exact .step (State.modStream_ev ..) <| .refl ..
      · exact .refl ..

theorem tryDispatch_ev (s : State) (x1) : Evolves 26388904370880 s (tryDispatch s x1) := by
  unfold tryDispatch
  split
  · exact .refl ..
  · extract_lets l1
    split
    · exact .step (finish_ev ..) <| .refl ..
    · split
      · exact .refl ..
      · exact .step (startRun_ev ..) <| .refl ..

theorem fixBatches_ev (s : State) (x1) : Evolves 16777216 s (fixBatches s x1) := by
  unfold fixBatches
  split
  · exact .step (State.modRun_ev ..) <| .refl ..
  · exact .refl ..

theorem advanceRun_ev (s : State) (x1) : Evolves 26388904371136 s (advanceRun s x1) := by
  have go {f : State → Run → State} (hf : ∀ s r, Evolves 26388904371136 s (f s r)) (s : State) :
      Evolves 26388904371136 s (match s.runOf x1 with | some r => f s r | none => s) := by
    split
    · exact hf ..
    · exact .refl ..
  have disp {f : State → Run → State} (hf : ∀ s r, Evolves 26388904371136 s (f s r)) (s : State) (r : Run) :
      Evolves 26388904371136 s (if r.dispatched && !allRun r then f s r else s) := by
    split
    · exact hf ..
    · exact .refl ..
  unfold advanceRun
  exact .trans (.trans (.trans (.trans (go (fun s r => .step (tryDispatch_ev s r) <| .refl ..) s)
    (go (disp fun s r => .step (stateMissEff_ev s r) <| .refl ..) _))
    (go (disp fun s r => .step (modelMissEff_ev s r) <| .refl ..) _))
    (go (disp fun s r => .step (stageDone_ev s r) <| .refl ..) _))
    (go (disp fun s r => .step (fixBatches_ev s r) <| .refl ..) _)

theorem stagedFromT1_ev (s : State) (x1) : Evolves 536870912 s (stagedFromT1 s x1) := by
  unfold stagedFromT1
  extract_lets
  split
  · exact .refl ..
  · exact .step (upd_t1_ev ..) <| .refl ..

theorem giveKernel_ev (s : State) (x1 x2) : Evolves 537264128 s (giveKernel s x1 x2) := by
  unfold giveKernel
  extract_lets
  split
  · exact .step (State.modPrism_ev ..) <| .step (stagedFromT1_ev ..) <| .step (State.modFacet_ev ..) <| .refl ..
  · exact .step (stagedFromT1_ev ..) <| .step (State.modFacet_ev ..) <| .refl ..

theorem feedFrom_ev (s : State) (x1 x2) : Evolves 537329664 s (feedFrom s x1 x2) := by
  fun_induction feedFrom s x1 x2
  · exact .refl ..
  · exact .step (by assumption) <| .step (State.modPart_ev ..) <| .refl ..
  · exact .step (by assumption) <| .step (giveKernel_ev ..) <| .refl ..
  · exact .step (by assumption) <| .step (State.modPart_ev ..) <| .refl ..

theorem feed_ev (s : State) (x1) : Evolves 537329664 s (feed s x1) := by
  unfold feed
  exact .step (feedFrom_ev ..) <| .step (State.modPart_ev ..) <| .refl ..

theorem takeRx_ev (s : State) (x1 x2 x3) : Evolves 1090519040 s (takeRx s x1 x2 x3) := by
  unfold takeRx
  refine .foldl _ (fun s x => ?_) ?_
  · extract_lets l1
    exact .step (State.modRun_ev ..) <| .step (State.modSlot_ev ..) <| .refl ..
  · exact .refl ..

theorem putKernel_ev (s : State) (x1 x2 x3) : Evolves 1090584576 s (putKernel s x1 x2 x3) := by
  unfold putKernel
  extract_lets l1
  refine .step (State.modPart_ev ..) <| .step (State.modRun_ev ..) ?_
  subst l1
  split
  · exact .refl ..
  · exact .step (takeRx_ev ..) <| .refl ..

/-! ### Lifecycle -/

theorem freeGroups_ev (s : State) (x1 x2) : Evolves 8797229769216 s (freeGroups s x1 x2) := by
  fun_induction freeGroups s x1 x2
  · exact .refl ..
  · exact .step (by assumption) <| .step (State.modPart_ev ..) <| .step (freeGroup_ev ..) <| .refl ..

theorem orphanCopies_ev (s : State) (x1) : Evolves 285237248 s (orphanCopies s x1) := by
  unfold orphanCopies
  extract_lets l1
  exact .step (finishAll_ev ..) <| .step (upd_t2_ev ..) <| .refl ..

theorem releasePrism_ev (s : State) (x1) : Evolves 196608 s (releasePrism s x1) := by
  unfold releasePrism
  extract_lets l1
  refine .step (State.modPrism_ev ..) ?_
  subst l1
  split
  · exact .step (State.modPart_ev ..) <| .refl ..
  · exact .refl ..

theorem unregisterAll_ev (s : State) (x1) : Evolves 1006698496 s (unregisterAll s x1) := by
  fun_induction unregisterAll s x1
  · exact .refl ..
  · exact .step (by assumption) <| .step (unregister_ev ..) <| .refl ..

theorem withdrawAll_ev (s : State) (x1) : Evolves 1125899906843136 s (withdrawAll s x1) := by
  unfold withdrawAll
  extract_lets l1 l2
  exact .step (upd_vertex_ev ..) <| .refl ..

theorem disownAll_ev (s : State) (x1) : Evolves 1108869120 s (disownAll s x1) := by
  unfold disownAll
  exact .step (upd_share_shareNext_sinkWrites_ports_ev ..) <| .refl ..

theorem destroyNow_ev (s : State) (x1 x2) : Evolves 1134698145210880 s (destroyNow s x1 x2) := by
  unfold destroyNow
  extract_lets l1 l2 l3 l4 l5 l6 l7
  refine .step (fail_ev ..) <| .step (State.modPart_ev ..) ?_
  subst l7
  refine .foldl _ (fun s x => ?_) ?_
  · exact .step (releasePrism_ev ..) <| .refl ..
  · exact .step (dropKernels_ev ..) <| .step (disownAll_ev ..) <| .step (withdrawAll_ev ..) <|
      .step (unregisterAll_ev ..) <| .step (orphanCopies_ev ..) <| .step (finishAll_ev ..) <|
      .step (freeGroups_ev ..) <| .refl ..

theorem replaceCopy_ev (s : State) (x1 x2) : Evolves 16867584 s (replaceCopy s x1 x2) := by
  unfold replaceCopy
  split
  · exact .step (State.modPart_ev ..) <| .step (.ofSome (by assumption) (beginPlace_ev ..)) <|
      .step (dropT0_ev ..) <| .refl ..
  · exact .step (finishAll_ev ..) <| .step (finishAll_ev ..) <| .step (dropT0_ev ..) <| .refl ..

theorem rehome_ev (s : State) (x1 x2) : Evolves 8797171286528 s (rehome s x1 x2) := by
  unfold rehome
  extract_lets l1
  split
  · exact .step (.ofSomeFst (by assumption) (registerSink_ev ..)) <| .step (State.modStream_ev ..) <| .refl ..
  · exact .step (sinkFault_ev ..) <| .step (State.modStream_ev ..) <| .refl ..

theorem reseat_ev (s : State) (x1 x2) : Evolves 8797724959232 s (reseat s x1 x2) := by
  unfold reseat
  extract_lets
  split
  · exact .refl ..
  · split
    · exact .step (rehome_ev ..) <| .step (State.modStream_ev ..) <|
        .step (.ofSome (by assumption) (roomState_ev ..)) <| .refl ..
    · exact .step (moveAway_ev ..) <| .refl ..

theorem finishYield_ev (s : State) (x1 x2 x3) : Evolves 8797725090560 s (finishYield s x1 x2 x3) := by
  unfold finishYield
  refine .step (feed_ev ..) <| .step (fail_ev ..) <| .step (State.setPartCause_ev ..) <|
    .step (State.modPart_ev ..) ?_
  refine .foldl _ (fun s x => .step (replaceCopy_ev ..) <| .refl ..) ?_
  refine .foldl _ (fun s x => .step (reseat_ev ..) <| .refl ..) ?_
  refine .foldl _ (fun s x => .step (State.modStream_ev ..) <| .refl ..) ?_
  exact .refl ..

theorem settleYields_ev (s : State) (x1) : Evolves 8797725090560 s (settleYields s x1) := by
  fun_induction settleYields s x1
  · exact .refl ..
  · refine .step (by assumption) ?_
    split
    · split
      · exact .step (finishYield_ev ..) <| .refl ..
      · exact .refl ..
    · exact .refl ..

theorem afterKernel_ev (s : State) (x1) : Evolves 1134698145211136 s (afterKernel s x1) := by
  unfold afterKernel
  split
  · split
    · exact .refl ..
    · exact .step (destroyNow_ev ..) <| .refl ..
  · exact .step (feed_ev ..) <| .step (evictForced_ev ..) <| .step (settleYields_ev ..) <| .refl ..

theorem haltPrism_ev (s : State) (x1) : Evolves 393216 s (haltPrism s x1) := by
  unfold haltPrism
  extract_lets l1
  refine .step (State.modPrism_ev ..) ?_
  subst l1
  refine .foldl _ (fun s x => ?_) ?_
  · exact .step (State.modFacet_ev ..) <| .refl ..
  · exact .refl ..

theorem replacePinned_ev (s : State) (x1) : Evolves 16867584 s (replacePinned s x1) := by
  unfold replacePinned
  extract_lets l1
  refine .foldl _ (fun s x => ?_) ?_
  · split
    · exact .refl ..
    · exact .step (beginPlace_ev ..) <| .refl ..
  · exact .refl ..

theorem beginReset_ev (s : State) (x1 x2 x3) : Evolves 8797498598144 s (beginReset s x1 x2 x3) := by
  unfold beginReset
  extract_lets l1 l2 l3 l4 l5 l6
  split
  · exact .step (State.modPart_ev ..) <| .refl ..
  · refine .step (replacePinned_ev ..) <| .step (State.modPart_ev ..) <| .step (upd_sinkWrites_ev ..) <|
      .step (freeStreams_ev ..) <| .step (orphanCopies_ev ..) <| .step (finishAll_ev ..) ?_
    subst l3
    refine .foldl _ (fun s x => ?_) ?_
    · exact .step (haltPrism_ev ..) <| .refl ..
    · exact .step (State.modPart_ev ..) <| .refl ..

theorem releaseIfIdle_ev (s : State) (x1) : Evolves 196608 s (releaseIfIdle s x1) := by
  unfold releaseIfIdle
  split
  · exact .step (releasePrism_ev ..) <| .refl ..
  · exact .refl ..

theorem endReset_ev (s : State) (x1) : Evolves 16998400 s (endReset s x1) := by
  unfold endReset
  extract_lets l1 l2 l3
  refine .step (finishAll_ev ..) <| .step (State.modPart_ev ..) ?_
  subst l2
  refine .foldl _ (fun s x => ?_) ?_
  · exact .step (State.modPrism_ev ..) <| .refl ..
  · exact .refl ..

theorem releaseAll_ev (s : State) (x1) : Evolves 196608 s (releaseAll s x1) := by
  fun_induction releaseAll s x1
  · exact .refl ..
  · exact .step (by assumption) <| .step (releaseIfIdle_ev ..) <| .refl ..

/-! ### Kernels -/

theorem advanceAll_ev (s : State) (x1) : Evolves 26388904371136 s (advanceAll s x1) := by
  fun_induction advanceAll s x1
  · exact .refl ..
  · exact .step (by assumption) <| .step (advanceRun_ev ..) <| .refl ..

theorem clearFacet_ev (s : State) (x1 x2) : Evolves 458752 s (clearFacet s x1 x2) := by
  unfold clearFacet
  extract_lets l1 l2
  exact .step (releaseIfIdle_ev ..) <| .step (State.modPrism_ev ..) <| .step (State.modFacet_ev ..) <| .refl ..

theorem keepMember_ev (s : State) (x1 x2 x3) : Evolves 4194304 s (keepMember s x1 x2 x3) := by
  unfold keepMember
  exact .step (State.modStream_ev ..) <| .refl ..

theorem staleDrop_ev (s : State) (x1) : Evolves 65536 s (staleDrop s x1) := by
  unfold staleDrop
  exact .step (State.setStreamCause_ev ..) <| .step (State.modPart_ev ..) <| .refl ..

theorem writeLocalPieces_ev (s : State) (x1 x2) : Evolves 8924942041216 s (writeLocalPieces s x1 x2).1 := by
  fun_induction writeLocalPieces s x1 x2
  · dsimp -zeta only
    exact .refl ..
  · exact .step (by assumption) <| .step (namedWrite_ev ..) <| .refl ..
  · dsimp -zeta only
    exact .step (namedWrite_ev ..) <| .refl ..

theorem writeRemotePieces_ev (s : State) (x1 x2 x3) : Evolves 8796093022720 s (writeRemotePieces s x1 x2 x3).1 := by
  fun_induction writeRemotePieces s x1 x2 x3
  · dsimp -zeta only
    exact .refl ..
  · exact .step (by assumption) <| .step (issueWrites_ev ..) <| .refl ..
  · dsimp -zeta only
    exact .step (issueWrites_ev ..) <| .refl ..

theorem sinkStep_ev (s : State) (x1 x2 x3 x4 x5) : Evolves 8924975923840 s (sinkStep s x1 x2 x3 x4 x5) := by
  unfold sinkStep
  extract_lets l1 l2
  split
  · exact .refl ..
  · exact .step (upd_sinkWrites_ev ..) <| .refl ..
  · extract_lets l3 l4 l5
    split
    · split
      · exact .step (writeRemotePieces_ev ..) <| .refl ..
      · exact .step (sinkFault_ev ..) <| .step (writeRemotePieces_ev ..) <| .refl ..
    · split
      · exact .step (staleDrop_ev ..) <| .refl ..
      · split
        · exact .step (writeLocalPieces_ev ..) <| .refl ..
        · exact .step (sinkFault_ev ..) <| .step (writeLocalPieces_ev ..) <| .refl ..

theorem execItem_ev (x1 x2 x3) (s : State) (x4) : Evolves 8924980118144 s (execItem x1 x2 x3 s x4) := by
  unfold execItem
  extract_lets l1 l2 l3 l4 l5 l6 l7 l8 l9
  split
  · exact .step (sinkStep_ev ..) <| .step (State.modStream_ev ..) <| .step (keepMember_ev ..) <| .refl ..
  · exact .step (keepMember_ev ..) <| .refl ..

theorem execItems_ev (x1 x2 x3 x4 x5) (s : State) : Evolves 8924980118144 s (execItems x1 x2 x3 x4 x5 s) := by
  fun_induction execItems x1 x2 x3 x4 x5 s
  · exact .refl ..
  · refine .step (by assumption) ?_
    refine .foldl _ (fun s x => ?_) ?_
    · exact .step (execItem_ev ..) <| .refl ..
    · exact .refl ..

theorem commit_ev (s : State) (x1) : Evolves 8924996895360 s (commit s x1) := by
  unfold commit
  split
  · exact .refl ..
  · extract_lets
    split
    · exact .step (State.modRun_ev ..) <| .refl ..
    · exact .step (State.modRun_ev ..) <| .step (execItems_ev ..) <| .refl ..

theorem recallReaders_ev (s : State) (x1 x2) : Evolves 327680 s (recallReaders s x1 x2) := by
  unfold recallReaders
  extract_lets l1 l2 l3
  exact .step (State.modPart_ev ..) <| .step (upd_facets_ev ..) <| .refl ..

theorem dropPoisoned_ev (s : State) (x1 x2) : Evolves 327680 s (dropPoisoned s x1 x2) := by
  unfold dropPoisoned
  split
  · exact .refl ..
  · extract_lets l1
    exact .step (recallReaders_ev ..) <| .step (State.modPart_ev ..) <| .refl ..

theorem touchT0_ev (s : State) (x1) : Evolves 65536 s (touchT0 s x1) := by
  unfold touchT0
  exact .step (State.modPart_ev ..) <| .refl ..

theorem endKernel_ev (s : State) (x1 x2 x3) : Evolves 1134826994230144 s (endKernel s x1 x2 x3) := by
  unfold endKernel
  extract_lets l1 l2
  refine .step (afterKernel_ev ..) ?_
  split
  · exact .step (touchT0_ev ..) <| .step (clearFacet_ev ..) <| .step (State.modFacet_ev ..) <| .refl ..
  · exact .step (commit_ev ..) <| .step (touchT0_ev ..) <| .step (clearFacet_ev ..) <| .step (State.modFacet_ev ..) <|
      .refl ..

theorem faultKernel_ev (s : State) (x1 x2 x3) : Evolves 1134698145211136 s (faultKernel s x1 x2 x3) := by
  unfold faultKernel
  exact .step (afterKernel_ev ..) <| .step (beginTeardown_ev ..) <| .step (clearFacet_ev ..) <| .refl ..

theorem modAcct_ev (s : State) (x1 x2) : Evolves 65536 s (modAcct s x1 x2) := by
  unfold modAcct
  exact .step (State.modPart_ev ..) <| .refl ..

theorem firstKernel_ev (s : State) (x1) : Evolves 16859136 s (firstKernel s x1) := by
  unfold firstKernel
  split
  · exact .refl ..
  · split
    · exact .refl ..
    · extract_lets l1
      exact .step (modAcct_ev ..) <| .step (State.modRun_ev ..) <| .step (State.modCmd_ev ..) <| .refl ..

theorem jumpEff_ev (s : State) (x1 x2 x3 x4) : Evolves 393216 s (jumpEff s x1 x2 x3 x4) := by
  unfold jumpEff
  extract_lets l1 l2
  exact .step (State.modPrism_ev ..) <| .step (State.modFacet_ev ..) <| .refl ..

theorem lcStart_ev (s : State) (x1) : Evolves 65536 s (lcStart s x1) := by
  unfold lcStart
  split
  · exact .refl ..
  · extract_lets l1 l2
    refine .iteR ?_ ?_
    · exact .step (State.modPart_ev ..) <| .refl ..
    · exact .step (State.setPartCause_ev ..) <| .refl ..

theorem keepCapture_ev (s : State) (x1 x2) : Evolves 4260352 s (keepCapture s x1 x2) := by
  unfold keepCapture
  extract_lets l1 l2
  split
  · exact .step (State.modStream_ev ..) <| .step (noteCapture_ev ..) <| .refl ..
  · exact .step (State.setStreamCause_ev ..) <| .step (State.modPart_ev ..) <| .refl ..

theorem memberEnd_ev (s : State) (x1 x2) : Evolves 17592190304768 s (memberEnd s x1 x2) := by
  unfold memberEnd
  extract_lets l1 l2 l3 l4
  split
  · refine .step (keepCapture_ev ..) ?_
    subst l4
    split
    · exact .step (State.used_ev ..) <| .step (State.modStream_ev ..) <| .refl ..
    · exact .step (State.modStream_ev ..) <| .refl ..
  · exact .step (State.modStream_ev ..) <| .refl ..

theorem placementEff_ev (s : State) (x1 x2) : Evolves 553738496 s (placementEff s x1 x2) := by
  unfold placementEff
  extract_lets l1 l2 l3 l4
  exact .step (evictForced_ev ..) <| .step (finishAll_ev ..) <| .step (upd_t1_ev ..) <|
    .step (State.modPart_ev ..) <| .refl ..

theorem poisonBits_ev (s : State) (x1) : Evolves 262144 s (poisonBits s x1) := by
  unfold poisonBits
  exact .step (State.setFacetCause_ev ..) <| .step (State.setFacetCause_ev ..) <| .refl ..

theorem restage_ev (s : State) (x1 x2) : Evolves 8796093366784 s (restage s x1 x2) := by
  unfold restage
  extract_lets l1 l2 l3 l4
  split
  · exact .step (issueReq_ev ..) <| .step (State.modCmd_ev ..) <| .step (State.modPart_ev ..) <| .refl ..
  · exact .step (sinkFault_ev ..) <| .step (issueReq_ev ..) <| .step (State.modCmd_ev ..) <|
      .step (State.modPart_ev ..) <| .refl ..

theorem runCompleteEff_ev (s : State) (x1) : Evolves 26518768149120 s (runCompleteEff s x1) := by
  unfold runCompleteEff
  extract_lets l1 l2 l3 l4 l5
  refine .step (resumeWaiting_ev ..) ?_
  subst l5
  split
  · refine .step (finish_ev ..) ?_
    subst l4
    split
    · refine .foldl _ (fun s x => ?_) ?_
      · exact .step (State.modStream_ev ..) <| .refl ..
      · exact .refl ..
    · refine .foldl _ (fun s x => ?_) ?_
      · exact .step (State.modStream_ev ..) <| .refl ..
      · exact .refl ..
  · refine .step (finish_ev ..) ?_
    subst l4
    split
    · refine .foldl _ (fun s x => ?_) ?_
      · exact .step (State.modStream_ev ..) <| .refl ..
      · exact .refl ..
    · refine .foldl _ (fun s x => ?_) ?_
      · exact .step (memberEnd_ev ..) <| .refl ..
      · exact .step (modAcct_ev ..) <| .refl ..

theorem staleStage_ev (s : State) (x1) : Evolves 65536 s (staleStage s x1) := by
  unfold staleStage
  exact .step (State.setPartCause_ev ..) <| .step (State.modPart_ev ..) <| .refl ..

theorem stageLand_ev (s : State) (x1 x2 x3 x4) : Evolves 8796093366784 s (stageLand s x1 x2 x3 x4) := by
  unfold stageLand
  extract_lets l1
  split
  · split
    · exact .step (State.modPart_ev ..) <| .refl ..
    · exact .step (restage_ev ..) <| .step (staleStage_ev ..) <| .refl ..
  · split
    · exact .refl ..
    · exact .step (staleStage_ev ..) <| .refl ..

theorem startKernel_ev (s : State) (x1 x2) : Evolves 17121280 s (startKernel s x1 x2) := by
  unfold startKernel
  extract_lets l1 l2
  refine .step (lcStart_ev ..) ?_
  subst l2
  split
  · exact .step (firstKernel_ev ..) <| .step (State.modFacet_ev ..) <| .refl ..
  · exact .step (State.modFacet_ev ..) <| .refl ..

theorem t1CopyEff_ev (s : State) (x1) : Evolves 553672704 s (t1CopyEff s x1) := by
  unfold t1CopyEff
  extract_lets l1
  exact .step (finishAll_ev ..) <| .step (upd_t1_ev ..) <| .refl ..

end Sys2Proof.Machine
end

