-- ==== Sys2Proof/Laws/FramePart.lean ====
section
/-! SUPPORT. What each function of the model may change (`Evolves`): Lattice, Parts, Models, PortCmds, PortFrames. -/

-- These proofs wait on the same definitions: they are elaborated in order.
set_option Elab.async false

namespace Sys2Proof.Machine

/-! ### Lattice -/

theorem acctClearEff_ev (s : State) (x1) : Evolves 65536 s (acctClearEff s x1) := by
  unfold acctClearEff
  exact .step (State.modPart_ev ..) <| .refl ..

theorem arbitrationEff_ev (s : State) (x1) : Evolves 8796096692224 s (arbitrationEff s x1) := by
  unfold arbitrationEff
  extract_lets l1 l2
  exact .step (upd_bwReqs_sent_ev ..) <| .step (upd_share_shareNext_bwReqs_ev ..) <| .refl ..

theorem switchNow_ev (s : State) (x1) : Evolves 16998400 s (switchNow s x1) := by
  unfold switchNow
  extract_lets l1
  split
  · exact .step (finishAll_ev ..) <| .step (State.modPart_ev ..) <| .refl ..
  · extract_lets l2 l3 l4 l5
    refine .step (finishAll_ev ..) <| .step (State.setPartCause_ev ..) ?_
    subst l5
    refine .iteR ?_ ?_
    · exact .step (State.modPart_ev ..) <| .refl ..
    · refine .foldl _ (fun s x => ?_) ?_
      · split
        · exact .step (State.modPrism_ev ..) <| .refl ..
        · exact .refl ..
      · exact .refl ..

theorem stopTicksOf_ev (s : State) (x1 x2) : Evolves 16998400 s (stopTicksOf s x1 x2) := by
  fun_induction stopTicksOf s x1 x2
  · exact .refl ..
  · refine .step (by assumption) ?_
    split
    · refine .iteL ?_ ?_
      · rename_i l3 _ _
        exact .step (State.setPartCause_ev ..) <| .step (State.modPart_ev ..) <| .refl ..
      · exact .step (switchNow_ev ..) <| .refl ..
    · exact .refl ..

theorem stopTicks_ev (s : State) (x1) : Evolves 16998400 s (stopTicks s x1) := by
  unfold stopTicks
  exact .step (stopTicksOf_ev ..) <| .refl ..

theorem claimFor_ev (s : State) (x1 x2) : Evolves 262144 s (claimFor s x1 x2) := by
  fun_induction claimFor s x1 x2
  · exact .refl ..
  · refine .step (by assumption) ?_
    split
    · refine .foldl _ (fun s x => ?_) ?_
      · exact .step (State.modFacet_ev ..) <| .refl ..
      · exact .refl ..
    · exact .refl ..

theorem mapRuns_ev (s : State) (x1 x2) : Evolves 16777216 s (mapRuns s x1 x2) := by
  unfold mapRuns
  exact .step (upd_runs_ev ..) <| .refl ..

theorem schedPrefill_ev (cs) (a : State × Occ) : Evolves 1090584576 a.1 (schedPrefill cs a).1 := by
  induction cs generalizing a with
  | nil => exact .refl ..
  | cons c r ih =>
    unfold schedPrefill
    refine .trans ?_ (ih _)
    split
    · exact .refl ..
    · split
      · exact .refl ..
      · extract_lets
        split
        · exact .step (putKernel_ev ..) <| .refl ..
        · exact .refl ..

theorem schedMore_ev (n cs) (a : State × Occ) : Evolves 1090584576 a.1 (schedMore n cs a).1 := by
  induction n generalizing a with
  | zero => exact .refl ..
  | succ n ih =>
    unfold schedMore
    extract_lets b
    split
    · exact schedPrefill_ev ..
    · exact .trans (schedPrefill_ev cs a) (ih b)

theorem schedSteps_ev (x1) (s : State) (x2 x3 x4) : Evolves 1090584576 s (schedSteps x1 s x2 x3 x4).1 := by
  fun_induction schedSteps x1 s x2 x3 x4
  · dsimp -zeta only
    exact .refl ..
  · dsimp -zeta only
    exact .refl ..
  · dsimp -zeta only
    exact .refl ..
  · dsimp -zeta only
    exact .refl ..
  · exact .step (by assumption) <| .step (putKernel_ev ..) <| .refl ..

theorem schedOutputs_ev (e o cs) (a : State × Occ) : Evolves 1090584576 a.1 (schedOutputs e o cs a).1 := by
  induction cs generalizing a with
  | nil => exact .refl ..
  | cons c r ih =>
    unfold schedOutputs
    extract_lets go
    refine .trans ?_ (ih _)
    split
    · exact schedSteps_ev ..
    · exact .refl ..

theorem composeEntry_ev (s : State) (x1 x2 x3 x4) : Evolves 26389978112960 s (composeEntry s x1 x2 x3 x4) := by
  unfold composeEntry
  extract_lets l1 l2 l3 l4 l5
  refine .step (schedOutputs_ev ..) ?_
  subst l5
  dsimp -zeta only
  refine .step (mapRuns_ev ..) <| .step (schedMore_ev ..) <| .step (schedPrefill_ev ..) <|
    .step (schedOutputs_ev ..) ?_
  dsimp -zeta only
  exact .step (mapRuns_ev ..) <| .step (mapRuns_ev ..) <| .step (advanceAll_ev ..) <| .refl ..

theorem fillFrom_ev (s : State) (x1 x2) : Evolves 26389978244032 s (fillFrom s x1 x2) := by
  induction x2 generalizing s with
  | nil => exact .refl ..
  | cons c cs ih =>
    unfold fillFrom
    extract_lets l1
    have h1 : Evolves 26389978244032 s l1 := .step (advanceRun_ev ..) <| .refl ..
    split
    · exact h1.trans (ih _)
    · split
      · exact h1.trans (ih _)
      · split
        · exact h1.trans (ih _)
        · extract_lets
          exact .step (giveKernel_ev ..) <| .step (State.modPart_ev ..) <| .step (putKernel_ev ..) h1

theorem latticeLoadEff_ev (x1) (s : State) : Evolves 26388295934656 s (latticeLoadEff x1 s) := by
  unfold latticeLoadEff
  extract_lets l1
  split
  · exact .step (fail_ev ..) <| .refl ..
  · refine withStruct_ev (by decide) ?_ (fun s' b h' => ?_)
    · exact .refl ..
    · split
      · exact .step (fail_ev ..) <| .step (by assumption) <| .refl ..
      · extract_lets l2
        refine .step (fail_ev ..) ?_
        split
        · exact .step (State.modPart_ev ..) <| .step (by assumption) <| .refl ..
        · exact .step (by assumption) <| .refl ..

theorem latticeSwitchEff_ev (x1) (s : State) : Evolves 16998400 s (latticeSwitchEff x1 s) := by
  unfold latticeSwitchEff
  extract_lets l1 l2 l3
  split
  · exact .step (fail_ev ..) <| .refl ..
  · split
    · exact .step (finish_ev ..) <| .refl ..
    · split
      · exact .step (switchNow_ev ..) <| .step (State.modPart_ev ..) <| .refl ..
      · split
        · exact .step (finish_ev ..) <| .refl ..
        · split
          · exact .step (switchNow_ev ..) <| .step (State.modPart_ev ..) <| .refl ..
          · exact .step (State.modPart_ev ..) <| .refl ..

theorem launchBe_ev (s : State) (x1 x2 x3) : Evolves 26389978112960 s (launchBe s x1 x2 x3) := by
  unfold launchBe
  refine .step (composeEntry_ev ..) ?_
  refine .foldl _ (fun s x => .step (modAcct_ev ..) <| .refl ..) ?_
  exact .step (advanceAll_ev ..) <| .refl ..

theorem launchLc_ev (s : State) (x1 x2 x3) : Evolves 26389978112960 s (launchLc s x1 x2 x3) := by
  unfold launchLc
  exact .step (State.modPart_ev ..) <| .step (composeEntry_ev ..) <| .refl ..

theorem launchAll_ev (s : State) (x1 x2) : Evolves 26389978112960 s (launchAll s x1 x2) := by
  fun_induction launchAll s x1 x2
  · exact .refl ..
  · refine .step (by assumption) ?_
    split
    · exact .step (launchLc_ev ..) <| .refl ..
    · exact .step (launchBe_ev ..) <| .refl ..

theorem launchTick_ev (s : State) (x1 x2) : Evolves 26389978244032 s (launchTick s x1 x2) := by
  unfold launchTick
  extract_lets l1 l2 l3
  exact .step (feed_ev ..) <| .step (launchAll_ev ..) <| .step (claimFor_ev ..) <| .step (State.modPart_ev ..) <|
    .refl ..

theorem shareTableLoadEff_ev (x1) (s : State) : Evolves 26388296917696 s (shareTableLoadEff x1 s) := by
  unfold shareTableLoadEff
  split
  · exact .step (fail_ev ..) <| .refl ..
  · refine withStruct_ev (by decide) ?_ (fun s' b h' => ?_)
    · exact .refl ..
    · extract_lets l1
      split
      · refine .step (fail_ev ..) ?_
        split
        · exact .step (upd_shareNext_ev ..) <| .step (by assumption) <| .refl ..
        · exact .step (by assumption) <| .refl ..
      · exact .step (fail_ev ..) <| .step (by assumption) <| .refl ..

theorem tickEff_ev (s : State) (x1) : Evolves 26389978244032 s (tickEff s x1) := by
  unfold tickEff
  extract_lets l1 l2
  split
  · subst l1
    split
    · exact .step (switchNow_ev ..) <| .refl ..
    · exact .refl ..
  · refine .iteR ?_ ?_
    · subst l1
      split
      · exact .step (switchNow_ev ..) <| .refl ..
      · exact .refl ..
    · exact .step (launchTick_ev ..) <| .refl ..

/-! ### Parts -/

theorem stopDevice_ev (s : State) (x1) : Evolves 8796093284421 s (stopDevice s x1) := by
  unfold stopDevice
  exact .step (State.emit_ev ..) <| .step (upd_mode_pins_pcieQ_facets_ev ..) <| .refl ..

theorem fatalEff_ev (s : State) (x1 x2) : Evolves 8796093284453 s (fatalEff s x1 x2) := by
  unfold fatalEff
  extract_lets l1 l2
  exact .step (stopDevice_ev ..) <| .step (upd_fatal_ev ..) <| .refl ..

theorem demote_ev (x1) (s : State) (x2 x3) : Evolves 21037056 s (demote x1 s x2 x3) := by
  fun_induction demote x1 s x2 x3
  · exact .refl ..
  · exact .refl ..
  · refine .step (by assumption) <| .step (State.setPartCause_ev ..) ?_
    exact .step (State.modPart_ev ..) <| .step (upd_streams_runs_ev ..) <| .refl ..

theorem joinPrism_ev (s : State) (x1) : Evolves 131072 s (joinPrism s x1) := by
  unfold joinPrism
  exact .step (State.modPrism_ev ..) <| .refl ..

theorem partitionCreateEff_ev (x1) (s : State) : Evolves 16998400 s (partitionCreateEff x1 s) := by
  unfold partitionCreateEff
  extract_lets l1 l2 l3
  split
  · exact .step (fail_ev ..) <| .refl ..
  · split
    · exact .step (fail_ev ..) <| .refl ..
    · split
      · exact .step (fail_ev ..) <| .refl ..
      · refine .step (finish_ev ..) ?_
        subst l3
        refine .foldl _ (fun s x => ?_) ?_
        · exact .step (joinPrism_ev ..) <| .refl ..
        · exact .step (upd_parts_ev ..) <| .refl ..

theorem partitionDestroyEff_ev (x1) (s : State) : Evolves 1134698145210880 s (partitionDestroyEff x1 s) := by
  unfold partitionDestroyEff
  extract_lets l1 l2
  split
  · exact .step (fail_ev ..) <| .refl ..
  · split
    · exact .step (State.modPart_ev ..) <| .step (dropKernels_ev ..) <| .refl ..
    · exact .step (destroyNow_ev ..) <| .step (dropKernels_ev ..) <| .refl ..

theorem partitionResetEff_ev (x1) (s : State) : Evolves 8797498598144 s (partitionResetEff x1 s) := by
  unfold partitionResetEff
  exact .step (beginReset_ev ..) <| .refl ..

theorem withdrawPrism_ev (s : State) (x1 x2) : Evolves 458752 s (withdrawPrism s x1 x2) := by
  unfold withdrawPrism
  extract_lets l1 l2
  refine .step (State.modPrism_ev ..) <| .step (State.modPart_ev ..) ?_
  subst l2
  refine .foldl _ (fun s x => ?_) ?_
  · exact .step (State.modFacet_ev ..) <| .refl ..
  · exact .refl ..

theorem partitionYieldEff_ev (x1) (s : State) : Evolves 8797725090560 s (partitionYieldEff x1 s) := by
  unfold partitionYieldEff
  extract_lets l1 l2 l3 l4 l5 l6 l7 l8
  split
  · exact .step (fail_ev ..) <| .refl ..
  · split
    · exact .step (finish_ev ..) <| .refl ..
    · refine .step (feed_ev ..) <| .step (settleYields_ev ..) <| .step (releaseAll_ev ..) <|
        .step (State.modPart_ev ..) ?_
      subst l7
      refine .foldl _ (fun s x => ?_) ?_
      · exact .step (withdrawPrism_ev ..) <| .refl ..
      · exact .step (demote_ev ..) <| .refl ..

/-! ### Models -/

theorem copyFails_ev (s : State) (x1 x2 x3 x4) : Evolves 285302784 s (copyFails s x1 x2 x3 x4) := by
  unfold copyFails
  extract_lets l1 l2 l3 l4
  refine .foldl _ (fun s x => ?_) ?_
  · exact .step (finish_ev ..) <| .refl ..
  · subst l4
    split
    · refine .foldl _ (fun s x => ?_) ?_
      · exact .step (State.setModelCause_ev ..) <| .refl ..
      · exact .step (upd_t2_ev ..) <| .refl ..
    · exact .step (upd_t2_ev ..) <| .refl ..

theorem countRetry_ev (s : State) (x65792) : Evolves 65792 s (countRetry s x65792) := by
  unfold countRetry
  exact .step (State.setModelCause_ev ..) <| .step (upd_cache_ev ..) <| .refl ..

theorem askPiece_ev (n) (s : State) (x2 x3 x4 x5 again) :
    Evolves 8796093088512 s (askPiece n s x2 x3 x4 x5 again).1 := by
  induction n generalizing s x5 again with
  | zero => exact .refl ..
  | succ n ih =>
    unfold askPiece
    extract_lets d s1 q
    split
    · exact ih ..
    · have h1 : Evolves 8796093088512 s s1 := by
        subst s1
        split
        · exact .step (countRetry_ev ..) <| .refl ..
        · exact .refl ..
      have hq : Evolves 8796093088512 s q.1 := .step (issueReq_ev ..) h1
      split
      · exact hq
      · exact hq.trans (ih ..)

theorem setT2_ev (s : State) (x1 x2) : Evolves 268435456 s (setT2 s x1 x2) := by
  unfold setT2
  exact .step (upd_t2_ev ..) <| .refl ..

theorem askPieces_ev (s : State) (x1 x2 x3 x4 x5) : Evolves 8796361523968 s (askPieces s x1 x2 x3 x4 x5).1 := by
  fun_induction askPieces s x1 x2 x3 x4 x5
  · exact .refl ..
  · exact .step (askPiece_ev ..) <| .refl ..
  · exact .step (by assumption) <| .step (setT2_ev ..) <| .step (askPiece_ev ..) <| .refl ..

theorem askOrFail_ev (s : State) (x8796378325760 x2 x3 x4 x5) : Evolves 8796378325760 s (askOrFail s x8796378325760 x2 x3 x4 x5) := by
  unfold askOrFail
  extract_lets
  split
  · exact .step (askPieces_ev ..) <| .refl ..
  · exact .step (copyFails_ev ..) <| .step (askPieces_ev ..) <| .refl ..

theorem pieceFails_ev (s : State) (x1 x2 x3) : Evolves 8796378325760 s (pieceFails s x1 x2 x3) := by
  unfold pieceFails
  exact .step (askOrFail_ev ..) <| .step (upd_vertexQ_ev ..) <| .refl ..

theorem pieceArrives_ev (s : State) (x1 x2 x3 x4) : Evolves 8796378325760 s (pieceArrives s x1 x2 x3 x4) := by
  unfold pieceArrives
  extract_lets l1 l2
  split
  · exact .step (setT2_ev ..) <| .step (State.modCmd_ev ..) <| .refl ..
  · refine .iteL ?_ ?_
    · exact .step (setT2_ev ..) <| .step (State.modCmd_ev ..) <| .refl ..
    · split
      · exact .step (copyFails_ev ..) <| .refl ..
      · exact .step (askOrFail_ev ..) <| .step (setT2_ev ..) <| .refl ..

theorem registerHeld_ev (s : State) (x1 x2) : Evolves 83910656 s (registerHeld s x1 x2) := by
  unfold registerHeld
  extract_lets
  split
  · exact .step (finish_ev ..) <| .refl ..
  · exact .step (finish_ev ..) <| .refl ..
  · split
    · exact .step (finish_ev ..) <| .refl ..
    · split
      · exact .step (finish_ev ..) <| .refl ..
      · split
        · exact .step (finish_ev ..) <| .refl ..
        · split
          · exact .step (finish_ev ..) <| .refl ..
          · exact .step (finish_ev ..) <| .step (upd_models_ev ..) <| .refl ..

theorem beginCopy_ev (s : State) (x1 x2) : Evolves 8796445434624 s (beginCopy s x1 x2) := by
  unfold beginCopy
  split
  · exact .step (finish_ev ..) <| .refl ..
  · split
    · exact .step (registerHeld_ev ..) <| .refl ..
    · split
      · exact .step (setT2_ev ..) <| .refl ..
      · split
        · split
          · exact .step (upd_t2_ev ..) <| .refl ..
          · exact .step (finish_ev ..) <| .refl ..
        · split
          · exact .step (finish_ev ..) <| .refl ..
          · exact .step (askOrFail_ev ..) <| .step (upd_t2_ev ..) <| .refl ..

theorem ensureT1_ev (s : State) (x1 x2) : Evolves 553672704 s (ensureT1 s x1 x2) := by
  unfold ensureT1
  split
  · exact .step (fail_ev ..) <| .refl ..
  · split
    · exact .step (.ofSome (by assumption) (beginT1_ev ..)) <| .refl ..
    · exact .step (fail_ev ..) <| .refl ..

theorem evictT0_ev (s : State) (x1 x2) : Evolves 16867328 s (evictT0 s x1 x2) := by
  unfold evictT0
  extract_lets l1 l2
  split
  · exact .step (fail_ev ..) <| .refl ..
  · split
    · exact .step (finish_ev ..) <| .refl ..
    · split
      · exact .step (fail_ev ..) <| .step (evictNowT0_ev ..) <| .refl ..
      · split
        · exact .step (fail_ev ..) <| .refl ..
        · exact .step (State.modPart_ev ..) <| .refl ..

theorem evictT1_ev (s : State) (x1 x2) : Evolves 553672704 s (evictT1 s x1 x2) := by
  unfold evictT1
  extract_lets l1
  split
  · exact .step (fail_ev ..) <| .refl ..
  · split
    · exact .step (finish_ev ..) <| .refl ..
    · exact .step (fail_ev ..) <| .step (evictNowT1_ev ..) <| .refl ..

theorem registerWaiters_ev (s : State) (x1 x2) : Evolves 83910656 s (registerWaiters s x1 x2) := by
  fun_induction registerWaiters s x1 x2
  · exact .refl ..
  · refine .step (by assumption) ?_
    split
    · exact .step (registerHeld_ev ..) <| .refl ..
    · exact .refl ..

theorem readImageEff_ev (s : State) (x1) : Evolves 26388279066816 s (readImageEff s x1) := by
  unfold readImageEff
  exact .step (addrReadEff_ev ..) <| .refl ..

theorem imageCopyEff_ev (s : State) (x1 x2) : Evolves 26388631478464 s (imageCopyEff s x1 x2) := by
  unfold imageCopyEff
  extract_lets l1 l2 l3 l4
  split
  · exact .step (copyFails_ev ..) <| .refl ..
  · split
    · refine .step (copyFails_ev ..) ?_
      subst l2
      split
      · exact .step (readImageEff_ev ..) <| .refl ..
      · exact .refl ..
    · split
      · refine .step (copyFails_ev ..) ?_
        subst l2
        split
        · exact .step (readImageEff_ev ..) <| .refl ..
        · exact .refl ..
      · split
        · refine .step (copyFails_ev ..) ?_
          subst l2
          split
          · exact .step (readImageEff_ev ..) <| .refl ..
          · exact .refl ..
        · split
          · refine .step (copyFails_ev ..) ?_
            subst l2
            split
            · exact .step (readImageEff_ev ..) <| .refl ..
            · exact .refl ..
          · split
            · refine .step (copyFails_ev ..) ?_
              subst l2
              split
              · exact .step (readImageEff_ev ..) <| .refl ..
              · exact .refl ..
            · split
              · refine .step (registerWaiters_ev ..) <| .step (registerHeld_ev ..) <| .step (setT2_ev ..) ?_
                subst l2
                split
                · exact .step (readImageEff_ev ..) <| .refl ..
                · exact .refl ..
              · refine .step (upd_t2_ev ..) <| .step (registerWaiters_ev ..) <| .step (registerHeld_ev ..) <|
                  .step (setT2_ev ..) ?_
                subst l2
                split
                · exact .step (readImageEff_ev ..) <| .refl ..
                · exact .refl ..

theorem withModel_ev {T : Nat} {s u : State} {c k} (hm : 16801792 &&& T = 16801792) (h : Evolves T s u)
    (hk : ∀ x, Evolves T s (k x)) : Evolves T s (withModel u c k) := by
  unfold withModel
  split
  · exact .step (fail_ev ..) h hm
  · exact hk _

theorem modelEvictEff_ev (x1) (s : State) : Evolves 1023500288 s (modelEvictEff x1 s) := by
  unfold modelEvictEff
  refine withModel_ev (by decide) ?_ (fun x => ?_)
  · exact .refl ..
  · extract_lets l1
    split
    · exact .step (fail_ev ..) <| .refl ..
    · split
      · exact .step (evictT0_ev ..) <| .refl ..
      · split
        · exact .step (evictT1_ev ..) <| .refl ..
        · split
          · exact .step (finish_ev ..) <| .refl ..
          · exact .step (fail_ev ..) <| .step (unregister_ev ..) <| .refl ..

theorem pinT0Now_ev (s : State) (x1 x2) : Evolves 83976448 s (pinT0Now s x1 x2) := by
  unfold pinT0Now
  extract_lets l1 l2 l3 l4
  split
  · exact .step (fail_ev ..) <| .refl ..
  · split
    · refine .step (fail_ev ..) ?_
      subst l4
      beta_reduce
      exact .step (State.modModel_ev ..) <| .refl ..
    · split
      · refine .step (State.modPart_ev ..) ?_
        subst l4
        beta_reduce
        exact .step (State.modModel_ev ..) <| .refl ..
      · split
        · subst l4
          beta_reduce
          exact .step (State.modModel_ev ..) <| .step (.ofSome (by assumption) (beginPlace_ev ..)) <| .refl ..
        · exact .step (fail_ev ..) <| .refl ..

theorem pinT1Now_ev (s : State) (x1 x2) : Evolves 620781568 s (pinT1Now s x1 x2) := by
  unfold pinT1Now
  extract_lets l1 l2 l3 l4
  split
  · exact .step (fail_ev ..) <| .refl ..
  · refine .iteL ?_ ?_
    · exact .step (ensureT1_ev ..) <| .step (State.modModel_ev ..) <| .refl ..
    · exact .step (State.modModel_ev ..) <| .refl ..

theorem modelPinEff_ev (x1) (s : State) : Evolves 620847360 s (modelPinEff x1 s) := by
  unfold modelPinEff
  refine withModel_ev (by decide) ?_ (fun x => ?_)
  · exact .refl ..
  · split
    · exact .step (fail_ev ..) <| .refl ..
    · split
      · exact .step (pinT0Now_ev ..) <| .refl ..
      · exact .step (pinT1Now_ev ..) <| .refl ..

theorem modelPrefetchEff_ev (x1) (s : State) : Evolves 553672704 s (modelPrefetchEff x1 s) := by
  unfold modelPrefetchEff
  refine withModel_ev (by decide) ?_ (fun x => ?_)
  · exact .refl ..
  · split
    · exact .step (fail_ev ..) <| .refl ..
    · exact .step (ensureT1_ev ..) <| .refl ..

theorem modelQueryEff_ev (x1) (s : State) : Evolves 8924958843520 s (modelQueryEff x1 s) := by
  unfold modelQueryEff
  refine withModel_ev (by decide) ?_ (fun x => ?_)
  · exact .refl ..
  · split
    · exact .step (fail_ev ..) <| .refl ..
    · exact .step (writeSized_ev ..) <| .refl ..

theorem withIdentity_ev (s : State) (x1 x2) : Evolves 8796445434624 s (withIdentity s x1 x2) := by
  unfold withIdentity
  split
  · exact .step (finish_ev ..) <| .refl ..
  · exact .step (beginCopy_ev ..) <| .refl ..

theorem modelRegisterEff_ev (x1) (s : State) : Evolves 26388631479232 s (modelRegisterEff x1 s) := by
  unfold modelRegisterEff
  split
  · exact .step (fail_ev ..) <| .refl ..
  · split
    · exact .step (finish_ev ..) <| .refl ..
    · split
      · exact .step (fail_ev ..) <| .refl ..
      · split
        · exact .step (withIdentity_ev ..) <| .refl ..
        · extract_lets l1 l2
          split
          · exact .step (finish_ev ..) <| .step (State.setModelCause_ev ..) <| .step (readImageEff_ev ..) <| .refl ..
          · split
            · exact .step (finish_ev ..) <| .step (readImageEff_ev ..) <| .refl ..
            · exact .step (withIdentity_ev ..) <| .step (readImageEff_ev ..) <| .refl ..

theorem modelUnpinEff_ev (x1) (s : State) : Evolves 83910656 s (modelUnpinEff x1 s) := by
  unfold modelUnpinEff
  refine withModel_ev (by decide) ?_ (fun x => ?_)
  · exact .refl ..
  · split
    · exact .step (fail_ev ..) <| .refl ..
    · extract_lets l1
      refine .step (fail_ev ..) ?_
      subst l1
      split
      · exact .step (State.modModel_ev ..) <| .refl ..
      · exact .step (State.modModel_ev ..) <| .refl ..

/-! ### PortCmds -/

theorem regroupPort_ev (s : State) (x1 x2 x3 x4) : Evolves 1073741824 s (regroupPort s x1 x2 x3 x4) := by
  unfold regroupPort
  extract_lets l1 l2 l3 l4
  exact .step (State.modPort_ev ..) <| .refl ..

theorem alignGroupEff_ev (x1) (s : State) : Evolves 1090543616 s (alignGroupEff x1 s) := by
  unfold alignGroupEff
  extract_lets l1 l2 l3
  split
  · exact .step (fail_ev ..) <| .refl ..
  · split
    · exact .step (fail_ev ..) <| .refl ..
    · split
      · exact .step (fail_ev ..) <| .refl ..
      · refine .step (fail_ev ..) ?_
        refine .foldl _ (fun s x => ?_) ?_
        · exact .step (regroupPort_ev ..) <| .refl ..
        · exact .refl ..

theorem stageRemoval_ev (s : State) (x1 x2 x3) : Evolves 1073741824 s (stageRemoval s x1 x2 x3) := by
  unfold stageRemoval
  exact .step (State.modSlot_ev ..) <| .refl ..

theorem leaveSink_ev (s : State) (x1 x2) : Evolves 8797166764544 s (leaveSink s x1 x2) := by
  unfold leaveSink
  split
  · exact .step (stageRemoval_ev ..) <| .refl ..
  · split
    · exact .refl ..
    · exact .step (releaseSink_ev ..) <| .refl ..
  · exact .step (releaseSink_ev ..) <| .refl ..
  · exact .refl ..

theorem hostBound_ev (s : State) (x1 x2) : Evolves 8797187760640 s (hostBound s x1 x2) := by
  unfold hostBound
  extract_lets l1 l2
  refine .step (fail_ev ..) <| .step (State.modStream_ev ..) <| .step (leaveSink_ev ..) ?_
  subst l1
  split
  · exact .step (State.modStream_ev ..) <| .refl ..
  · exact .refl ..

theorem bindAhead_ev (s : State) (x1 x2) : Evolves 4210688 s (bindAhead s x1 x2) := by
  unfold bindAhead
  extract_lets l1
  exact .step (State.modStream_ev ..) <| .step (State.modCmd_ev ..) <| .refl ..

theorem bindHost_ev (s : State) (x1 x2) : Evolves 8797187760640 s (bindHost s x1 x2) := by
  unfold bindHost
  extract_lets l1 l2 l3 l4 l5
  split
  · exact .step (fail_ev ..) <| .refl ..
  · split
    · exact .step (fail_ev ..) <| .refl ..
    · split
      · split
        · exact .step (bindAhead_ev ..) <| .step (.ofSome (by assumption) (sendRegister_ev ..)) <| .refl ..
        · exact .step (fail_ev ..) <| .refl ..
      · split
        · exact .step (hostBound_ev ..) <| .step (regPut_ev ..) <| .refl ..
        · exact .step (fail_ev ..) <| .step (regPut_ev ..) <| .refl ..

theorem bindPort_ev (s : State) (x1 x2) : Evolves 8797187760640 s (bindPort s x1 x2) := by
  unfold bindPort
  extract_lets l1 l2 l3 l4 l5
  split
  · exact .step (fail_ev ..) <| .refl ..
  · split
    · exact .step (fail_ev ..) <| .refl ..
    · split
      · exact .step (fail_ev ..) <| .refl ..
      · split
        · exact .step (fail_ev ..) <| .refl ..
        · exact .step (fail_ev ..) <| .step (State.modStream_ev ..) <| .step (State.modSlot_ev ..) <|
            .step (leaveSink_ev ..) <| .refl ..

theorem ticksStop_ev (s : State) (x1) : Evolves 16998400 s (ticksStop s x1) := by
  unfold ticksStop
  refine .foldl _ (fun s x => ?_) ?_
  · exact .step (stopTicks_ev ..) <| .refl ..
  · exact .refl ..

theorem restartTicks_ev (s : State) (x1) : Evolves 16998400 s (restartTicks s x1) := by
  unfold restartTicks
  refine .foldl _ (fun t x => ?_) ?_
  · split
    · exact .step (State.modPart_ev ..) <| .refl ..
    · exact .refl ..
  · exact .step (ticksStop_ev ..) <| .refl ..

theorem commitNow_ev (s : State) (x1 x2) : Evolves 1090740224 s (commitNow s x1 x2) := by
  unfold commitNow
  refine .step (fail_ev ..) <| .step (State.modPort_ev ..) ?_
  dsimp only
  split
  · exact .step (restartTicks_ev ..) <| .step (State.modPort_ev ..) <| .refl ..
  · exact .step (State.modPort_ev ..) <| .refl ..

theorem flushCommits_ev (s : State) (x1 x2) : Evolves 1090740224 s (flushCommits s x1 x2) := by
  fun_induction flushCommits s x1 x2
  · exact .refl ..
  · exact .step (by assumption) <| .step (commitNow_ev ..) <| .refl ..

theorem portArmEff_ev (x1) (s : State) : Evolves 1090543616 s (portArmEff x1 s) := by
  unfold portArmEff
  extract_lets l1 l2
  split
  · exact .step (fail_ev ..) <| .refl ..
  · split
    · exact .step (fail_ev ..) <| .refl ..
    · split
      · exact .step (fail_ev ..) <| .refl ..
      · exact .step (State.modPort_ev ..) <| .refl ..

theorem portBindEff_ev (x1) (s : State) : Evolves 8797187760640 s (portBindEff x1 s) := by
  unfold portBindEff
  refine withStream_ev (by decide) ?_ (fun x => ?_)
  · exact .refl ..
  · split
    · exact .step (fail_ev ..) <| .refl ..
    · split
      · exact .step (fail_ev ..) <| .refl ..
      · split
        · exact .step (bindPort_ev ..) <| .refl ..
        · split
          · exact .step (bindHost_ev ..) <| .refl ..
          · exact .step (fail_ev ..) <| .step (State.modStream_ev ..) <| .step (leaveSink_ev ..) <| .refl ..

theorem takeCommit_ev (s : State) (x1 x2) : Evolves 1090740224 s (takeCommit s x1 x2) := by
  unfold takeCommit
  extract_lets l1
  refine .iteL ?_ ?_
  · exact .step (State.modPort_ev ..) <| .refl ..
  · exact .step (flushCommits_ev ..) <| .refl ..

theorem unbindPort_ev (s : State) (x1) : Evolves 1077936128 s (unbindPort s x1) := by
  unfold unbindPort
  extract_lets l1
  exact .step (State.modPort_ev ..) <| .step (upd_streams_ev ..) <| .refl ..

theorem portConfigEff_ev (x1) (s : State) : Evolves 1094934528 s (portConfigEff x1 s) := by
  unfold portConfigEff
  extract_lets l1 l2 l3 l4
  split
  · exact .step (fail_ev ..) <| .refl ..
  · split
    · split
      · exact .step (fail_ev ..) <| .refl ..
      · split
        · exact .step (fail_ev ..) <| .refl ..
        · split
          · exact .step (fail_ev ..) <| .refl ..
          · split
            · exact .step (fail_ev ..) <| .refl ..
            · refine .step (takeCommit_ev ..) ?_
              split
              · exact .step (unbindPort_ev ..) <| .refl ..
              · exact .refl ..
    · split
      · exact .step (fail_ev ..) <| .refl ..
      · split
        · exact .step (fail_ev ..) <| .refl ..
        · split
          · exact .step (fail_ev ..) <| .refl ..
          · split
            · exact .step (fail_ev ..) <| .refl ..
            · refine .step (takeCommit_ev ..) ?_
              split
              · exact .step (unbindPort_ev ..) <| .refl ..
              · exact .refl ..

theorem portStopEff_ev (x1) (s : State) : Evolves 1090543616 s (portStopEff x1 s) := by
  unfold portStopEff
  extract_lets l1
  split
  · exact .step (fail_ev ..) <| .refl ..
  · split
    · exact .step (fail_ev ..) <| .refl ..
    · exact .step (State.modPort_ev ..) <| .refl ..

/-! ### PortFrames -/

theorem armActs_ev (s : State) (x1) : Evolves 1073741824 s (armActs s x1) := by
  unfold armActs
  exact .step (State.modPort_ev ..) <| .refl ..

theorem armTimesOut_ev (s : State) (x1) : Evolves 1090543616 s (armTimesOut s x1) := by
  unfold armTimesOut
  extract_lets l1 l2 l3
  split
  · refine .step (fail_ev ..) ?_
    subst l3
    split
    · exact .step (fail_ev ..) <| .step (State.modPort_ev ..) <| .refl ..
    · exact .step (State.modPort_ev ..) <| .refl ..
  · subst l3
    split
    · exact .step (fail_ev ..) <| .step (State.modPort_ev ..) <| .refl ..
    · exact .step (State.modPort_ev ..) <| .refl ..

theorem settleCommits_ev (s : State) (x1) : Evolves 1090740224 s (settleCommits s x1) := by
  unfold settleCommits
  refine .foldl _ (fun s x => ?_) ?_
  · split
    · exact .refl ..
    · exact .step (flushCommits_ev ..) <| .refl ..
  · exact .refl ..

theorem commitActs_ev (s : State) (x1) : Evolves 1090740224 s (commitActs s x1) := by
  unfold commitActs
  split
  · exact .step (settleCommits_ev ..) <| .step (commitNow_ev ..) <| .refl ..
  · exact .refl ..

theorem stopMeasure_ev (s : State) (x1) : Evolves 1073741824 s (stopMeasure s x1) := by
  unfold stopMeasure
  refine .foldl _ (fun s x => ?_) ?_
  · exact .step (State.modPort_ev ..) <| .refl ..
  · exact .refl ..

theorem postrollEnds_ev (s : State) (x1) : Evolves 1090740224 s (postrollEnds s x1) := by
  unfold postrollEnds
  extract_lets l1 l2 l3 l4
  split
  · refine .step (finish_ev ..) ?_
    subst l4
    split
    · exact .step (State.modPort_ev ..) <| .refl ..
    · exact .step (settleCommits_ev ..) <| .step (ticksStop_ev ..) <| .step (stopMeasure_ev ..) <|
        .step (State.modPort_ev ..) <| .refl ..
  · subst l4
    split
    · exact .step (State.modPort_ev ..) <| .refl ..
    · exact .step (settleCommits_ev ..) <| .step (ticksStop_ev ..) <| .step (stopMeasure_ev ..) <|
        .step (State.modPort_ev ..) <| .refl ..

theorem prerollEnds_ev (s : State) (x1) : Evolves 1090543616 s (prerollEnds s x1) := by
  unfold prerollEnds
  extract_lets l1 l2
  split
  · exact .step (finish_ev ..) <| .step (State.modPort_ev ..) <| .refl ..
  · exact .step (State.modPort_ev ..) <| .refl ..

theorem stopActs_ev (s : State) (x1) : Evolves 1073741824 s (stopActs s x1) := by
  unfold stopActs
  exact .step (State.modPort_ev ..) <| .refl ..

theorem frameActs_ev (s : State) (x1) : Evolves 1090740224 s (frameActs s x1) := by
  unfold frameActs
  extract_lets l1 l2 l3 l4 l5
  refine .iteR ?_ ?_
  · subst l5
    refine .iteR ?_ ?_
    · refine .step (commitActs_ev ..) ?_
      subst l3
      refine .iteR ?_ ?_
      · subst l2
        refine .iteR ?_ ?_
        · subst l1
          split
          · exact .step (armActs_ev ..) <| .refl ..
          · exact .refl ..
        · exact .step (prerollEnds_ev ..) <| .refl ..
      · exact .step (State.modPort_ev ..) <| .refl ..
    · exact .step (stopActs_ev ..) <| .refl ..
  · exact .step (postrollEnds_ev ..) <| .refl ..

theorem boundaryEff_ev (s : State) (x1 x2 x3 x4) : Evolves 1090740224 s (boundaryEff s x1 x2 x3 x4) := by
  unfold boundaryEff
  extract_lets l1
  refine .iteR ?_ ?_
  · exact .step (frameActs_ev ..) <| .refl ..
  · exact .step (State.modPort_ev ..) <| .refl ..

theorem clockLostEff_ev (s : State) (x1) : Evolves 1090740224 s (clockLostEff s x1) := by
  unfold clockLostEff
  extract_lets l1
  refine .step (settleCommits_ev ..) <| .step (ticksStop_ev ..) ?_
  subst l1
  refine .foldl _ (fun s x => ?_) ?_
  · exact .step (State.modPort_ev ..) <| .refl ..
  · exact .refl ..

theorem fatalFrame_ev (s : State) (x1 x2) : Evolves 1073741824 s (fatalFrame s x1 x2) := by
  unfold fatalFrame
  split
  · exact .step (State.modPort_ev ..) <| .refl ..
  · exact .refl ..

theorem startEdge_ev (s : State) (x1) : Evolves 1073741824 s (startEdge s x1) := by
  unfold startEdge
  extract_lets l1
  exact .step (State.modPort_ev ..) <| .refl ..

theorem txArrives_ev (s : State) (x1 x2 x3 x4) : Evolves 1107623936 s (txArrives s x1 x2 x3 x4) := by
  unfold txArrives
  extract_lets l1 l2
  split
  · exact .step (State.modPort_ev ..) <| .step (upd_sinkWrites_ev ..) <| .refl ..
  · split
    · exact .step (sinkFault_ev ..) <| .step (State.modSlot_ev ..) <| .step (upd_sinkWrites_ev ..) <| .refl ..
    · exact .step (State.modSlot_ev ..) <| .step (upd_sinkWrites_ev ..) <| .refl ..

end Sys2Proof.Machine
end

