-- ==== Sys2Proof/Laws/FrameFabric.lean ====
section
/-! SUPPORT. What each function of the model may change (`Evolves`): Fabric, Vertex, Firmware, Reset, Boot, Power. -/

-- These proofs wait on the same definitions: they are elaborated in order.
set_option Elab.async false

namespace Sys2Proof.Machine

/-! ### Fabric -/

theorem dropReq_ev (s : State) (x1) : Evolves 512 s (dropReq s x1) := by
  unfold dropReq
  exact .step (upd_vertexQ_ev ..) <| .refl ..

theorem failCopy_ev (s : State) (x1 x2) : Evolves 16801792 s (failCopy s x1 x2) := by
  unfold failCopy
  split
  · exact .refl ..
  · exact .step (finish_ev ..) <| .refl ..

theorem sendAck_ev (s : State) (x1 x2 x3 x4 x5) : Evolves 26388279066624 s (sendAck s x1 x2 x3 x4 x5) := by
  unfold sendAck
  extract_lets l1 l2 l3
  refine .step (State.emit_ev ..) ?_
  subst l1
  split
  · exact .step (State.used_ev ..) <| .refl ..
  · exact .refl ..

theorem inboxEnd_ev (s : State) (x1 x2) : Evolves 26388279067136 s (inboxEnd s x1 x2) := by
  unfold inboxEnd
  split
  · exact .refl ..
  · exact .step (sendAck_ev ..) <| .step (upd_vertexQ_ev ..) <| .refl ..

theorem bindUndone_ev (s : State) (x1 x2 x3) : Evolves 20996096 s (bindUndone s x1 x2 x3) := by
  unfold bindUndone
  extract_lets l1
  refine .step (fail_ev ..) <| ?_
  subst l1
  split
  · exact .step (State.modStream_ev ..) <| .refl ..
  · exact .refl ..

theorem unregistered_ev (s : State) (x1 x2 x3) : Evolves 21323776 s (unregistered s x1 x2 x3) := by
  unfold unregistered
  split
  · split
    · exact .step (finish_ev ..) <| .refl ..
    · split
      · exact .step (migrateRefused_ev ..) <| .refl ..
      · split
        · exact .step (bindUndone_ev ..) <| .refl ..
        · exact .step (sinkFault_ev ..) <| .refl ..
  · split
    · exact .step (sinkFault_ev ..) <| .refl ..
    · exact .refl ..

theorem structFails_ev (s : State) (x16801792 x2) : Evolves 16801792 s (structFails s x16801792 x2) := by
  unfold structFails
  split
  · exact .refl ..
  · split
    · exact .step (State.modCmd_ev ..) <| .refl ..
    · exact .step (fail_ev ..) <| .refl ..

theorem reqFails_ev (s : State) (x1 x2) : Evolves 26519036846976 s (reqFails s x1 x2) := by
  unfold reqFails
  split
  · split
    · exact .refl ..
    · split
      · exact .step (sinkFault_ev ..) <| .refl ..
      · exact .step (resumeWaiting_ev ..) <| .step (fail_ev ..) <| .refl ..
  · exact .step (structFails_ev ..) <| .refl ..
  · exact .step (fail_ev ..) <| .refl ..
  · split
    · exact .refl ..
    · exact .step (sinkFault_ev ..) <| .refl ..
  · exact .step (ckptAnswer_ev ..) <| .refl ..
  · split
    · exact .refl ..
    · split
      · exact .step (migrateFenced_ev ..) <| .refl ..
      · exact .step (migrateRefused_ev ..) <| .refl ..
  · split
    · split
      · exact .step (pieceFails_ev ..) <| .refl ..
      · exact .step (copyFails_ev ..) <| .refl ..
    · exact .refl ..
  · exact .step (unregistered_ev ..) <| .refl ..
  · exact .step (inboxEnd_ev ..) <| .refl ..
  · exact .refl ..
  · exact .step (failCopy_ev ..) <| .refl ..
  · exact .step (failCopy_ev ..) <| .refl ..
  · exact .step (fail_ev ..) <| .refl ..
  · exact .refl ..

theorem releaseHeld_ev (s : State) (x1) : Evolves 26519036846976 s (releaseHeld s x1) := by
  unfold releaseHeld
  split
  · extract_lets l1 l2
    exact .step (State.emit_ev ..) <| .step (upd_vertexQ_ev ..) <| .refl ..
  · exact .step (reqFails_ev ..) <| .step (dropReq_ev ..) <| .refl ..

theorem releaseAllHeld_ev (s : State) (x1) : Evolves 26519036846976 s (releaseAllHeld s x1) := by
  fun_induction releaseAllHeld s x1
  · exact .refl ..
  · refine .step (by assumption) ?_
    split
    · split
      · exact .refl ..
      · exact .step (releaseHeld_ev ..) <| .refl ..
    · exact .refl ..

theorem settleHeld_ev (s : State) : Evolves 26519036846976 s (settleHeld s) := by
  unfold settleHeld
  exact .step (releaseAllHeld_ev ..) <| .refl ..

theorem clearMark_ev (s : State) (x1) : Evolves 512 s (clearMark s x1) := by
  unfold clearMark
  exact .step (upd_vertexQ_ev ..) <| .refl ..

theorem copied_ev (s : State) (x1 x2) : Evolves 16801792 s (copied s x1 x2) := by
  unfold copied
  extract_lets l1
  split
  · exact .step (State.modCmd_ev ..) <| .refl ..
  · refine .iteR ?_ ?_
    · exact .step (State.modCmd_ev ..) <| .refl ..
    · exact .step (finish_ev ..) <| .refl ..

theorem copyWritePiece_ev (s : State) (x1 x2 x3) : Evolves 8924958843520 s (copyWritePiece s x1 x2 x3) := by
  unfold copyWritePiece
  extract_lets l1 l2 l3 l4
  split
  · split
    · exact .step (copied_ev ..) <| .step (State.modCmd_ev ..) <| .step (issueWrites_ev ..) <| .refl ..
    · exact .step (failCopy_ev ..) <| .step (issueWrites_ev ..) <| .refl ..
  · split
    · exact .step (failCopy_ev ..) <| .refl ..
    · split
      · exact .step (copied_ev ..) <| .step (addrWrite_ev ..) <| .refl ..
      · exact .step (failCopy_ev ..) <| .step (addrWrite_ev ..) <| .refl ..

theorem inboxRestore_ev (s : State) (x1) : Evolves 26388836934144 s (inboxRestore s x1) := by
  unfold inboxRestore
  split
  · exact .refl ..
  · split
    · exact .step (inboxEnd_ev ..) <| .refl ..
    · exact .step (inboxEnd_ev ..) <| .step (State.modStream_ev ..) <| .step (tryRestore_ev (by assumption)) <|
        .refl ..

theorem registered_ev (s : State) (x1 x2) : Evolves 26389919130112 s (registered s x1 x2) := by
  unfold registered
  split
  · extract_lets l1
    split
    · exact .step (restoreNow_ev ..) <| .refl ..
    · split
      · exact .step (migrateLocalNow_ev ..) <| .refl ..
      · split
        · exact .step (hostBound_ev ..) <| .refl ..
        · exact .step (State.modStream_ev ..) <| .refl ..
  · split
    · exact .step (State.modStream_ev ..) <| .refl ..
    · exact .refl ..

theorem listArrives_cid (c : Cmd) : (listArrives c).cid = c.cid := by
  unfold listArrives
  split
  · split <;> rfl
  · rfl

theorem structArrives_ev (s : State) (x1 x2 x3 x4) : Evolves 16384 s (structArrives s x1 x2 x3 x4) := by
  unfold structArrives
  exact .step (State.modCmd_ev (h := fun c => listArrives_cid _) ..) <| .refl ..

theorem reqDone_ev (s : State) (x1 x2 x3) : Evolves 26519036584832 s (reqDone s x1 x2 x3) := by
  unfold reqDone
  split
  · exact .step (structArrives_ev ..) <| .refl ..
  · exact .step (structArrives_ev ..) <| .refl ..
  · extract_lets l1
    split
    · refine .iteR ?_ ?_
      · exact .step (State.modCmd_ev ..) <| .refl ..
      · exact .step (finish_ev ..) <| .refl ..
    · exact .step (State.modCmd_ev ..) <| .refl ..
  · exact .refl ..
  · exact .step (ckptAnswer_ev ..) <| .refl ..
  · exact .step (State.modStream_ev ..) <| .refl ..
  · split
    · exact .step (pieceArrives_ev ..) <| .refl ..
    · exact .refl ..
  · exact .step (registered_ev ..) <| .refl ..
  · exact .step (inboxRestore_ev ..) <| .refl ..
  · exact .refl ..
  · split
    · exact .step (copyWritePiece_ev ..) <| .refl ..
    · exact .refl ..
  · split
    · exact .step (copied_ev ..) <| .refl ..
    · exact .refl ..
  · exact .step (finish_ev ..) <| .refl ..
  · exact .step (clearMark_ev ..) <| .refl ..

theorem resend_ev (s : State) (x1 x2) : Evolves 26519036846976 s (resend s x1 x2) := by
  unfold resend
  extract_lets l1 l2 l3
  split
  · exact .step (reqFails_ev ..) <| .refl ..
  · exact .step (upd_vertexQ_ev ..) <| .step (issueReq_ev ..) <| .refl ..

theorem answered_ev (s : State) (x1 x2 x3) : Evolves 26519036846976 s (answered s x1 x2 x3) := by
  unfold answered
  split
  · exact .step (resend_ev ..) <| .refl ..
  · exact .step (reqDone_ev ..) <| .refl ..
  · split
    · exact .step (reqFails_ev ..) <| .refl ..
    · exact .step (reqDone_ev ..) <| .refl ..
  · exact .step (reqFails_ev ..) <| .refl ..

theorem unreachableEff_ev (s : State) (x1 x2) : Evolves 512 s (unreachableEff s x1 x2) := by
  unfold unreachableEff
  exact .step (upd_vertexQ_ev ..) <| .refl ..

theorem inboxTake_ev (s : State) (x1) : Evolves 26389910675968 s (inboxTake s x1) := by
  unfold inboxTake
  split
  · exact .refl ..
  · extract_lets l1
    split
    · exact .step (inboxEnd_ev ..) <| .refl ..
    · split
      · exact .step (inboxEnd_ev ..) <| .refl ..
      · split
        · exact .step (inboxEnd_ev ..) <| .refl ..
        · split
          · refine .optGetD (fun t h => ?_) ?_
            · exact .step (.ofSome (by assumption) (sendRegister_ev ..)) <| .refl ..
            · exact .step (inboxEnd_ev ..) <| .refl ..
          · split
            · exact .step (inboxEnd_ev ..) <| .step (.ofSomeFst (by assumption) (registerSink_ev ..)) <|
                .step (tryRestore_ev (by assumption)) <| .refl ..
            · exact .step (inboxEnd_ev ..) <| .refl ..

theorem noteMinor_ev (s : State) (x1) : Evolves 512 s (noteMinor s x1) := by
  unfold noteMinor
  exact .step (upd_vertexQ_ev ..) <| .refl ..

theorem responseEff_ev (s : State) (x1 x2) : Evolves 26519036846976 s (responseEff s x1 x2) := by
  unfold responseEff
  extract_lets l1 l2 l3
  split
  · exact .step (State.setVertexCause_ev ..) <| .step (upd_vertexQ_ev ..) <| .step (noteMinor_ev ..) <| .refl ..
  · refine .step (settleHeld_ev ..) <| .step (answered_ev ..) <| .step (dropReq_ev ..) ?_
    subst l3
    refine .iteR ?_ ?_
    · exact .step (noteMinor_ev ..) <| .refl ..
    · exact .step (State.setVertexCause_ev ..) <| .refl ..

theorem sendProbe_ev (s : State) (x1) : Evolves 8796093022720 s (sendProbe s x1) := by
  unfold sendProbe
  split
  · exact .refl ..
  · extract_lets l1 l2 l3 l4 l5 l6
    split
    · exact .step (upd_vertexQ_ev ..) <| .refl ..
    · exact .step (State.emit_ev ..) <| .step (upd_vertexQ_ev ..) <| .refl ..

theorem setMark_ev (s : State) (x1) : Evolves 512 s (setMark s x1) := by
  unfold setMark
  exact .step (upd_vertexQ_ev ..) <| .refl ..

theorem timeoutEff_ev (s : State) (x1) : Evolves 26519036846976 s (timeoutEff s x1) := by
  unfold timeoutEff
  extract_lets l1 l2 l3
  exact .step (settleHeld_ev ..) <| .step (reqFails_ev ..) <| .step (setMark_ev ..) <| .step (upd_vertexQ_ev ..) <|
    .step (State.setVertexCause_ev ..) <| .step (dropReq_ev ..) <| .refl ..

/-! ### Vertex -/

theorem linkDownEff_ev (s : State) (x1) : Evolves 1152418943689600 s (linkDownEff s x1) := by
  unfold linkDownEff
  exact .step (settleHeld_ev ..) <| .step (State.setVertexCause_ev ..) <| .step (State.modFabPort_ev ..) <| .refl ..

theorem announceEff_ev (s : State) (x1 x2 x3) : Evolves 1152418943689600 s (announceEff s x1 x2 x3) := by
  unfold announceEff
  split
  · exact .step (linkDownEff_ev ..) <| .refl ..
  · exact .step (State.modFabPort_ev ..) <| .refl ..

theorem askCopy_ev (s : State) (x1 x2) : Evolves 274877923328 s (askCopy s x1 x2) := by
  fun_induction askCopy s x1 x2
  · exact .step (State.modCmd_ev ..) <| .refl ..
  · exact .step (State.modCmd_ev ..) <| .refl ..
  · exact .step (by assumption) <| .step (upd_pcieReads_ev ..) <| .refl ..

theorem withdraw_ev (s : State) (x1) : Evolves 1125899906843136 s (withdraw s x1) := by
  unfold withdraw
  exact .step (upd_vertex_ev ..) <| .refl ..

theorem withdrawIn_ev (s : State) (x1) : Evolves 1125899906843136 s (withdrawIn s x1) := by
  unfold withdrawIn
  refine .foldl _ (fun s x => ?_) ?_
  · exact .step (withdraw_ev ..) <| .refl ..
  · exact .refl ..

theorem noteHeld_ev (s : State) (x1) : Evolves 128 s (noteHeld s x1) := by
  unfold noteHeld
  split
  · exact .refl ..
  · exact .step (upd_memcQ_ev ..) <| .refl ..

theorem rangeWrite_ev (s : State) (x1 x2 x3) : Evolves 1125902054326912 s (rangeWrite s x1 x2 x3) := by
  unfold rangeWrite
  extract_lets l1 l2 l3
  split
  · split
    · exact .refl ..
    · subst l2
      beta_reduce
      exact .step (upd_ranges_ev ..) <| .refl ..
  · split
    · split
      · exact .refl ..
      · refine .step (withdrawIn_ev ..) <| .step (noteHeld_ev ..) ?_
        subst l2
        beta_reduce
        exact .step (upd_ranges_ev ..) <| .refl ..
    · split
      · exact .step (State.setMemCause_ev ..) <| .refl ..
      · subst l2
        beta_reduce
        exact .step (upd_ranges_ev ..) <| .refl ..

theorem copyLocal_ev (s : State) (x1 x2) : Evolves 26517144888000 s (copyLocal s x1 x2) := by
  fun_induction copyLocal s x1 x2
  · exact .refl ..
  · exact .refl ..
  · exact .step (by assumption) <| .step (copyWritePiece_ev ..) <| .step (localReadEff_ev ..) <| .refl ..

theorem copyHere_ev (s : State) (x1 x2) : Evolves 26517144888000 s (copyHere s x1 x2) := by
  unfold copyHere
  split
  · extract_lets l1 l2
    exact .step (failCopy_ev ..) <| .step (copyLocal_ev ..) <| .step (State.modCmd_ev ..) <|
      .step (State.used_ev ..) <| .refl ..
  · exact .step (copyLocal_ev ..) <| .step (State.modCmd_ev ..) <| .refl ..

theorem copyEff_ev (x1) (s : State) : Evolves 26792022794944 s (copyEff x1 s) := by
  unfold copyEff
  extract_lets l1 l2 l3 l4 l5
  split
  · exact .step (fail_ev ..) <| .refl ..
  · split
    · exact .step (fail_ev ..) <| .refl ..
    · split
      · exact .step (fail_ev ..) <| .refl ..
      · split
        · exact .step (finish_ev ..) <| .refl ..
        · split
          · split
            · exact .step (State.modCmd_ev ..) <| .step (issueReads_ev ..) <| .step (State.modCmd_ev ..) <| .refl ..
            · exact .step (failCopy_ev ..) <| .step (issueReads_ev ..) <| .step (State.modCmd_ev ..) <| .refl ..
          · split
            · extract_lets l6
              exact .step (State.modCmd_ev ..) <| .step (askCopy_ev ..) <| .step (State.modCmd_ev ..) <| .refl ..
            · exact .step (copyHere_ev ..) <| .step (State.modCmd_ev ..) <| .refl ..

theorem reply_ev (s : State) (x1 x2 x3 x4) : Evolves 8796093022208 s (reply s x1 x2 x3 x4) := by
  unfold reply
  split
  · exact .refl ..
  · exact .step (State.emit_ev ..) <| .refl ..

theorem deregisterEff_ev (s : State) (x1) : Evolves 8796093022720 s (deregisterEff s x1) := by
  unfold deregisterEff
  split
  · exact .step (reply_ev ..) <| .refl ..
  · exact .step (reply_ev ..) <| .step (regDrop_ev ..) <| .refl ..

theorem exportNow_ev (s : State) (x1 x2) : Evolves 1125899923644928 s (exportNow s x1 x2) := by
  unfold exportNow
  extract_lets l1 l2 l3 l4 l5 l6 l7
  split
  · exact .step (fail_ev ..) <| .refl ..
  · exact .step (finish_ev ..) <| .step (upd_vertex_ev ..) <| .refl ..

theorem fabricStatusEff_ev (x1) (s : State) : Evolves 8924958843520 s (fabricStatusEff x1 s) := by
  unfold fabricStatusEff
  extract_lets l1
  split
  · exact .step (fail_ev ..) <| .refl ..
  · split
    · exact .step (finish_ev ..) <| .refl ..
    · split
      · exact .step (fail_ev ..) <| .refl ..
      · exact .step (writeOut_ev ..) <| .refl ..

theorem fetchEff_ev (s : State) (x1 x2) : Evolves 26388279066816 s (fetchEff s x1 x2) := by
  unfold fetchEff
  split
  · exact .step (reply_ev ..) <| .refl ..
  · split
    · exact .step (reply_ev ..) <| .refl ..
    · extract_lets l1 l2
      exact .step (reply_ev ..) <| .step (localReadEff_ev ..) <| .refl ..

theorem resendFlit_ev (s : State) (x1 x2) : Evolves 1152418943689600 s (resendFlit s x1 x2) := by
  unfold resendFlit
  split
  · exact .refl ..
  · extract_lets l1
    split
    · exact .step (linkDownEff_ev ..) <| .step (State.emit_ev ..) <| .step (State.modFabPort_ev ..) <| .refl ..
    · exact .step (State.emit_ev ..) <| .step (State.modFabPort_ev ..) <| .refl ..

theorem goodFlit_ev (s : State) (x1 x2) : Evolves 1152418943689600 s (goodFlit s x1 x2) := by
  unfold goodFlit
  extract_lets l1
  split
  · exact .step (State.emit_ev ..) <| .step (State.modFabPort_ev ..) <| .refl ..
  · exact .step (resendFlit_ev ..) <| .step (State.emit_ev ..) <| .step (State.modFabPort_ev ..) <| .refl ..

theorem badFlit_ev (s : State) (x1) : Evolves 1152418943689600 s (badFlit s x1) := by
  unfold badFlit
  extract_lets l1
  split
  · exact .step (linkDownEff_ev ..) <| .step (State.emit_ev ..) <| .step (State.modFabPort_ev ..) <| .refl ..
  · exact .step (State.emit_ev ..) <| .step (State.modFabPort_ev ..) <| .refl ..

theorem flitEff_ev (s : State) (x1 x2 x3 x4) : Evolves 1152418943689600 s (flitEff s x1 x2 x3 x4) := by
  unfold flitEff
  extract_lets l1
  split
  · exact .step (goodFlit_ev ..) <| .step (State.modFabPort_ev ..) <| .refl ..
  · exact .step (badFlit_ev ..) <| .step (State.modFabPort_ev ..) <| .refl ..

theorem forwardEff_ev (s : State) (x1 x2 x3) : Evolves 8796093022720 s (forwardEff s x1 x2 x3) := by
  unfold forwardEff
  split
  · exact .step (State.emit_ev ..) <| .refl ..
  · exact .step (State.setVertexCause_ev ..) <| .step (upd_vertexQ_ev ..) <| .refl ..

theorem linkUpEff_ev (s : State) (x1 x2 x3 x4 x5 x6) :
    Evolves 1152418943689600 s (linkUpEff s x1 x2 x3 x4 x5 x6) := by
  unfold linkUpEff
  split
  · exact .step (State.setVertexCause_ev ..) <| .step (State.modFabPort_ev ..) <| .refl ..
  · extract_lets l1 l2
    refine .step (settleHeld_ev ..) ?_
    refine .iteL ?_ ?_
    · exact .step (State.setVertexCause_ev ..) <| .step (clearMark_ev ..) <| .step (State.modFabPort_ev ..) <|
        .refl ..
    · exact .step (State.setVertexCause_ev ..) <| .refl ..

theorem messageEff_ev (s : State) (x1 x2) : Evolves 26389910675968 s (messageEff s x1 x2) := by
  unfold messageEff
  split
  · exact .step (reply_ev ..) <| .refl ..
  · split
    · exact .step (reply_ev ..) <| .refl ..
    · split
      · exact .step (reply_ev ..) <| .refl ..
      · split
        · exact .step (reply_ev ..) <| .refl ..
        · extract_lets l1 l2
          exact .step (inboxTake_ev ..) <| .step (reply_ev ..) <| .step (upd_vertexQ_ev ..) <| .refl ..

theorem probeEff_ev (s : State) (x1) : Evolves 8796093022208 s (probeEff s x1) := by
  unfold probeEff
  split
  · exact .step (reply_ev ..) <| .refl ..
  · split
    · exact .step (reply_ev ..) <| .refl ..
    · split
      · exact .refl ..
      · exact .step (State.emit_ev ..) <| .refl ..

theorem readEff_ev (s : State) (x1) : Evolves 26388279066816 s (readEff s x1) := by
  unfold readEff
  split
  · extract_lets l1 l2
    exact .step (reply_ev ..) <| .step (localReadEff_ev ..) <| .refl ..
  · exact .step (reply_ev ..) <| .refl ..

theorem registerEff_ev (s : State) (x1) : Evolves 8796093022720 s (registerEff s x1) := by
  unfold registerEff
  split
  · exact .step (reply_ev ..) <| .refl ..
  · extract_lets l1
    exact .step (reply_ev ..) <| .step (regPut_ev ..) <| .refl ..

theorem poisonObject_ev (s : State) (x1) : Evolves 17592458674176 s (poisonObject s x1) := by
  unfold poisonObject
  extract_lets l1 l2
  split
  · exact .step (State.used_ev ..) <| .step (upd_t2_ev ..) <| .refl ..
  · split
    · refine .step (State.used_ev ..) ?_
      split
      · exact .step (State.modStream_ev ..) <| .refl ..
      · exact .refl ..
    · exact .refl ..

theorem scrubEff_ev (s : State) (x1 x2) : Evolves 17609638543488 s (scrubEff s x1 x2) := by
  unfold scrubEff
  extract_lets l1 l2 l3
  refine .step (upd_memcQ_ev ..) ?_
  subst l2
  refine .foldl _ (fun s x => ?_) ?_
  · exact .step (poisonObject_ev ..) <| .refl ..
  · refine .foldl _ (fun s x => ?_) ?_
    · exact .step (loseSector_ev ..) <| .refl ..
    · refine .foldl _ (fun s x => ?_) ?_
      · exact .step (correctSector_ev ..) <| .refl ..
      · exact .refl ..

theorem staleWrite_ev (s : State) (x1 x2) : Evolves 8796093088256 s (staleWrite s x1 x2) := by
  unfold staleWrite
  extract_lets l1 l2
  exact .step (reply_ev ..) <| .step (staleDrop_ev ..) <| .step (State.setVertexCause_ev ..) <|
    .step (upd_vertexQ_ev ..) <| .refl ..

theorem windowExportEff_ev (x1) (s : State) : Evolves 1152288202711744 s (windowExportEff x1 s) := by
  unfold windowExportEff
  split
  · exact .step (fail_ev ..) <| .refl ..
  · split
    · split
      · exact .step (fail_ev ..) <| .refl ..
      · split
        · exact .step (fail_ev ..) <| .step (withdraw_ev ..) <| .refl ..
        · exact .step (fail_ev ..) <| .refl ..
    · split
      · exact .step (fail_ev ..) <| .refl ..
      · split
        · exact .step (fail_ev ..) <| .refl ..
        · split
          · exact .step (exportNow_ev ..) <| .refl ..
          · refine withStruct_ev (by decide) ?_ (fun s' b h' => ?_)
            · exact .refl ..
            · exact .step (exportNow_ev ..) <| .step (by assumption) <| .refl ..

theorem windowImportEff_ev (x1) (s : State) : Evolves 8796109824512 s (windowImportEff x1 s) := by
  unfold windowImportEff
  extract_lets l1 l2 l3
  split
  · exact .step (fail_ev ..) <| .refl ..
  · split
    · split
      · exact .step (fail_ev ..) <| .refl ..
      · exact .step (finish_ev ..) <| .refl ..
    · split
      · exact .step (issueReq_ev ..) <| .refl ..
      · exact .step (fail_ev ..) <| .step (issueReq_ev ..) <| .refl ..

/-! ### Firmware -/

theorem measureMr_ev (s : State) (x1 x2) : Evolves 16 s (measureMr s x1 x2) := by
  unfold measureMr
  exact .step (upd_sec_ev ..) <| .refl ..

theorem setControl_ev (s : State) (x1) : Evolves 16 s (setControl s x1) := by
  unfold setControl
  exact .step (upd_sec_ev ..) <| .refl ..

theorem measureAll_ev (s : State) (x1 x2) : Evolves 16 s (measureAll s x1 x2) := by
  fun_induction measureAll s x1 x2
  · exact .refl ..
  · exact .step (by assumption) <| .step (measureMr_ev ..) <| .refl ..

theorem measureRom_ev (s : State) : Evolves 16 s (measureRom s) := by
  unfold measureRom
  exact .step (measureAll_ev ..) <| .refl ..

theorem setSlot_ev (s : State) (x1 x2) : Evolves 16 s (setSlot s x1 x2) := by
  unfold setSlot
  exact .step (upd_sec_ev ..) <| .refl ..

/-! ### Reset -/

theorem romStarts_ev (s : State) : Evolves 17 s (romStarts s) := by
  unfold romStarts
  split
  · exact .step (upd_mode_ev ..) <| .refl ..
  · exact .step (measureRom_ev ..) <| .step (upd_mode_sec_ev ..) <| .refl ..

theorem wiped_ev (s : State) (x1) : Evolves 2189960874524638 s (wiped s x1) := by
  unfold wiped
  exact .step (upd_warm_ev (h13 := List.nil_sublist _) ..) <| .refl ..

theorem warmReset_ev (s : State) (x1) : Evolves 2189960874524639 s (warmReset s x1) := by
  unfold warmReset
  exact .step (romStarts_ev ..) <| .step (wiped_ev ..) <| .refl ..

theorem resetControlEff_ev (s : State) (x1) : Evolves 2189960874524639 s (resetControlEff s x1) := by
  unfold resetControlEff
  split
  · exact .step (warmReset_ev ..) <| .refl ..
  · exact .refl ..

theorem resetRings_ev (s : State) (x1) : Evolves 70643639214080 s (resetRings s x1) := by
  unfold resetRings
  extract_lets l1
  refine .step (upd_rings_cmds_pcieReads_ev _ _ _ _ (CidsIn.map (fun c => by split <;> rfl) _)) ?_
  subst l1
  refine .foldl _ (fun s x => ?_) ?_
  · exact .step (abortEff_ev ..) <| .refl ..
  · exact .refl ..

theorem flrOne_ev (s : State) (x1) : Evolves 783128562463552 s (flrOne s x1) := by
  unfold flrOne
  extract_lets l1 l2 l3
  refine .step (upd_pcie_funcs_ev ..) <| .step (resetRings_ev ..) ?_
  subst l1
  split
  · refine .foldl _ (fun s x => ?_) ?_
    · exact .step (beginReset_ev ..) <| .refl ..
    · exact .refl ..
  · exact .refl ..

theorem vfClear_ev (s : State) : Evolves 783128562463552 s (vfClear s) := by
  unfold vfClear
  extract_lets l1 l2
  refine .step (upd_pcie_ev ..) ?_
  subst l1
  refine .foldl _ (fun s x => ?_) ?_
  · exact .step (flrOne_ev ..) <| .refl ..
  · exact .refl ..

theorem flr_ev (s : State) (x1) : Evolves 783128562463552 s (flr s x1) := by
  unfold flr
  refine .step (flrOne_ev ..) ?_
  split
  · exact .step (vfClear_ev ..) <| .refl ..
  · exact .refl ..

theorem d0Eff_ev (s : State) (x1) : Evolves 2216349153591263 s (d0Eff s x1) := by
  unfold d0Eff
  extract_lets l1 l2
  split
  · split
    · exact .step (State.used_ev ..) <| .step (warmReset_ev ..) <| .step (upd_pcie_ev ..) <| .refl ..
    · exact .step (upd_pcie_ev ..) <| .refl ..
  · exact .step (flr_ev ..) <| .step (upd_pcie_ev ..) <| .refl ..

theorem linkComesUp_ev (s : State) : Evolves 580542139465792 s (linkComesUp s) := by
  unfold linkComesUp
  extract_lets l1 l2 l3
  exact .step (State.used_ev ..) <| .step (upd_pcie_ev ..) <| .refl ..

theorem lockClocks_ev (s : State) : Evolves 8 s (lockClocks s) := by
  unfold lockClocks
  exact .step (upd_clk_ev ..) <| .refl ..

theorem perstEff_ev (s : State) : Evolves 2189960874524639 s (perstEff s) := by
  unfold perstEff
  extract_lets l1 l2
  exact .step (upd_mode_pins_pcie_funcs_ev ..) <| .step (wiped_ev ..) <| .refl ..

theorem perstReleaseEff_ev (s : State) : Evolves 580542139465813 s (perstReleaseEff s) := by
  unfold perstReleaseEff
  extract_lets l1 l2 l3
  refine .iteL ?_ ?_
  · exact .step (upd_pins_ev ..) <| .refl ..
  · refine .iteR ?_ ?_
    · exact .step (linkComesUp_ev ..) <| .refl ..
    · exact .step (romStarts_ev ..) <| .refl ..

theorem porLowEff_ev (s : State) : Evolves 2189986644328447 s (porLowEff s) :=
  ⟨fun p hp => by cases p <;> first | rfl | exact fun _ _ => rfl | exact fun _ => rfl | exact absurd hp (by decide), 
    fun h => { h with
      funcs := rfl, rings := rfl, parts := rfl, prisms := rfl, facets := rfl, streams := rfl, streamGens := rfl
      models := rfl, modelGens := rfl, ports := rfl, ranges := rfl, hostBase := rfl, classes := rfl, ftqs := rfl
      mem := rfl, poison := rfl, cids := ⟨.nil, fun _ h => nomatch h⟩ }⟩

theorem porReleaseEff_ev (s : State) (x1 x2) : Evolves 1039 s (porReleaseEff s x1 x2) := by
  unfold porReleaseEff
  extract_lets l1 l2 l3 l4 l5
  exact .step (upd_mode_ident_pins_clk_test_ev ..) <| .refl ..

theorem refclkLossEff_ev (s : State) : Evolves 2189960874524639 s (refclkLossEff s) := by
  unfold refclkLossEff
  extract_lets l1 l2 l3 l4
  refine .iteR ?_ ?_
  · exact .step (upd_pins_clk_ev ..) <| .refl ..
  · exact .step (upd_mode_ev ..) <| .step (wiped_ev ..) <| .refl ..

theorem refclkReturnEff_ev (s : State) : Evolves 2189960874524639 s (refclkReturnEff s) := by
  unfold refclkReturnEff
  extract_lets l1 l2 l3
  split
  · split
    · exact .step (lockClocks_ev ..) <| .step (upd_pins_ev ..) <| .refl ..
    · exact .step (warmReset_ev ..) <| .step (lockClocks_ev ..) <| .step (upd_pins_ev ..) <| .refl ..
  · split
    · exact .step (upd_pins_ev ..) <| .refl ..
    · split
      · exact .step (upd_clk_ev ..) <| .step (upd_pins_ev ..) <| .refl ..
      · exact .step (lockClocks_ev ..) <| .step (upd_pins_ev ..) <| .refl ..

theorem thermtripEff_ev (s : State) : Evolves 8796093284421 s (thermtripEff s) := by
  unfold thermtripEff
  exact .step (stopDevice_ev ..) <| .step (upd_pins_ev ..) <| .refl ..

/-! ### Boot -/

theorem firstStageRuns_ev (s : State) (x1 x2) : Evolves 307863255777433 s (firstStageRuns s x1 x2) := by
  unfold firstStageRuns
  extract_lets l1 l2 l3 l4 l5 l6
  exact .step (State.emit_ev ..) <| .step (State.used_ev ..) <| .step (upd_mode_clk_sec_memc_ev ..) <|
    .step (measureMr_ev ..) <| .step (measureAll_ev ..) <| .refl ..

theorem bootFlash_ev {s t : State} (h : bootFlash s = .inl t) : Evolves 307863255777433 s t := by
  unfold bootFlash at h
  extract_lets at h
  split at h
  · cases h
    exact .step (firstStageRuns_ev ..) <| .refl ..
  · split at h
    · cases h
    · split at h
      · cases h
        exact .step (firstStageRuns_ev ..) <| .step (State.setSecCause_ev ..) <| .refl ..
      · cases h

theorem bootStops_ev (s : State) (x1) : Evolves 9 s (bootStops s x1) := by
  unfold bootStops
  exact .step (upd_mode_clk_ev ..) <| .refl ..

theorem bootHost_ev (s : State) : Evolves 307863255777433 s (bootHost s) := by
  unfold bootHost
  split
  · exact .step (bootStops_ev ..) <| .refl ..
  · extract_lets l1 l2
    split
    · exact .step (firstStageRuns_ev ..) <| .step (upd_sec_ev ..) <| .refl ..
    · exact .step (bootStops_ev ..) <| .refl ..

theorem firstStageEff_ev (s : State) : Evolves 307863255777433 s (firstStageEff s) := by
  unfold firstStageEff
  extract_lets l1
  split
  · subst l1
    split
    · exact .step (bootHost_ev ..) <| .refl ..
    · exact .refl ..
  · split
    · exact .step (bootFlash_ev (by assumption)) <| .refl ..
    · split
      · subst l1
        split
        · exact .step (bootHost_ev ..) <| .refl ..
        · exact .refl ..
      · exact .step (bootStops_ev ..) <| .refl ..

theorem pllLockEff_ev (s : State) : Evolves 589338232750175 s (pllLockEff s) := by
  unfold pllLockEff
  extract_lets l1 l2 l3 l4 l5 l6
  split
  · refine .step (stopDevice_ev ..) <| .step (measureRom_ev ..) <| .step (upd_sec_ev ..) ?_
    subst l4
    split
    · exact .step (lockClocks_ev ..) <| .step (upd_ident_clk_ev ..) <| .refl ..
    · exact .step (linkComesUp_ev ..) <| .step (lockClocks_ev ..) <| .step (upd_ident_clk_ev ..) <| .refl ..
  · refine .step (upd_mode_ev ..) <| .step (measureRom_ev ..) <| .step (upd_sec_ev ..) ?_
    subst l4
    split
    · exact .step (lockClocks_ev ..) <| .step (upd_ident_clk_ev ..) <| .refl ..
    · exact .step (linkComesUp_ev ..) <| .step (lockClocks_ev ..) <| .step (upd_ident_clk_ev ..) <| .refl ..

theorem readyEff_ev (s : State) : Evolves 1125899906843161 s (readyEff s) := by
  unfold readyEff
  exact .step (State.setCrownCause_ev ..) <| .step (upd_mode_clk_sec_vertex_ev ..) <| .refl ..

theorem trained_ev (s : State) (x1) : Evolves 281474976710784 s (trained s x1) := by
  unfold trained
  extract_lets l1 l2 l3 l4
  split
  · exact .step (upd_memc_ev ..) <| .refl ..
  · split
    · extract_lets l5
      refine .iteL ?_ ?_
      · exact .step (upd_memc_ev ..) <| .refl ..
      · exact .step (State.setMemCause_ev ..) <| .refl ..
    · refine .step (State.setMemCause_ev ..) ?_
      refine .iteR ?_ ?_
      · exact .step (upd_memc_ev ..) <| .refl ..
      · exact .step (State.setMemCause_ev ..) <| .refl ..

theorem trainingEff_ev (s : State) (x1) : Evolves 281474976710809 s (trainingEff s x1) := by
  unfold trainingEff
  extract_lets l1 l2 l3 l4 l5
  split
  · exact .step (upd_mode_ev ..) <| .step (trained_ev ..) <| .refl ..
  · exact .step (upd_mode_clk_ev ..) <| .step (measureMr_ev ..) <| .step (measureMr_ev ..) <|
      .step (trained_ev ..) <| .refl ..

/-! ### Power -/

theorem alertEff_ev (s : State) : Evolves 8 s (alertEff s) := by
  unfold alertEff
  extract_lets l1 l2
  refine .iteR ?_ ?_
  · exact .step (State.setPmuCause_ev ..) <| .step (upd_clk_ev ..) <| .refl ..
  · exact .step (State.setPmuCause_ev ..) <| .refl ..

theorem controlStep_ev (s : State) (x1) : Evolves 8 s (controlStep s x1) := by
  unfold controlStep
  extract_lets l1 l2 l3 l4 l5 l6 l7 l8 l9 l10 l11 l12
  refine .iteR ?_ ?_
  · subst l12
    refine .iteR ?_ ?_
    · subst l11
      refine .iteR ?_ ?_
      · subst l10
        refine .iteR ?_ ?_
        · exact .step (upd_clk_ev ..) <| .refl ..
        · exact .step (State.setPmuCause_ev ..) <| .refl ..
      · exact .step (State.setPmuCause_ev ..) <| .refl ..
    · exact .step (State.setPmuCause_ev ..) <| .refl ..
  · exact .step (State.setPmuCause_ev ..) <| .refl ..

theorem powerCapEff_ev (x1) (s : State) : Evolves 16801800 s (powerCapEff x1 s) := by
  unfold powerCapEff
  extract_lets l1 l2
  split
  · exact .step (fail_ev ..) <| .refl ..
  · split
    · exact .step (finish_ev ..) <| .refl ..
    · exact .step (finish_ev ..) <| .step (upd_clk_ev ..) <| .refl ..

theorem powerQueryEff_ev (x1) (s : State) : Evolves 16801792 s (powerQueryEff x1 s) := by
  unfold powerQueryEff
  exact .step (finish_ev ..) <| .refl ..

theorem railEff_ev (s : State) (x1 x2 x3) : Evolves 8 s (railEff s x1 x2 x3) := by
  unfold railEff
  extract_lets l1 l2 l3 l4
  refine .iteR ?_ ?_
  · subst l4
    refine .iteR ?_ ?_
    · exact .step (upd_clk_ev ..) <| .refl ..
    · exact .step (State.setPmuCause_ev ..) <| .refl ..
  · exact .step (State.setPmuCause_ev ..) <| .refl ..

theorem wakeEff_ev (s : State) (x1) : Evolves 131072 s (wakeEff s x1) := by
  unfold wakeEff
  exact .step (State.modPrism_ev ..) <| .refl ..

end Sys2Proof.Machine
end

