-- ==== Sys2Proof/Laws/FrameRegs.lean ====
section
/-! SUPPORT. What each function of the model may change (`Evolves`): Regs, Queues, Clock, Pcie, Secure, TestUnit. -/

-- These proofs wait on the same definitions: they are elaborated in order.
set_option Elab.async false

namespace Sys2Proof.Machine

/-! ### Regs -/

theorem armEff_ev (s : State) (x1 x2) : Evolves 140737488359424 s (armEff s x1 x2) := by
  unfold armEff
  exact .step (State.modFunc_ev ..) <| .refl ..

theorem outsideWrite_ev (s : State) : Evolves 64 s (outsideWrite s) := by
  unfold outsideWrite
  exact .step (upd_pcieQ_ev ..) <| .refl ..

theorem outsideRead_ev (s : State) : Evolves 8796093022272 s (outsideRead s) := by
  unfold outsideRead
  exact .step (State.emit_ev ..) <| .step (outsideWrite_ev ..) <| .refl ..

theorem cacheWrite_ev (s : State) (x1 x2) : Evolves 256 s (cacheWrite s x1 x2) := by
  unfold cacheWrite
  split
  · exact .step (upd_cache_ev ..) <| .refl ..
  · exact .refl ..

theorem hostCtrlEff_ev (s : State) (x1) : Evolves 8 s (hostCtrlEff s x1) := by
  unfold hostCtrlEff
  exact .step (upd_clk_ev ..) <| .refl ..

theorem clockWrite_ev (s : State) (x1 x2) : Evolves 2189960874524639 s (clockWrite s x1 x2) := by
  unfold clockWrite
  split
  · exact .step (resetControlEff_ev ..) <| .refl ..
  · split
    · exact .step (upd_clk_ev ..) <| .refl ..
    · split
      · exact .step (hostCtrlEff_ev ..) <| .refl ..
      · split
        · exact .step (upd_clk_ev ..) <| .refl ..
        · split
          · exact .step (upd_clk_ev ..) <| .refl ..
          · split
            · exact .step (upd_clk_ev ..) <| .refl ..
            · split
              · exact .step (upd_clk_ev ..) <| .refl ..
              · split
                · exact .step (upd_clk_ev ..) <| .refl ..
                · exact .refl ..

theorem facetWrite_ev (s : State) (x1 x2 x3) : Evolves 262144 s (facetWrite s x1 x2 x3) := by
  unfold facetWrite
  split
  · exact .step (State.modFacet_ev ..) <| .refl ..
  · split
    · exact .step (State.modFacet_ev ..) <| .refl ..
    · exact .refl ..

theorem irqWrite_ev (s : State) (x1 x2 x3) : Evolves 140737488359424 s (irqWrite s x1 x2 x3) := by
  unfold irqWrite
  split
  · exact .step (State.modFunc_ev ..) <| .refl ..
  · split
    · exact .step (armEff_ev ..) <| .refl ..
    · split
      · split
        · exact .step (State.modFunc_ev ..) <| .refl ..
        · exact .refl ..
      · extract_lets l1 l2
        split
        · exact .step (State.modFunc_ev ..) <| .refl ..
        · exact .refl ..

theorem jumpWrite_ev (s : State) (x1 x2 x3) : Evolves 131072 s (jumpWrite s x1 x2 x3) := by
  unfold jumpWrite
  split
  · exact .step (State.modPrism_ev ..) <| .refl ..
  · split
    · exact .step (State.modPrism_ev ..) <| .refl ..
    · exact .refl ..

theorem lockEff_ev (s : State) (x1) : Evolves 2 s (lockEff s x1) := by
  unfold lockEff
  exact .step (upd_ident_ev ..) <| .refl ..

theorem memWrite_ev (s : State) (x1 x2) : Evolves 1407381326004864 s (memWrite s x1 x2) := by
  unfold memWrite
  split
  · split
    · exact .step (upd_memc_ev ..) <| .refl ..
    · exact .refl ..
  · split
    · exact .step (upd_memc_ev ..) <| .refl ..
    · split
      · exact .step (upd_memc_ev ..) <| .refl ..
      · split
        · exact .step (upd_memc_ev ..) <| .refl ..
        · split
          · exact .step (rangeWrite_ev ..) <| .refl ..
          · split
            · exact .step (upd_hostBase_ev ..) <| .refl ..
            · exact .refl ..

theorem unmaskEff_ev (s : State) (x1) : Evolves 149533581381632 s (unmaskEff s x1) := by
  unfold unmaskEff
  extract_lets l1 l2
  refine .iteR ?_ ?_
  · exact .step (State.modFunc_ev ..) <| .refl ..
  · exact .step (State.emit_ev ..) <| .refl ..

theorem msixWrite_ev (s : State) (x1 x2 x3) : Evolves 149533581381632 s (msixWrite s x1 x2 x3) := by
  unfold msixWrite
  split
  · exact .step (State.modFunc_ev ..) <| .refl ..
  · split
    · exact .step (State.modFunc_ev ..) <| .refl ..
    · split
      · exact .step (State.modFunc_ev ..) <| .refl ..
      · exact .step (unmaskEff_ev ..) <| .refl ..

theorem numberEff_ev (s : State) (x1) : Evolves 2 s (numberEff s x1) := by
  unfold numberEff
  split
  · exact .refl ..
  · exact .step (upd_ident_ev ..) <| .refl ..

theorem partWrite_ev (s : State) (x1 x2 x3) : Evolves 65536 s (partWrite s x1 x2 x3) := by
  unfold partWrite
  split
  · exact .step (State.modPart_ev ..) <| .refl ..
  · split
    · exact .step (State.modPart_ev ..) <| .refl ..
    · split
      · split
        · exact .step (acctClearEff_ev ..) <| .refl ..
        · exact .refl ..
      · split
        · exact .step (State.modPart_ev ..) <| .refl ..
        · split
          · exact .step (State.modPart_ev ..) <| .refl ..
          · split
            · exact .step (State.modPart_ev ..) <| .refl ..
            · split
              · exact .step (State.modPart_ev ..) <| .refl ..
              · exact .refl ..

theorem pcieWrite_ev (s : State) (x1 x2) : Evolves 562949953421376 s (pcieWrite s x1 x2) := by
  unfold pcieWrite
  split
  · exact .step (upd_pcie_ev ..) <| .refl ..
  · split
    · exact .step (upd_pcie_ev ..) <| .refl ..
    · exact .refl ..

theorem portWrite_ev (s : State) (x1 x2 x3) : Evolves 1073741824 s (portWrite s x1 x2 x3) := by
  unfold portWrite
  split
  · exact .step (State.modPort_ev ..) <| .refl ..
  · split
    · exact .step (State.modPort_ev ..) <| .refl ..
    · exact .refl ..

theorem queueWrite_ev (s : State) (x1 x2) : Evolves 3848290697216 s (queueWrite s x1 x2) := by
  unfold queueWrite
  split
  · exact .step (upd_queueCause_ev ..) <| .refl ..
  · split
    · exact .step (upd_queueEn_ev ..) <| .refl ..
    · extract_lets l1
      split
      · exact .step (State.modQclass_ev ..) <| .refl ..
      · exact .refl ..

theorem ringControl_ev (s : State) (x1 x2 x3) : Evolves 70643639214080 s (ringControl s x1 x2 x3) := by
  unfold ringControl
  extract_lets l1 l2 l3 l4
  refine .iteR ?_ ?_
  · subst l4
    refine .iteR ?_ ?_
    · subst l3
      refine .iteL ?_ ?_
      · refine .step (sqEnableEff_ev ..) ?_
        subst l1
        split
        · exact .step (cqEnableEff_ev ..) <| .refl ..
        · exact .refl ..
      · exact .step (cqEnableEff_ev ..) <| .refl ..
    · exact .step (abortEff_ev ..) <| .refl ..
  · exact .step (ringResetEff_ev ..) <| .refl ..

theorem ringWrite_ev (s : State) (x1 x2 x3 x4) : Evolves 70643639214080 s (ringWrite s x1 x2 x3 x4) := by
  unfold ringWrite
  extract_lets l1
  split
  · split
    · exact .step (sqTailEff_ev ..) <| .refl ..
    · exact .refl ..
  · split
    · split
      · exact .step (cqHeadEff_ev ..) <| .refl ..
      · exact .refl ..
    · split
      · split
        · exact .step (State.modRing_ev ..) <| .refl ..
        · exact .refl ..
      · split
        · split
          · exact .step (State.modRing_ev ..) <| .refl ..
          · exact .refl ..
        · split
          · split
            · exact .step (State.modRing_ev ..) <| .refl ..
            · exact .refl ..
          · split
            · split
              · exact .step (ringControl_ev ..) <| .refl ..
              · exact .refl ..
            · split
              · exact .step (State.modRing_ev ..) <| .refl ..
              · split
                · exact .step (State.modRing_ev ..) <| .refl ..
                · split
                  · exact .step (State.modRing_ev ..) <| .refl ..
                  · exact .refl ..

theorem secWrite_ev (s : State) (x1 x2) : Evolves 16 s (secWrite s x1 x2) := by
  unfold secWrite
  split
  · exact .step (upd_sec_ev ..) <| .refl ..
  · split
    · exact .step (upd_sec_ev ..) <| .refl ..
    · exact .refl ..

theorem streamsWrite_ev (s : State) (x1 x2 x3) : Evolves 65536 s (streamsWrite s x1 x2 x3) := by
  unfold streamsWrite
  split
  · exact .step (State.modPart_ev ..) <| .refl ..
  · split
    · exact .step (State.modPart_ev ..) <| .refl ..
    · exact .refl ..

theorem injectEff_ev (s : State) (x1 x2) : Evolves 1024 s (injectEff s x1 x2) := by
  unfold injectEff
  split
  · extract_lets l1 l2
    refine .iteR ?_ ?_
    · exact .step (upd_test_ev ..) <| .refl ..
    · exact .step (State.setTestCause_ev ..) <| .refl ..
  · exact .refl ..

theorem testWrite_ev (s : State) (x1 x2) : Evolves 1024 s (testWrite s x1 x2) := by
  unfold testWrite
  split
  · exact .step (upd_test_ev ..) <| .refl ..
  · split
    · exact .step (upd_test_ev ..) <| .refl ..
    · split
      · exact .step (injectEff_ev ..) <| .refl ..
      · exact .refl ..

theorem vertexWrite_ev (s : State) (x1 x2) : Evolves 1152418943689600 s (vertexWrite s x1 x2) := by
  unfold vertexWrite
  split
  · exact .step (upd_vertex_ev ..) <| .refl ..
  · split
    · exact .step (upd_vertex_ev ..) <| .refl ..
    · split
      · exact .step (upd_vertex_ev ..) <| .refl ..
      · split
        · exact .step (unreachableEff_ev ..) <| .refl ..
        · split
          · extract_lets l1 l2
            refine .iteR ?_ ?_
            · exact .step (upd_vertex_ev ..) <| .refl ..
            · exact .step (settleHeld_ev ..) <| .refl ..
          · exact .refl ..

theorem blkWrite_ev (s : State) (x1 x2 x3 x4) : Evolves 2216478002610175 s (blkWrite s x1 x2 x3 x4) := by
  unfold blkWrite
  split
  · split
    · exact .step (numberEff_ev ..) <| .refl ..
    · split
      · exact .step (lockEff_ev ..) <| .refl ..
      · exact .refl ..
  · exact .step (irqWrite_ev ..) <| .refl ..
  · split
    · exact .step (upd_fatal_ev ..) <| .refl ..
    · exact .refl ..
  · exact .step (msixWrite_ev ..) <| .refl ..
  · exact .refl ..
  · exact .step (ringWrite_ev ..) <| .refl ..
  · exact .step (partWrite_ev ..) <| .refl ..
  · exact .step (portWrite_ev ..) <| .refl ..
  · exact .step (vertexWrite_ev ..) <| .refl ..
  · exact .step (memWrite_ev ..) <| .refl ..
  · exact .step (pcieWrite_ev ..) <| .refl ..
  · exact .step (cacheWrite_ev ..) <| .refl ..
  · exact .step (clockWrite_ev ..) <| .refl ..
  · exact .step (secWrite_ev ..) <| .refl ..
  · exact .step (testWrite_ev ..) <| .refl ..
  · exact .step (queueWrite_ev ..) <| .refl ..
  · exact .step (facetWrite_ev ..) <| .refl ..
  · exact .step (jumpWrite_ev ..) <| .refl ..
  · exact .step (streamsWrite_ev ..) <| .refl ..
  · exact .step (State.modFunc_ev ..) <| .refl ..
  · exact .refl ..

theorem countersReadEff_ev (x1) (s : State) : Evolves 8924958843520 s (countersReadEff x1 s) := by
  unfold countersReadEff
  extract_lets l1 l2 l3
  split
  · exact .step (fail_ev ..) <| .refl ..
  · split
    · exact .step (fail_ev ..) <| .refl ..
    · exact .step (writeOut_ev ..) <| .refl ..

theorem deviceQueryEff_ev (x1) (s : State) : Evolves 8924958843520 s (deviceQueryEff x1 s) := by
  unfold deviceQueryEff
  split
  · exact .step (fail_ev ..) <| .refl ..
  · exact .step (writeSized_ev ..) <| .refl ..

theorem fenceEff_ev (x1) (s : State) : Evolves 16801792 s (fenceEff x1 s) := by
  unfold fenceEff
  split
  · exact .step (fail_ev ..) <| .refl ..
  · exact .step (fail_ev ..) <| .refl ..

theorem nopEff_ev (x1) (s : State) : Evolves 16801792 s (nopEff x1 s) := by
  unfold nopEff
  exact .step (fail_ev ..) <| .refl ..

theorem regReadEff_ev (s : State) (x1 x2) : Evolves 8796093024320 s (regReadEff s x1 x2) := by
  unfold regReadEff
  split
  · exact .step (outsideRead_ev ..) <| .refl ..
  · split
    · exact .step (outsideRead_ev ..) <| .refl ..
    · split
      · exact .step (State.emit_ev ..) <| .refl ..
      · split
        · exact .step (outsideRead_ev ..) <| .refl ..
        · extract_lets l1 l2
          split
          · exact .step (State.emit_ev ..) <| .refl ..
          · split
            · exact .step (State.emit_ev ..) <| .step (upd_latches_ev ..) <| .refl ..
            · exact .step (State.emit_ev ..) <| .step (upd_latches_ev ..) <| .refl ..

theorem writeWord_ev (s : State) (x1 x2 x3 x4) : Evolves 2216478002610175 s (writeWord s x1 x2 x3 x4) := by
  unfold writeWord
  split
  · exact .refl ..
  · exact .step (blkWrite_ev ..) <| .refl ..

theorem regWriteEff_ev (s : State) (x1 x2 x3 x4) : Evolves 2216478002610175 s (regWriteEff s x1 x2 x3 x4) := by
  unfold regWriteEff
  split
  · exact .step (outsideWrite_ev ..) <| .refl ..
  · split
    · exact .step (outsideWrite_ev ..) <| .refl ..
    · split
      · exact .refl ..
      · split
        · exact .step (outsideWrite_ev ..) <| .refl ..
        · split
          · exact .step (writeWord_ev ..) <| .refl ..
          · split
            · exact .step (blkWrite_ev ..) <| .refl ..
            · split
              · exact .step (outsideWrite_ev ..) <| .refl ..
              · exact .step (writeWord_ev ..) <| .step (writeWord_ev ..) <| .refl ..

/-! ### Queues -/

theorem State.setFtq_ev (s : State) (x1 x2 x3) : Evolves 4398046511104 s (State.setFtq s x1 x2 x3) := by
  unfold State.setFtq
  exact .step (upd_ftqs_ev ..) <| .refl ..

theorem countWord_ev (s : State) (x1 x2) : Evolves 2748779069440 s (countWord s x1 x2) := by
  unfold countWord
  split
  · exact .refl ..
  · exact .step (State.setQueueCause_ev ..) <| .step (State.modQclass_ev ..) <| .refl ..
  · exact .step (State.setQueueCause_ev ..) <| .step (State.modQclass_ev ..) <| .refl ..
  · split
    · exact .step (State.setQueueCause_ev ..) <| .step (State.modQclass_ev ..) <| .refl ..
    · exact .refl ..

theorem badEntry_ev (s : State) (x1) : Evolves 70368744185856 s (badEntry s x1) := by
  unfold badEntry
  exact .step (State.modRing_ev ..) <| .step (ringError_ev ..) <| .refl ..

theorem dropEff_ev (s : State) (x1 x2) : Evolves 6597069766656 s (dropEff s x1 x2) := by
  unfold dropEff
  extract_lets l1
  exact .step (State.modQclass_ev ..) <| .step (State.setFtq_ev ..) <| .refl ..

theorem badHeader_ev (s : State) (x1 x2 x3) : Evolves 32985349095525 s (badHeader s x1 x2 x3) := by
  unfold badHeader
  split
  · exact .step (fatalEff_ev ..) <| .step (State.used_ev ..) <| .refl ..
  · split
    · exact .step (fatalEff_ev ..) <| .step (State.used_ev ..) <| .refl ..
    · extract_lets l1
      split
      · exact .step (State.modQclass_ev ..) <| .step (State.emit_ev ..) <| .refl ..
      · exact .step (dropEff_ev ..) <| .step (State.emit_ev ..) <| .refl ..

theorem readItem_ev (s : State) (x1 x2 x3 x4) : Evolves 103903849095269 s (readItem s x1 x2 x3 x4) := by
  unfold readItem
  extract_lets l1 l2 l3 l4
  split
  · exact .step (badHeader_ev ..) <| .step (countWord_ev ..) <| .refl ..
  · split
    · refine .step (State.setFtq_ev ..) ?_
      subst l3
      split
      · exact .step (badEntry_ev ..) <| .step (countWord_ev ..) <| .refl ..
      · exact .step (countWord_ev ..) <| .refl ..
    · refine .step (State.emit_ev ..) ?_
      subst l3
      split
      · exact .step (badEntry_ev ..) <| .step (countWord_ev ..) <| .refl ..
      · exact .step (countWord_ev ..) <| .refl ..

theorem unitLeaves_ev (s : State) (x1 x2) : Evolves 13194139533312 s (unitLeaves s x1 x2) := by
  unfold unitLeaves
  extract_lets l1
  split
  · exact .step (State.emit_ev ..) <| .step (State.setFtq_ev ..) <| .refl ..
  · exact .refl ..

theorem queueCycle_ev (s : State) (x1 x2) : Evolves 103903849095269 s (queueCycle s x1 x2) := by
  unfold queueCycle
  extract_lets l1 l2
  split
  · extract_lets l3
    split
    · exact .step (State.setFtq_ev ..) <| .step (countWord_ev ..) <| .step (unitLeaves_ev ..) <| .refl ..
    · split
      · exact .step (readItem_ev ..) <| .step (State.setFtq_ev ..) <| .step (unitLeaves_ev ..) <| .refl ..
      · exact .step (State.setFtq_ev ..) <| .step (unitLeaves_ev ..) <| .refl ..
  · exact .step (State.setFtq_ev ..) <| .step (unitLeaves_ev ..) <| .refl ..

theorem queueCycles_ev (s : State) (x1 x2 x3) : Evolves 103903849095269 s (queueCycles s x1 x2 x3) := by
  fun_induction queueCycles s x1 x2 x3
  · exact .refl ..
  · exact .step (by assumption) <| .step (queueCycle_ev ..) <| .refl ..

theorem queuePasses_ev (s : State) (x1 x2 x3) : Evolves 103903849095269 s (queuePasses s x1 x2 x3) := by
  unfold queuePasses
  extract_lets l1
  exact .step (State.setFtq_ev ..) <| .step (queueCycles_ev ..) <| .refl ..

theorem allQueues_ev (x1 x2) (s : State) : Evolves 103903849095269 s (allQueues x1 x2 s) := by
  fun_induction allQueues x1 x2 s
  · exact .refl ..
  · exact .step (by assumption) <| .step (queuePasses_ev ..) <| .refl ..

theorem injectCount_ev (s : State) (x1) : Evolves 1024 s (injectCount s x1) := by
  unfold injectCount
  extract_lets l1 l2 l3 l4 l5
  refine .iteR ?_ ?_
  · exact .step (upd_test_ev ..) <| .refl ..
  · exact .step (State.setTestCause_ev ..) <| .refl ..

theorem itemEff_ev (s : State) (x1 x2 x3) : Evolves 4398046512128 s (itemEff s x1 x2 x3) := by
  unfold itemEff
  extract_lets l1 l2 l3 l4 l5
  refine .step (State.setFtq_ev ..) ?_
  subst l5
  split
  · exact .step (injectCount_ev ..) <| .refl ..
  · exact .refl ..

theorem tailFlush_ev (s : State) (x1 x2) : Evolves 6597069766656 s (tailFlush s x1 x2) := by
  unfold tailFlush
  extract_lets l1 l2
  split
  · exact .step (State.setFtq_ev ..) <| .refl ..
  · exact .step (State.modQclass_ev ..) <| .step (State.setFtq_ev ..) <| .refl ..

/-! ### Clock -/

theorem countCycle_ev (s : State) : Evolves 2 s (countCycle s) := by
  unfold countCycle
  split
  · exact .step (upd_ident_ev ..) <| .refl ..
  · exact .refl ..

theorem sendFlits_ev (x1) (s : State) (x2) : Evolves 1134695999865344 s (sendFlits x1 s x2) := by
  fun_induction sendFlits x1 s x2
  · exact .refl ..
  · exact .refl ..
  · exact .step (by assumption) <| .step (State.emit_ev ..) <| .step (State.modFabPort_ev ..) <| .refl ..

theorem transmit_ev (s : State) (x1) : Evolves 1134695999865344 s (transmit s x1) := by
  unfold transmit
  split
  · exact .step (sendFlits_ev ..) <| .refl ..
  · exact .refl ..

theorem takePackets_ev (s : State) : Evolves 1125899906843136 s (takePackets s) := by
  unfold takePackets
  extract_lets l1 l2
  split
  · exact .refl ..
  · refine .step (upd_vertexQ_ev ..) <| ?_
    subst l2
    refine .foldl _ (fun s x => ?_) ?_
    · exact .step (State.modFabPort_ev ..) <| .refl ..
    · exact .refl ..

theorem linksWork_ev (s : State) : Evolves 1134695999865344 s (linksWork s) := by
  unfold linksWork
  refine .foldl _ (fun s x => ?_) ?_
  · exact .step (transmit_ev ..) <| .refl ..
  · exact .step (takePackets_ev ..) <| .refl ..

theorem noteLink_ev (s : State) : Evolves 64 s (noteLink s) := by
  unfold noteLink
  split
  · exact .refl ..
  · exact .step (upd_pcieQ_ev ..) <| .refl ..

theorem switchStarts_ev (s : State) : Evolves 16 s (switchStarts s) := by
  unfold switchStarts
  split
  · exact .step (upd_sec_ev ..) <| .refl ..
  · exact .refl ..

theorem trainingStarts_ev (s : State) : Evolves 8 s (trainingStarts s) := by
  unfold trainingStarts
  split
  · exact .step (upd_clk_ev ..) <| .refl ..
  · exact .refl ..

theorem cyclePasses_ev (s : State) : Evolves 1229803755942527 s (cyclePasses s) := by
  unfold cyclePasses
  split
  · exact .step (settle_ev ..) <| .step (allQueues_ev ..) <| .step (linksWork_ev ..) <| .step (noteLink_ev ..) <|
      .step (switchStarts_ev ..) <| .step (countCycle_ev ..) <| .refl ..
  · exact .step (trainingStarts_ev ..) <| .step (countCycle_ev ..) <| .refl ..

/-! ### Pcie -/

theorem bar2Eff_ev (s : State) (x1 x2 x3 x4 x5) : Evolves 8821862826176 s (bar2Eff s x1 x2 x3 x4 x5) := by
  unfold bar2Eff
  extract_lets l1 l2 l3
  split
  · split
    · exact .step (outsideWrite_ev ..) <| .refl ..
    · exact .step (outsideRead_ev ..) <| .refl ..
  · split
    · split
      · exact .step (upd_pcieQ_ev ..) <| .step (lpWrite_ev ..) <| .refl ..
      · exact .step (lpWrite_ev ..) <| .refl ..
    · exact .step (State.emit_ev ..) <| .step (lpReadEff_ev ..) <| .refl ..

theorem dropRead_ev (s : State) (x1) : Evolves 274877906944 s (dropRead s x1) := by
  unfold dropRead
  exact .step (upd_pcieReads_ev ..) <| .refl ..

theorem unitsArrive_ev (s : State) (x1 x2 x3 x4) : Evolves 70643622092800 s (unitsArrive s x1 x2 x3 x4) := by
  unfold unitsArrive
  extract_lets l1
  split
  · exact .step (askUnits_ev ..) <| .step (State.modRing_ev ..) <| .refl ..
  · exact .step (askUnits_ev ..) <| .refl ..

theorem readArrives_ev (s : State) (x1 x2) : Evolves 79568580928128 s (readArrives s x1 x2) := by
  unfold readArrives
  extract_lets b s1
  have h1 : Evolves 79568580928128 s s1 :=
    .step (upd_host_ev _ _ _ fun h => ⟨writeBytes_wf _ _ h.hostMem, poisonAfter_wf _ _ _ h.hostPoison⟩) <| .refl ..
  split
  · exact .step (unitsArrive_ev ..) h1
  · exact h1
  · split
    · exact h1
    · exact .step (copyWritePiece_ev ..) h1

theorem readFails_ev (s : State) (x1) : Evolves 70368760979456 s (readFails s x1) := by
  unfold readFails
  split
  · exact .step (ringError_ev ..) <| .refl ..
  · exact .step (failCopy_ev ..) <| .refl ..
  · exact .refl ..

theorem completionEff_ev (s : State) (x1 x2 x3) : Evolves 79568580928192 s (completionEff s x1 x2 x3) := by
  unfold completionEff
  extract_lets l1 l2
  split
  · exact .step (readArrives_ev ..) <| .step (dropRead_ev ..) <| .refl ..
  · exact .step (readFails_ev ..) <| .step (upd_pcieQ_ev ..) <| .step (dropRead_ev ..) <| .refl ..
  · exact .step (readFails_ev ..) <| .step (dropRead_ev ..) <| .refl ..
  · exact .step (readFails_ev ..) <| .step (dropRead_ev ..) <| .refl ..

/-! ### Secure -/

theorem announceAll_ev (s : State) (x1 x2 x3 x4) : Evolves 1152418943689600 s (announceAll s x1 x2 x3 x4) := by
  fun_induction announceAll s x1 x2 x3 x4
  · exact .refl ..
  · refine .step (by assumption) ?_
    split
    · split
      · exact .step (linkDownEff_ev ..) <| .step (State.emit_ev ..) <| .refl ..
      · exact .step (State.modFabPort_ev ..) <| .step (State.emit_ev ..) <| .refl ..
    · exact .refl ..

theorem activated_ev (s : State) (x1 x2) : Evolves 1152418943689624 s (activated s x1 x2) := by
  unfold activated
  extract_lets l1 l2 l3 l4 l5 l6 l7
  exact .step (finish_ev ..) <| .step (announceAll_ev ..) <| .step (State.setSecCause_ev ..) <|
    .step (upd_clk_sec_vertex_ev ..) <| .step (setControl_ev ..) <| .step (measureMr_ev ..) <| .refl ..

theorem attestEff_ev (x1) (s : State) : Evolves 26517144887936 s (attestEff x1 s) := by
  unfold attestEff
  split
  · exact .step (fail_ev ..) <| .refl ..
  · exact .step (writeSized_ev ..) <| .step (State.used_ev ..) <| .refl ..

theorem challengeEff_ev (s : State) : Evolves 26388279066640 s (challengeEff s) := by
  unfold challengeEff
  extract_lets l1 l2
  exact .step (State.used_ev ..) <| .step (State.emit_ev ..) <| .step (upd_sec_ev ..) <| .refl ..

theorem fwActivateEff_ev (x1) (s : State) : Evolves 16801808 s (fwActivateEff x1 s) := by
  unfold fwActivateEff
  split
  · exact .step (fail_ev ..) <| .refl ..
  · exact .step (upd_sec_ev ..) <| .refl ..

theorem stageFrom_ev (x1) (s : State) (x2) : Evolves 17592186044432 s (stageFrom x1 s x2) := by
  unfold stageFrom
  extract_lets l1 l2 l3
  exact .step (State.used_ev ..) <| .step (setSlot_ev ..) <| .step (upd_sec_ev ..) <| .refl ..

theorem fwStageEff_ev (x1) (s : State) : Evolves 26388295869136 s (fwStageEff x1 s) := by
  unfold fwStageEff
  extract_lets l1 l2
  split
  · exact .step (fail_ev ..) <| .step (upd_sec_ev ..) <| .refl ..
  · split
    · exact .step (fail_ev ..) <| .step (upd_sec_ev ..) <| .refl ..
    · refine withStruct_ev (by decide) ?_ (fun s' b h' => ?_)
      · exact .step (upd_sec_ev ..) <| .step (upd_sec_ev ..) <| .refl ..
      · exact .step (stageFrom_ev ..) <| .step (by assumption) <| .refl ..

theorem provision_ev (x1) (s : State) (x2) : Evolves 17592202846224 s (provision x1 s x2) := by
  unfold provision
  extract_lets l1 l2 l3 l4 l5 l6
  split
  · exact .step (fail_ev ..) <| .step (State.used_ev ..) <| .refl ..
  · split
    · split
      · exact .step (fail_ev ..) <| .step (State.used_ev ..) <| .refl ..
      · exact .step (fail_ev ..) <| .step (State.setSecCause_ev ..) <| .step (measureMr_ev ..) <|
          .step (upd_sec_ev ..) <| .step (State.used_ev ..) <| .refl ..
    · exact .step (fail_ev ..) <| .step (State.setSecCause_ev ..) <| .step (measureMr_ev ..) <|
        .step (upd_sec_ev ..) <| .step (State.used_ev ..) <| .refl ..

theorem keyProvisionEff_ev (x1) (s : State) : Evolves 26388295869136 s (keyProvisionEff x1 s) := by
  unfold keyProvisionEff
  extract_lets l1
  split
  · exact .step (fail_ev ..) <| .refl ..
  · split
    · exact .step (fail_ev ..) <| .refl ..
    · split
      · exact .step (fail_ev ..) <| .refl ..
      · refine withStruct_ev (by decide) ?_ (fun s' b h' => ?_)
        · exact .refl ..
        · exact .step (provision_ev ..) <| .step (by assumption) <| .refl ..

theorem stageEnds_ev (s : State) (x1 x2) : Evolves 17592202846224 s (stageEnds s x1 x2) := by
  unfold stageEnds
  extract_lets l1 l2 l3 l4
  split
  · exact .step (fail_ev ..) <| .step (State.setSecCause_ev ..) <| .step (upd_sec_ev ..) <|
      .step (State.used_ev ..) <| .step (setSlot_ev ..) <| .step (upd_sec_ev ..) <| .refl ..
  · exact .step (fail_ev ..) <| .step (State.used_ev ..) <| .step (setSlot_ev ..) <| .step (upd_sec_ev ..) <| .refl ..

theorem unlockEff_ev (s : State) (x1 x2) : Evolves 16 s (unlockEff s x1 x2) := by
  unfold unlockEff
  split
  · exact .step (State.setSecCause_ev ..) <| .step (measureMr_ev ..) <| .step (upd_sec_ev ..) <| .refl ..
  · exact .step (State.setSecCause_ev ..) <| .step (upd_sec_ev ..) <| .refl ..

/-! ### TestUnit -/

theorem zeroRange_ev (s : State) (x1 x2) : Evolves 25769803904 s (zeroRange s x1 x2) := by
  unfold zeroRange
  exact .step (upd_local_ev _ _ _ fun h => ⟨tabWf_filter _ h.mem, tabWf_filter _ h.poison⟩) <|
    .step (overwritten_ev ..) <| .refl ..

theorem bistEnds_ev (s : State) (x1 x2) : Evolves 25786606720 s (bistEnds s x1 x2) := by
  unfold bistEnds
  extract_lets l1 l2 l3 l4 l5
  refine .step (finish_ev ..) ?_
  subst l5
  split
  · refine .step (State.setTestCause_ev ..) <| .step (upd_test_ev ..) ?_
    subst l1
    split
    · exact .step (zeroRange_ev ..) <| .refl ..
    · exact .refl ..
  · refine .step (State.setTestCause_ev ..) <| .step (upd_test_ev ..) <| .step (State.setTestCause_ev ..) <|
      .step (upd_test_ev ..) ?_
    subst l1
    split
    · exact .step (zeroRange_ev ..) <| .refl ..
    · exact .refl ..

theorem scanBegins_ev (s : State) : Evolves 2189960874524639 s (scanBegins s) := by
  unfold scanBegins
  extract_lets l1 l2 l3
  exact .step (upd_mode_pins_ev ..) <| .step (wiped_ev ..) <| .refl ..

theorem scanEnds_ev (s : State) : Evolves 17 s (scanEnds s) := by
  unfold scanEnds
  split
  · exact .step (upd_mode_ev ..) <| .refl ..
  · exact .step (romStarts_ev ..) <| .refl ..

theorem jtagEff_ev (s : State) (x1) : Evolves 2198756967546847 s (jtagEff s x1) := by
  unfold jtagEff
  extract_lets l1 l2 l3
  refine .iteR ?_ ?_
  · subst l3
    refine .iteL ?_ ?_
    · exact .step (upd_pins_ev ..) <| .refl ..
    · split
      · split
        · exact .refl ..
        · exact .step (scanBegins_ev ..) <| .refl ..
      · split
        · exact .step (scanEnds_ev ..) <| .refl ..
        · exact .refl ..
  · exact .step (State.emit_ev ..) <| .refl ..

theorem linkPatternEff_ev (x1) (s : State) : Evolves 16802816 s (linkPatternEff x1 s) := by
  unfold linkPatternEff
  extract_lets l1 l2
  split
  · exact .step (fail_ev ..) <| .refl ..
  · split
    · exact .step (fail_ev ..) <| .refl ..
    · split
      · exact .step (fail_ev ..) <| .refl ..
      · split
        · exact .step (fail_ev ..) <| .refl ..
        · exact .step (upd_test_ev ..) <| .refl ..

theorem loopbackEff_ev (x1) (s : State) : Evolves 16802816 s (loopbackEff x1 s) := by
  unfold loopbackEff
  extract_lets l1 l2 l3
  split
  · exact .step (fail_ev ..) <| .refl ..
  · split
    · exact .step (fail_ev ..) <| .refl ..
    · split
      · exact .step (fail_ev ..) <| .step (upd_test_ev ..) <| .refl ..
      · exact .step (fail_ev ..) <| .step (upd_test_ev ..) <| .refl ..

theorem memoryTestEff_ev (x1) (s : State) : Evolves 16802816 s (memoryTestEff x1 s) := by
  unfold memoryTestEff
  split
  · exact .step (fail_ev ..) <| .refl ..
  · split
    · exact .step (fail_ev ..) <| .refl ..
    · split
      · exact .step (fail_ev ..) <| .refl ..
      · extract_lets l1 l2
        exact .step (upd_test_ev ..) <| .refl ..

theorem patternEnds_ev (s : State) (x1 x2 x3) : Evolves 8924958844544 s (patternEnds s x1 x2 x3) := by
  unfold patternEnds
  extract_lets l1 l2 l3 l4 l5
  split
  · exact .step (finish_ev ..) <| .step (State.setTestCause_ev ..) <| .step (upd_test_ev ..) <| .refl ..
  · split
    · exact .step (State.setTestCause_ev ..) <| .step (upd_test_ev ..) <| .refl ..
    · exact .step (writeOut_ev ..) <| .step (State.setTestCause_ev ..) <| .step (upd_test_ev ..) <| .refl ..

theorem setPattern_ev (s : State) (x1) : Evolves 1024 s (setPattern s x1) := by
  unfold setPattern
  exact .step (upd_test_ev ..) <| .refl ..

theorem State.setFaultCause_ev (s : State) (x1 x2) : Evolves 65536 s (State.setFaultCause s x1 x2) := by
  unfold State.setFaultCause
  exact .step (State.modPart_ev ..) <| .refl ..

theorem consumed_ev (s : State) (x1 x2) : Evolves 327680 s (consumed s x1 x2) := by
  unfold consumed
  split
  · exact .step (dropPoisoned_ev ..) <| .refl ..
  · exact .refl ..
  · exact .refl ..

theorem barWriteEff_ev (s : State) (x1 x2 x3 x4 x5) :
    Evolves 2216478002610175 s (barWriteEff s x1 x2 x3 x4 x5) := by
  unfold barWriteEff
  split
  · exact .step (upd_pcieQ_ev ..) <| .refl ..
  · exact .step (regWriteEff_ev ..) <| .refl ..

theorem configEff_ev (s : State) (x1 x2) : Evolves 562949953421376 s (configEff s x1 x2) := by
  unfold configEff
  extract_lets l1
  exact .step (upd_pcie_ev ..) <| .refl ..

theorem regRead8_ev (s : State) (x1 x2) : Evolves 8796093022272 s (regRead8 s x1 x2) := by
  unfold regRead8
  split
  · exact .step (outsideRead_ev ..) <| .refl ..
  · split
    · exact .step (outsideRead_ev ..) <| .refl ..
    · split
      · exact .step (State.emit_ev ..) <| .refl ..
      · split
        · exact .step (outsideRead_ev ..) <| .refl ..
        · split
          · exact .step (State.emit_ev ..) <| .refl ..
          · split
            · exact .step (outsideRead_ev ..) <| .refl ..
            · exact .step (State.emit_ev ..) <| .refl ..

theorem attemptEff_ev (s : State) (x1) : Evolves 1134695999865344 s (attemptEff s x1) := by
  unfold attemptEff
  exact .step (State.emit_ev ..) <| .step (State.modFabPort_ev ..) <| .refl ..

theorem writeEff_ev (s : State) (x1 x2) : Evolves 8924942107264 s (writeEff s x1 x2) := by
  unfold writeEff
  split
  · exact .step (reply_ev ..) <| .refl ..
  · split
    · extract_lets l1
      exact .step (reply_ev ..) <| .step (localWrite_ev ..) <| .refl ..
    · exact .step (staleWrite_ev ..) <| .refl ..
    · exact .step (reply_ev ..) <| .refl ..

theorem runAhead_ev (s : State) (x1 x2) : Evolves 103903849095269 s (runAhead s x1 x2) := by
  unfold runAhead
  extract_lets l1
  exact .step (State.setFtq_ev ..) <| .step (queueCycle_ev ..) <| .refl ..

theorem takesItem_ev (s : State) (x1 x2) : Evolves 103903849095269 s ((takesItem s x1 x2).getD s) := by
  unfold takesItem
  extract_lets l1
  split
  · rw [Option.getD_some]
    exact .refl ..
  · split
    · rw [Option.getD_some]
      exact .step (runAhead_ev ..) <| .refl ..
    · rw [Option.getD_none]
      exact .refl ..

theorem zeroingEff_ev (s : State) (x1) : Evolves 8797725090560 s (zeroingEff s x1) := by
  unfold zeroingEff
  exact .step (settleYields_ev ..) <| .step (State.modPrism_ev ..) <| .refl ..

theorem probesEff_ev (s : State) : Evolves 8796093022720 s (probesEff s) := by
  unfold probesEff
  extract_lets l1
  refine .step (upd_vertexQ_ev ..) <| ?_
  subst l1
  refine .foldl _ (fun s x => ?_) ?_
  · exact .step (sendProbe_ev ..) <| .refl ..
  · exact .refl ..

theorem askWaiting_ev (s : State) : Evolves 274877923328 s (askWaiting s) := by
  unfold askWaiting
  refine .foldl _ (fun s x => ?_) ?_
  · exact .step (askCopy_ev ..) <| .refl ..
  · exact .refl ..

theorem State.setPortCause_ev (s : State) (x1 x2) : Evolves 1073741824 s (State.setPortCause s x1 x2) := by
  unfold State.setPortCause
  exact .step (State.modPort_ev ..) <| .refl ..

end Sys2Proof.Machine
end

