-- ==== Sys2Proof/Laws/PerInstr.lean ====
section
/-! SUPPORT. Per command: what it touches always includes the interrupt pages and the record of what was sent, and
never the queue of waiting commands or what the host answers. -/

-- These proofs wait on the same definitions: they are elaborated in order.
set_option Elab.async false

namespace Sys2Proof.Laws.Touched

open Sys2Proof.Machine

/-- A set of fields that a command may touch. -/
abbrev Bounds (ps : List Piece) : Prop :=
  Piece.funcs ∈ ps ∧ Piece.sent ∈ ps ∧ Piece.pending ∉ ps ∧ Piece.hostBroken ∉ ps

/-- The fields that a command touches are within these bounds. -/
abbrev Statement (i : Instr) : Prop := Bounds (touches i)

theorem nop (cid : Nat) : Statement (.nop cid) := of_decide_eq_true rfl
theorem fence (cid : Nat) : Statement (.fence cid) := of_decide_eq_true rfl
theorem deviceQuery (cid : Nat) : Statement (.deviceQuery cid) := of_decide_eq_true rfl
theorem countersRead (cid : Nat) : Statement (.countersRead cid) := of_decide_eq_true rfl
theorem partitionCreate (cid : Nat) : Statement (.partitionCreate cid) := of_decide_eq_true rfl
theorem partitionDestroy (cid : Nat) : Statement (.partitionDestroy cid) := of_decide_eq_true rfl
theorem partitionYield (cid : Nat) : Statement (.partitionYield cid) := of_decide_eq_true rfl
theorem partitionReset (cid : Nat) : Statement (.partitionReset cid) := of_decide_eq_true rfl
theorem latticeLoad (cid : Nat) : Statement (.latticeLoad cid) := of_decide_eq_true rfl
theorem latticeSwitch (cid : Nat) : Statement (.latticeSwitch cid) := of_decide_eq_true rfl
theorem shareTableLoad (cid : Nat) : Statement (.shareTableLoad cid) := of_decide_eq_true rfl
theorem modelRegister (cid : Nat) : Statement (.modelRegister cid) := of_decide_eq_true rfl
theorem modelPrefetch (cid : Nat) : Statement (.modelPrefetch cid) := of_decide_eq_true rfl
theorem modelPin (cid : Nat) : Statement (.modelPin cid) := of_decide_eq_true rfl
theorem modelUnpin (cid : Nat) : Statement (.modelUnpin cid) := of_decide_eq_true rfl
theorem modelEvict (cid : Nat) : Statement (.modelEvict cid) := of_decide_eq_true rfl
theorem modelQuery (cid : Nat) : Statement (.modelQuery cid) := of_decide_eq_true rfl
theorem streamOpen (cid : Nat) : Statement (.streamOpen cid) := of_decide_eq_true rfl
theorem streamClose (cid : Nat) : Statement (.streamClose cid) := of_decide_eq_true rfl
theorem streamSeed (cid : Nat) : Statement (.streamSeed cid) := of_decide_eq_true rfl
theorem streamReset (cid : Nat) : Statement (.streamReset cid) := of_decide_eq_true rfl
theorem run (cid : Nat) : Statement (.run cid) := of_decide_eq_true rfl
theorem stateSave (cid : Nat) : Statement (.stateSave cid) := of_decide_eq_true rfl
theorem stateRestore (cid : Nat) : Statement (.stateRestore cid) := of_decide_eq_true rfl
theorem stateEvict (cid : Nat) : Statement (.stateEvict cid) := of_decide_eq_true rfl
theorem streamMigrate (cid : Nat) : Statement (.streamMigrate cid) := of_decide_eq_true rfl
theorem checkpointSet (cid : Nat) : Statement (.checkpointSet cid) := of_decide_eq_true rfl
theorem portConfig (cid : Nat) : Statement (.portConfig cid) := of_decide_eq_true rfl
theorem portBind (cid : Nat) : Statement (.portBind cid) := of_decide_eq_true rfl
theorem portArm (cid : Nat) : Statement (.portArm cid) := of_decide_eq_true rfl
theorem portStop (cid : Nat) : Statement (.portStop cid) := of_decide_eq_true rfl
theorem alignGroupSet (cid : Nat) : Statement (.alignGroupSet cid) := of_decide_eq_true rfl
theorem windowExport (cid : Nat) : Statement (.windowExport cid) := of_decide_eq_true rfl
theorem windowImport (cid : Nat) : Statement (.windowImport cid) := of_decide_eq_true rfl
theorem copy (cid : Nat) : Statement (.copy cid) := of_decide_eq_true rfl
theorem fabricStatus (cid : Nat) : Statement (.fabricStatus cid) := of_decide_eq_true rfl
theorem powerCapSet (cid : Nat) : Statement (.powerCapSet cid) := of_decide_eq_true rfl
theorem powerQuery (cid : Nat) : Statement (.powerQuery cid) := of_decide_eq_true rfl
theorem attest (cid : Nat) : Statement (.attest cid) := of_decide_eq_true rfl
theorem fwStage (cid : Nat) : Statement (.fwStage cid) := of_decide_eq_true rfl
theorem fwActivate (cid : Nat) : Statement (.fwActivate cid) := of_decide_eq_true rfl
theorem keyProvision (cid : Nat) : Statement (.keyProvision cid) := of_decide_eq_true rfl
theorem linkPattern (cid : Nat) : Statement (.linkPattern cid) := of_decide_eq_true rfl
theorem memoryTest (cid : Nat) : Statement (.memoryTest cid) := of_decide_eq_true rfl
theorem loopback (cid : Nat) : Statement (.loopback cid) := of_decide_eq_true rfl
theorem sqTailWrite (fn ring : Nat) (value : Word32) : Statement (.sqTailWrite fn ring value) := of_decide_eq_true rfl
theorem packetAccept (fn ring : Nat) : Statement (.packetAccept fn ring) := of_decide_eq_true rfl
theorem deferredCommandStart (cid : Nat) : Statement (.deferredCommandStart cid) := of_decide_eq_true rfl
theorem cqHeadWrite (fn ring : Nat) (value : Word32) : Statement (.cqHeadWrite fn ring value) := of_decide_eq_true rfl
theorem sqEnable (fn ring : Nat) (on : Bool) : Statement (.sqEnable fn ring on) := of_decide_eq_true rfl
theorem cqEnable (fn ring : Nat) (on : Bool) : Statement (.cqEnable fn ring on) := of_decide_eq_true rfl
theorem abort (fn ring : Nat) : Statement (.abort fn ring) := of_decide_eq_true rfl
theorem abortDone (fn ring : Nat) : Statement (.abortDone fn ring) := of_decide_eq_true rfl
theorem ringReset (fn ring : Nat) : Statement (.ringReset fn ring) := of_decide_eq_true rfl
theorem completionBurstWrite (fn ring : Nat) (written : Bool) : Statement (.completionBurstWrite fn ring written) := of_decide_eq_true rfl
theorem coalesceTimeExpiry (fn ring : Nat) : Statement (.coalesceTimeExpiry fn ring) := of_decide_eq_true rfl
theorem queueTailTimeout (cls inst : Nat) : Statement (.queueTailTimeout cls inst) := of_decide_eq_true rfl
theorem dropPacket (cls inst : Nat) : Statement (.dropPacket cls inst) := of_decide_eq_true rfl
theorem registerWrite (fn : Nat) (target : RegTarget) (size : Nat) (value : Word64) : Statement (.registerWrite fn target size value) := of_decide_eq_true rfl
theorem regLowWordRead (fn : Nat) (off : RegRead) : Statement (.regLowWordRead fn off) := of_decide_eq_true rfl
theorem globalLock (value : Word32) : Statement (.globalLock value) := of_decide_eq_true rfl
theorem numberValid (value : Word32) : Statement (.numberValid value) := of_decide_eq_true rfl
theorem intArm (fn : Nat) (value : Word32) : Statement (.intArm fn value) := of_decide_eq_true rfl
theorem msixUnmask (fn : Nat) : Statement (.msixUnmask fn) := of_decide_eq_true rfl
theorem acctClear (fn part : Nat) (value : Word32) : Statement (.acctClear fn part value) := of_decide_eq_true rfl
theorem localRangeWrite (index : Nat) (sizeReg : Bool) (value : Word64) : Statement (.localRangeWrite index sizeReg value) := of_decide_eq_true rfl
theorem unreachableClear (index : Nat) (value : Word32) : Statement (.unreachableClear index value) := of_decide_eq_true rfl
theorem inject (cls : Nat) (value : Word32) : Statement (.inject cls value) := of_decide_eq_true rfl
theorem queueItemWrite (cls inst : Nat) (item : QItem) : Statement (.queueItemWrite cls inst item) := of_decide_eq_true rfl
theorem resetControlWarm (value : Word32) : Statement (.resetControlWarm value) := of_decide_eq_true rfl
theorem go (value : Word32) : Statement (.go value) := of_decide_eq_true rfl
theorem kernelStart (facet : Nat) : Statement (.kernelStart facet) := of_decide_eq_true rfl
theorem kernelEnd (facet corrected : Nat) : Statement (.kernelEnd facet corrected) := of_decide_eq_true rfl
theorem kernelPoisonFault (facet : Nat) (source : PoisonSource) : Statement (.kernelPoisonFault facet source) := of_decide_eq_true rfl
theorem watchdog (facet : Nat) (poison : Option PoisonSource) : Statement (.watchdog facet poison) := of_decide_eq_true rfl
theorem teardownComplete (part group : Nat) : Statement (.teardownComplete part group) := of_decide_eq_true rfl
theorem partitionFault (part : Nat) (unit : PrivUnit) : Statement (.partitionFault part unit) := of_decide_eq_true rfl
theorem partitionResetDone (part : Nat) : Statement (.partitionResetDone part) := of_decide_eq_true rfl
theorem deviceFatalFault (code link : Nat) : Statement (.deviceFatalFault code link) := of_decide_eq_true rfl
theorem latticeTick (part : Nat) : Statement (.latticeTick part) := of_decide_eq_true rfl
theorem latticeSwitchInstant (part : Nat) : Statement (.latticeSwitchInstant part) := of_decide_eq_true rfl
theorem fill (part facet : Nat) : Statement (.fill part facet) := of_decide_eq_true rfl
theorem stateFetchBackDone (stream : Nat) : Statement (.stateFetchBackDone stream) := of_decide_eq_true rfl
theorem modelPlacementDone (part model : Nat) : Statement (.modelPlacementDone part model) := of_decide_eq_true rfl
theorem modelT1CopyDone (model : Nat) : Statement (.modelT1CopyDone model) := of_decide_eq_true rfl
theorem stagedFetchLand (part stream generation : Nat) (landingZone : Bool) : Statement (.stagedFetchLand part stream generation landingZone) := of_decide_eq_true rfl
theorem prismZeroingDone (prism : Nat) : Statement (.prismZeroingDone prism) := of_decide_eq_true rfl
theorem runComplete (cid : Nat) : Statement (.runComplete cid) := of_decide_eq_true rfl
theorem checkpointWrite (stream : Nat) (written : Bool) : Statement (.checkpointWrite stream written) := of_decide_eq_true rfl
theorem migrateAck (stream status : Nat) (key sigR sigS : Bytes) : Statement (.migrateAck stream status key sigR sigS) := of_decide_eq_true rfl
theorem migrateAckTimeout (stream : Nat) : Statement (.migrateAckTimeout stream) := of_decide_eq_true rfl
theorem jumpPrepare (prism facet : Nat) (parityError : Bool) : Statement (.jumpPrepare prism facet parityError) := of_decide_eq_true rfl
theorem arbitrationRound (reqs : List BwReq) : Statement (.arbitrationRound reqs) := of_decide_eq_true rfl
theorem sinkWriteTx (port slot : Nat) (poisoned : Bool) : Statement (.sinkWriteTx port slot poisoned) := of_decide_eq_true rfl
theorem portFrameBoundary (port bclks periodPs : Nat) (received : List Int) : Statement (.portFrameBoundary port bclks periodPs received) := of_decide_eq_true rfl
theorem portArmAction (port : Nat) : Statement (.portArmAction port) := of_decide_eq_true rfl
theorem prerollEnd (port : Nat) : Statement (.prerollEnd port) := of_decide_eq_true rfl
theorem portArmTimeout (port : Nat) : Statement (.portArmTimeout port) := of_decide_eq_true rfl
theorem startInEdge (port : Nat) : Statement (.startInEdge port) := of_decide_eq_true rfl
theorem portStopAction (port : Nat) : Statement (.portStopAction port) := of_decide_eq_true rfl
theorem postrollEnd (port : Nat) : Statement (.postrollEnd port) := of_decide_eq_true rfl
theorem portCommit (port : Nat) : Statement (.portCommit port) := of_decide_eq_true rfl
theorem clockLost (port : Nat) : Statement (.clockLost port) := of_decide_eq_true rfl
theorem clockReturned (port first second : Nat) : Statement (.clockReturned port first second) := of_decide_eq_true rfl
theorem scrubPass (corrected uncorrectable : List Nat) : Statement (.scrubPass corrected uncorrectable) := of_decide_eq_true rfl
theorem linkDown (port : Nat) : Statement (.linkDown port) := of_decide_eq_true rfl
theorem linkTrainAttempt (port : Nat) : Statement (.linkTrainAttempt port) := of_decide_eq_true rfl
theorem linkUp (port width major minor peerDevice peerPort : Nat) : Statement (.linkUp port width major minor peerDevice peerPort) := of_decide_eq_true rfl
theorem versionAnnounce (port major minor : Nat) : Statement (.versionAnnounce port major minor) := of_decide_eq_true rfl
theorem read (hdr : FabHdr) : Statement (.read hdr) := of_decide_eq_true rfl
theorem write (hdr : FabHdr) (data : Bytes) : Statement (.write hdr data) := of_decide_eq_true rfl
theorem message (hdr : FabHdr) (data : Bytes) : Statement (.message hdr data) := of_decide_eq_true rfl
theorem fetchObject (hdr : FabHdr) (identity : Bytes) : Statement (.fetchObject hdr identity) := of_decide_eq_true rfl
theorem register (hdr : FabHdr) : Statement (.register hdr) := of_decide_eq_true rfl
theorem deregister (hdr : FabHdr) : Statement (.deregister hdr) := of_decide_eq_true rfl
theorem probe (hdr : FabHdr) : Statement (.probe hdr) := of_decide_eq_true rfl
theorem response (hdr : FabHdr) (data : Bytes) : Statement (.response hdr data) := of_decide_eq_true rfl
theorem fabricForward (hdr : FabHdr) (type : Nat) (data : Bytes) : Statement (.fabricForward hdr type data) := of_decide_eq_true rfl
theorem fabricRequestTimeout (tag : Nat) : Statement (.fabricRequestTimeout tag) := of_decide_eq_true rfl
theorem probeTimer : Statement .probeTimer := of_decide_eq_true rfl
theorem bar2Access (off : Nat) (isWrite : Bool) (len : Nat) (data : Bytes) (ep : Bool) : Statement (.bar2Access off isWrite len data ep) := of_decide_eq_true rfl
theorem pcieCompletionTimeout (tag : Nat) : Statement (.pcieCompletionTimeout tag) := of_decide_eq_true rfl
theorem l1Entry : Statement .l1Entry := of_decide_eq_true rfl
theorem linkWidthChange (change : WidthChange) : Statement (.linkWidthChange change) := of_decide_eq_true rfl
theorem functionLevelReset (fn : Nat) : Statement (.functionLevelReset fn) := of_decide_eq_true rfl
theorem vfEnableClear : Statement .vfEnableClear := of_decide_eq_true rfl
theorem d3hotToD0 (fn : Nat) : Statement (.d3hotToD0 fn) := of_decide_eq_true rfl
theorem spdmRequest (call : SpdmCall) : Statement (.spdmRequest call) := of_decide_eq_true rfl
theorem mctpWarmReset (msg : MctpMsg) : Statement (.mctpWarmReset msg) := of_decide_eq_true rfl
theorem perstN : Statement .perstN := of_decide_eq_true rfl
theorem porNAssert : Statement .porNAssert := of_decide_eq_true rfl
theorem porNRelease (trayPos bootSel : BitVec 2) : Statement (.porNRelease trayPos bootSel) := of_decide_eq_true rfl
theorem rootPllLock : Statement .rootPllLock := of_decide_eq_true rfl
theorem firstStageVerified : Statement .firstStageVerified := of_decide_eq_true rfl
theorem lpddrTrainingDone (result : TrainResult) : Statement (.lpddrTrainingDone result) := of_decide_eq_true rfl
theorem bootReady : Statement .bootReady := of_decide_eq_true rfl
theorem refclkLoss : Statement .refclkLoss := of_decide_eq_true rfl
theorem refclkReturn : Statement .refclkReturn := of_decide_eq_true rfl
theorem pmuControlStep (temps : List Int) : Statement (.pmuControlStep temps) := of_decide_eq_true rfl
theorem railSample (rails : List Nat) (railFault avsError : Bool) : Statement (.railSample rails railFault avsError) := of_decide_eq_true rfl
theorem pmbAlert : Statement .pmbAlert := of_decide_eq_true rfl
theorem thermtrip (temperature : Int) : Statement (.thermtrip temperature) := of_decide_eq_true rfl
theorem prismGate (prism : Nat) : Statement (.prismGate prism) := of_decide_eq_true rfl
theorem fwActivateTimeout : Statement .fwActivateTimeout := of_decide_eq_true rfl
theorem debugChallenge : Statement .debugChallenge := of_decide_eq_true rfl
theorem debugUnlock (level : Nat) (block : Bytes) : Statement (.debugUnlock level block) := of_decide_eq_true rfl
theorem jtagInstruction (instr : TapInstr) : Statement (.jtagInstruction instr) := of_decide_eq_true rfl
theorem linkPatternEnd (counts : PatternCounts) : Statement (.linkPatternEnd counts) := of_decide_eq_true rfl
theorem checkerLockTimeout (counts : PatternCounts) : Statement (.checkerLockTimeout counts) := of_decide_eq_true rfl
theorem memoryTestDone (failing : BistResult) : Statement (.memoryTestDone failing) := of_decide_eq_true rfl
theorem flitArrival (port : Nat) (head : FlitHead) (decoded crcOk : Bool) : Statement (.flitArrival port head decoded crcOk) := of_decide_eq_true rfl
theorem checkerLock (lane : PatternLane) (bits : List Bool) : Statement (.checkerLock lane bits) := of_decide_eq_true rfl
theorem lostLock (lane : PatternLane) (count : LaneCount) (window : List Bool) : Statement (.lostLock lane count window) := of_decide_eq_true rfl
theorem prismWake (prism : Nat) : Statement (.prismWake prism) := of_decide_eq_true rfl
theorem activateDone : Statement .activateDone := of_decide_eq_true rfl
theorem stageDone : Statement .stageDone := of_decide_eq_true rfl
theorem imageCopyDone (cid : Nat) : Statement (.imageCopyDone cid) := of_decide_eq_true rfl
theorem stateCopyOutDone (stream : Nat) : Statement (.stateCopyOutDone stream) := of_decide_eq_true rfl
theorem pcieReadCompletion (tag : Nat) (status : CplStatus) (data : Bytes) : Statement (.pcieReadCompletion tag status data) := of_decide_eq_true rfl
theorem d3hotEntry (fn : Nat) : Statement (.d3hotEntry fn) := of_decide_eq_true rfl
theorem vfEnableSet (numVfs : Nat) : Statement (.vfEnableSet numVfs) := of_decide_eq_true rfl
theorem perstNRelease : Statement .perstNRelease := of_decide_eq_true rfl
theorem l1Exit : Statement .l1Exit := of_decide_eq_true rfl
theorem pmbAlertRelease : Statement .pmbAlertRelease := of_decide_eq_true rfl

end Sys2Proof.Laws.Touched
end

