-- ==== Sys2Proof/Laws/State.lean ====
section
/-! SUPPORT. The fields that the end of a command leaves alone, one lemma per field and function, and the units read
back after a change. -/

-- These proofs wait on the same definitions: they are elaborated in order.
set_option Elab.async false

namespace Sys2Proof.Machine

/-! ### `settle`: only the interrupt pages and the record of what was sent change -/

@[simp] theorem settle_mode (s : State) : (settle s).mode = s.mode := rfl
@[simp] theorem settle_ident (s : State) : (settle s).ident = s.ident := rfl
@[simp] theorem settle_pins (s : State) : (settle s).pins = s.pins := rfl
@[simp] theorem settle_clk (s : State) : (settle s).clk = s.clk := rfl
@[simp] theorem settle_sec (s : State) : (settle s).sec = s.sec := rfl
@[simp] theorem settle_fatal (s : State) : (settle s).fatal = s.fatal := rfl
@[simp] theorem settle_pcie (s : State) : (settle s).pcie = s.pcie := rfl
@[simp] theorem settle_memc (s : State) : (settle s).memc = s.memc := rfl
@[simp] theorem settle_cache (s : State) : (settle s).cache = s.cache := rfl
@[simp] theorem settle_vertex (s : State) : (settle s).vertex = s.vertex := rfl
@[simp] theorem settle_test (s : State) : (settle s).test = s.test := rfl
@[simp] theorem settle_latches (s : State) : (settle s).latches = s.latches := rfl
@[simp] theorem settle_rings (s : State) : (settle s).rings = s.rings := rfl
@[simp] theorem settle_cmds (s : State) : (settle s).cmds = s.cmds := rfl
@[simp] theorem settle_nextCid (s : State) : (settle s).nextCid = s.nextCid := rfl
@[simp] theorem settle_parts (s : State) : (settle s).parts = s.parts := rfl
@[simp] theorem settle_prisms (s : State) : (settle s).prisms = s.prisms := rfl
@[simp] theorem settle_facets (s : State) : (settle s).facets = s.facets := rfl
@[simp] theorem settle_share (s : State) : (settle s).share = s.share := rfl
@[simp] theorem settle_shareNext (s : State) : (settle s).shareNext = s.shareNext := rfl
@[simp] theorem settle_bwReqs (s : State) : (settle s).bwReqs = s.bwReqs := rfl
@[simp] theorem settle_streams (s : State) : (settle s).streams = s.streams := rfl
@[simp] theorem settle_streamGens (s : State) : (settle s).streamGens = s.streamGens := rfl
@[simp] theorem settle_runs (s : State) : (settle s).runs = s.runs := rfl
@[simp] theorem settle_sinkWrites (s : State) : (settle s).sinkWrites = s.sinkWrites := rfl
@[simp] theorem settle_models (s : State) : (settle s).models = s.models := rfl
@[simp] theorem settle_modelGens (s : State) : (settle s).modelGens = s.modelGens := rfl
@[simp] theorem settle_t2 (s : State) : (settle s).t2 = s.t2 := rfl
@[simp] theorem settle_t1 (s : State) : (settle s).t1 = s.t1 := rfl
@[simp] theorem settle_ports (s : State) : (settle s).ports = s.ports := rfl
@[simp] theorem settle_ranges (s : State) : (settle s).ranges = s.ranges := rfl
@[simp] theorem settle_hostBase (s : State) : (settle s).hostBase = s.hostBase := rfl
@[simp] theorem settle_mem (s : State) : (settle s).mem = s.mem := rfl
@[simp] theorem settle_poison (s : State) : (settle s).poison = s.poison := rfl
@[simp] theorem settle_hostMem (s : State) : (settle s).hostMem = s.hostMem := rfl
@[simp] theorem settle_hostPoison (s : State) : (settle s).hostPoison = s.hostPoison := rfl
@[simp] theorem settle_hostBroken (s : State) : (settle s).hostBroken = s.hostBroken := rfl
@[simp] theorem settle_pcieReads (s : State) : (settle s).pcieReads = s.pcieReads := rfl
@[simp] theorem settle_queueCause (s : State) : (settle s).queueCause = s.queueCause := rfl
@[simp] theorem settle_queueEn (s : State) : (settle s).queueEn = s.queueEn := rfl
@[simp] theorem settle_classes (s : State) : (settle s).classes = s.classes := rfl
@[simp] theorem settle_ftqs (s : State) : (settle s).ftqs = s.ftqs := rfl
@[simp] theorem settle_freeCtr (s : State) : (settle s).freeCtr = s.freeCtr := rfl
@[simp] theorem settle_pending (s : State) : (settle s).pending = s.pending := rfl

/-! ### `begin'`: only the accepted commands change -/

@[simp] theorem begin'_mode (s : State) (cid : Nat) : (begin' s cid).mode = s.mode := rfl
@[simp] theorem begin'_ident (s : State) (cid : Nat) : (begin' s cid).ident = s.ident := rfl
@[simp] theorem begin'_pins (s : State) (cid : Nat) : (begin' s cid).pins = s.pins := rfl
@[simp] theorem begin'_clk (s : State) (cid : Nat) : (begin' s cid).clk = s.clk := rfl
@[simp] theorem begin'_sec (s : State) (cid : Nat) : (begin' s cid).sec = s.sec := rfl
@[simp] theorem begin'_fatal (s : State) (cid : Nat) : (begin' s cid).fatal = s.fatal := rfl
@[simp] theorem begin'_pcie (s : State) (cid : Nat) : (begin' s cid).pcie = s.pcie := rfl
@[simp] theorem begin'_memc (s : State) (cid : Nat) : (begin' s cid).memc = s.memc := rfl
@[simp] theorem begin'_cache (s : State) (cid : Nat) : (begin' s cid).cache = s.cache := rfl
@[simp] theorem begin'_vertex (s : State) (cid : Nat) : (begin' s cid).vertex = s.vertex := rfl
@[simp] theorem begin'_test (s : State) (cid : Nat) : (begin' s cid).test = s.test := rfl
@[simp] theorem begin'_latches (s : State) (cid : Nat) : (begin' s cid).latches = s.latches := rfl
@[simp] theorem begin'_funcs (s : State) (cid : Nat) : (begin' s cid).funcs = s.funcs := rfl
@[simp] theorem begin'_rings (s : State) (cid : Nat) : (begin' s cid).rings = s.rings := rfl
@[simp] theorem begin'_nextCid (s : State) (cid : Nat) : (begin' s cid).nextCid = s.nextCid := rfl
@[simp] theorem begin'_parts (s : State) (cid : Nat) : (begin' s cid).parts = s.parts := rfl
@[simp] theorem begin'_prisms (s : State) (cid : Nat) : (begin' s cid).prisms = s.prisms := rfl
@[simp] theorem begin'_facets (s : State) (cid : Nat) : (begin' s cid).facets = s.facets := rfl
@[simp] theorem begin'_share (s : State) (cid : Nat) : (begin' s cid).share = s.share := rfl
@[simp] theorem begin'_shareNext (s : State) (cid : Nat) : (begin' s cid).shareNext = s.shareNext := rfl
@[simp] theorem begin'_bwReqs (s : State) (cid : Nat) : (begin' s cid).bwReqs = s.bwReqs := rfl
@[simp] theorem begin'_streams (s : State) (cid : Nat) : (begin' s cid).streams = s.streams := rfl
@[simp] theorem begin'_streamGens (s : State) (cid : Nat) : (begin' s cid).streamGens = s.streamGens := rfl
@[simp] theorem begin'_runs (s : State) (cid : Nat) : (begin' s cid).runs = s.runs := rfl
@[simp] theorem begin'_sinkWrites (s : State) (cid : Nat) : (begin' s cid).sinkWrites = s.sinkWrites := rfl
@[simp] theorem begin'_models (s : State) (cid : Nat) : (begin' s cid).models = s.models := rfl
@[simp] theorem begin'_modelGens (s : State) (cid : Nat) : (begin' s cid).modelGens = s.modelGens := rfl
@[simp] theorem begin'_t2 (s : State) (cid : Nat) : (begin' s cid).t2 = s.t2 := rfl
@[simp] theorem begin'_t1 (s : State) (cid : Nat) : (begin' s cid).t1 = s.t1 := rfl
@[simp] theorem begin'_ports (s : State) (cid : Nat) : (begin' s cid).ports = s.ports := rfl
@[simp] theorem begin'_ranges (s : State) (cid : Nat) : (begin' s cid).ranges = s.ranges := rfl
@[simp] theorem begin'_hostBase (s : State) (cid : Nat) : (begin' s cid).hostBase = s.hostBase := rfl
@[simp] theorem begin'_mem (s : State) (cid : Nat) : (begin' s cid).mem = s.mem := rfl
@[simp] theorem begin'_poison (s : State) (cid : Nat) : (begin' s cid).poison = s.poison := rfl
@[simp] theorem begin'_hostMem (s : State) (cid : Nat) : (begin' s cid).hostMem = s.hostMem := rfl
@[simp] theorem begin'_hostPoison (s : State) (cid : Nat) : (begin' s cid).hostPoison = s.hostPoison := rfl
@[simp] theorem begin'_hostBroken (s : State) (cid : Nat) : (begin' s cid).hostBroken = s.hostBroken := rfl
@[simp] theorem begin'_pcieReads (s : State) (cid : Nat) : (begin' s cid).pcieReads = s.pcieReads := rfl
@[simp] theorem begin'_queueCause (s : State) (cid : Nat) : (begin' s cid).queueCause = s.queueCause := rfl
@[simp] theorem begin'_queueEn (s : State) (cid : Nat) : (begin' s cid).queueEn = s.queueEn := rfl
@[simp] theorem begin'_classes (s : State) (cid : Nat) : (begin' s cid).classes = s.classes := rfl
@[simp] theorem begin'_ftqs (s : State) (cid : Nat) : (begin' s cid).ftqs = s.ftqs := rfl
@[simp] theorem begin'_sent (s : State) (cid : Nat) : (begin' s cid).sent = s.sent := rfl
@[simp] theorem begin'_freeCtr (s : State) (cid : Nat) : (begin' s cid).freeCtr = s.freeCtr := rfl
@[simp] theorem begin'_pending (s : State) (cid : Nat) : (begin' s cid).pending = s.pending := rfl

/-! ### `finish`: only the rings, the accepted commands and the runs change -/

theorem finish_frame (s : State) (cid st d r : Nat) (p : Piece) (h : (16801792 : Nat).testBit p.bit = false) :
    p.Same s (finish s cid st d r) := (finish_ev s cid st d r).frame p h

@[simp] theorem finish_mode (s : State) (cid st d r : Nat) : (finish s cid st d r).mode = s.mode :=
  finish_frame s cid st d r .mode (by decide)
@[simp] theorem finish_ident (s : State) (cid st d r : Nat) : (finish s cid st d r).ident = s.ident :=
  finish_frame s cid st d r .ident (by decide)
@[simp] theorem finish_pins (s : State) (cid st d r : Nat) : (finish s cid st d r).pins = s.pins :=
  finish_frame s cid st d r .pins (by decide)
@[simp] theorem finish_clk (s : State) (cid st d r : Nat) : (finish s cid st d r).clk = s.clk :=
  finish_frame s cid st d r .clk (by decide)
@[simp] theorem finish_sec (s : State) (cid st d r : Nat) : (finish s cid st d r).sec = s.sec :=
  finish_frame s cid st d r .sec (by decide)
@[simp] theorem finish_fatal (s : State) (cid st d r : Nat) : (finish s cid st d r).fatal = s.fatal :=
  finish_frame s cid st d r .fatal (by decide)
@[simp] theorem finish_pcie (s : State) (cid st d r : Nat) : (finish s cid st d r).pcie = s.pcie :=
  finish_frame s cid st d r .pcie (by decide)
@[simp] theorem finish_memc (s : State) (cid st d r : Nat) : (finish s cid st d r).memc = s.memc :=
  finish_frame s cid st d r .memc (by decide)
@[simp] theorem finish_cache (s : State) (cid st d r : Nat) : (finish s cid st d r).cache = s.cache :=
  finish_frame s cid st d r .cache (by decide)
@[simp] theorem finish_vertex (s : State) (cid st d r : Nat) : (finish s cid st d r).vertex = s.vertex :=
  finish_frame s cid st d r .vertex (by decide)
@[simp] theorem finish_test (s : State) (cid st d r : Nat) : (finish s cid st d r).test = s.test :=
  finish_frame s cid st d r .test (by decide)
@[simp] theorem finish_latches (s : State) (cid st d r : Nat) : (finish s cid st d r).latches = s.latches :=
  finish_frame s cid st d r .latches (by decide)
@[simp] theorem finish_funcs (s : State) (cid st d r : Nat) : (finish s cid st d r).funcs = s.funcs :=
  finish_frame s cid st d r .funcs (by decide)
@[simp] theorem finish_nextCid (s : State) (cid st d r : Nat) : (finish s cid st d r).nextCid = s.nextCid :=
  finish_frame s cid st d r .nextCid (by decide)
@[simp] theorem finish_parts (s : State) (cid st d r : Nat) : (finish s cid st d r).parts = s.parts :=
  finish_frame s cid st d r .parts (by decide)
@[simp] theorem finish_prisms (s : State) (cid st d r : Nat) : (finish s cid st d r).prisms = s.prisms :=
  finish_frame s cid st d r .prisms (by decide)
@[simp] theorem finish_facets (s : State) (cid st d r : Nat) : (finish s cid st d r).facets = s.facets :=
  finish_frame s cid st d r .facets (by decide)
@[simp] theorem finish_share (s : State) (cid st d r : Nat) : (finish s cid st d r).share = s.share :=
  finish_frame s cid st d r .share (by decide)
@[simp] theorem finish_shareNext (s : State) (cid st d r : Nat) : (finish s cid st d r).shareNext = s.shareNext :=
  finish_frame s cid st d r .shareNext (by decide)
@[simp] theorem finish_bwReqs (s : State) (cid st d r : Nat) : (finish s cid st d r).bwReqs = s.bwReqs :=
  finish_frame s cid st d r .bwReqs (by decide)
@[simp] theorem finish_streams (s : State) (cid st d r : Nat) : (finish s cid st d r).streams = s.streams :=
  finish_frame s cid st d r .streams (by decide)
@[simp] theorem finish_streamGens (s : State) (cid st d r : Nat) : (finish s cid st d r).streamGens = s.streamGens :=
  finish_frame s cid st d r .streamGens (by decide)
@[simp] theorem finish_sinkWrites (s : State) (cid st d r : Nat) : (finish s cid st d r).sinkWrites = s.sinkWrites :=
  finish_frame s cid st d r .sinkWrites (by decide)
@[simp] theorem finish_models (s : State) (cid st d r : Nat) : (finish s cid st d r).models = s.models :=
  finish_frame s cid st d r .models (by decide)
@[simp] theorem finish_modelGens (s : State) (cid st d r : Nat) : (finish s cid st d r).modelGens = s.modelGens :=
  finish_frame s cid st d r .modelGens (by decide)
@[simp] theorem finish_t2 (s : State) (cid st d r : Nat) : (finish s cid st d r).t2 = s.t2 :=
  finish_frame s cid st d r .t2 (by decide)
@[simp] theorem finish_t1 (s : State) (cid st d r : Nat) : (finish s cid st d r).t1 = s.t1 :=
  finish_frame s cid st d r .t1 (by decide)
@[simp] theorem finish_ports (s : State) (cid st d r : Nat) : (finish s cid st d r).ports = s.ports :=
  finish_frame s cid st d r .ports (by decide)
@[simp] theorem finish_ranges (s : State) (cid st d r : Nat) : (finish s cid st d r).ranges = s.ranges :=
  finish_frame s cid st d r .ranges (by decide)
@[simp] theorem finish_hostBase (s : State) (cid st d r : Nat) : (finish s cid st d r).hostBase = s.hostBase :=
  finish_frame s cid st d r .hostBase (by decide)
@[simp] theorem finish_mem (s : State) (cid st d r : Nat) : (finish s cid st d r).mem = s.mem :=
  finish_frame s cid st d r .mem (by decide)
@[simp] theorem finish_poison (s : State) (cid st d r : Nat) : (finish s cid st d r).poison = s.poison :=
  finish_frame s cid st d r .poison (by decide)
@[simp] theorem finish_hostMem (s : State) (cid st d r : Nat) : (finish s cid st d r).hostMem = s.hostMem :=
  finish_frame s cid st d r .hostMem (by decide)
@[simp] theorem finish_hostPoison (s : State) (cid st d r : Nat) : (finish s cid st d r).hostPoison = s.hostPoison :=
  finish_frame s cid st d r .hostPoison (by decide)
@[simp] theorem finish_hostBroken (s : State) (cid st d r : Nat) : (finish s cid st d r).hostBroken = s.hostBroken :=
  finish_frame s cid st d r .hostBroken (by decide)
@[simp] theorem finish_pcieReads (s : State) (cid st d r : Nat) : (finish s cid st d r).pcieReads = s.pcieReads :=
  finish_frame s cid st d r .pcieReads (by decide)
@[simp] theorem finish_queueCause (s : State) (cid st d r : Nat) : (finish s cid st d r).queueCause = s.queueCause :=
  finish_frame s cid st d r .queueCause (by decide)
@[simp] theorem finish_queueEn (s : State) (cid st d r : Nat) : (finish s cid st d r).queueEn = s.queueEn :=
  finish_frame s cid st d r .queueEn (by decide)
@[simp] theorem finish_classes (s : State) (cid st d r : Nat) : (finish s cid st d r).classes = s.classes :=
  finish_frame s cid st d r .classes (by decide)
@[simp] theorem finish_ftqs (s : State) (cid st d r : Nat) : (finish s cid st d r).ftqs = s.ftqs :=
  finish_frame s cid st d r .ftqs (by decide)
@[simp] theorem finish_sent (s : State) (cid st d r : Nat) : (finish s cid st d r).sent = s.sent :=
  finish_frame s cid st d r .sent (by decide)
@[simp] theorem finish_freeCtr (s : State) (cid st d r : Nat) : (finish s cid st d r).freeCtr = s.freeCtr :=
  finish_frame s cid st d r .freeCtr (by decide)
@[simp] theorem finish_pending (s : State) (cid st d r : Nat) : (finish s cid st d r).pending = s.pending :=
  finish_frame s cid st d r .pending (by decide)

/-! ### Units read back -/

@[simp] theorem State.part_modPart (s : State) (k : Nat) (g : _) : (s.modPart k g).part k = g (s.part k) :=
  tabGet_mod_self ..

theorem State.part_modPart_other {s : State} {k j : Nat} {g : _} (h : j ≠ k) : (s.modPart k g).part j = s.part j :=
  tabGet_set_other h

@[simp] theorem State.prism_modPrism (s : State) (k : Nat) (g : _) : (s.modPrism k g).prism k = g (s.prism k) :=
  tabGet_mod_self ..

theorem State.prism_modPrism_other {s : State} {k j : Nat} {g : _} (h : j ≠ k) : (s.modPrism k g).prism j = s.prism j :=
  tabGet_set_other h

@[simp] theorem State.facet_modFacet (s : State) (k : Nat) (g : _) : (s.modFacet k g).facet k = g (s.facet k) :=
  tabGet_mod_self ..

theorem State.facet_modFacet_other {s : State} {k j : Nat} {g : _} (h : j ≠ k) : (s.modFacet k g).facet j = s.facet j :=
  tabGet_set_other h

@[simp] theorem State.stream_modStream (s : State) (k : Nat) (g : _) : (s.modStream k g).stream k = g (s.stream k) :=
  tabGet_mod_self ..

theorem State.stream_modStream_other {s : State} {k j : Nat} {g : _} (h : j ≠ k) : (s.modStream k g).stream j = s.stream j :=
  tabGet_set_other h

@[simp] theorem State.port_modPort (s : State) (k : Nat) (g : _) : (s.modPort k g).port k = g (s.port k) :=
  tabGet_mod_self ..

theorem State.port_modPort_other {s : State} {k j : Nat} {g : _} (h : j ≠ k) : (s.modPort k g).port j = s.port j :=
  tabGet_set_other h

@[simp] theorem State.model_modModel (s : State) (k : Nat) (g : _) : (s.modModel k g).model k = g (s.model k) :=
  tabGet_mod_self ..

theorem State.model_modModel_other {s : State} {k j : Nat} {g : _} (h : j ≠ k) : (s.modModel k g).model j = s.model j :=
  tabGet_set_other h

@[simp] theorem State.func_modFunc (s : State) (k : Nat) (g : _) : (s.modFunc k g).func k = g (s.func k) :=
  tabGet_mod_self ..

theorem State.func_modFunc_other {s : State} {k j : Nat} {g : _} (h : j ≠ k) : (s.modFunc k g).func j = s.func j :=
  tabGet_set_other h

@[simp] theorem State.ring_modRing (s : State) (f r : Nat) (g : _) : (s.modRing f r g).ring f r = g (s.ring f r) :=
  tabGet_mod_self ..

/-- A ring pair keeps what it holds when another changes: the key of a pair is 16 * f + r. -/
theorem State.ring_modRing_other {s : State} {f r h q : Nat} {g : _} (n : 16 * h + q ≠ 16 * f + r) :
    (s.modRing f r g).ring h q = s.ring h q :=
  tabGet_set_other n

end Sys2Proof.Machine
end

