-- ==== Sys2Proof/Machine/FabPacket.lean ====
section
/-! DEFINITION. The bytes of the fabric's requests and responses (R5, R370): the 32-byte header, written and
read. -/

namespace Sys2Proof.Machine

/-- The 32-byte header of a request or response of a TYPE (R370). -/
def fabBytes (type : Nat) (h : FabHdr) : Bytes :=
  toLE 1 type ++ toLE 1 (h.vc + 2 ^ 4 * h.hops) ++ toLE 2 h.source ++ toLE 2 h.dest ++ toLE 1 h.minor ++ toLE 1 h.status ++
  toLE 4 h.tag ++ toLE 4 h.length ++ toLE 8 h.address ++ toLE 4 h.sinkId ++ toLE 2 h.generation ++
  toLE 2 (b2n h.sink + 2 * b2n h.poison)

/-- TYPE and header of the bytes of a request or response; reserved bits are ignored (R12, R370). -/
def fabParse (b : Bytes) : Nat × FabHdr :=
  (rd b 0 1,
   { vc := rd b 1 1 % 4, hops := rd b 1 1 / 2 ^ 4, source := rd b 2 2 % 2 ^ 10, dest := rd b 4 2 % 2 ^ 10
     minor := rd b 6 1, status := rd b 7 1, tag := rd b 8 4, length := rd b 12 4
     address := if rd b 0 1 = 1 ∨ rd b 0 1 = 2 then rd b 16 8 % 2 ^ 52 else rd b 16 8
     sinkId := rd b 24 4, generation := rd b 28 2
     sink := bitAt (rd b 30 2) 0, poison := bitAt (rd b 30 2) 1 })

/-- The bytes of a packet: the header, in a FETCH_OBJECT the identity, then the data (R370). -/
def fabPacket (type : Nat) (h : FabHdr) (data : Bytes) : Bytes := fabBytes type h ++ data

end Sys2Proof.Machine
end

