-- ==== Sys2Proof/Machine/PortPins.lean ====
section
/-! DEFINITION. The pins of the audio ports, bit by bit (R320 to R325, R330, R333, R334): what the state of a
port drives on BCLK, FSYNC, SDO, START_OUT and AMCLK in each BCLK period of the frame in progress, and the
word that the bits sampled on SDI spell. -/

namespace Sys2Proof.Machine

/-- What a pin carries: a level that the device drives, nothing, or an input. -/
inductive PinLevel
  | low
  | high
  | highZ
  | input
deriving DecidableEq, Repr

/-- A driven level. -/
def PinLevel.of (b : Bool) : PinLevel := if b then .high else .low

/-- The edges of BCLK. Period b of a frame begins at a falling edge, after which the port changes SDO, FSYNC and
START_OUT; at the rising edge in its middle the port samples SDI, FSYNC and START_IN (R324). -/
inductive BclkEdge
  | falling
  | rising
deriving DecidableEq, Repr

/-- BCLK periods of a slot. -/
def Port.slotBits (q : Port) : Nat := widthBits q.width.toNat
/-- B: BCLK periods of a frame (R323). -/
def Port.frameBits (q : Port) : Nat := q.slots.toNat * q.slotBits

/-! ### AMCLK (R320, R322) -/

/-- The clock pin of a group: an output of a frequency in Hz, an input, or high impedance. -/
inductive Amclk
  | output (hz : Nat)
  | input
  | highZ
deriving DecidableEq, Repr

/-- AMCLKg. -/
def amclk (s : State) (g : Nat) : Amclk :=
  let ps := ((upTo 4).map (4 * g + ·)).filter fun p => (s.port p).configured
  match ps.find? fun p => (s.port p).mclkOut with
  | some p => .output (mclkHz (s.port p).rate.toNat)
  | none => if ps.any fun p => (s.port p).clock == 1 then .input else .highZ

/-! ### BCLK and FSYNC (R321, R323, R334) -/

/-- The port drives its BCLK and FSYNC pins: a master does, and a follower of a master copies its leader's. A slave
takes both from its pins, a follower of a slave ignores them (R321, R322). -/
def drivesClocks (s : State) (p : Nat) : Bool := (s.port (leaderOf s p)).clock != 2

/-- The active edge of FSYNC rises (R323). -/
def activeRises (q : Port) : Bool :=
  if q.format = 0 then false else if q.format = 1 then true else !q.fsync.getLsbD 1

/-- BCLK periods from the active FSYNC edge to the frame boundary (R323). -/
def boundaryDelay (q : Port) : Nat := if q.format = 0 || (q.format = 2 && q.fsync.getLsbD 0) then 1 else 0

/-- FSYNC of a master in BCLK period b of a frame (R323). -/
def fsyncHigh (q : Port) (b : Nat) : Bool :=
  let n := q.frameBits
  if q.format = 0 then decide (q.slotBits ≤ (b + 1) % n)
  else if q.format = 1 then decide (b < q.slotBits)
  else decide ((b + boundaryDelay q) % n = 0) != q.fsync.getLsbD 1

/-- A pulse of FSYNC that a slave accepts: of one BCLK period up to one less than the frame (R323). -/
def pulseOk (q : Port) (periods : Nat) : Bool := decide (1 ≤ periods ∧ periods < q.frameBits)

/-- The BCLK pin of a port after an edge; stopped clocks leave it low (R321, R334). -/
def bclkPin (s : State) (p : Nat) (e : BclkEdge) : PinLevel :=
  if !(s.port p).configured then .highZ
  else if !drivesClocks s p then .input
  else .of (clocksOn s p && e == .rising)

/-- The FSYNC pin of a port in BCLK period b; stopped clocks leave it inactive, at its level before an active edge
(R321, R323, R334, log 83). -/
def fsyncPin (s : State) (p b : Nat) : PinLevel :=
  let q := s.port (leaderOf s p)
  if !(s.port p).configured then .highZ
  else if !drivesClocks s p then .input
  else .of (if clocksOn s p then fsyncHigh q b else !activeRises q)

/-! ### Data and START_OUT (R323 to R325, R333) -/

/-- The SDO pin in BCLK period b: the bits of each slot's word, most significant first (R323, R324); an idle or
holding port drives nothing (R330, log 83). -/
def sdoPin (q : Port) (b : Nat) : PinLevel :=
  match q.sdo.getD (b / q.slotBits) none with
  | none => .highZ
  | some w => .of (w.testBit (q.slotBits - 1 - b % q.slotBits))

/-- The word that the bits of a slot spell, most significant first (R324). -/
def wordOfBits (bs : List Bool) : Nat := bs.foldl (fun a b => 2 * a + b2n b) 0

/-- The words that the bits of a frame on SDI, sampled at the rising edges of BCLK, spell by slot: the `received`
of PORT_FRAME_BOUNDARY (R324, R325). -/
def sdiWords (q : Port) (bits : List Bool) : List Int :=
  (upTo q.slots.toNat).map fun k => (wordOfBits ((bits.drop (k * q.slotBits)).take q.slotBits) : Int)

/-- START_OUT in BCLK period b of the frame in progress (R333). -/
def startOutHigh (q : Port) (b : Nat) : Bool :=
  q.startOut && decide (q.frameBits / 2 ≤ b ∧ b < q.frameBits / 2 + 8)

/-- The pins that a port drives. -/
structure PortPins where
  bclk : PinLevel
  fsync : PinLevel
  sdo : PinLevel
  startOut : Bool
deriving DecidableEq, Repr

/-- The pins of a port after an edge of BCLK in period b of the frame in progress: only BCLK itself changes at a
rising edge (R324). -/
def portPins (s : State) (p b : Nat) (e : BclkEdge) : PortPins :=
  { bclk := bclkPin s p e, fsync := fsyncPin s p b, sdo := sdoPin (s.port p) b, startOut := startOutHigh (s.port p) b }

/-- The inputs SDI, FSYNC of a slave and START_IN are sampled at this edge (R324). -/
def samplesInputs (e : BclkEdge) : Bool := e == .rising

end Sys2Proof.Machine
end

