-- ==== Sys2Proof/Tests/Slice0.lean ====
section
/-! SUPPORT. Tests: worked examples of the spec, the smoke tests of well-formedness, and states that meet the
hypotheses of each statement: `witness_<Statement>`. -/

set_option Elab.async false

namespace Sys2Proof.Tests

open Sys2Proof.Machine

/-! ### A device, and commands on its ring -/

/-- The public key of the private key 2, which the tests take for the vendor's and the owner's. -/
def key2 : Bytes :=
  toBE 48 0x56CEFD60D7C87C000D58EF57FA73BA4D9C0DFA08C08A7331495C2E1DA3F2BD5231B7E7E6CC8189F668535CE0F8EAF1BD ++
  toBE 16 0x6DE84C182F6C8E716F780D3A970A23C3

/-- Its digest. -/
def vendor : Bytes := toBE 32 0xDAD451EC36B06F8A16EFB4867DEF22DB0AE251FA143931B0067192998C48517E

/-- A device that is READY: partition 1 owns prism 1, function 0 owns the first GiB of memory. -/
def up : State :=
  { mode := .ready
    ident := { number := 5, numberValid := true, cycleCount := 10000000 }
    pins := { porLow := false }
    clk := { refclkOk := true, rootLocked := true, stage := 4, ready := true }
    pcie := { released := true }
    sec := { made := { secret := [1], vendorRom := vendor, vendorFuse := vendor, certificates := [2] } }
    memc := { trained := true, installedGib := 64 }
    rings := [(0, { sqEnable := true, cqEnable := true })]
    parts := [(1, { valid := true, prisms := 2 })]
    ranges := [(0, { valid := true, size := 512 })]
    nextCid := 10 }

/-- A packet: header fields, then parameters. -/
def packet (op flags part object : Nat) (params : Bytes) : Bytes :=
  toLE 1 op ++ toLE 1 flags ++ toLE 2 (1 + params.length / 16) ++ toLE 2 7 ++ toLE 2 part ++ toLE 4 object ++ toLE 4 9 ++
  params

/-- Command 3 on ring 0 of function 0, with COMPLETION set. -/
def cmd (op part object : Nat) (params : Bytes) : Cmd :=
  { cid := 3, fn := 0, ring := 0, cq := 0, accepted := 2, packet := packet op 2 part object params }

/-- The same with FORCE. -/
def forced (op part object : Nat) (params : Bytes) : Cmd :=
  { cid := 3, fn := 0, ring := 0, cq := 0, accepted := 2, packet := packet op 10 part object params }

/-- A command has been accepted. -/
def on (s : State) (c : Cmd) : State := { s with cmds := s.cmds ++ [c] }

/-- An ADDR of LPDDR5X of this device. -/
def lp (a : Nat) : Bytes := toLE 8 (2 ^ 62 + a)

/-- Memory holds bytes from an address on. -/
def put (s : State) (a : Nat) (b : Bytes) : State := { s with mem := writeBytes s.mem a b }

/-- Every table and memory is canonical, as a Bool. -/
def canonical (s : State) : Bool :=
  tabWf {} s.funcs && tabWf {} s.rings && tabWf {} s.parts && tabWf {} s.prisms && tabWf {} s.facets &&
  tabWf {} s.streams && tabWf 0 s.streamGens && tabWf {} s.models && tabWf 0 s.modelGens && tabWf {} s.ports &&
  tabWf {} s.ranges && tabWf 0 s.hostBase && tabWf {} s.classes && tabWf {} s.ftqs && Memory.wf s.mem &&
  tabWf false s.poison && Memory.wf s.hostMem && tabWf false s.hostPoison && tabWf false s.hostBroken &&
  decide ((s.cmds.map (·.cid)).Nodup ∧ ∀ c ∈ s.cmds, c.cid < s.nextCid)

theorem canon_of_canonical {s : State} (h : canonical s = true) : s.Canon := by
  simp only [canonical, Bool.and_eq_true] at h
  obtain ⟨⟨⟨⟨⟨⟨⟨⟨⟨⟨⟨⟨⟨⟨⟨⟨⟨⟨⟨a, b⟩, c⟩, d⟩, e⟩, f⟩, g⟩, h⟩, i⟩, j⟩, k⟩, l⟩, m⟩, n⟩, o⟩, p⟩, q⟩, r⟩, t⟩, u⟩ := h
  exact ⟨a, b, c, d, e, f, g, h, i, j, k, l, m, n, o, p, q, r, t, of_decide_eq_true u⟩

/-! ### The step and the invariants -/

theorem witness_StepRunsFrontCommand : ({ up with pending := [.nop 1, .probeTimer] } : State).pending = [.nop 1, .probeTimer] := rfl

theorem witness_IdleStepCountsOneCycle : up.pending = [] ∧ State.reset.live = false := by decide

/-- Reset steps, and so does a device in service. -/
theorem witness_StepKeepsCanonicalForm : up.Canon ∧ StepsOn up ∧ State.reset.Canon ∧ StepsOn State.reset :=
  ⟨canon_of_canonical (by decide +kernel), ⟨_, rfl⟩, canon_of_canonical (by decide +kernel), ⟨_, rfl⟩⟩

/-- No function of a state without interrupt pages asserts. -/
theorem armedQuiet_of_no_pages {s : State} (h : s.funcs = []) : ArmedQuiet s := by
  intro f _
  have e : (s.func f).summaryEn = 0 := by simp [State.func, h, tabGet]
  simp [asserting, e]

theorem witness_StepKeepsArmedQuiet : ArmedQuiet up ∧ StepsOn up := ⟨armedQuiet_of_no_pages rfl, ⟨_, rfl⟩⟩

theorem witness_FatalStopsEverything :
    ∃ t, exec (.kernelStart 0) { up with mode := .fatal } = .next t ∧ ({ up with mode := .fatal } : State).mode = .fatal :=
  ⟨_, rfl, rfl⟩

theorem witness_EveryCommandAnswers :
    Instr.wf (.linkDown 7) = true ∧ Instr.wf (.linkDown 8) = false ∧ Instr.wf (.portBind 3) = true := by decide

theorem witness_PacketRowWaitsForItsCommand : ∀ c, ¬ Ready up 3 0x00 c := fun _ h => nomatch h.1

/-! ### Management commands -/

theorem witness_NopCompletesWithOk : Ready (on up (cmd 0x00 1 0 [])) 3 0x00 (cmd 0x00 1 0 []) := by decide +kernel

/-- Command 2, a NOP on the same ring, is accepted before a FENCE; command 4 after it. -/
def fenced (scope : Nat) : State :=
  { up with cmds := [{ cmd 0x00 1 0 [] with cid := 2 }, cmd 0x01 1 0 (toLE 1 scope ++ zeros 15), { cmd 0x00 1 0 [] with cid := 4 }] }

theorem witness_FenceCompletesAfterItsScope :
    (Ready (on up (cmd 0x01 1 0 (toLE 1 1 ++ zeros 15))) 3 0x01 (cmd 0x01 1 0 (toLE 1 1 ++ zeros 15)) ∧
      (cmd 0x01 1 0 (toLE 1 1 ++ zeros 15)).only [(16, 1)] = true ∧ (cmd 0x01 1 0 (toLE 1 1 ++ zeros 15)).f 16 1 ≤ 1) ∧
    (cmd 0x01 1 0 (toLE 1 0 ++ zeros 15)).opcode = 0x01 ∧ { cmd 0x00 1 0 [] with cid := 2 } ∈ (fenced 0).cmds ∧
    cmd 0x01 1 0 (toLE 1 0 ++ zeros 15) ∈ (fenced 0).cmds ∧
    Ready (on up (cmd 0x01 1 0 (toLE 1 2 ++ zeros 15))) 3 0x01 (cmd 0x01 1 0 (toLE 1 2 ++ zeros 15)) ∧
    1 < (cmd 0x01 1 0 (toLE 1 2 ++ zeros 15)).f 16 1 ∧ (cmd 0x01 1 0 (toLE 2 256 ++ zeros 14)).only [(16, 1)] = false := by
  decide +kernel

/-- A held FENCE of scope 1 with a NOP of another ring before it, and a held NOP after a FENCE of its ring. -/
def fenceHeld : State :=
  { up with
    cmds := [{ cmd 0x00 1 0 [] with cid := 2, ring := 1, accepted := 0 }, { cmd 0x01 1 0 (toLE 1 1 ++ zeros 15) with held := true },
             { cmd 0x00 1 0 [] with cid := 4, held := true }] }

theorem witness_FenceCompletesAfterItsScope_held :
    (∃ e ∈ fenceHeld.cmds, ∃ c, fenceHeld.cmd 3 = some c ∧ c.held = true ∧ e.before c = true ∧ e.fn = c.fn ∧
      e.orphaned = false ∧ c.opcode = 0x01 ∧ c.f 16 1 = 1) ∧
    ∃ e ∈ fenceHeld.cmds, ∃ c, fenceHeld.cmd 4 = some c ∧ c.held = true ∧ e.before c = true ∧ e.fn = c.fn ∧
      e.orphaned = false ∧ e.opcode = 0x01 ∧ e.ring = c.ring :=
  ⟨⟨{ cmd 0x00 1 0 [] with cid := 2, ring := 1, accepted := 0 }, .head _, _, rfl, by decide +kernel⟩,
    ⟨{ cmd 0x01 1 0 (toLE 1 1 ++ zeros 15) with held := true }, .tail _ (.head _), _, rfl, by decide +kernel⟩⟩

theorem witness_PowerQueryReturnsPowerState : Ready (on up (cmd 0x61 1 0 [])) 3 0x61 (cmd 0x61 1 0 []) := by decide +kernel

/-- A POWER_CAP_SET of `w` watts. -/
def capSet (w : Nat) : Cmd := cmd 0x60 0xFFFF 0 (toLE 2 w ++ zeros 14)

theorem witness_PowerCapSetLeavesTheCap :
    Ready (on up (capSet 200)) 3 0x60 (capSet 200) ∧ (capSet 200).only [(16, 2)] = true ∧ 200 ≤ (capSet 200).f 16 2 ∧
    (capSet 650).f 16 2 ≤ 650 ∧ ∀ k < 128, partFloor (on up (capSet 200)) k ≤ (capSet 200).f 16 2 := by decide +kernel

/-- A device of which partition 0 owns every prism and holds one open stream of class LC. -/
def busyLc : State :=
  { up with parts := [(0, { valid := true, prisms := BitVec.allOnes 128 })], streams := [(0, { voice := [1], lc := true })] }

theorem witness_PowerCapSet_below_floor :
    Ready (on busyLc (capSet 200)) 3 0x60 (capSet 200) ∧ (capSet 200).force = false ∧
    (capSet 200).f 16 2 < partFloor (on busyLc (capSet 200)) 0 ∧ ∀ j < 0, partFloor (on busyLc (capSet 200)) j ≤ 200 := by
  decide +kernel

/-- Parameters of a record to host address 0x1000 of `n` bytes. -/
def dest (n : Nat) : Bytes := toLE 8 0x1000 ++ toLE 4 n ++ zeros 4

theorem witness_QueriesStoreTheirRecords_device :
    Ready (on up (cmd 0x02 0xFFFF 0 (dest 64))) 3 0x02 (cmd 0x02 0xFFFF 0 (dest 64)) ∧
    (cmd 0x02 0xFFFF 0 (dest 64)).only [(16, 12)] = true ∧
    PlainDest (on up (cmd 0x02 0xFFFF 0 (dest 64))) 0 0x1000 64 (deviceRecord (on up (cmd 0x02 0xFFFF 0 (dest 64))) 0) := by
  decide +kernel

/-- A COUNTERS_READ of the one word at offset 0 into LPDDR5X. -/
def counters : Cmd := cmd 0x03 0xFFFF 0 (lp 0x40 ++ toLE 4 0 ++ toLE 4 1)

theorem witness_QueriesStoreTheirRecords_counters :
    Ready (on up counters) 3 0x03 counters ∧ counters.f 24 4 % 4 = 0 ∧ 1 ≤ counters.f 28 4 ∧
    counters.f 24 4 + 4 * counters.f 28 4 ≤ barBytes counters.fn ∧
    PlainDest (on up counters) 0 (counters.f 16 8) 4 (counterWords (begin' (on up counters) 3) 0 0 1) := by
  decide +kernel

/-- Partition 1 holds the registration 0 of an identity. -/
def withModel : State := { up with models := [(0, { part := 1, identity := [1] })] }

/-- The handle of registration 0 of partition 1. -/
def mh : Nat := 2 ^ 16 + 2 ^ 23

theorem witness_QueriesStoreTheirRecords_model :
    Ready (on withModel (cmd 0x25 1 mh (dest 64))) 3 0x25 (cmd 0x25 1 mh (dest 64)) ∧
    checkModel (on withModel (cmd 0x25 1 mh (dest 64))) 0 1 mh = none ∧
    (cmd 0x25 1 mh (dest 64)).only [(16, 12)] = true ∧
    PlainDest (on withModel (cmd 0x25 1 mh (dest 64))) 0 0x1000 64 (modelRecord (on withModel (cmd 0x25 1 mh (dest 64))) 1 0) := by
  decide +kernel

theorem witness_QueriesStoreTheirRecords_fabric :
    Ready (on up (cmd 0x53 0xFFFF 0 (zeros 16))) 3 0x53 (cmd 0x53 0xFFFF 0 (zeros 16)) ∧
    (cmd 0x53 0xFFFF 0 (zeros 16)).only [(16, 8)] = true ∧ (cmd 0x53 0xFFFF 0 (zeros 16)).f 16 8 = 0 ∧
    (cmd 0x53 0xFFFF 0 (toLE 8 0x1000 ++ zeros 8)).only [(16, 8)] = true ∧
    Ready (on up (cmd 0x53 0xFFFF 0 (toLE 8 0x1000 ++ zeros 8))) 3 0x53 (cmd 0x53 0xFFFF 0 (toLE 8 0x1000 ++ zeros 8)) ∧
    PlainDest (on up (cmd 0x53 0xFFFF 0 (toLE 8 0x1000 ++ zeros 8))) 0 0x1000 128 (toLE 128 0) := by
  decide +kernel

/-- An ATTEST of a nonce of zeros to host address 0x1000. -/
def attestCmd : Cmd := cmd 0x70 0xFFFF 0 (zeros 32 ++ toLE 8 0x1000 ++ toLE 4 480 ++ zeros 4)

theorem witness_QueriesStoreTheirRecords_attest :
    Ready (on up attestCmd) 3 0x70 attestCmd ∧ attestCmd.only [(16, 44)] = true ∧
    PlainDest (on up attestCmd) 0 0x1000 480 (report (on up attestCmd) (zeros 32)) := by
  decide +kernel

/-- A lattice table of one best-effort entry: period 1, tick 0, budget 1, group 1, one step, one stream. -/
def latticeBytes : Bytes :=
  toLE 2 1 ++ zeros 2 ++ toLE 2 1 ++ zeros 10 ++ toLE 2 0 ++ toLE 2 0 ++ toLE 4 1 ++ toLE 2 1 ++ toLE 2 1 ++ toLE 2 1 ++ zeros 18

/-- Parameters that name `n` bytes of LPDDR5X at address 0. -/
def source (n k : Nat) : Bytes := lp 0 ++ toLE k n ++ zeros (8 - k)

theorem witness_LoadsTakeTheirStructure_lattice :
    Ready (on (put up 0 latticeBytes) (cmd 0x14 1 0 (source 48 4))) 3 0x14 (cmd 0x14 1 0 (source 48 4)) ∧
    (cmd 0x14 1 0 (source 48 4)).only [(16, 8), (24, 4)] = true ∧ (cmd 0x14 1 0 (source 48 4)).f 24 4 = 48 ∧
    PlainRead (on (put up 0 latticeBytes) (cmd 0x14 1 0 (source 48 4))) 0 (2 ^ 62) 48 latticeBytes ∧
    rd latticeBytes 0 2 = 1 ∧ latticeOk (put up 0 latticeBytes) (up.part 1) latticeBytes = true := by
  decide +kernel

/-- A share table whose entries are all unused but one: 1 of 1,024 of resource 0 for partition 1. -/
def shareBytes : Bytes := [0, 1, 1, 0, 0, 0, 0, 0] ++ (upTo 504).map fun i => if i % 8 = 0 then 0xFF else 0

theorem witness_LoadsTakeTheirStructure_share :
    Ready (on (put up 0 shareBytes) (cmd 0x16 0xFFFF 0 (lp 0 ++ zeros 8))) 3 0x16 (cmd 0x16 0xFFFF 0 (lp 0 ++ zeros 8)) ∧
    (cmd 0x16 0xFFFF 0 (lp 0 ++ zeros 8)).only [(16, 8)] = true ∧
    PlainRead (on (put up 0 shareBytes) (cmd 0x16 0xFFFF 0 (lp 0 ++ zeros 8))) 0 (2 ^ 62) 512 shareBytes ∧
    shareOk (put up 0 shareBytes) shareBytes = true := by
  decide +kernel

theorem witness_LoadsTakeTheirStructure_firmware :
    Ready (on up (cmd 0x71 0xFFFF 0 (source 1 8))) 3 0x71 (cmd 0x71 0xFFFF 0 (source 1 8)) ∧
    (cmd 0x71 0xFFFF 0 (source 1 8)).only [(16, 16)] = true ∧ (cmd 0x71 0xFFFF 0 (source 1 8)).f 24 8 = 1 ∧
    up.sec.staging = none ∧ up.sec.activating = none ∧
    PlainRead (on up (cmd 0x71 0xFFFF 0 (source 1 8))) 0 (2 ^ 62) 1 [0] := by
  decide +kernel

/-- The block that authorises key 2 in row 0, signed by key 2. -/
def keyBlock : Bytes :=
  toBE 48 0x3155414B0000000001AA2DDD12C08CFE167B19106C17DD50AD0CFC80BEA7F7C6B90DD6C3E90252D80000000000000000 ++
  toBE 48 0x0000000000000000000000000000000056CEFD60D7C87C000D58EF57FA73BA4D9C0DFA08C08A7331495C2E1DA3F2BD52 ++
  toBE 48 0x31B7E7E6CC8189F668535CE0F8EAF1BD6DE84C182F6C8E716F780D3A970A23C30C719C6076C2E91DB45A3327FCECD665 ++
  toBE 48 0xFF5DD328C4FA1FB51DA6BC994210ED744D0997BF5B7E0F4187C3DDE557621BBBD118130887F097405D7A28F23CF23936

/-- The block that authorises both policy bits, signed by key 2. -/
def policyBlock : Bytes :=
  toBE 48 0x3155414B0100030001AA2DDD12C08CFE167B19106C17DD50AD0CFC80BEA7F7C6B90DD6C3E90252D80000000000000000 ++
  toBE 48 0x0000000000000000000000000000000056CEFD60D7C87C000D58EF57FA73BA4D9C0DFA08C08A7331495C2E1DA3F2BD52 ++
  toBE 48 0x31B7E7E6CC8189F668535CE0F8EAF1BD6DE84C182F6C8E716F780D3A970A23C38D1354D965E1F9D61DB003C8E8F4911D ++
  toBE 48 0x55A499CD907D07BC66D4BF2AE037711EF748721866BEAEC696DFFD7A0F5CF4965EECC35B220A01BC2B17709A62ADCD3D

/-- KEY_PROVISION of the key 2 from LPDDR5X address 0. -/
def provisionKey : Cmd := cmd 0x73 0xFFFF 0 (zeros 8 ++ lp 0 ++ vendor)

theorem witness_KeyProvisionNeedsItsBlock_key :
    Ready (on (put up 0 keyBlock) provisionKey) 3 0x73 provisionKey ∧
    provisionKey.only [(16, 1), (20, 44)] = true ∧
    PlainRead (on (put up 0 keyBlock) provisionKey) 0 (2 ^ 62) 192 keyBlock ∧
    provisionKey.f 16 1 = 0 ∧ up.sec.ownerRows.length < 4 ∧
    authorises up provisionKey keyBlock = true ∧ rd keyBlock 5 1 = up.sec.ownerRows.length := by
  decide +kernel

/-- KEY_PROVISION with OPERATION 2, and of a key where four are programmed. -/
def provisionBad : Cmd := cmd 0x73 0xFFFF 0 ([2] ++ zeros 47)
def fullKeys : State := { up with sec := { up.sec with ownerRows := List.replicate 4 vendor } }

theorem witness_KeyProvisionNeedsItsBlock_refused :
    Ready (on up provisionBad) 3 0x73 provisionBad ∧ 1 < provisionBad.f 16 1 ∧
    Ready (on fullKeys provisionKey) 3 0x73 provisionKey ∧ 4 ≤ fullKeys.sec.ownerRows.length ∧
    PlainRead (on (put up 0 (zeros 192)) provisionKey) 0 (2 ^ 62) 192 (zeros 192) ∧
    authorises up provisionKey (zeros 192) = false ∧ owned up = false := by
  decide +kernel

/-- KEY_PROVISION of both policy bits. -/
def provisionPolicy : Cmd := cmd 0x73 0xFFFF 0 ([1, 0, 0, 0, 3, 0, 0, 0] ++ lp 0 ++ zeros 32)

/-- A device that key 2 owns, with the block for both policy bits at address 0. -/
def ownedUp : State := put { up with sec := { up.sec with ownerRows := [vendor] } } 0 policyBlock

theorem witness_KeyProvisionNeedsItsBlock_policy :
    Ready (on ownedUp provisionPolicy) 3 0x73 provisionPolicy ∧ provisionPolicy.only [(16, 1), (20, 44)] = true ∧
    PlainRead (on ownedUp provisionPolicy) 0 (2 ^ 62) 192 policyBlock ∧ provisionPolicy.f 16 1 = 1 ∧
    provisionPolicy.f 20 4 < 4 ∧ allZero (slice provisionPolicy.packet 32 32) = true ∧ owned ownedUp = true ∧
    authorises ownedUp provisionPolicy policyBlock = true ∧
    authorises ownedUp provisionPolicy (zeros 192) = false := by
  decide +kernel

/-! ### Frames -/

theorem witness_ManagementFrame : family (.nop 3) ∈ [Family.management, .power, .security] ∧ ∃ t, exec (.nop 3) up = .next t :=
  ⟨by decide, _, rfl⟩

theorem witness_PartitionAndStreamFrame :
    family (.streamOpen 3) ∈ [Family.partitions, .lattice, .models, .streams] ∧ ∃ t, exec (.streamOpen 3) up = .next t :=
  ⟨by decide, _, rfl⟩

theorem witness_PortFrame : family (.portArm 3) = .ports ∧ ∃ t, exec (.portArm 3) up = .next t := ⟨rfl, _, rfl⟩

theorem witness_RingAndRegisterFrame :
    family (.packetAccept 0 0) ∈ [Family.rings, .queues, .registers] ∧ ∃ t, exec (.packetAccept 0 0) up = .next t :=
  ⟨by decide, _, rfl⟩

theorem witness_KernelAndFabricFrame :
    family .probeTimer ∈ [Family.kernels, .fabric] ∧ ∃ t, exec .probeTimer up = .next t := ⟨by decide, _, rfl⟩

theorem witness_ResetFrame : family .perstN ∈ [Family.pcie, .resets] ∧ ∃ t, exec .perstN up = .next t :=
  ⟨by decide, _, rfl⟩

/-! ### Rings -/

/-- One completion entry has been written and not released. -/
def oneWritten : State := { up with rings := [(0, { sqEnable := true, cqEnable := true, cqTail := 1 })] }

theorem witness_DoorbellsMoveTheirRing :
    canonical oneWritten = true ∧ oneWritten.live = true ∧ inD3 oneWritten 0 = false ∧
    (255 : Word32).toNat % 2 ^ 20 < (oneWritten.ring 0 0).units ∧ (oneWritten.ring 0 0).units ≤ (256 : Word32).toNat % 2 ^ 20 ∧
    (1 : Word32).toNat % 2 ^ 19 < (oneWritten.ring 0 0).entries ∧
    (1 + (oneWritten.ring 0 0).entries - (oneWritten.ring 0 0).cqHead.toNat) % (oneWritten.ring 0 0).entries ≤
      ((oneWritten.ring 0 0).cqTail.toNat + (oneWritten.ring 0 0).entries - (oneWritten.ring 0 0).cqHead.toNat) %
        (oneWritten.ring 0 0).entries ∧
    (oneWritten.ring 0 0).entries ≤ (128 : Word32).toNat % 2 ^ 19 ∧ State.reset.live = false := by
  decide +kernel

theorem witness_RingsEnableInOrder :
    canonical up = true ∧ up.live = true ∧ inD3 up 0 = false ∧ (up.ring 0 1).cqEnable = false ∧
    (up.ring 0 1).sqEnable = false ∧ (up.ring 0 (up.ring 0 1).cqSelect.toNat).cqEnable = true ∧
    (up.ring 1 0).sqEnable = false ∧ (up.ring 1 (up.ring 1 0).cqSelect.toNat).cqEnable = false ∧
    (up.ring 0 0).sqEnable = true ∧ (up.ring 0 0).cqEnable = true := by
  decide +kernel

/-- The ring pair 0 is being reset and has no command left. -/
def resetting : State := { up with rings := [(0, { sqEnable := true, cqEnable := true, abort := true, reset := true })] }

theorem witness_AbortsEndTheirRing :
    canonical (on up (cmd 0 1 0 [])) = true ∧ inD3 up 0 = false ∧ (up.ring 0 0).abort = false ∧
    (∀ c ∈ (on up (cmd 0 1 0 [])).cmds, (on up (cmd 0 1 0 [])).cmd c.cid = some c) ∧
    cmd 0 1 0 [] ∈ (on up (cmd 0 1 0 [])).cmds ∧ (cmd 0 1 0 []).started = none ∧
    canonical resetting = true ∧ (resetting.ring 0 0).abort = true ∧ resetting.cmds = [] ∧
    (resetting.ring 0 0).reset = true ∧ resetting.live = true ∧ inD3 resetting 0 = false ∧
    (cmd 0 1 0 [] ∈ (on resetting (cmd 0 1 0 [])).cmds ∧ (cmd 0 1 0 []).orphaned = false) ∧
    { cmd 0 1 0 [] with started := some 0 } ∈ (on up { cmd 0 1 0 [] with started := some 0 }).cmds := by
  decide +kernel

/-- One unit at SQ_HEAD is here, with the bytes of a packet at SQ_BASE in host memory. -/
def oneUnit (b : Bytes) : State :=
  { up with rings := [(0, { sqEnable := true, cqEnable := true, sqTail := 1, unitsIn := 1 })], hostMem := writeBytes [] 0 b }

theorem witness_PacketsAreAccepted :
    canonical (oneUnit (packet 0 2 1 0 [])) = true ∧ accepting (oneUnit []) 0 0 = true ∧ accepting up 0 1 = false ∧
    ((oneUnit []).ring 0 0).here = 1 ∧ readUnits (oneUnit []) 0 ((oneUnit []).ring 0 0) 0 1 = (zeros 16, false) ∧
    rd (zeros 16) 2 2 = 0 ∧
    readUnits (oneUnit (packet 0 2 1 0 [])) 0 ((oneUnit (packet 0 2 1 0 [])).ring 0 0) 0 1 = (packet 0 2 1 0 [], false) ∧
    rd (packet 0 2 1 0 []) 2 2 = 1 ∧ cqRoom (oneUnit []) 0 ((oneUnit []).ring 0 0).cqSelect.toNat = true ∧
    rd (packet 0x14 2 1 0 (zeros 16)) 2 2 = 2 ∧ up.mode = .ready ∧
    packetCheck (oneUnit (packet 0 2 1 0 [])) (acceptedCmd (oneUnit (packet 0 2 1 0 [])) 0 0 1 (packet 0 2 1 0 [])) = none ∧
    admitStatus (oneUnit (packet 0 2 1 0 [])) (acceptedCmd (oneUnit (packet 0 2 1 0 [])) 0 0 1 (packet 0 2 1 0 [])) = none ∧
    (up.part 1).resetting = none ∧
    admitStatus (oneUnit (packet 0xFF 2 1 0 [])) (acceptedCmd (oneUnit []) 0 0 1 (packet 0xFF 2 1 0 [])) =
      some stInvalidOpcode ∧
    blocked (oneUnit (packet 0xFF 2 1 0 [])) (acceptedCmd (oneUnit []) 0 0 1 (packet 0xFF 2 1 0 [])) = false := by
  decide +kernel

/-- Behind an accepted FENCE a packet that fails a check waits for its turn. -/
theorem witness_PacketsAreAccepted_refused :
    admitStatus (on (oneUnit (packet 0xFF 2 1 0 [])) (cmd 1 1 0 (1 :: zeros 15)))
      (acceptedCmd (oneUnit []) 0 0 1 (packet 0xFF 2 1 0 [])) = some stInvalidOpcode ∧
    blocked (on (oneUnit (packet 0xFF 2 1 0 [])) (cmd 1 1 0 (1 :: zeros 15)))
      (acceptedCmd (oneUnit []) 0 0 1 (packet 0xFF 2 1 0 [])) = true := by
  decide +kernel

/-- The unit at SQ_HEAD is poisoned. -/
theorem witness_PacketsAreAccepted_poisoned :
    (readUnits { oneUnit [] with hostPoison := [(0, true)] } 0 ((oneUnit []).ring 0 0) 0 1).2 = true := by decide +kernel

/-- Command 3 is held and nothing holds it any more. -/
def heldNop : Cmd := { cmd 0 1 0 [] with held := true }

theorem witness_PacketsAreAccepted_held :
    (on up heldNop).live = true ∧ (on up heldNop).cmd 3 = some heldNop ∧ heldNop.held = true ∧
    blocked (on up heldNop) heldNop = false ∧ (cmd 0 1 0 []).held = false ∧ heldNop.refused = none ∧
    blocked (on up { heldNop with refused := some stInvalidOpcode }) { heldNop with refused := some stInvalidOpcode } =
      false := by
  decide +kernel

/-- The coalescer of ring 0 holds a full burst, and a signalled entry was written at cycle 0. -/
def fullCoalescer : State :=
  { up with rings := [(0, { sqEnable := true, cqEnable := true, coTime := 1, firstSignalled := some 0
                            coalescer := List.replicate 16 {} })] }

theorem witness_CompletionEntriesAreWritten :
    canonical fullCoalescer = true ∧ cqFlows fullCoalescer 0 0 = true ∧ (fullCoalescer.ring 0 0).burst = none ∧
    fullBurst (fullCoalescer.ring 0 0) ≤ (fullCoalescer.ring 0 0).coalescer.length ∧
    (∃ d, burstNext fullCoalescer 0 0 = some (fullBurst (fullCoalescer.ring 0 0), d) ∧ d ≤ fullCoalescer.now) ∧
    burstNext { up with rings := [(0, { burst := some (1, 2 ^ 40) })] } 0 0 = some (1, 2 ^ 40) ∧ up.now < 2 ^ 40 ∧
    (fullCoalescer.ring 0 0).firstSignalled = some 0 ∧ (fullCoalescer.ring 0 0).coTime ≠ 0 ∧
    0 + 1000 * (fullCoalescer.ring 0 0).coTime.toNat ≤ fullCoalescer.now ∧ cqFlows up 0 1 = false ∧
    (up.ring 0 0).coalescer.length < fullBurst (up.ring 0 0) ∧ (up.ring 0 0).coTime = 0 ∧
    burstNext up 0 0 = none := by
  have h : ∀ n < 65, burstCycle n ((fullCoalescer.ring 0 0).coalescer.getD (fullBurst (fullCoalescer.ring 0 0) - 1) {}).since
      ((fullCoalescer.ring 0 0).coalescer.take (fullBurst (fullCoalescer.ring 0 0))) ≤ fullCoalescer.now := by decide +kernel
  refine ⟨by decide +kernel, by decide +kernel, rfl, by decide +kernel, ⟨_, rfl, h _ ?_⟩, by decide +kernel,
    by decide +kernel, by decide +kernel, by decide +kernel, by decide +kernel, by decide +kernel, by decide +kernel,
    by decide +kernel, by decide +kernel⟩
  unfold depthOf
  omega

/-- The burst lands in host memory; where that write ends in an error it does not. -/
theorem witness_CompletionEntriesAreWritten_lands :
    (∃ w, BurstLands fullCoalescer 0 0 (fullBurst (fullCoalescer.ring 0 0)) w) ∧
    ∀ w, ¬ BurstLands { fullCoalescer with hostBroken := [(0, true)] } 0 0 (fullBurst (fullCoalescer.ring 0 0)) w := by
  refine ⟨⟨_, .inl ⟨by decide +kernel, by decide +kernel, rfl⟩⟩, fun w h => h.elim (fun x => ?_) fun x => ?_⟩
  · exact absurd x.2.1 (by decide +kernel)
  · exact absurd x.1 (by decide +kernel)

/-! ### A model image -/

/-- An image of one CONVERT of a Q15 input to a Q15 output at 48,000 per second (R224 to R232). -/
def image : Bytes :=
  toLE 4 0x554D4431 ++ [1, 0, 0, 0] ++ toLE 8 400 ++ toLE 4 5 ++ toLE 4 1 ++ toLE 4 2 ++ zeros 56 ++ toLE 4 1 ++ toLE 4 48000 ++
  zeros 36 ++
  (toLE 8 1 ++ toLE 8 256 ++ toLE 8 64) ++ (toLE 8 2 ++ toLE 8 320 ++ toLE 8 64) ++ (toLE 8 3 ++ toLE 8 384 ++ toLE 8 0) ++
  (toLE 8 4 ++ toLE 8 384 ++ toLE 8 0) ++ (toLE 8 5 ++ toLE 8 384 ++ toLE 8 16) ++ zeros 8 ++
  (toLE 4 0x0A ++ toLE 4 1 ++ toLE 2 1 ++ toLE 2 1 ++ toLE 2 0 ++ toLE 2 2 ++ toLE 4 none32 ++ zeros 28 ++
    toLE 4 0 ++ toLE 4 1 ++ toLE 4 0 ++ toLE 4 15) ++
  ([2, 15, 0, 0] ++ toLE 4 1 ++ toLE 2 0 ++ toLE 2 1 ++ toLE 4 none32 ++ toLE 4 none32 ++ toLE 4 0 ++ zeros 8) ++
  ([2, 15, 0, 0] ++ toLE 4 1 ++ toLE 2 0 ++ toLE 2 1 ++ toLE 4 0 ++ toLE 4 none32 ++ toLE 4 0 ++ zeros 8) ++
  (toLE 4 0 ++ toLE 4 64 ++ toLE 4 64 ++ toLE 4 64)

/-- Its identity. -/
def identity : Bytes := sm3 image

/-- The image of the tests passes every check of R235. -/
theorem test_image : costsEnd image = some 400 ∧ (checkedImage image).isSome = true := by decide +kernel

/-! ### A firmware package -/

/-- An image: KIND, body, the digest of the body, and the signature of key 2 over the header. -/
def fwImage (kind : Nat) (body digest sig : Bytes) : Bytes :=
  toLE 4 0x55465731 ++ toLE 4 (kind + 2 ^ 8) ++ toLE 4 2 ++ [1, 0, 1, 0] ++ toLE 8 body.length ++ digest ++ zeros 72 ++ key2 ++
  sig ++ body

/-- A first stage that holds the boot configuration, with a cap of 600 W. -/
def bootBody : Bytes := toLE 4 0x42434647 ++ zeros 2 ++ toLE 2 600 ++ zeros 56

/-- The first stage. -/
def firstStage : Bytes :=
  fwImage 1 bootBody
    (toBE 32 0xE78BC2FA2C320C769E0EF4272B99BF1E2A19AD8AE9E448D6BC5CBC0AF52931AF)
    (toBE 48 0x5368B21AFF3BE97E0E7EBCFB684218AC8B5BD56334736DBF6D2318B00AF698771DBA33EDAB2D6456A100D758652944E2 ++
      toBE 16 0x1E6EBC36E84A63397DD1EB8DB703C734)

/-- The crown main image. -/
def crownImage : Bytes :=
  fwImage 2 [1]
    (toBE 32 0x799B719AC031FC89C6D8925A487DAD07308F837B7AB7BBC7CEBD3A4118FD2F38)
    (toBE 48 0x183F2D0D2EDDFC555F4DC3E51B6C14EF618F07ECA47CF8B1B8D691E41D24E8D19A808CA13616AD1C6B217D67430D4760 ++
      toBE 16 0x0AF88FA9A8DB5DA6674396C368D6A759)

/-- The culet image. -/
def culetImage : Bytes :=
  fwImage 3 [2]
    (toBE 32 0xC1BE86994AE8741D802CF422CE0BC117680AD2B139857A378F9573A6F9EC35AD)
    (toBE 48 0x00B22708466F4512F91984951DA8B85ACCF36C0996A1F955BBC9F432FFCC87D5FF893B4ED10B2748AF445247418F8518 ++
      toBE 16 0x3EB6ECBA12AF5EF22BDFFBE73A58A862)

/-- The package: each image at a 4 KiB boundary. -/
def package : Bytes := firstStage ++ zeros (4096 - 320) ++ crownImage ++ zeros (4096 - 257) ++ culetImage

theorem fwCheck_package : fwCheck up package = .ok := by decide +kernel

/-- Verification reads the vendor root and the counter of the state only. -/
theorem fwCheck_congr {s t : State} (b : Bytes) (h : s.sec.made = t.sec.made) (k : s.sec.counter = t.sec.counter) :
    fwCheck s b = fwCheck t b := by simp [fwCheck, fwSigned, vendorKey, h, k]

/-! ### Queues and registers -/

/-- Queue 0 of class 0 holds one item whose tail timer ran out; in class 2 an item that ends no packet. -/
def queued : State :=
  { up with ftqs := [(0, { stages := [some {}] }), (qKey 2 0, { stages := [some { eop := false }], timer := 65535 })] }

theorem witness_QueuesMoveTheirItems :
    canonical queued = true ∧ inputFree (queued.ftq 0 1).stages = true ∧ (takesItem queued 0 1).isSome = true ∧
    injects queued (tabGet {} queued.test.inject 0) {} = false ∧ tailDue queued 2 0 = true ∧
    packetItems (itemsOf (queued.ftq 2 0)) = 0 ∧ queued.live = true ∧
    ¬ (2 = 3 ∧ 0 < 1024 ∧ coTailDue queued 0 0 = true) ∧ tailDue queued 0 0 = false ∧
    inputFree (List.replicate 4 (some ({} : QItem))) = false ∧ State.reset.answers 0 = false ∧
    ¬ (3 = 3 ∧ 1024 < 1024 ∧ coTailDue queued 64 0 = true) ∧
    queued.answers 0 = true ∧ queued.test.testState = false ∧ queued.sec.debugLevel = 0 ∧
    (0x103 : Word32).toNat % 4 = 3 ∧ (0x103 : Word32).toNat / 2 ^ 8 % 2 ^ 8 ≠ 0 ∧
    ({ up with test := { testState := true } } : State).test.testState = true ∧
    ({ up with test := { testState := true } } : State).answers 0 = true := by
  decide +kernel

/-- A full queue of class 0 whose input end is free one cycle of NOC_CLK later, and one of class 7, which has one cycle of
its clock in a FACET_CLK cycle. -/
def fullQueues : State :=
  { up with ftqs := [(0, { stages := List.replicate 4 (some {}) }), (qKey 7 0, { stages := List.replicate 8 (some {}) })] }

/-- In class 2 a whole packet, and a queue that drops; in class 4 a unit that has been read. -/
def reading : State :=
  { up with ftqs := [(0, { stages := [some { fault := .double, header := true }], dropping := 1 }),
                     (qKey 2 0, { stages := [some { fault := .single }], timer := 65535 }),
                     (qKey 2 1, { stages := [some { fault := .parity }], flushing := 1 }),
                     (qKey 2 2, { stages := [some { fault := .double, header := true }], flushing := 1 }),
                     (qKey 4 0, { stages := [none], read := [{}] })] }

theorem witness_QueuesMoveTheirItems_cycles :
    canonical fullQueues = true ∧ inputFree (fullQueues.ftq 0 0).stages = false ∧ (takesItem fullQueues 0 0).isSome = true ∧
    inputFree (fullQueues.ftq 7 0).stages = false ∧ takesItem fullQueues 7 0 = none ∧ canonical reading = true ∧
    (reading.ftq 0 0).dropping ≠ 0 ∧ (reading.ftq 0 0).read = [] ∧ tailDue reading 2 0 = true ∧
    packetItems (itemsOf (reading.ftq 2 0)) ≠ 0 ∧ coalesces 2 = true ∧ (reading.ftq 2 1).flushing ≠ 0 ∧
    isBad 2 { fault := .parity } = true ∧ isBad 2 { fault := .double, header := true } = true ∧ coalesces 0 = false ∧
    (reading.ftq 4 0).flushing = 0 ∧ (reading.ftq 4 0).read ≠ [] := by
  decide +kernel

/-- An armed injection of one dropped item of class 0. -/
def injecting : State := { queued with test := { inject := [(0, { kind := 1, count := 1 })], testState := true } }

/-- Entries wait in the coalescer of ring 0 since cycle 0, too few for a burst. -/
def tailed (n : Nat) : State :=
  { up with rings := [(0, { sqEnable := true, cqEnable := true, coalescer := List.replicate n {} })] }

theorem witness_QueuesMoveTheirItems_more :
    canonical injecting = true ∧ injects injecting (tabGet {} injecting.test.inject 0) {} = true ∧
    canonical (tailed 1) = true ∧ coTailDue (tailed 1) 0 0 = true ∧ cqFlows (tailed 1) 0 0 = true ∧
    ((tailed 1).ring 0 0).coalescer.length < fullBurst ((tailed 1).ring 0 0) ∧
    coTailDue (tailed 4) 0 0 = true ∧ fullBurst ((tailed 4).ring 0 0) ≤ ((tailed 4).ring 0 0).coalescer.length ∧
    (∃ y ∈ itemsOf { stages := [some { header := true, fault := .double }] }, y.header = true ∧ isBad 2 y = true) := by
  decide +kernel

theorem witness_QueuesMoveTheirItems_burst :
    (∃ w, BurstLands (tailed 1) 0 0 1 w) ∧ ∀ w, ¬ BurstLands { tailed 1 with hostBroken := [(0, true)] } 0 0 1 w := by
  refine ⟨⟨_, .inl ⟨by decide +kernel, by decide +kernel, rfl⟩⟩, fun w h => h.elim (fun x => ?_) fun x => ?_⟩
  · exact absurd x.2.1 (by decide +kernel)
  · exact absurd x.1 (by decide +kernel)

theorem witness_RegisterWritesFollowTheirFields :
    canonical up = true ∧ up.answers 0 = true ∧ up.barUp = true ∧ locate up 0 0x10004 = some (.irq, 0x4) ∧
    locate up 0 0x102050 = some (.part 1, 0x50) ∧ (up.part 1).valid = true ∧
    locate up 0 0x4E0004 = some (.pcie, 0x4) ∧ locate up 0 0x1C800 = some (.pba, 0) ∧ locate up 0 0x30000 = none ∧
    locate up 0 0x10000 = some (.irq, 0x0) ∧ accessOk 0x10000 8 = true ∧ rowAt up 0 .irq 0x10 = none ∧
    ({ up with mode := .rom } : State).answers 0 = true ∧ ({ up with mode := .rom } : State).barUp = false ∧
    State.reset.answers 0 = false ∧ up.pcie.released = true ∧ up.clk.refclkOk = true ∧
    State.reset.pcie.released = false ∧ (0x101000 : Word64).getLsbD 12 = true ∧ (0x101000 : Word64).getLsbD 20 = true ∧
    bar2Sizes.contains (2 ^ ((9 : Word64).toNat % 64)) = true ∧
    bar2Sizes.contains (2 ^ ((10 : Word64).toNat % 64)) = false := by
  decide +kernel

/-- BOOT_HOST_ADDR. -/
theorem witness_RegisterWritesFollowTheirFields_host :
    ∃ off, off % 8 = 0 ∧ locate up 0 off = some (.clocks, 0x10) ∧ locate up 0 (off + 4) = some (.clocks, 0x14) :=
  ⟨0x500010, by decide +kernel⟩

/-- The high word of CYCLE_COUNT has been latched. -/
def latched : State := { up with latches := [(latchKey 0 0x24, 1)] }

theorem witness_ReadsLatchTheHighWord :
    latched.answers 0 = true ∧ latched.barUp = true ∧ locate latched 0 0 = some (.ident, 0) ∧
    rowAt latched 0 .ident 0 = some (0, false, 0x20481D4B) ∧ locate latched 0 0x20 = some (.ident, 0x20) ∧
    rowAt latched 0 .ident 0x20 = some (0x20, true, 10000000) ∧ locate latched 0 0x24 = some (.ident, 0x24) ∧
    rowAt latched 0 .ident 0x24 = some (0x20, true, 10000000) ∧
    latched.latches.find? (fun l => l.1 == latchKey 0 0x24) = some (latchKey 0 0x24, 1) ∧
    rowAt latched 0 .ident 4 ≠ none ∧ rowAt latched 0 .irq 0x10 = none ∧ locate latched 0 0x30000 = none := by
  decide +kernel

/-- SECURITY's cause asserts, INT_SUMMARY_EN passes it, and the vector is unmasked; function 0 also has a pending
message. -/
def asserts : State :=
  { up with sec := { up.sec with cause := 1, causeEn := 1 }
            funcs := [(0, { summaryEn := 0x1FFF, armed := false, msixMask := false, msixPending := true })] }

theorem witness_SpecialRegistersTakeTheirWrites :
    canonical asserts = true ∧ asserts.answers 0 = true ∧ asserts.barUp = true ∧ asserts.ident.lock = false ∧
    ({ up with ident := { up.ident with lock := true } } : State).ident.lock = true ∧ asserting up 0 = false ∧
    (1 : Word32).getLsbD 0 = true ∧ asserting asserts 0 = true ∧ (asserts.func 0).msixMask = false ∧
    (asserts.func 0).msixPending = true ∧ asserts.live = true ∧ inD3 asserts 0 = false ∧
    asserting { asserts with funcs := [(0, { summaryEn := 0x1FFF, armed := false })] } 0 = true ∧
    ownsPart asserts 5 1 = false ∧ ({ up with mode := .rom } : State).barUp = false ∧ up.serves 0 = true ∧
    up.serves 1 = false := by
  decide +kernel

theorem witness_RangesAndMarksTakeTheirWrites :
    canonical up = true ∧ up.live = true ∧ (up.rangeOf 1).valid = false ∧ (up.rangeOf 255).valid = false ∧
    rangeRefused up 1 { valid := true, size := 1 } = true ∧
    rangeRefused up 1 { valid := true, base := 512, size := 1 } = false ∧ (up.rangeOf 0).valid = true ∧
    (({ up with ranges := [(0, { valid := true, function := 63, size := 512 })] } : State).rangeOf 0).valid = true ∧
    (({ up with ranges := [(0, { valid := true, function := 63, size := 512 })] } : State).rangeOf 0).function ≠ 0 ∧
    (0 : Word64).getLsbD 0 = false ∧ State.reset.live = false := by
  decide +kernel

/-! ### Resets, boot and power -/

theorem witness_WarmResetsLeaveResetValues :
    canonical up = true ∧ up.resettable = true ∧ up.clocksUp = true ∧ up.pcie.released = true ∧ inD3 up 0 = false ∧
    (⟨0x60, 0x7E, Config.vendorId, 1, Config.warmKey⟩ : MctpMsg) = ⟨0x60 + up.ident.trayPos.toNat, 0x7E, Config.vendorId, 1, Config.warmKey⟩ ∧
    (⟨0x61, 0x7E, Config.vendorId, 1, Config.warmKey⟩ : MctpMsg) ≠ ⟨0x60 + up.ident.trayPos.toNat, 0x7E, Config.vendorId, 1, Config.warmKey⟩ ∧
    (0x57520001 : Word32).getLsbD 0 = true ∧ (0x57520001 : Word32).toNat / 2 ^ 16 = Config.warmKey ∧
    inD3 { up with pcie := { up.pcie with d3 := [0] } } 0 = true ∧
    inD3 { up with pcie := { up.pcie with d3 := [5] } } 5 = true ∧ inD3 State.reset 0 = false ∧
    ({ up with pcie := { up.pcie with d3 := [5] } } : State).live = true ∧ State.reset.resettable = false ∧
    State.reset.clocksUp = false ∧ up.mode ≠ .porLow ∧ up.mode ≠ .starting ∧ State.reset.mode = .porLow := by
  decide +kernel

/-- Held by the loss of REFCLK; held by PERST_N. -/
def noRefclk : State := { up with mode := .held, pins := { porLow := false, refclkLost := true } }
def perstHeld : State := { up with mode := .held, pins := { porLow := false, perstLow := true } }

theorem witness_PinsTakeTheDeviceThroughReset :
    canonical noRefclk = true ∧ noRefclk.mode = .held ∧ noRefclk.pins.refclkLost = true ∧
    noRefclk.pins.perstLow = false ∧ perstHeld.mode = .held ∧
    ({ noRefclk with pins := { noRefclk.pins with perstLow := true } } : State).pins.perstLow = true ∧
    perstHeld.pins.perstLow = true ∧ perstHeld.pins.refclkLost = false ∧ up.resettable = true ∧
    ({ up with pins := { up.pins with refclkLost := true } } : State).mode ≠ .held ∧ up.pins.refclkLost = false ∧
    up.pins.perstLow = false ∧ noRefclk.resettable = false ∧ noRefclk.mode ≠ .porLow ∧
    ({ up with mode := .starting, pins := { perstLow := true } } : State).pins.perstLow = true := by
  decide +kernel

theorem witness_StrapsAreSampledAtRelease :
    State.reset.mode = .porLow ∧ State.reset.pins.tap = .idcode ∧ up.mode ≠ .porLow ∧
    ({ State.reset with pins := { tap := .extest } } : State).pins.tap = .extest := by decide

/-- In the ROM with the package in slot A, or with empty flash. -/
def inRom (slotA : Bytes) : State := { up with mode := .rom, sec := { up.sec with slotA := slotA } }

theorem witness_BootProceedsToReady_rom :
    (inRom package).mode = .rom ∧ (inRom package).ident.bootSel = 0 ∧
    packageCode (inRom package) (slotOf (inRom package) (inRom package).sec.control) 1 = 0 := by
  refine ⟨rfl, rfl, ?_⟩
  have h : slotOf (inRom package) (inRom package).sec.control = package := rfl
  rw [h, packageCode, fwCheck_congr (s := inRom package) (t := up) package rfl rfl, fwCheck_package]
  decide +kernel

theorem witness_BootProceedsToReady :
    ({ up with mode := .starting } : State).mode = .starting ∧ up.pins.refclkLost = false ∧
    packageCode (inRom []) (slotOf (inRom []) (inRom []).sec.control) 1 = 1 ∧
    packageCode (inRom []) (slotOf (inRom []) (!(inRom []).sec.control)) 1 ≠ 0 ∧
    packageCode (inRom []) (slotOf (inRom []) (inRom []).sec.control) 1 ≠ 5 ∧
    ({ up with mode := .training } : State).mode = .training ∧ up.test.testState = false ∧
    ({ up with mode := .training, clk := { up.clk with stage := 1 } } : State).clk.stage = 1 ∧ up.pending = [] ∧
    capacityOk {} = true ∧ ({ up with memc := { up.memc with trainStore := some 0 } } : State).memc.trainStore = some 0 ∧
    fastTraining { up with memc := { retention := some (0, 128) } } { storedOk := true } = true ∧
    fastTraining up { passed := [false, false, false] } = false ∧ ({ up with mode := .loading } : State).mode = .loading ∧
    up.answers 0 = true ∧ up.mode ≠ .rom ∧ State.reset.answers 0 = false ∧
    capacityOk { packages := 0 :: List.replicate 14 8 ++ [16] } = false ∧
    scratchRate 0 [true, false, false] = some 0 ∧ scratchRate 0 [false, false, false] = none ∧
    fastTraining up { passed := [true, false, false] } = false ∧ (inRom []).clk.go = false := by
  decide +kernel

/-- A package that verifies and whose first stage holds no boot configuration. -/
def misconfigured : Bytes :=
  fwImage 1 [3]
    (toBE 32 0xCA3A4C3ADC0E2443D9406165CD01034270BF9E27ED34931DA1501D41C28A2F31)
    (toBE 48 0x78C1D736CFBBA8A0606BCC201101378E205D90935B66C78EA39DA3D2CDCDC39A5A2970857582E4EA6A62CD3FF4A9DAF6 ++
      toBE 16 0x366EDF3A843F7F478BA64FA118706A9F) ++ zeros (4096 - 257) ++ crownImage ++ zeros (4096 - 257) ++ culetImage

theorem witness_BootProceedsToReady_configuration :
    (inRom misconfigured).mode = .rom ∧ (inRom misconfigured).ident.bootSel = 0 ∧
    packageCode (inRom misconfigured) (slotOf (inRom misconfigured) (inRom misconfigured).sec.control) 1 = 5 := by
  decide +kernel

/-- In the ROM with GO set and nothing usable in the flash or the host: BOOT_SEL 1, and 2. -/
def fromHost (sel : BitVec 2) (n : Nat) : State :=
  { inRom [] with
    ident := { up.ident with bootSel := sel }, clk := { up.clk with go := true, hostBytes := BitVec.ofNat 23 n } }

theorem witness_BootProceedsToReady_host :
    (fromHost 1 0).mode = .rom ∧ (fromHost 1 0).ident.bootSel = 1 ∧ (fromHost 1 0).clk.go = true ∧
    hostImage (fromHost 1 0) = none ∧ (fromHost 2 8192).ident.bootSel = 2 ∧
    packageCode (fromHost 2 8192) (slotOf (fromHost 2 8192) (fromHost 2 8192).sec.control) 1 ≠ 0 ∧
    packageCode (fromHost 2 8192) (slotOf (fromHost 2 8192) (!(fromHost 2 8192).sec.control)) 1 ≠ 0 ∧
    (hostImage (fromHost 2 8192)).isSome = true := by
  decide +kernel

/-- The mean power is above the cap; and prism 1 has been idle long enough, or wakes. -/
def hot : State := { up with clk := { up.clk with meanW := 651 }, prisms := [(1, { gated := false })] }
def cool : State := { up with clk := { up.clk with meanW := 600, fBe := 50 } }
def waking : State := { up with prisms := [(1, { waking := some 0 })] }

theorem witness_PowerUnitFollowsItsRules :
    hot.live = true ∧ hot.clk.stepAt + 100000 ≤ hot.now ∧ (List.replicate 64 (99 : Int)).length = 64 ∧
    (∀ x ∈ List.replicate 64 (99 : Int), -128 ≤ x ∧ x ≤ 99) ∧ (99 : Int) ∈ List.replicate 64 (99 : Int) ∧
    hot.clk.railAt + 10000 ≤ hot.now ∧ up.resettable = true ∧ State.reset.resettable = false ∧
    ({ hot with clk := { hot.clk with stepAt := 9999999, railAt := 9999999 } } : State).now < 9999999 + 10000 ∧
    (hot.clk.nextCap.getD hot.clk.capW).toNat < hot.clk.meanW.toNat ∧ hot.clk.fLc = 64 ∧ hot.clk.fBe ≠ 0 ∧
    100 * cool.clk.meanW.toNat < 97 * (cool.clk.nextCap.getD cool.clk.capW).toNat ∧ mayGate hot 1 = true ∧
    canonical waking = true ∧ wakeOver waking 1 = true ∧ State.reset.live = false ∧ wakeOver up 1 = false ∧
    mayGate { hot with facets := [(16, { running := some { cid := 2 } })] } 1 = false := by
  decide +kernel

/-! ### PCI Express -/

/-- 63 VFs are enabled, the link is 16 lanes wide and in L1. -/
def virtual : State := { up with pcie := { up.pcie with vfEnable := true, numVfs := 63, width := 16, l0pWidth := 16 } }

theorem witness_FunctionsResetAndSleep :
    virtual.live = true ∧ funcExists virtual 63 = true ∧ up.pcie.released = true ∧ up.pcie.vfEnable = false ∧
    virtual.pcie.vfEnable = true ∧ virtual.pcie.released = true ∧ inD3 virtual 63 = false ∧ mayL1 up = true ∧
    ({ up with pcie := { up.pcie with l1 := true } } : State).pcie.l1 = true ∧ widthOk virtual 4 = true ∧
    mayChange virtual ⟨4, false⟩ = true ∧ mayChange virtual ⟨4, true⟩ = false ∧
    mayChange { virtual with pcie := { virtual.pcie with l0pAllow := true } } ⟨4, true⟩ = true ∧
    funcExists up 1 = false ∧ State.reset.live = false ∧ State.reset.pcie.released = false ∧ widthOk virtual 3 = false ∧
    mayL1 { up with pcie := { up.pcie with l1 := true } } = false := by
  decide +kernel

/-- A device read for the units of ring 0, sent at cycle 0. -/
def unitRead : PcieRead := { tag := 0, fn := 0, addr := 0, len := 1, since := 0, purpose := .units 0 0 }

/-- A COPY of 512 bytes of host memory to LPDDR5X is under way: one read of its source is out, and the last. -/
def copyUnder : Cmd :=
  { cmd 0x52 1 0 (toLE 8 0x1000 ++ lp 0 ++ toLE 8 512 ++ zeros 8) with wanting := 1, final := some (0, 0, 0) }
def copyRead : PcieRead := { tag := 0, fn := 0, addr := 0x1000, len := 512, since := 0, purpose := .copy 3 }
def copying1 : State := { on up copyUnder with pcieReads := [copyRead] }

theorem witness_Bar2AndDeviceReads_copy :
    canonical copying1 = true ∧ copying1.live = true ∧ readOf copying1 copyRead.tag = some copyRead ∧
    copying1.cmd 3 = some copyUnder ∧ copyUnder.opcode = 0x52 ∧ copyUnder.final = some (0, 0, 0) ∧
    copyUnder.f 24 8 + (copyRead.addr - (place copying1 copyUnder.fn (copyUnder.f 16 8)).2) = 2 ^ 62 ∧
    addrRemote copying1 (copyUnder.f 24 8) = false ∧ mayName copying1 0 (2 ^ 62) 512 false = true ∧
    (addrWrite copying1 0 (2 ^ 62) (zeros 512) false).2 = true ∧ copyUnder.rest = [] ∧
    copyUnder.wanting ≤ 1 ∧ readLate copying1 copyRead = true := by
  decide +kernel

theorem witness_Bar2AndDeviceReads :
    canonical up = true ∧ up.answers 0 = true ∧ memLooped up (2 ^ 62 + bar2Addr up 0) 1 = false ∧
    flipsIn up (bar2Addr up 0) 1 = [] ∧ (∀ c ∈ up.cmds, c.rest = []) ∧
    readOf { up with pcieReads := [{ unitRead with purpose := .stale }] } 0 = some { unitRead with purpose := .stale } ∧
    inOwnRange up 0 (bar2Addr up 0) 1 = true ∧ inOwnRange up 0 (bar2Addr up (2 ^ 30)) 1 = false ∧
    memLooped up (2 ^ 62 + bar2Addr up (2 ^ 30)) 1 = false ∧
    canonical { up with pcieReads := [unitRead] } = true ∧
    readOf { up with pcieReads := [unitRead] } unitRead.tag = some unitRead ∧ readOf up 0 = none ∧
    (up.ring 0 0).sqEnable = true ∧ unitRead.addr = baseAddr (up.ring 0 0).sqBase + 16 * (up.ring 0 0).nextUnit ∧
    up.pcie.bar2Size.toNat * 2 ^ 30 < 2 ^ 45 + 1 ∧ State.reset.answers 0 = false ∧
    readLate { up with pcieReads := [unitRead] } { unitRead with since := 10000000 } = false ∧
    readLate { up with pcieReads := [unitRead] } unitRead = true := by
  decide +kernel

/-! ### Partitions and the lattice -/

/-- PARTITION_CREATE of a prism mask for function 0, 8 rows. -/
def create (mask : Nat) : Cmd := cmd 0x10 0xFFFF 0 (toLE 16 mask ++ [0, 8, 0, 0] ++ zeros 12)

/-- The mask of prisms 0 and 127; prism 1 is the one that partition 1 owns. -/
theorem witness_PartitionsAreCreatedAndDestroyed :
    Ready (on up (create (1 + 2 ^ 127))) 3 0x10 (create (1 + 2 ^ 127)) ∧ up.memc.trainFailed = false ∧
    createOk (on up (create (1 + 2 ^ 127))) (create (1 + 2 ^ 127)) = true ∧
    (∀ p < 128, ((create (1 + 2 ^ 127)).f 16 16).testBit p = true → prismTaken (on up (create (1 + 2 ^ 127))) p = false) ∧
    ((create (1 + 2 ^ 127)).f 16 16).testBit 0 = true ∧ canonical up = true ∧
    Ready (on up (cmd 0x11 1 0 [])) 3 0x11 (cmd 0x11 1 0 []) ∧ openGroups up 1 = [] ∧ partRunning up 1 = false ∧
    createOk (on up (create 2)) (create 2) = true ∧ prismTaken (on up (create 2)) 1 = true ∧
    ((create 2).f 16 16).testBit 1 = true ∧ createOk (on up (create 0)) (create 0) = false ∧
    ({ up with memc := { up.memc with trainFailed := true } } : State).memc.trainFailed = true := by
  decide +kernel

/-- Partition 1 has a best-effort stream, and a kernel of it runs. -/
def busy : State :=
  { up with streams := [(0, { part := 1, voice := [mh, 0, 0, 0] })]
            facets := [(16, { running := some { cid := 2, part := 1 } })] }

theorem witness_PartitionsAreCreatedAndDestroyed_busy :
    canonical busy = true ∧ Ready (on busy (forced 0x11 1 0 [])) 3 0x11 (forced 0x11 1 0 []) ∧
    (forced 0x11 1 0 []).force = true ∧ partRunning (on busy (forced 0x11 1 0 [])) 1 = true ∧
    Ready (on busy (cmd 0x11 1 0 [])) 3 0x11 (cmd 0x11 1 0 []) ∧ openGroups (on busy (cmd 0x11 1 0 [])) 1 = [0] ∧
    (cmd 0x11 1 0 []).force = false := by
  decide +kernel

/-- Partition 1 owns prisms 1 and 127; with a lattice, an LC group 1 that no entry serves. -/
def two : State := { up with parts := [(1, { valid := true, prisms := 2 + 2 ^ 127 })] }
def twoLc : State := { two with streams := [(0, { part := 1, voice := [mh, 0, 0, 0], lc := true, group := 1 })] }

/-- PARTITION_YIELD of prism 127. -/
def yieldCmd : Cmd := cmd 0x12 1 0 (toLE 16 (2 ^ 127))

theorem witness_YieldReleasesItsPrisms :
    canonical two = true ∧ Ready (on two yieldCmd) 3 0x12 yieldCmd ∧ yieldCmd.only [(16, 16)] = true ∧
    yieldCmd.f 16 16 ≠ 0 ∧ (yieldCmd.f 16 16).testBit 1 = false ∧
    (∀ p < 128, (yieldCmd.f 16 16).testBit p = true → (two.part 1).prisms.getLsbD p = true) ∧
    (cmd 0x12 1 0 (zeros 16)).f 16 16 = 0 ∧ ((cmd 0x12 1 0 (toLE 16 2)).f 16 16).testBit 1 = true ∧
    ((cmd 0x12 1 0 (toLE 16 1)).f 16 16).testBit 0 = true ∧ (two.part 1).prisms.getLsbD 0 = false ∧
    readmit (on two yieldCmd) 1 { two.part 1 with prisms := (two.part 1).prisms &&& ~~~ BitVec.ofNat 128 (yieldCmd.f 16 16) } =
      none ∧
    canonical twoLc = true ∧ Ready (on twoLc yieldCmd) 3 0x12 yieldCmd ∧ yieldCmd.force = false ∧
    readmit (on twoLc yieldCmd) 1
      { twoLc.part 1 with prisms := (twoLc.part 1).prisms &&& ~~~ BitVec.ofNat 128 (yieldCmd.f 16 16) } = some (1, 1) := by
  decide +kernel

/-- Prism 127 began its zeroing at cycle 0. -/
def zeroing : State := { up with prisms := [(127, { zeroing := true })] }

theorem witness_YieldReleasesItsPrisms_zeroing :
    canonical zeroing = true ∧ zeroing.live = true ∧ (zeroing.prism 127).zeroing = true ∧ partOfPrism zeroing 127 = none ∧
    (zeroing.prism 127).zeroSince + 6144 ≤ zeroing.now ∧ (up.prism 127).zeroing = false ∧
    ({ zeroing with prisms := [(127, { zeroing := true, zeroSince := 10000000 })] } : State).now <
      (({ zeroing with prisms := [(127, { zeroing := true, zeroSince := 10000000 })] } : State).prism 127).zeroSince + 6144 := by
  decide +kernel

/-- Partition 1 is being reset for command 2, which is still accepted. -/
def inReset : State :=
  { up with parts := [(1, { valid := true, prisms := 2, resetting := some [2] })], prisms := [(1, { zeroing := true })] }

theorem witness_PartitionResetsRunTheirSteps :
    canonical up = true ∧ Ready (on up (cmd 0x13 1 0 [])) 3 0x13 (cmd 0x13 1 0 []) ∧ (up.part 1).resetting = none ∧
    (∀ e ∈ (on up (cmd 0x13 1 0 [])).cmds, (on up (cmd 0x13 1 0 [])).cmd e.cid = some e) ∧ (up.part 1).valid = true ∧
    canonical inReset = true ∧ Ready (on inReset (cmd 0x13 1 0 [])) 3 0x13 (cmd 0x13 1 0 []) ∧
    (inReset.part 1).resetting = some [2] ∧ inReset.live = true ∧ resetOver inReset 1 = true ∧
    (inReset.part 1).valid = true ∧ up.live = true ∧ (up.part 2).valid = false ∧ resetOver up 1 = false := by
  decide +kernel

/-- The table of `latticeBytes`, and one with the clock of port 0. -/
def table : Lattice := parseLattice latticeBytes
def framed : Lattice := { table with frameSync := true }

/-- Partition 1 has the table as its shadow: with no active table; with one that ticks from another source. -/
def shadowed : State := { up with parts := [(1, { valid := true, prisms := 2, shadow := some table })] }
def ticks : State :=
  { up with parts := [(1, { valid := true, prisms := 2, shadow := some table, active := some framed, ticking := true })] }

/-- A switch waits and no table is active; the active table's tick is due at cycle 10,000,000. -/
def switches : State :=
  { up with parts := [(1, { valid := true, prisms := 2, shadow := some table, switch := [3] })], cmds := [cmd 0x15 1 0 []] }
def tickNow : State := { up with parts := [(1, { valid := true, prisms := 2, active := some table })] }
def tickLater : State := { tickNow with ident := { tickNow.ident with cycleCount := 10000001 } }

theorem witness_LatticeSwitchesAndTicks :
    canonical up = true ∧ Ready (on up (cmd 0x15 1 0 [])) 3 0x15 (cmd 0x15 1 0 []) ∧ (up.part 1).shadow = none ∧
    canonical shadowed = true ∧ Ready (on shadowed (cmd 0x15 1 0 [])) 3 0x15 (cmd 0x15 1 0 []) ∧
    (shadowed.part 1).shadow = some table ∧
    readmit (on shadowed (cmd 0x15 1 0 [])) 1 { shadowed.part 1 with active := some table } = none ∧
    (shadowed.part 1).active = none ∧
    canonical ticks = true ∧ Ready (on ticks (cmd 0x15 1 0 [])) 3 0x15 (cmd 0x15 1 0 []) ∧
    (ticks.part 1).shadow = some table ∧
    readmit (on ticks (cmd 0x15 1 0 [])) 1 { ticks.part 1 with active := some table } = none ∧
    (ticks.part 1).active = some framed ∧ (ticks.part 1).ticking = true ∧ sameSource framed table = false := by
  decide +kernel

/-- Two tables of one LC entry on the last and on the first of four ticks: a window of the first ends after a launch of
the second. The second is the shadow; in the other state it would leave an LC group without an entry. -/
def lastTick : Lattice := { table with periodN := 4, entries := [⟨3, true, 0, 10000000, 1, 1, 1⟩] }
def firstTick : Lattice := { table with periodN := 4, entries := [⟨0, true, 0, 10000000, 1, 1, 1⟩] }
def overlaps : State :=
  { up with parts := [(1, { valid := true, prisms := 2, shadow := some firstTick, active := some lastTick, ticking := true })] }
/-- The ticks of the table are stopped. -/
def stalled : State := { up with parts := [(1, { valid := true, prisms := 2, shadow := some table, active := some table })] }
def unserved : State :=
  { shadowed with streams := [(0, { part := 1, voice := [mh, 0, 0, 0], lc := true, group := 1 })] }

theorem witness_LatticeSwitchesAndTicks_refused :
    canonical overlaps = true ∧ Ready (on overlaps (cmd 0x15 1 0 [])) 3 0x15 (cmd 0x15 1 0 []) ∧
    (overlaps.part 1).shadow = some firstTick ∧ (overlaps.part 1).active = some lastTick ∧
    readmit (on overlaps (cmd 0x15 1 0 [])) 1 { overlaps.part 1 with active := some firstTick } = none ∧
    sameSource lastTick firstTick = true ∧
    switchApart (on overlaps (cmd 0x15 1 0 [])) lastTick firstTick
      (switchTick (on overlaps (cmd 0x15 1 0 [])) ((on overlaps (cmd 0x15 1 0 [])).part 1) lastTick) = false ∧
    canonical stalled = true ∧ Ready (on stalled (cmd 0x15 1 0 [])) 3 0x15 (cmd 0x15 1 0 []) ∧
    (stalled.part 1).shadow = some table ∧ (stalled.part 1).active = some table ∧ (stalled.part 1).ticking = false ∧
    readmit (on stalled (cmd 0x15 1 0 [])) 1 { stalled.part 1 with active := some table } = none ∧
    switchApart (on stalled (cmd 0x15 1 0 [])) table table
      (switchTick (on stalled (cmd 0x15 1 0 [])) ((on stalled (cmd 0x15 1 0 [])).part 1) table) = true ∧
    canonical unserved = true ∧ Ready (on unserved (cmd 0x15 1 0 [])) 3 0x15 (cmd 0x15 1 0 []) ∧
    readmit (on unserved (cmd 0x15 1 0 [])) 1 { unserved.part 1 with active := some table } = some (1, 1) := by
  decide +kernel

theorem witness_LatticeSwitchesAndTicks_instant :
    canonical switches = true ∧ switches.live = true ∧ switchDue switches 1 = true ∧ (switches.part 1).shadow = some table ∧
    canonical tickNow = true ∧ tickNow.live = true ∧ (tickNow.part 1).valid = true ∧ (tickNow.part 1).active = some table ∧
    (tickNow.part 1).switch = [] ∧ (tickNow.part 1).resetting = none ∧ (tickNow.part 1).awaitBoundary = false ∧
    tickDue tickNow (tickNow.part 1) table = true ∧ canonical tickLater = true ∧ switchDue tickNow 1 = false ∧
    (up.part 2).valid = false ∧
    tickDue tickLater (tickLater.part 1) table = false := by
  decide +kernel

/-- A staged fetch of stream 0 has arrived for command 3; another is late. -/
def stagedUp : State :=
  { up with parts := [(1, { valid := true, prisms := 2, stages := [{ stream := 0, gen := 0, cid := 3, addr := 64, len := 1 }] })]
            cmds := [{ cmd 0x34 1 0 [] with fetched := [(64, [0])] }] }

theorem witness_FillAndStagingFeedTheFacets_stages :
    canonical stagedUp = true ∧ stagedUp.live = true ∧ (stagedUp.part 1).valid = true ∧
    (⟨0, 0, 3, 64, 1⟩ : Stage) ∈ (stagedUp.part 1).stages ∧ (∀ x ∈ (stagedUp.part 1).stages, x = ⟨0, 0, 3, 64, 1⟩) ∧
    stageArrived stagedUp ⟨0, 0, 3, 64, 1⟩ = true ∧ 0 = (stagedUp.stream 0).placementGen.toNat ∧
    (stagedUp.cmd 3).isSome = true ∧ 1 ≠ (stagedUp.stream 0).placementGen.toNat ∧
    stageArrived stagedUp ⟨0, 1, 3, 64, 1⟩ = true ∧ stageArrived stagedUp ⟨0, 0, 3, 128, 1⟩ = false ∧
    canonical up = true ∧ (up.part 1).valid = true ∧ (up.part 1).stages = [] ∧ (up.part 2).valid = false := by
  decide +kernel

theorem witness_ArbitrationStaysWithinCapacity :
    up.live = true ∧ ∀ q ∈ ([{ resource := 0, partition := 127, lc := true, bytes := 64 }] : List BwReq), q.partition < 128 := by decide

/-! ### Kernels and containment -/

/-- Partition 1 has the image registered, in T2 and in T0, and a stream 0 of it. -/
def loaded : State :=
  { up with
    models := [(0, { part := 1, identity := identity })]
    t2 := [{ identity := identity, image := image }]
    parts := [(1, { valid := true, prisms := 2, t0 := [{ identity := identity, placed := true }] })]
    streams := [(0, { part := 1, voice := [mh, 0, 0, 0] })]
    prisms := [(1, { gated := false })] }

/-- A RUN of one base step of stream 0 is dispatched and staged, and command 3 stands for it. -/
def oneRun : Run :=
  { cid := 3, part := 1, members := [0], steps := 1, dispatched := true, staged := true, bases := [0], batches := [[0]] }
def running : State := { loaded with runs := [oneRun], cmds := [cmd 0x34 1 0 []] }

/-- The kernel that the culet makes of it. -/
def theKernel : Kernel := (nextKernel running oneRun).getD { cid := 0 }

theorem witness_FillAndStagingFeedTheFacets_fill :
    canonical running = true ∧ running.live = true ∧ fillFree running 1 31 = true ∧
    feed (evictForced running 1) 1 = running ∧ beRuns running 1 = [3] ∧ advanceRun running 3 = running ∧
    running.runOf 3 = some oneRun ∧ runIdle running oneRun = true ∧ nextKernel running oneRun = some theKernel ∧
    (kernelFacets running oneRun theKernel.batch (kernelReads running theKernel)).contains 31 = true ∧ fillFree running 1 32 = false := by
  decide +kernel

/-- It is at the head of facet 31; it runs there since cycle 0; a noise starting state of it has not landed. -/
def given : State := { running with facets := [(31, { queue := [theKernel] })] }
def runs : State := { running with facets := [(31, { running := some theKernel, since := 9999999 - theKernel.dur })] }
def late : State := { running with facets := [(31, { running := some theKernel })] }
def noisy : State := { running with facets := [(31, { queue := [{ theKernel with noise := 1 }] })] }

theorem witness_KernelsStartAndEnd :
    canonical given = true ∧ given.live = true ∧ (given.facet 31).queue = [theKernel] ∧ mayStart given 31 theKernel = true ∧
    given.cmd theKernel.cid = some (cmd 0x34 1 0 []) ∧ canonical runs = true ∧ runs.live = true ∧
    (runs.facet 31).running = some theKernel ∧ endDue runs 31 theKernel = true ∧
    canonical noisy = true ∧ noisy.live = true ∧ (noisy.facet (16 * 1 + 15)).queue = [{ theKernel with noise := 1 }] ∧ mayStart noisy 31 { theKernel with noise := 1 } = false ∧
    endDue { runs with facets := [(31, { running := some theKernel, since := 10000000 })] } 31 theKernel = false ∧
    (up.facet 31).queue = [] ∧ (up.facet 31).running = none := by
  decide +kernel

/-- The group 5 is being torn down and runs no kernel. -/
def tearing : State := { up with parts := [(1, { valid := true, prisms := 2, tearing := [5] })] }

theorem witness_FaultsTearTheirGroupDown :
    canonical late = true ∧ late.live = true ∧ (late.facet 31).running = some theKernel ∧
    (late.part theKernel.part).valid = true ∧ (late.part theKernel.part).resetting = none ∧
    (late.part theKernel.part).destroying = none ∧ (late.facet 31).since + 2 * theKernel.dur < late.now ∧
    canonical tearing = true ∧ tearing.live = true ∧ 5 ∈ (tearing.part 1).tearing ∧ groupRunning tearing 1 5 = false ∧
    (runs.facet 31).running = some theKernel ∧ runs.now ≤ (runs.facet 31).since + 2 * theKernel.dur ∧
    4 ∉ (tearing.part 1).tearing ∧ groupRunning late 1 0 = true ∧ State.reset.live = false := by
  decide +kernel

theorem witness_FatalFaultStopsAndRecords :
    up.mode ≠ .porLow ∧ up.mode ≠ .held ∧ State.reset.mode = .porLow ∧ up.fatal.record = 0 ∧ ({ up with fatal := { record := 1 } } : State).fatal.record ≠ 0 := by
  decide

/-! ### Models -/

/-- MODEL_REGISTER of the image at LPDDR5X address 0, by its bytes, with its identity given. -/
def registerCmd : Cmd :=
  cmd 0x20 1 0 ([0, 1, 0, 0, 0, 0, 0, 0] ++ lp 0 ++ toLE 8 400 ++ List.replicate 8 0xFF ++ identity)

/-- The image at address 0, in a device that has it registered in partition 1 and in one that has not. -/
def imageAt0 : State := put up 0 image
def held : State := put loaded 0 image

theorem registers_registerCmd (s : State) (k : registerOk s registerCmd = true)
    (h : mayName s 0 (registerCmd.f 24 8) (registerCmd.f 32 8) false = true) : Registers s registerCmd identity :=
  ⟨k, fun _ => h, .inl ⟨.inr (by decide +kernel), by decide +kernel⟩⟩

theorem witness_ModelsAreRegistered :
    registerOk (on held registerCmd) registerCmd = true ∧ registerOk (on imageAt0 registerCmd) registerCmd = true ∧
    canonical (on held registerCmd) = true ∧ Ready (on held registerCmd) 3 0x20 registerCmd ∧ held.memc.trainFailed = false ∧
    mayName (on held registerCmd) 0 (registerCmd.f 24 8) (registerCmd.f 32 8) false = true ∧
    regIn (on held registerCmd) 1 identity = some 0 ∧
    canonical (on imageAt0 registerCmd) = true ∧ Ready (on imageAt0 registerCmd) 3 0x20 registerCmd ∧
    mayName (on imageAt0 registerCmd) 0 (registerCmd.f 24 8) (registerCmd.f 32 8) false = true ∧
    regIn (on imageAt0 registerCmd) 1 identity = none ∧ registerCmd.f 16 1 = 0 ∧
    gapFrom 0 (tabKeys imageAt0.models) < 65536 ∧ imageAt0.t2 = [] ∧
    t2Room (on imageAt0 registerCmd) (registerCmd.f 32 8) = true := by
  decide +kernel

/-- The same without an identity, with SOURCE 2, of an address outside the function's memory, and of the image of
another identity in replica 9, which port 0 reaches. -/
def registerPlain : Cmd := cmd 0x20 1 0 (zeros 8 ++ lp 0 ++ toLE 8 400 ++ List.replicate 8 0xFF ++ zeros 32)
def registerBad : Cmd := cmd 0x20 1 0 (2 :: zeros 63)
def registerFar : Cmd := cmd 0x20 1 0 (zeros 8 ++ lp (2 ^ 40) ++ toLE 8 400 ++ List.replicate 8 0xFF ++ zeros 32)
def registerFetch : Cmd :=
  cmd 0x20 1 0 ([1] ++ zeros 23 ++ toLE 2 9 ++ List.replicate 6 0xFF ++ List.replicate 32 1)
def routed : State :=
  { up with vertex := { up.vertex with routes := [(9, 8)], ports := [(0, { trained := true })] } }

theorem witness_ModelsAreRegistered_refused :
    Ready (on up registerPlain) 3 0x20 registerPlain ∧ registerOk (on up registerPlain) registerPlain = true ∧
    registerPlain.f 16 1 = 0 ∧ registerPlain.f 17 1 = 0 ∧ (readImage (on up registerPlain) registerPlain).2 = false ∧
    costsEnd (readImage (on up registerPlain) registerPlain).1 = none ∧
    (readImage { on up registerPlain with poison := [(0, true)] } registerPlain).2 = true ∧
    Ready (on up registerBad) 3 0x20 registerBad ∧ registerOk (on up registerBad) registerBad = false ∧
    Ready (on up registerFar) 3 0x20 registerFar ∧ registerOk (on up registerFar) registerFar = true ∧
    mayName (on up registerFar) 0 (registerFar.f 24 8) (registerFar.f 32 8) false = false ∧
    Ready (on up registerFetch) 3 0x20 registerFetch ∧ registerOk (on up registerFetch) registerFetch = true ∧
    registerFetch.f 16 1 = 1 ∧ slice registerFetch.packet 48 32 = List.replicate 32 1 ∧ t2Room (on up registerFetch) 0 = true ∧
    replica registerFetch 0 = 9 ∧ (∀ r < 4, replica registerFetch r ≠ 0xFFFF → routePort up (replica registerFetch r) = none) ∧
    routePort (on routed registerFetch) 9 = some 0 ∧ unreachable (on routed registerFetch) 9 = false ∧
    Ready (on routed registerFetch) 3 0x20 registerFetch ∧ t2Room (on up registerFetch) (2 ^ 40) = false := by
  decide +kernel

/-- The image as an adapter of another identity, in T2 under an identity of its own. -/
def adapterOf (id : Bytes) : Bytes := slice image 0 6 ++ [2] ++ slice image 7 25 ++ id ++ slice image 64 336
def withAdapter (id : Bytes) : State := { loaded with t2 := loaded.t2 ++ [{ identity := List.replicate 32 1, image := adapterOf id }] }

theorem witness_ModelsAreRegistered_held :
    (t2Find (withAdapter identity) (List.replicate 32 1)).isSome = true ∧
    regIn (withAdapter identity) 1 (List.replicate 32 1) = none ∧
    (imageOfId (withAdapter identity) (List.replicate 32 1)).adapter = true ∧
    imageSigned (withAdapter identity) (List.replicate 32 1) (adapterOf identity) = true ∧
    regIn (withAdapter identity) 1 (imageOfId (withAdapter identity) (List.replicate 32 1)).baseId = some 0 ∧
    adapterFits (imageOfId (withAdapter identity) identity) (imageOfId (withAdapter identity) (List.replicate 32 1)) = false ∧
    regIn (withAdapter (zeros 32)) 1 (imageOfId (withAdapter (zeros 32)) (List.replicate 32 1)).baseId = none ∧
    imageSigned { withAdapter identity with sec := { up.sec with policy := 1 } } (List.replicate 32 1) (adapterOf identity) = false ∧
    regIn { loaded with models := [] } 1 identity = none ∧ (imageOfId loaded identity).adapter = false := by
  decide +kernel

/-- The copy of command 3 into T2. -/
def copying (id : Bytes) : State :=
  { on imageAt0 registerCmd with t2 := [{ identity := id, image := zeros 400, copying := some 3 }] }

theorem witness_ModelsAreRegistered_copy :
    canonical (copying identity) = true ∧ (copying identity).live = true ∧ (copying identity).cmd 3 = some registerCmd ∧
    copiedImage (copying identity) registerCmd = (image, false) ∧ costsEnd image = some 400 ∧
    sm3 (image.take 400) = identity ∧ imageSigned (copying identity) identity image = true ∧
    checkedImage image = parseImage image ∧ (checkedImage image).isSome = true ∧
    (∀ m ∈ checkedImage image, m.adapter = false) ∧ regIn (copying identity) 1 identity = none ∧
    image.take (rd image 8 8) = image ∧ (up.cmd 3) = none ∧
    (copying identity).t2.find? (fun y => y.copying == some 3) =
      some { identity := identity, image := zeros 400, copying := some 3 } ∧
    mayName (copying identity) registerCmd.fn (registerCmd.f 24 8) (registerCmd.f 32 8) false = true ∧
    mayName { copying identity with ranges := [] } registerCmd.fn (registerCmd.f 24 8) (registerCmd.f 32 8) false = false ∧
    imageSigned { copying identity with sec := { up.sec with policy := 1 } } identity image = false ∧
    costsEnd (zeros 400) = none ∧
    gapFrom 0 (tabKeys (copying identity).models) < 65536 ∧
    canonical (copying []) = true ∧ copiedImage (copying []) registerCmd = (image, false) ∧ sm3 (image.take 400) ≠ [] := by
  decide +kernel

/-- The same registration with the identity in T1: present, or on its way for command 2; with command `op`. -/
def inT1 (copying : Bool) (c : Cmd) : State :=
  on { loaded with t1 := [{ identity := identity, bytes := 400, copying := copying, waiters := if copying then [2] else [] }] } c

/-- A command about the registration with parameters. -/
def about (op : Nat) (params : Bytes) : Cmd := cmd op 1 mh params

theorem witness_ModelsMoveBetweenTiers_prefetch :
    canonical (inT1 false (about 0x21 [])) = true ∧ modelIndex mh = 0 ∧
    Ready (inT1 false (about 0x21 [])) 3 0x21 (about 0x21 []) ∧ (about 0x21 []).only [] = true ∧
    checkModel (inT1 false (about 0x21 [])) 0 1 mh = none ∧
    ((inT1 false (about 0x21 [])).t1.any fun x => x.identity == identity && !x.copying) = true ∧
    canonical (on loaded (about 0x21 [])) = true ∧ Ready (on loaded (about 0x21 [])) 3 0x21 (about 0x21 []) ∧
    checkModel (on loaded (about 0x21 [])) 0 1 mh = none ∧ t1Find (on loaded (about 0x21 [])) identity = none ∧
    t1Used loaded + (t2Find loaded identity).elim 0 (fun x => x.image.length) ≤ Config.t1Bytes := by
  decide +kernel

/-- T1 is full of a pinned model; T0 has no room for the weights that the image declares. -/
def t1Full : State :=
  { loaded with
    models := loaded.models ++ [(1, { part := 1, identity := [9], pinT1 := true })]
    t1 := [{ identity := [9], bytes := Config.t1Bytes }] }
def heavy : Bytes := slice image 0 64 ++ toLE 8 (2 ^ 40) ++ slice image 72 328
def t0Full : State :=
  { loaded with t2 := [{ identity := identity, image := heavy }], parts := [(1, { valid := true, prisms := 2 })] }

theorem witness_ModelsMoveBetweenTiers_noRoom :
    canonical (on t1Full (about 0x21 [])) = true ∧ Ready (on t1Full (about 0x21 [])) 3 0x21 (about 0x21 []) ∧
    checkModel (on t1Full (about 0x21 [])) 0 1 mh = none ∧ beginT1 (begin' (on t1Full (about 0x21 [])) 3) identity [3] = none ∧
    (beginT1 (begin' (on loaded (about 0x21 [])) 3) identity [3]).isSome = true ∧
    t1PinnedWith t1Full identity ≤ Config.t1PinLimit ∧
    Ready (on t0Full (about 0x22 (zeros 16))) 3 0x22 (about 0x22 (zeros 16)) ∧ t0Find (t0Full.part 1) identity = none ∧
    beginPlace (begin' (on t0Full (about 0x22 (zeros 16))) 3) 1 identity [3] = none ∧
    (beginPlace (begin' (on { t0Full with t2 := loaded.t2 } (about 0x22 (zeros 16))) 3) 1 identity [3]).isSome = true ∧
    checkModel (on up (about 0x21 [])) 0 1 mh ≠ none ∧ (about 0x21 (zeros 16)).only [] = true ∧
    (about 0x21 (1 :: zeros 15)).only [] = false := by
  decide +kernel

/-- Registered and in T2 and T0, with no stream. -/
def unused : State := { loaded with streams := [] }

theorem witness_ModelsMoveBetweenTiers_pin :
    canonical loaded = true ∧ Ready (on loaded (about 0x22 (zeros 16))) 3 0x22 (about 0x22 (zeros 16)) ∧
    (about 0x22 (zeros 16)).only [(16, 1)] = true ∧ (about 0x22 (zeros 16)).f 16 1 = 0 ∧
    checkModel (on loaded (about 0x22 (zeros 16))) 0 1 mh = none ∧ (imageOfId loaded identity).adapter = false ∧
    t0Placed (loaded.part 1) identity = true ∧
    Ready (on loaded (about 0x23 (1 :: zeros 15))) 3 0x23 (about 0x23 (1 :: zeros 15)) ∧
    (about 0x23 (1 :: zeros 15)).only [(16, 1)] = true ∧ (about 0x23 (1 :: zeros 15)).f 16 1 ≤ 1 ∧
    checkModel (on loaded (about 0x23 (1 :: zeros 15))) 0 1 mh = none ∧
    Ready (on unused (about 0x24 (0xFF :: zeros 15))) 3 0x24 (about 0x24 (0xFF :: zeros 15)) ∧
    canonical unused = true ∧ (about 0x24 (0xFF :: zeros 15)).only [(16, 1)] = true ∧
    checkModel (on unused (about 0x24 (0xFF :: zeros 15))) 0 1 mh = none ∧ modelUsers unused 0 = 0 ∧
    namedAsBase unused 1 identity = false ∧ (about 0x24 (0xFF :: zeros 15)).f 16 1 = 0xFF := by
  decide +kernel

/-- The copy in T0 was found poisoned while a kernel reads it. -/
def poisoned : State :=
  { loaded with parts := [(1, { valid := true, prisms := 2, t0 := [{ identity := identity, placed := true, dead := true }] })] }

theorem witness_ModelsMoveBetweenTiers_evict :
    canonical (inT1 false (about 0x24 (1 :: zeros 15))) = true ∧
    Ready (inT1 false (about 0x24 (1 :: zeros 15))) 3 0x24 (about 0x24 (1 :: zeros 15)) ∧
    checkModel (inT1 false (about 0x24 (1 :: zeros 15))) 0 1 mh = none ∧
    t1Find (inT1 false (about 0x24 (1 :: zeros 15))) identity = some { identity := identity, bytes := 400 } ∧
    t1Pinned (inT1 false (about 0x24 (1 :: zeros 15))) identity = false ∧
    t1PinnedWith (inT1 false (about 0x22 (1 :: zeros 15))) identity ≤ Config.t1PinLimit ∧
    Ready (on loaded (about 0x24 (zeros 16))) 3 0x24 (about 0x24 (zeros 16)) ∧ t0Pinned loaded 1 identity = false ∧
    t0Find (loaded.part 1) identity = some { identity := identity, placed := true } ∧ t0InUse loaded 1 identity = false ∧
    t0Pinned { loaded with models := [(0, { part := 1, identity := identity, pinT0 := true })] } 1 identity = true ∧
    t1Pinned { loaded with models := [(0, { part := 1, identity := identity, pinT1 := true })] } identity = true ∧
    t1Find loaded identity = none ∧ modelUsers loaded 0 ≠ 0 ∧ (about 0x24 (2 :: zeros 15)).f 16 1 = 2 ∧
    canonical poisoned = true ∧ Ready (on poisoned (about 0x24 (zeros 16))) 3 0x24 (about 0x24 (zeros 16)) ∧
    checkModel (on poisoned (about 0x24 (zeros 16))) 0 1 mh = none ∧ t0Pinned poisoned 1 identity = false ∧
    t0Find (poisoned.part 1) identity = some { identity := identity, placed := true, dead := true } ∧
    (about 0x24 (zeros 16)).force = false ∧ (forced 0x24 1 mh (zeros 16)).force = true ∧
    Ready (on poisoned (forced 0x24 1 mh (zeros 16))) 3 0x24 (forced 0x24 1 mh (zeros 16)) := by
  decide +kernel

/-- The copy in T0 is being placed for command 2. -/
def placing : State :=
  { loaded with parts := [(1, { valid := true, prisms := 2, t0 := [{ identity := identity, waiters := [2] }] })]
                cmds := [{ about 0x22 (zeros 16) with cid := 2, ring := 1, accepted := 0, started := some 0 }] }

theorem witness_ModelsMoveBetweenTiers_done :
    canonical placing = true ∧ placing.live = true ∧ (placing.model 0).identity ≠ [] ∧ (placing.part 1).resetting = none ∧
    ({ identity := identity, waiters := [2] } : T0Copy) ∈ (placing.part 1).t0 ∧ (placing.model 0).identity = identity ∧
    (∀ x ∈ (placing.part 1).t0, x.dead = false) ∧
    Ready (on placing (about 0x22 (zeros 16))) 3 0x22 (about 0x22 (zeros 16)) ∧
    t0Placed (placing.part 1) identity = false ∧ t0Find (placing.part 1) identity ≠ none ∧
    canonical (inT1 true { about 0x21 [] with cid := 2 }) = true ∧
    ({ identity := identity, bytes := 400, copying := true, waiters := [2] } : T1Copy) ∈
      (inT1 true { about 0x21 [] with cid := 2 }).t1 := by
  decide +kernel

/-! ### Streams and runs -/

/-- STREAM_OPEN of a best-effort stream of the image, group 0. -/
def openCmd : Cmd := cmd 0x30 1 0 (toLE 4 mh ++ zeros 60)

/-- The handle of stream `i` of partition 1. -/
def sh (i : Nat) : Nat := i + 2 ^ 14 + 2 ^ 21

/-- A command about stream 0. -/
def onStream (op : Nat) (params : Bytes) : Cmd := cmd op 1 (sh 0) params

/-- A RUN of stream 0 is queued on ring 1 ahead of a command. -/
def queuedRun (c : Cmd) : State :=
  { loaded with runs := [{ oneRun with cid := 2, dispatched := false, staged := false }]
                cmds := [{ onStream 0x34 (zeros 48) with cid := 2, ring := 1, accepted := 0, members := [0] }, c] }

/-- It is executing there. -/
def executing (c : Cmd) : State :=
  { queuedRun c with runs := [{ oneRun with cid := 2 }]
                     cmds := [{ onStream 0x34 (zeros 48) with cid := 2, ring := 1, accepted := 0, members := [0], started := some 0 }, c] }

theorem witness_StreamsOpenAndClose_open :
    canonical (on unused openCmd) = true ∧ Ready (on unused openCmd) 3 0x30 openCmd ∧
    openCmd.only [(16, 28), (48, 32)] = true ∧ openCmd.f 33 1 = 0 ∧ allZero (slice openCmd.packet 48 32) = true ∧
    [openCmd.f 16 4, openCmd.f 20 4, openCmd.f 24 4, openCmd.f 28 4] = [mh, 0, 0, 0] ∧
    checkModel (on unused openCmd) 0 1 mh = none ∧ voiceOk (on unused openCmd) [mh, 0, 0, 0] = true ∧
    kvPositionsOk (voiceOf (on unused openCmd) [mh, 0, 0, 0]) 0 = true ∧ openCmd.f 32 1 = 0 ∧
    groupClassOk (on unused openCmd) 1 0 0 = true ∧ freeStreamIndex (on unused openCmd) = 0 ∧
    poolUsed (on unused openCmd) + voiceKvBytes (voiceOf (on unused openCmd) [mh, 0, 0, 0]) 0 ≤ poolBytes (on unused openCmd) ∧
    (seatsFor (on unused openCmd) 1 [mh, 0, 0, 0] (voiceStateBytes (voiceOf (on unused openCmd) [mh, 0, 0, 0]))).isSome = true ∧
    checkStream (on unused (onStream 0x31 [])) 0 1 (sh 0) ≠ none := by
  decide +kernel

/-- STREAM_OPEN of a reserved class; of a model that is not registered; of a voice without a base; of class LC. The
pool is smaller than the contexts that it holds. -/
def openBad : Cmd := cmd 0x30 1 0 (toLE 4 mh ++ zeros 13 ++ [2] ++ zeros 46)
def openGone : Cmd := cmd 0x30 1 0 (toLE 4 (mh + 1) ++ zeros 60)
def openNone : Cmd := cmd 0x30 1 0 (zeros 64)
def openLc : Cmd := cmd 0x30 1 0 (toLE 4 mh ++ zeros 12 ++ [1, 0] ++ toLE 2 1 ++ zeros 44)
def poolFull : State :=
  { unused with memc := { up.memc with poolGib := 0 }, vertex := { up.vertex with inbox := [(0, [1], 9, 0)] } }

/-- The active table serves group 1 with one LC stream, of a model that is pinned or not. -/
def served (pin : Bool) : State :=
  { unused with
    models := [(0, { part := 1, identity := identity, pinT0 := pin })]
    parts := [(1, { unused.part 1 with active := some firstTick, ticking := true })] }

/-- What admission answers to `openLc`. -/
def admits (s : State) : Option Nat :=
  admit213 (begin' (on s openLc) 3) 1 ((begin' (on s openLc) 3).part 1) 1
    ((lcMembers (begin' (on s openLc) 3) 1 1).map (begin' (on s openLc) 3).stream ++
      [newStream (begin' (on s openLc) 3) openLc [mh, 0, 0, 0]])
    (lcFloor (begin' (on s openLc) 3) (some (1, 1, [mh, 0, 0, 0]))) true

theorem witness_StreamsOpenAndClose_refused :
    Ready (on unused openBad) 3 0x30 openBad ∧ openBad.f 33 1 = 2 ∧ openGone.only [(16, 28), (48, 32)] = true ∧
    checkModel (on unused openGone) 0 1 (mh + 1) ≠ none ∧ voiceOk (on unused openNone) [0, 0, 0, 0] = false ∧
    Ready (on poolFull openCmd) 3 0x30 openCmd ∧ voiceOk (on poolFull openCmd) [mh, 0, 0, 0] = true ∧
    groupClassOk (on poolFull openCmd) 1 0 0 = true ∧
    openAlloc (begin' (on poolFull openCmd) 3) openCmd (newStream (begin' (on poolFull openCmd) 3) openCmd [mh, 0, 0, 0]) =
      none ∧
    openLc.f 32 1 = 1 ∧ openLc.f 34 2 = 1 ∧
    Ready (on (served false) openLc) 3 0x30 openLc ∧ groupClassOk (on (served false) openLc) 1 1 1 = true ∧
    admits (served false) = some 2 ∧ Ready (on (served true) openLc) 3 0x30 openLc ∧
    groupClassOk (on (served true) openLc) 1 1 1 = true ∧ voicePinned (served true) 1 [mh, 0, 0, 0] = true ∧
    (openAlloc (begin' (on (served true) openLc) 3) openLc
      (newStream (begin' (on (served true) openLc) 3) openLc [mh, 0, 0, 0])).isSome = true := by
  decide +kernel

theorem witness_StreamsOpenAndClose_close :
    canonical (on loaded (onStream 0x31 [])) = true ∧ OnStream (on loaded (onStream 0x31 [])) (onStream 0x31 []) 0 ∧
    Ready (on loaded (onStream 0x31 [])) 3 0x31 (onStream 0x31 []) ∧
    runsQueued (on loaded (onStream 0x31 [])) 0 3 = [] ∧ runExecuting (on loaded (onStream 0x31 [])) 0 3 = false ∧
    canonical (queuedRun (onStream 0x31 [])) = true ∧ OnStream (queuedRun (onStream 0x31 [])) (onStream 0x31 []) 0 ∧
    Ready (queuedRun (onStream 0x31 [])) 3 0x31 (onStream 0x31 []) ∧
    runsQueued (queuedRun (onStream 0x31 [])) 0 3 ≠ [] ∧ (onStream 0x31 []).force = false ∧
    OnStream (executing (onStream 0x31 [])) (onStream 0x31 []) 0 ∧ Ready (executing (onStream 0x31 [])) 3 0x31 (onStream 0x31 []) ∧
    runExecuting (executing (onStream 0x31 [])) 0 3 = true ∧ runsQueued (executing (onStream 0x31 [])) 0 3 = [] := by
  decide +kernel

/-- STREAM_SEED and STREAM_RESET. -/
def seedCmd : Cmd := onStream 0x32 (toLE 8 (2 ^ 64 - 1) ++ toLE 4 7 ++ zeros 4)
def resetCmd (f : Byte) : Cmd := onStream 0x33 (f :: zeros 15)

theorem witness_StreamsOpenAndClose_seed :
    OnStream (on loaded seedCmd) seedCmd 0 ∧ Ready (on loaded seedCmd) 3 0x32 seedCmd ∧
    seedCmd.only [(16, 8), (24, 4)] = true ∧ OnStream (on loaded (resetCmd 1)) (resetCmd 1) 0 ∧
    Ready (on loaded (resetCmd 1)) 3 0x33 (resetCmd 1) ∧ (resetCmd 1).only [(16, 2)] = true ∧ (resetCmd 1).f 16 2 ≤ 1 ∧
    (resetCmd 2).f 16 2 = 2 ∧ (onStream 0x32 (zeros 15 ++ [1])).only [(16, 8), (24, 4)] = false := by
  decide +kernel

/-- STATE_EVICT to a destination. -/
def evictCmd (d : Byte) : Cmd := onStream 0x37 (d :: zeros 15)

/-- Stream 0 in another residency. -/
def resid (r : Residency) : State := { loaded with streams := [(0, { part := 1, voice := [mh, 0, 0, 0], resid := r })] }

theorem witness_StreamStateMovesAndIsCheckpointed_evict :
    canonical (on loaded (evictCmd 0)) = true ∧ Ready (on loaded (evictCmd 0)) 3 0x37 (evictCmd 0) ∧
    OnStream (on loaded (evictCmd 0)) (evictCmd 0) 0 ∧ (evictCmd 0).only [(16, 1)] = true ∧
    runsQueued (on loaded (evictCmd 0)) 0 3 = [] ∧ runExecuting (on loaded (evictCmd 0)) 0 3 = false ∧
    ((on loaded (evictCmd 0)).stream 0).resid = .resident ∧
    roomGeode (on loaded (evictCmd 0)) (voiceStateBytes (voiceOf loaded (loaded.stream 0).voice)) ≠ none ∧
    Ready (on loaded (evictCmd 1)) 3 0x37 (evictCmd 1) ∧ OnStream (on loaded (evictCmd 1)) (evictCmd 1) 0 ∧
    poolUsed (on loaded (evictCmd 1)) + voiceStateBytes (voiceOf loaded (loaded.stream 0).voice) ≤ poolBytes loaded ∧
    canonical (resid (.movingOut true)) = true ∧ (resid (.movingOut true)).live = true ∧
    ((resid (.movingOut true)).stream 0).resid = .movingOut true ∧ canonical (resid (.fetching false)) = true ∧
    ((resid (.fetching false)).stream 0).resid = .fetching false ∧ ((resid (.fetching false)).stream 0).isOpen = true ∧
    waiting (resid (.fetching false)) 0 = [] ∧ (evictCmd 2).f 16 1 = 2 ∧
    Ready (queuedRun (evictCmd 0)) 3 0x37 (evictCmd 0) ∧ OnStream (queuedRun (evictCmd 0)) (evictCmd 0) 0 ∧
    runsQueued (queuedRun (evictCmd 0)) 0 3 ≠ [] ∧ (evictCmd 0).force = false ∧
    OnStream (executing (evictCmd 0)) (evictCmd 0) 0 ∧ runExecuting (executing (evictCmd 0)) 0 3 = true ∧
    Ready (on (resid .awayGeode) (evictCmd 0)) 3 0x37 (evictCmd 0) ∧ (resid .awayGeode).stream 0 ≠ {} ∧
    OnStream (on (resid .awayLpddr) (evictCmd 0)) (evictCmd 0) 0 ∧ ((resid .awayLpddr).stream 0).resid = .awayLpddr := by
  decide +kernel

/-- An ADDR of the fabric that names this device. -/
def fab (a : Nat) : Nat := 2 ^ 63 + 5 * 2 ^ 42 + a

/-- CHECKPOINT_SET of group 0: a ring of two entries of 4 KiB at LPDDR5X address 0x1000. -/
def ckptCmd : Cmd :=
  cmd 0x39 1 0 (toLE 2 0 ++ toLE 2 0 ++ toLE 4 1 ++ toLE 8 (fab 0x1000) ++ toLE 4 2 ++ toLE 4 4096 ++ zeros 8)

/-- The checks of CHECKPOINT_SET: PERIOD_K 0; a group number out of range; one entry; a ring outside memory. -/
def ckptOff : Cmd := cmd 0x39 1 0 (zeros 32)
def ckptBad : Cmd := cmd 0x39 1 0 (toLE 2 4096 ++ zeros 30)
def ckptOne : Cmd :=
  cmd 0x39 1 0 (toLE 2 0 ++ toLE 2 0 ++ toLE 4 1 ++ toLE 8 (fab 0x1000) ++ toLE 4 1 ++ toLE 4 4096 ++ zeros 8)
def ckptFar : Cmd :=
  cmd 0x39 1 0 (toLE 2 0 ++ toLE 2 0 ++ toLE 4 1 ++ toLE 8 (fab (2 ^ 40)) ++ toLE 4 2 ++ toLE 4 4096 ++ zeros 8)

/-- A latency-critical stream of group 0, which no entry serves; an entry of group 0 is being written. -/
def lcZero : State := { loaded with streams := [(0, { part := 1, voice := [mh, 0, 0, 0], lc := true })] }
def writing : State :=
  { loaded with
    vertex := { up.vertex with reqs := [{ tag := 0, dest := 9, vc := 0, port := 0, since := 0, type := 2, purpose := .checkpoint 0 0 }] } }

theorem witness_StreamStateMovesAndIsCheckpointed_refused :
    Ready (on loaded ckptOff) 3 0x39 ckptOff ∧ ckptOff.f 20 4 = 0 ∧ ckptOff.only [(16, 24)] = true ∧ 4095 < ckptBad.f 16 2 ∧
    Ready (on loaded ckptOne) 3 0x39 ckptOne ∧ ckptOne.f 32 4 < 2 ∧ ckptOne.f 20 4 ≠ 0 ∧
    Ready (on loaded ckptFar) 3 0x39 ckptFar ∧
    mayName (on loaded ckptFar) 0 (ckptFar.f 24 8) (2 * 4096) false = false ∧
    lcMembers (on lcZero ckptCmd) 1 0 = [0] ∧ Ready (on lcZero ckptCmd) 3 0x39 ckptCmd ∧ groupWriting loaded 1 0 = false ∧
    groupWriting writing 1 0 = true ∧
    admit213 (begin' (on lcZero ckptCmd) 3) 1
      { (begin' (on lcZero ckptCmd) 3).part 1 with
        ckpts := tabSet {} ((begin' (on lcZero ckptCmd) 3).part 1).ckpts 0
          { base := ckptCmd.f 24 8, entries := 2, entryBytes := 4096, periodK := 1, sign := false } } 0
      ((lcMembers (begin' (on lcZero ckptCmd) 3) 1 0).map (begin' (on lcZero ckptCmd) 3).stream)
      (lcFloor (begin' (on lcZero ckptCmd) 3) none)
      (decide (stateUsed (begin' (on lcZero ckptCmd) 3) 1 ≤ stateRoom ((begin' (on lcZero ckptCmd) 3).part 1))) = some 1 := by
  decide +kernel

theorem witness_StreamStateMovesAndIsCheckpointed_set :
    canonical (on loaded ckptCmd) = true ∧ Ready (on loaded ckptCmd) 3 0x39 ckptCmd ∧ ckptCmd.only [(16, 24)] = true ∧
    ckptCmd.f 16 2 ≤ 4095 ∧ ckptCmd.f 18 2 ≤ 1 ∧ ckptCmd.f 20 4 = 1 ∧ addrSpace (ckptCmd.f 24 8) = 2 ∧ addrValid (ckptCmd.f 24 8) = true ∧
    ckptCmd.f 24 8 % 4096 = 0 ∧ ckptCmd.f 32 4 = 2 ∧ ckptCmd.f 36 4 = 4096 ∧
    2 * (streamsOf (on loaded ckptCmd) 1 fun t => t.group == 0).length ≤ ckptCmd.f 32 4 ∧
    mayName (on loaded ckptCmd) 0 (ckptCmd.f 24 8) (2 * 4096) false = true ∧ lcMembers (on loaded ckptCmd) 1 0 = [] := by
  decide +kernel

/-- The ring of group 0, and a context of stream 0 that is due. -/
def ckptDue : State :=
  { loaded with
    streams := [(0, { part := 1, voice := [mh, 0, 0, 0], ckptCopies := [[1]] })]
    parts := [(1, { valid := true, prisms := 2,
                    ckpts := [(0, { base := fab 0x1000, entries := 2, entryBytes := 4096, periodK := 1, next := 1 })] })] }

/-- The same with a context of one byte too many, and without the ring. -/
def ckptLong : State :=
  { ckptDue with streams := [(0, { part := 1, voice := [mh, 0, 0, 0], ckptCopies := [zeros 4033] })] }
def ckptNone : State := { ckptDue with parts := [(1, { valid := true, prisms := 2 })] }

theorem witness_StreamStateMovesAndIsCheckpointed_write :
    canonical ckptDue = true ∧ ckptDue.live = true ∧ (ckptDue.stream 0).ckptCopies = [[1]] ∧ ckptBusy ckptDue 0 = false ∧
    tabGet {} (ckptDue.part 1).ckpts 0 =
      { base := fab 0x1000, entries := 2, entryBytes := 4096, periodK := 1, next := 1 } ∧
    hostRemote ckptDue (fab 0x2000) = false ∧ hostRemote ckptDue (fab 0x2040) = false ∧
    fab 0x2000 % 2 ^ 42 + 64 + 1 ≤ usable ckptDue ∧ regionOf ckptDue (fab 0x2000 % 2 ^ 42) = .lpddr ∧
    regionOf ckptDue (fab 0x2040 % 2 ^ 42) = .lpddr ∧ loaded.live = true ∧ (loaded.stream 0).ckptCopies = [] ∧
    mayName ckptDue (ckptDue.part 1).function.toNat (fab 0x2000) 64 false = true ∧
    mayName ckptDue (ckptDue.part 1).function.toNat (fab 0x2040) 1 false = true ∧
    mayName { ckptDue with ranges := [] } (ckptDue.part 1).function.toNat (fab 0x2000) 64 false = false ∧
    hostRemote { ckptDue with ranges := [] } (fab 0x2000) = false ∧ ckptBusy { ckptDue with ranges := [] } 0 = false ∧
    canonical ckptLong = true ∧ ckptLong.live = true ∧ (ckptLong.stream 0).ckptCopies = [zeros 4033] ∧
    ckptBusy ckptLong 0 = false ∧ 4096 < 4033 + 64 ∧
    (tabGet {} (ckptLong.part 1).ckpts 0).entryBytes = 4096 ∧ canonical ckptNone = true ∧ ckptNone.live = true ∧
    (tabGet {} (ckptNone.part 1).ckpts 0).periodK = 0 ∧ ckptBusy ckptNone 0 = false := by
  decide +kernel

/-- The ring lies on device 9, which port 0 reaches, or no port does. -/
def ckptAway (r : Bool) : State :=
  { ckptDue with
    vertex := if r then routed.vertex else {}
    parts := [(1, { valid := true, prisms := 2
                    ckpts := [(0, { base := 2 ^ 63 + 9 * 2 ^ 42, entries := 2, entryBytes := 4096, periodK := 1 })] })] }

theorem witness_StreamStateMovesAndIsCheckpointed_away :
    canonical (ckptAway true) = true ∧ ckptBusy (ckptAway true) 0 = false ∧ hostRemote (ckptAway true) (2 ^ 63 + 9 * 2 ^ 42) = true ∧
    addrDevice (2 ^ 63 + 9 * 2 ^ 42) = 9 ∧ unreachable (ckptAway true) 9 = false ∧ routePort (ckptAway true) 9 ≠ none ∧
    routePort (ckptAway false) 9 = none ∧ ckptBusy (ckptAway false) 0 = false := by
  decide +kernel

/-- STATE_SAVE to host address 0x1000. -/
def saveCmd : Cmd := onStream 0x35 ([1, 0, 0, 0, 0, 0, 0, 0] ++ toLE 8 0x1000 ++ toLE 8 4096 ++ zeros 8)

/-- The state slots of stream 0 hold poison. -/
def harmed : State := { loaded with streams := [(0, { part := 1, voice := [mh, 0, 0, 0], poison := true })] }

theorem witness_StreamsSaveRestoreAndMigrate_save_refused :
    Ready (on loaded (onStream 0x35 (zeros 32))) 3 0x35 (onStream 0x35 (zeros 32)) ∧
    (onStream 0x35 (zeros 32)).f 16 1 ≠ 1 ∧ mayName (on loaded (onStream 0x35 (zeros 32))) 0 0 0 false = true ∧
    (onStream 0x35 ([1, 0, 2, 0] ++ zeros 28)).f 18 2 = 2 ∧
    mayName (on loaded saveCmd) 0 (2 ^ 62 + 2 ^ 40) 4096 false = false ∧ addrValid (2 ^ 62 + 2 ^ 40) = true ∧
    OnStream (executing saveCmd) saveCmd 0 ∧ Ready (executing saveCmd) 3 0x35 saveCmd ∧
    runExecuting (executing saveCmd) 0 3 = true ∧
    Ready (on harmed saveCmd) 3 0x35 saveCmd ∧ OnStream (on harmed saveCmd) saveCmd 0 ∧
    runExecuting (on harmed saveCmd) 0 3 = false ∧ ((on harmed saveCmd).stream 0).poison = true ∧
    mayName (on harmed saveCmd) 0 (saveCmd.f 24 8) (saveCmd.f 32 8) false = true := by
  decide +kernel

theorem witness_StreamsSaveRestoreAndMigrate_save :
    canonical (on loaded saveCmd) = true ∧ Ready (on loaded saveCmd) 3 0x35 saveCmd ∧
    OnStream (on loaded saveCmd) saveCmd 0 ∧ saveCmd.only [(16, 4), (24, 16)] = true ∧ saveCmd.f 16 1 = 1 ∧
    saveCmd.f 17 1 = 0 ∧ saveCmd.f 18 2 = 0 ∧ addrValid (saveCmd.f 24 8) = true ∧
    mayName (on loaded saveCmd) 0 (saveCmd.f 24 8) (saveCmd.f 32 8) false = true ∧ runExecuting (on loaded saveCmd) 0 3 = false ∧
    PlainDest (on loaded saveCmd) 0 (saveCmd.f 24 8) (saveCmd.f 32 8)
      (captureCtx ((on loaded saveCmd).modStream 0 applySeed) 0 false) := by
  decide +kernel

/-- The context of stream 0 of `loaded`. -/
def context : Bytes := captureCtx loaded 0 false

/-- STATE_RESTORE of it from LPDDR5X address 0, without a signature. -/
def restoreCmd : Cmd := onStream 0x36 (zeros 8 ++ lp 0 ++ toLE 8 context.length ++ zeros 40)

theorem witness_StreamsSaveRestoreAndMigrate_restore :
    canonical (on (put loaded 0 context) restoreCmd) = true ∧ Ready (on (put loaded 0 context) restoreCmd) 3 0x36 restoreCmd ∧
    OnStream (on (put loaded 0 context) restoreCmd) restoreCmd 0 ∧
    restoreCmd.only [(16, 2), (24, 16), (48, 32)] = true ∧ restoreCmd.f 16 2 ≤ 1 ∧
    runsNaming (on (put loaded 0 context) restoreCmd) 0 3 = [] ∧
    PlainRead (on (put loaded 0 context) restoreCmd) 0 (restoreCmd.f 24 8) (restoreCmd.f 32 8) context ∧
    Restores (on (put loaded 0 context) restoreCmd) 0 context
      (restoreNeedsSig (on (put loaded 0 context) restoreCmd) restoreCmd) (slice restoreCmd.packet 48 32) [] ∧
    ((on (put loaded 0 context) restoreCmd).stream 0).sink = none := by
  decide +kernel

/-- The same with a SIGN word that is reserved; into a stream with a queued run; of contexts that fail each check in turn;
where the policy asks for a signature; and into a stream that feeds slot 31 of port 0. -/
def spoiled (o : Nat) (v : Byte) : Bytes := slice context 0 o ++ [v] ++ slice context (o + 1) (context.length - o - 1)
def resealed (o : Nat) (v : Byte) : Bytes :=
  slice (spoiled o v) 0 (context.length - 192) ++ sm3 (slice (spoiled o v) 0 (context.length - 192))

theorem witness_StreamsSaveRestoreAndMigrate_restore_refused :
    (onStream 0x36 (toLE 2 2 ++ zeros 62)).f 16 2 = 2 ∧
    Ready (queuedRun restoreCmd) 3 0x36 restoreCmd ∧ OnStream (queuedRun restoreCmd) restoreCmd 0 ∧
    runsNaming (queuedRun restoreCmd) 0 3 ≠ [] ∧ (loaded.stream 0).awaitContext = false ∧ ctxCheck1 (zeros 64) = false ∧
    ctxCheck1 context = true ∧ ctxCheck2 context = true ∧ ctxCheck3 context = true ∧ ctxCheck4 context (zeros 32) = false ∧
    restoreNeedsSig { loaded with sec := { up.sec with policy := 2 } } restoreCmd = true ∧
    ctxCheck5 (voiceOf loaded (loaded.stream 0).voice) [] 0 context = none := by
  decide +kernel

/-- Stream 1 of the same voice awaits a context. -/
def awaits : State :=
  { loaded with streams := [(0, { part := 1, voice := [mh, 0, 0, 0] }),
                            (1, { part := 1, voice := [mh, 0, 0, 0], awaitContext := true })] }

/-- STREAM_MIGRATE of stream 0 to stream 1 of this device. -/
def migrateCmd : Cmd := onStream 0x38 (toLE 2 5 ++ zeros 2 ++ toLE 4 (sh 1) ++ zeros 40)

theorem witness_StreamsSaveRestoreAndMigrate_migrate :
    canonical (on awaits migrateCmd) = true ∧ Ready (on awaits migrateCmd) 3 0x38 migrateCmd ∧
    OnStream (on awaits migrateCmd) migrateCmd 0 ∧ migrateCmd.only [(16, 2), (20, 4), (32, 32)] = true ∧
    migrateCmd.f 16 2 = awaits.ident.number.toNat ∧ runsNaming (on awaits migrateCmd) 0 3 = [] ∧
    streamIndex (migrateCmd.f 20 4) = 1 ∧ (awaits.stream 1).isOpen = true ∧
    (awaits.stream 1).part = streamPart (migrateCmd.f 20 4) ∧ awaits.streamGenOf 1 = streamGen (migrateCmd.f 20 4) ∧
    (awaits.stream 1).awaitContext = true ∧ (awaits.stream 1).restoredFrom = none ∧
    Restores (on awaits migrateCmd) 1 (captureCtx ((on awaits migrateCmd).modStream 0 applySeed) 0 false) false [] [] ∧
    (awaits.stream 0).placementGen = 0 ∧ (awaits.stream 0).awaitContext = false ∧ awaits.streamGenOf 0 = streamGen (sh 0) ∧
    runsNaming (queuedRun migrateCmd) 0 3 ≠ [] ∧ OnStream (queuedRun migrateCmd) migrateCmd 0 ∧
    Ready (on harmed migrateCmd) 3 0x38 migrateCmd ∧ OnStream (on harmed migrateCmd) migrateCmd 0 ∧
    runsNaming (on harmed migrateCmd) 0 3 = [] := by
  decide +kernel

/-- STREAM_MIGRATE to device 9, which is reached through port 0, or not; the stream is fenced, or drains for command 2. -/
def farCmd : Cmd := onStream 0x38 (toLE 2 9 ++ zeros 2 ++ toLE 4 (sh 1) ++ zeros 40)
def fencedTo (m : MigState) : State := { loaded with streams := [(0, { part := 1, voice := [mh, 0, 0, 0], mig := m })] }

theorem witness_StreamsSaveRestoreAndMigrate_far :
    Ready (on { loaded with vertex := routed.vertex } farCmd) 3 0x38 farCmd ∧
    OnStream (on { loaded with vertex := routed.vertex } farCmd) farCmd 0 ∧ farCmd.only [(16, 2), (20, 4), (32, 32)] = true ∧
    farCmd.f 16 2 = 9 ∧ unreachable { loaded with vertex := routed.vertex } 9 = false ∧
    routePort { loaded with vertex := routed.vertex } 9 ≠ none ∧ routePort loaded 9 = none ∧
    (captureCtx ((on loaded farCmd).modStream 0 applySeed) 0 true).length < 2 ^ 32 ∧
    checkStream (on (fencedTo (.fenced 8 0)) farCmd) 0 1 (sh 0) = none ∧
    Ready (on (fencedTo (.fenced 8 0)) farCmd) 3 0x38 farCmd ∧ closing (on (fencedTo (.fenced 8 0)) farCmd) 0 3 = false ∧
    Ready (on (fencedTo (.draining 2)) farCmd) 3 0x38 farCmd ∧
    checkStream (on (fencedTo (.draining 2)) farCmd) 0 1 (sh 0) = none := by
  decide +kernel

/-- Stream 0's context has been delivered to device 9, whose owner's key is key 2; `SIGNATURE` of key 2 over a digest of zeros. -/
def awayCmd : Cmd := onStream 0x38 (toLE 2 9 ++ zeros 2 ++ toLE 4 (sh 1) ++ zeros 8 ++ vendor)
def deliveredUp : State :=
  { on loaded awayCmd with streams := [(0, { part := 1, voice := [mh, 0, 0, 0], mig := .delivered 3 12 (zeros 32) 0 })] }
def sigR : Bytes := toBE 32 0x0A0D3AD5FEA4BFCE0FF02BCA54657FE2A6377E1E18099F783D0277F19D1150D9
def sigS : Bytes := toBE 32 0x4EA1D8C6563CD576A00A8D791D11AABE0C86F664FB3B9768F33D016200474C48

theorem witness_StreamsSaveRestoreAndMigrate_acknowledged :
    canonical deliveredUp = true ∧ deliveredUp.live = true ∧ (deliveredUp.stream 0).mig = .delivered 3 12 (zeros 32) 0 ∧
    (deliveredUp.stream 0).isOpen = true ∧ deliveredUp.cmd 3 = some awayCmd ∧ sm3 key2 = slice awayCmd.packet 32 32 ∧
    sm2Verify key2 sigR sigS (zeros 32) = true ∧ 0 + 1000 * fabricTimeoutUs deliveredUp ≤ deliveredUp.now ∧
    sm2Verify key2 sigR sigS (1 :: zeros 31) = false ∧ (loaded.stream 0).mig = .none := by
  decide +kernel

/-- An input descriptor: raw values at host address 0x2000. -/
def descriptor : Bytes := toLE 8 0x2000 ++ [2] ++ zeros 23

/-- A RUN of one step of stream 0 with the descriptor table at LPDDR5X address 0. -/
def runCmd : Cmd :=
  { onStream 0x34 (toLE 4 1 ++ toLE 2 0 ++ toLE 2 1 ++ [1, 0] ++ zeros 6 ++ lp 0 ++ zeros 24) with
    members := [0], descTable := descriptor }

/-- Stream 0 has a sink, and the RUN has been accepted. -/
def sinking : State :=
  on { put loaded 0 descriptor with streams := [(0, { part := 1, voice := [mh, 0, 0, 0], sink := some (.port 0 31 9) })] } runCmd

theorem witness_RunsQueueAndComplete_run :
    Ready sinking 3 0x34 runCmd ∧ runCmd.wanting = 0 ∧ runFieldsOk runCmd = true ∧
    TableIs sinking runCmd (runCmd.f 32 8) (32 * runCmd.f 24 1) runCmd.descTable descriptor ∧
    TableIs sinking runCmd (runCmd.f 40 8) (4 * runCmd.f 22 2) runCmd.memberList [] ∧
    TableIs sinking runCmd (runCmd.f 48 8) (bitmapBytes (runCmd.f 22 2) (runCmd.f 16 4)) runCmd.bitmap [] ∧
    runCmd.readStatus = 0 ∧ runCmd.object = sh 0 ∧ runCmd.f 40 8 = 0 ∧ membersCheck sinking runCmd [sh 0] [] 0 = none ∧
    badInline runCmd = none ∧ bitmapCodes (runCmd.f 16 4) [] = [] ∧
    descsCheck sinking runCmd (voiceOf sinking (sinking.stream 0).voice) [0] (chunks 32 descriptor)
      ((chunks 32 descriptor).map parseDesc) = none ∧
    (∀ d ∈ (chunks 32 descriptor).map parseDesc, d.format ≠ 3 ∨ d.positions = 0) ∧ behindRun sinking runCmd = false := by
  decide +kernel

/-- RUNs that fail a check: BASE_STEPS 0; a table that could not be read; another stream first in the list; without a
sink; behind a RUN of its stream. -/
theorem witness_RunsQueueAndComplete_refused :
    runFieldsOk (onStream 0x34 (zeros 48)) = false ∧ Ready (on loaded (onStream 0x34 (zeros 48))) 3 0x34 (onStream 0x34 (zeros 48)) ∧
    { runCmd with readStatus := stPoisonedData }.readStatus ≠ 0 ∧ { runCmd with wanting := 1 }.wanting ≠ 0 ∧
    membersCheck (on (put loaded 0 descriptor) runCmd) runCmd [sh 0] [] 0 ≠ none ∧
    membersCheck sinking runCmd [sh 1] [] 0 ≠ none ∧ behindRun { queuedRun runCmd with cmds := [{ runCmd with cid := 2 }, runCmd] } runCmd = true := by
  decide +kernel

/-- Every item of the run has been executed. -/
def ended : State := { running with runs := [{ oneRun with done := 1, planned := 1 }] }

/-- The same in a group whose checkpoint is then due. -/
def endedDue : State := { ended with parts := ckptDue.parts }

theorem witness_RunsQueueAndComplete_complete :
    canonical ended = true ∧ ended.live = true ∧ ended.cmd 3 = some (cmd 0x34 1 0 []) ∧
    ended.runOf 3 = some { oneRun with done := 1, planned := 1 } ∧
    runOver ended { oneRun with done := 1, planned := 1 } = true ∧
    ({ oneRun with done := 1, planned := 1 } : Run).fin = 1 ∧ (∀ e ∈ ended.cmds, e.waitStream = none) ∧
    (ended.stream 0).isOpen = true ∧ canonical endedDue = true ∧ endedDue.live = true ∧
    endedDue.runOf 3 = some { oneRun with done := 1, planned := 1 } ∧
    runOver endedDue { oneRun with done := 1, planned := 1 } = true ∧
    (tabGet {} (endedDue.part 1).ckpts 0).periodK = 1 ∧ (endedDue.stream 0).poison = false ∧
    poolUsed endedDue + (captureCtx (endedDue.modStream 0 fun x => { x with lastSequence := (cmd 0x34 1 0 []).sequence, runsDone := x.runsDone + 1, lastRun := endedDue.now }) 0 false).length ≤
      poolBytes endedDue := by
  decide +kernel

/-! ### Audio ports -/

/-- A port in service: TDM, 32 slots of 32 bits at 48,000 frames per second, of partition 1. -/
def port : Port := { configured := true, format := 2, slots := 32, width := 2, rate := 6, owner := 1, causeEn := 0x389 }

/-- Port 15 in some condition; commands are accepted. -/
def withPort (q : Port) (cs : List Cmd) : State := { loaded with ports := [(15, q)], cmds := cs }

/-- PORT_CONFIG of such a port with all 32 transmit slots enabled. -/
def configCmd : Cmd := cmd 0x40 1 15 ([2, 0, 6, 32, 32, 0, 0, 0, 1, 0, 1, 0, 0, 0, 1, 0] ++ toLE 4 (2 ^ 32 - 1) ++ zeros 12)

theorem witness_PortCommandsTakeEffect_config :
    canonical (withPort { owner := 1 } [configCmd]) = true ∧ Ready (withPort { owner := 1 } [configCmd]) 3 0x40 configCmd ∧
    configCmd.object = 15 ∧ configCmd.only [(16, 24)] = true ∧ ownerOk (withPort { owner := 1 } [configCmd]) (configCmd.f 30 2) = true ∧
    configCmd.f 23 1 % 2 = 0 ∧ configOk (withPort { owner := 1 } [configCmd]) 15 (slice configCmd.packet 16 24) = true ∧
    configCmd.fn = 0 ∧ clocksOn (withPort { owner := 1 } [configCmd]) 15 = false ∧
    canonical (withPort { port with state := 3, preroll := 1, postroll := 1 } [configCmd]) = true ∧
    Ready (withPort { port with state := 3, preroll := 1, postroll := 1 } [configCmd]) 3 0x40 configCmd ∧
    ownerOk (withPort { port with state := 3, preroll := 1, postroll := 1 } [configCmd]) (configCmd.f 30 2) = true ∧
    configOk (withPort { port with state := 3, preroll := 1, postroll := 1 } [configCmd]) 15 (slice configCmd.packet 16 24) = true ∧
    configCmd.f 18 1 = port.rate.toNat ∧ port.armed = false ∧
    clocksOn (withPort { port with state := 3, preroll := 1, postroll := 1 } [configCmd]) 15 = true ∧
    commitOnly (slice configCmd.packet 16 24) = false ∧ port.commits = [] := by
  decide +kernel

/-- A change of RATE on a port to which stream 0 is bound, idle or with a queued run, and which is the source of an
active table or not; and the refusals of PORT_CONFIG. -/
def bound15 (cs : List Cmd) (l : Option Lattice) : State :=
  { withPort { port with rate := 5 } (cs ++ [configCmd]) with
    streams := [(0, { part := 1, voice := [mh, 0, 0, 0], sink := some (.port 15 31 9) })]
    parts := [(1, { valid := true, prisms := 2, active := l, ticking := l.isSome })] }

theorem witness_PortCommandsTakeEffect_rate :
    configOk (bound15 [] none) 15 (slice configCmd.packet 16 24) = true ∧
    par (slice configCmd.packet 16 24) 18 1 ≠ ({ port with rate := 5 } : Port).rate.toNat ∧
    changesFields { port with rate := 5 } (slice configCmd.packet 16 24) = true ∧ lcSource (bound15 [] none) 15 = false ∧
    portStreams (bound15 [] none) 15 = [0] ∧ hasRun (bound15 [] none) 0 = false ∧
    hasRun (bound15 [{ onStream 0x34 (zeros 48) with cid := 2, members := [0] }] none) 0 = true ∧
    lcSource (bound15 [] (some { firstTick with frameSync := true, port := 15 })) 15 = true ∧
    Ready (withPort port [{ configCmd with fn := 5 }]) 3 0x40 { configCmd with fn := 5 } ∧
    ownerOk (withPort port [{ configCmd with fn := 5 }]) 1 = true ∧
    Ready (withPort port [cmd 0x40 1 16 (zeros 32)]) 3 0x40 (cmd 0x40 1 16 (zeros 32)) ∧ ¬ (cmd 0x40 1 16 (zeros 32)).object < 16 := by
  decide +kernel

/-- PORT_BIND of stream 0 to slot 31 of port 15; the removal of its sink. -/
def bindCmd : Cmd := onStream 0x41 ([1, 15, 31, 0] ++ toLE 4 9 ++ zeros 8)
def unbindCmd : Cmd := onStream 0x41 (zeros 16)

theorem witness_PortCommandsTakeEffect_bind :
    canonical (withPort port [bindCmd]) = true ∧ Ready (withPort port [bindCmd]) 3 0x41 bindCmd ∧
    OnStream (withPort port [bindCmd]) bindCmd 0 ∧ bindCmd.only [(16, 16)] = true ∧ runsNaming (withPort port [bindCmd]) 0 3 = [] ∧
    bindCmd.f 16 1 = 1 ∧ bindCmd.f 17 1 = 15 ∧ port.owner.toNat = bindCmd.partition ∧ bindCmd.f 18 1 < port.slots.toNat ∧
    portVoiceOk (withPort port [bindCmd]) 15 (voiceOf (withPort port [bindCmd]) (loaded.stream 0).voice) = true ∧
    slotTaken (port.slot 31) 0 = false ∧ Ready (withPort port [unbindCmd]) 3 0x41 unbindCmd ∧
    OnStream (withPort port [unbindCmd]) unbindCmd 0 ∧ unbindCmd.only [(16, 16)] = true ∧ unbindCmd.f 16 1 = 0 := by
  decide +kernel

/-- PORT_BIND of a host buffer of 4 KiB at host address 0 of this device or of device 9; its refusals. -/
def hostBind (d l : Nat) : Cmd :=
  onStream 0x41 ([2, 0, 0, BitVec.ofNat 8 l] ++ toLE 4 9 ++ toLE 8 (2 ^ 63 + d * 2 ^ 42 + 3 * 2 ^ 40))
def badBind (o : Nat) (v : Byte) : Cmd := onStream 0x41 (slice ([1, 15, 31, 0] ++ zeros 12) 0 o ++ [v] ++ zeros (15 - o))

theorem witness_PortCommandsTakeEffect_bind_host :
    Ready (on loaded (hostBind 5 12)) 3 0x41 (hostBind 5 12) ∧ OnStream (on loaded (hostBind 5 12)) (hostBind 5 12) 0 ∧
    (hostBind 5 12).only [(16, 16)] = true ∧ (hostBind 5 12).f 16 1 = 2 ∧ (hostBind 5 12).f 19 1 = 12 ∧
    addrSpace ((hostBind 5 12).f 24 8) = 2 ∧ addrValid ((hostBind 5 12).f 24 8) = true ∧ (hostBind 5 12).f 24 8 % 4096 = 0 ∧
    mayName (on loaded (hostBind 5 12)) 0 ((hostBind 5 12).f 24 8) (2 ^ 12) false = true ∧
    addrRemote (on loaded (hostBind 5 12)) ((hostBind 5 12).f 24 8) = false ∧ loaded.vertex.regs.length < 65536 ∧
    ¬ 12 ≤ (hostBind 5 11).f 19 1 ∧
    mayName (on loaded (hostBind 9 12)) 0 ((hostBind 9 12).f 24 8) (2 ^ 12) false = true ∧
    addrRemote (on loaded (hostBind 9 12)) ((hostBind 9 12).f 24 8) = true ∧
    addrDevice ((hostBind 9 12).f 24 8 % 2 ^ 52) = 9 ∧ routePort loaded 9 = none ∧ routePort routed 9 ≠ none ∧
    unreachable routed 9 = false ∧
    mayName (on loaded (hostBind 5 12)) 0 (2 ^ 63 + 5 * 2 ^ 42 + 2 ^ 40) (2 ^ 12) false = false := by
  decide +kernel

theorem witness_PortCommandsTakeEffect_bind_refused :
    2 < (badBind 0 3).f 16 1 ∧ 16 ≤ (badBind 1 16).f 17 1 ∧ (badBind 0 1).f 16 1 = 1 ∧
    Ready (withPort { port with owner := 2 } [bindCmd]) 3 0x41 bindCmd ∧ ({ port with owner := 2 } : Port).owner.toNat ≠ 1 ∧
    ({ port with slots := 31 } : Port).slots.toNat ≤ bindCmd.f 18 1 ∧
    slotTaken (({ port with slotTab := [(31, { bound := true, stream := 1 })] } : Port).slot 31) 0 = true ∧
    Ready (queuedRun bindCmd) 3 0x41 bindCmd ∧ runsNaming (queuedRun bindCmd) 0 3 ≠ [] := by
  decide +kernel

/-- The port of `armCmd`: armed; in pre-roll; late; waiting for START; running with a stop; in post-roll. -/
def armedPort : Port := { port with armed := true, arm := some (3, 0) }
def preroll : Port := { armedPort with state := 1, armFrame := some 0 }
def late15 : Port := { armedPort with clock := 2 }
def waitStart : Port := { port with armed := true, state := 2, armFrame := some 0 }
def stopping : Port := { port with armed := true, state := 3, stop := some (some 3, 0) }
def postroll : Port := { stopping with state := 4, stopFrame := some 0 }

/-- PORT_ARM with both flags, PORT_STOP, and ALIGN_GROUP_SET of group 15 with REALIGN over slot 31 of port 15. -/
def armCmd : Cmd := cmd 0x42 1 15 (3 :: zeros 15)
def stopCmd : Cmd := cmd 0x43 1 15 []
def alignCmd : Cmd := cmd 0x44 0xFFFF 0 ([15, 1] ++ zeros 74 ++ toLE 4 (2 ^ 31))

theorem witness_PortCommandsTakeEffect_arm :
    canonical (withPort port [armCmd]) = true ∧ Ready (withPort port [armCmd]) 3 0x42 armCmd ∧ armCmd.object = 15 ∧
    armCmd.only [(16, 1)] = true ∧ armCmd.f 16 1 = 3 ∧ (3, 15) ∉ (withPort port [armCmd]).test.loops ∧
    canonical (withPort { port with armed := true } [stopCmd]) = true ∧
    Ready (withPort { port with armed := true } [stopCmd]) 3 0x43 stopCmd ∧ stopCmd.only [] = true ∧ port.stop = none ∧
    Ready (withPort port [alignCmd]) 3 0x44 alignCmd ∧ alignCmd.f 16 1 = 15 ∧ alignCmd.f 17 1 = 1 ∧
    alignCmd.only [(16, 2), (32, 64)] = true ∧ alignCmd.fn = 0 ∧
    (∀ q < 16, alignCmd.f (32 + 4 * q) 4 < 2 ^ ((withPort port [alignCmd]).port q).slots.toNat) ∧
    (∀ q < 16, ∀ k < 32, (alignCmd.f (32 + 4 * q) 4).testBit k = true →
      (groupOf ((withPort port [alignCmd]).port q) k).all (fun x => x % 16 == 15) = true) ∧
    (alignCmd.f (32 + 4 * 15) 4).testBit 31 = true ∧
    ({ port with armed := true } : Port).configured = true ∧ (withPort {} [armCmd]).cmd 3 = some armCmd ∧
    ({} : Port).configured = false ∧ (cmd 0x42 1 15 (4 :: zeros 15)).f 16 1 = 4 ∧
    Ready (withPort port [stopCmd]) 3 0x43 stopCmd ∧ port.armed = false ∧ 16 ≤ (cmd 0x43 1 16 []).object ∧
    ownsPort (withPort port [alignCmd]) 5 15 = false ∧ (cmd 0x44 0xFFFF 0 ([16] ++ zeros 95)).f 16 1 = 16 ∧
    clocksOn (withPort late15 [armCmd]) 15 = false := by
  decide +kernel

/-- It runs with a commit of `configCmd` that waits; a slave whose clocks are on, and off. -/
def commits : Port := { port with state := 3, commits := [⟨3, 0, slice configCmd.packet 16 24⟩] }
def slave (ok : Bool) : Port := { port with clock := 2, clockOk := ok, armed := true, state := if ok then 3 else 5 }

/-- The late arm, at cycle 100,000,000. -/
def lateArm : State :=
  { withPort late15 [armCmd] with ident := { up.ident with cycleCount := 100000000 } }

theorem witness_PortsFollowTheirStates :
    canonical (withPort armedPort [armCmd]) = true ∧ (withPort armedPort [armCmd]).live = true ∧
    armDue (withPort armedPort [armCmd]) 15 = true ∧ canonical (withPort preroll [armCmd]) = true ∧
    prerollDue (withPort preroll [armCmd]) 15 = true ∧ preroll.arm = some (3, 0) ∧
    (withPort preroll [armCmd]).cmd 3 = some armCmd ∧ canonical lateArm = true ∧
    armLate lateArm 15 = true ∧ late15.arm = some (3, 0) ∧ late15.stop = none ∧
    lateArm.cmd 3 = some armCmd ∧ canonical (withPort waitStart []) = true ∧
    ((withPort waitStart []).port 15).state = 2 ∧ waitStart.dataKnown = false ∧
    canonical (withPort stopping [stopCmd]) = true ∧ stopDue (withPort stopping [stopCmd]) 15 = true ∧
    canonical (withPort postroll [stopCmd]) = true ∧ postrollDue (withPort postroll [stopCmd]) 15 = true ∧
    canonical (withPort commits [configCmd]) = true ∧
    commitDue (withPort commits [configCmd]) 15 = some ⟨3, 0, slice configCmd.packet 16 24⟩ ∧
    canonical (withPort (slave true) []) = true ∧ leaderOf (withPort (slave true) []) 15 = 15 ∧
    canonical (withPort (slave false) []) = true ∧ leaderOf (withPort (slave false) []) 15 = 15 ∧
    (slave false).slots.toNat * widthBits (slave false).width.toNat = 1024 ∧
    clockSilent (withPort (slave true) []) 15 = true ∧ (slave true).clock = 2 ∧ (slave true).clockOk = true ∧
    (slave false).clockOk = false ∧ (slave false).configured = true ∧ armDue (withPort port []) 15 = false ∧
    prerollDue (withPort port []) 15 = false ∧ armLate (withPort port []) 15 = false ∧ stopDue (withPort port []) 15 = false ∧
    postrollDue (withPort port []) 15 = false ∧ commitDue (withPort port []) 15 = none ∧ State.reset.live = false ∧
    clockSilent (withPort { slave true with lastEdge := 10000000 } []) 15 = false ∧ preroll.state = 1 ∧
    waitStart.state = 2 ∧ port.state = 0 ∧ postroll.stop = some (some 3, 0) ∧
    (∀ x < 17, ∀ m ∈ ((withPort postroll [stopCmd]).port x).commits, m.cid ≠ 3) ∧
    commits.commits = [⟨3, 0, slice configCmd.packet 16 24⟩] := by
  decide +kernel

/-- A sample is on its way to slot 31 for the current generation, or for another. -/
def arriving (g : BitVec 16) : State :=
  { withPort { port with slotTab := [(31, { bound := true })] } [] with
    sinkWrites := [{ cid := 3, stream := 0, group := 0, part := 1, gen := g, sink := .port 15 31 9, value := 1 }] }

/-- The port runs, slot 31 is enabled and bound. -/
def playing : Port := { port with state := 3, txMask := 2 ^ 31, slotTab := [(31, { bound := true, txq := [5, 6] })] }

theorem witness_PortsFollowTheirStates_frame :
    canonical (arriving 0) = true ∧ (arriving 0).live = true ∧
    txWrite (arriving 0) 15 31 = some ⟨3, 0, 0, 1, 0, .port 15 31 9, 1, false⟩ ∧
    (((arriving 0).port 15).slot 31).regGen = 0 ∧ (((arriving 0).port 15).slot 31).bound = true ∧ canonical (arriving 1) = true ∧
    txWrite (arriving 1) 15 31 = some ⟨3, 0, 0, 1, 1, .port 15 31 9, 1, false⟩ ∧
    canonical (withPort playing []) = true ∧ tabWf {} playing.slotTab = true ∧ frameDue (withPort playing []) 15 = true ∧
    frameActs (withPort playing []) 15 = withPort playing [] ∧ clocksOn (withPort playing []) 15 = true ∧
    playing.regroup = [] ∧ playing.clock ≠ 2 ∧ 31 < playing.slots.toNat ∧ playing.txMask.getLsbD 31 = true ∧
    (playing.slot 31).bound = true ∧ (playing.slot 31).release = false ∧ (playing.slot 31).group = none ∧
    (playing.slot 31).txq = 5 :: [6] ∧ playing.state = 3 ∧ playing.configured = true ∧
    ({} : Port).configured = false ∧
    (((arriving 1).port 15).slot 31).regGen ≠ 1 ∧ txWrite up 15 31 = none ∧
    ({ withPort playing [] with mode := .fatal } : State).mode = .fatal ∧
    clocksOn { withPort playing [] with mode := .fatal } 15 = true ∧
    clocksOn { withPort playing [] with mode := .tripped } 15 = true := by
  decide +kernel

/-! ### The vertex -/

/-- WINDOW_EXPORT of 4 KiB at LPDDR5X address 0, writable, and the withdrawal of window 4095. -/
def exportCmd : Cmd := cmd 0x50 1 0 (1 :: zeros 7 ++ lp 0 ++ toLE 8 4096 ++ zeros 8)
def withdrawCmd : Cmd := cmd 0x50 1 4096 (zeros 32)

/-- Partition 1 has exported windows: 4095, writable, 1 MiB at address 0, with a registration; 4094, of the image at
address 2 MiB. -/
def exported : State :=
  { loaded with vertex :=
    { loaded.vertex with
      windows := [(4095, { owner := 1, writable := true, base := 0, bytes := 2 ^ 20, readers := none, images := [] }),
                  (4094, { owner := 1, writable := false, base := 2 ^ 21, bytes := 4096, readers := none,
                           images := [(identity, 0, 400)] })]
      regs := [((4095, 7), 1)]
      routes := [(9, 0x0F)], ports := [(7, { trained := true })] } }

theorem witness_WindowsAndCopies_windows :
    Ready (on exported exportCmd) 3 0x50 exportCmd ∧ exportCmd.only [(16, 1), (24, 24)] = true ∧ exportCmd.f 16 1 = 1 ∧
    exportCmd.object = 0 ∧ addrSpace (exportCmd.f 24 8) = 1 ∧ addrValid (exportCmd.f 24 8) = true ∧
    exportCmd.f 24 8 % 4096 = 0 ∧ exportCmd.f 32 8 % 4096 = 0 ∧
    mayName (on exported exportCmd) 0 (exportCmd.f 24 8) (exportCmd.f 32 8) false = true ∧ exportCmd.f 40 8 = 0 ∧
    (exported.vertex.windows.map (·.1)).Nodup ∧ exported.vertex.windows.length < 4096 ∧
    Ready (on exported withdrawCmd) 3 0x50 withdrawCmd ∧ withdrawCmd.only [(16, 1), (24, 24)] = true ∧
    4095 + 1 = withdrawCmd.object ∧ withdrawCmd.f 32 8 = 0 := by
  decide +kernel

/-- Exports that a check refuses: FLAGS 2; a withdrawal with BYTES; of a window that nobody holds; an unaligned base;
a base outside the function's memory; and one with a mask of readers at LPDDR5X address 0x2000. -/
def exportAs (flags object addr bytes mask : Nat) : Cmd :=
  cmd 0x50 1 object (toLE 8 flags ++ toLE 8 addr ++ toLE 8 bytes ++ toLE 8 mask)

theorem witness_WindowsAndCopies_windows_refused :
    Ready (on exported (exportAs 2 0 0 0 0)) 3 0x50 (exportAs 2 0 0 0 0) ∧ 1 < (exportAs 2 0 0 0 0).f 16 1 ∧
    (exportAs 0 4096 0 4096 0).f 32 8 ≠ 0 ∧ (∀ q ∈ exported.vertex.windows, q.1 + 1 = 5 → q.2.owner ≠ 1) ∧
    (exportAs 0 0 (2 ^ 62 + 1) 4096 0).f 24 8 % 4096 ≠ 0 ∧
    mayName (on exported (exportAs 0 0 (2 ^ 62 + 2 ^ 40) 4096 0)) 0 (2 ^ 62 + 2 ^ 40) 4096 false = false ∧
    Ready (on exported (exportAs 0 0 (2 ^ 62) 4096 (2 ^ 62 + 0x2000))) 3 0x50 (exportAs 0 0 (2 ^ 62) 4096 (2 ^ 62 + 0x2000)) ∧
    (exportAs 0 0 (2 ^ 62) 4096 (2 ^ 62 + 0x2000)).f 40 8 = 2 ^ 62 + 0x2000 ∧
    PlainRead (on exported (exportAs 0 0 (2 ^ 62) 4096 (2 ^ 62 + 0x2000))) 0 (2 ^ 62 + 0x2000) 128 (zeros 128) ∧
    gapFrom 0 (sortNat (exported.vertex.windows.map (·.1))) = 0 := by
  decide +kernel

/-- WINDOW_IMPORT of window `w` of a device. -/
def importCmd (d w : Nat) : Cmd := cmd 0x51 1 0 (toLE 2 d ++ toLE 2 w ++ zeros 12)

theorem witness_WindowsAndCopies_import :
    Ready (on exported (importCmd 5 4095)) 3 0x51 (importCmd 5 4095) ∧ (importCmd 5 4095).only [(16, 4)] = true ∧
    (importCmd 5 4095).f 16 2 = exported.ident.number.toNat ∧
    (exported.vertex.windows.find? fun x => x.1 == (importCmd 5 4095).f 18 2).isSome = true ∧
    Ready (on exported (importCmd 9 0)) 3 0x51 (importCmd 9 0) ∧ (importCmd 9 0).f 16 2 ≠ exported.ident.number.toNat ∧
    unreachable exported 9 = false ∧ routePort exported 9 = some 7 ∧ 1023 < (importCmd 1024 0).f 16 2 ∧
    (exported.vertex.windows.find? fun x => x.1 == 0) = none ∧ routePort exported 8 = none ∧
    ({ owner := 1, writable := true, base := 0, bytes := 4096, readers := some 0, images := [] } : Window).readable 5 = false ∧
    (exported.vertex.windows.find? fun x => x.1 == 4095).any (fun q => q.2.readable 5) = true := by
  decide +kernel

/-- COPY of `n` bytes from LPDDR5X address 0 to 4096. -/
def copyCmd (n : Nat) : Cmd := cmd 0x52 1 0 (lp 0 ++ lp 4096 ++ toLE 8 n ++ zeros 8)

theorem witness_WindowsAndCopies_copy :
    canonical (on up (copyCmd 4096)) = true ∧ Ready (on up (copyCmd 4096)) 3 0x52 (copyCmd 4096) ∧
    (copyCmd 4096).only [(16, 24)] = true ∧ addrValid ((copyCmd 4096).f 16 8) = true ∧
    addrValid ((copyCmd 4096).f 24 8) = true ∧ copyOverlaps up (copyCmd 4096) = false ∧
    mayName (on up (copyCmd 4096)) 0 ((copyCmd 4096).f 16 8) 4096 true = true ∧
    mayName (on up (copyCmd 4096)) 0 ((copyCmd 4096).f 24 8) 4096 false = true ∧ intoObject up (copyCmd 4096) = false ∧
    memLooped up ((copyCmd 4096).f 16 8) 4096 = false ∧ memLooped up ((copyCmd 4096).f 24 8) 4096 = false ∧
    addrSpace ((copyCmd 4096).f 16 8) ≠ 0 ∧ addrSpace ((copyCmd 4096).f 24 8) ≠ 0 ∧
    addrRemote up ((copyCmd 4096).f 16 8) = false ∧ addrRemote up ((copyCmd 4096).f 24 8) = false ∧
    4096 + 4096 ≤ usable up ∧ lpPoison up 0 4096 = false ∧ Ready (on up (copyCmd 0)) 3 0x52 (copyCmd 0) ∧
    copyOverlaps up (copyCmd 0) = false := by
  decide +kernel

/-- COPY between any two ADDRs; device 9 is reached through port 7. -/
def copyAs (a b n : Nat) : Cmd := cmd 0x52 1 0 (toLE 8 a ++ toLE 8 b ++ toLE 8 n ++ zeros 8)

theorem witness_WindowsAndCopies_copy_others :
    copyOverlaps up (copyAs (2 ^ 62) (2 ^ 62 + 1) 2) = true ∧ Ready (on up (copyAs (2 ^ 62) (2 ^ 62 + 1) 2)) 3 0x52 (copyAs (2 ^ 62) (2 ^ 62 + 1) 2) ∧
    mayName (on up (copyAs (2 ^ 62) (2 ^ 62 + 2 ^ 40) 1)) 0 (2 ^ 62 + 2 ^ 40) 1 false = false ∧
    memLooped { up with test := { loops := [(2, 0)] } } (2 ^ 62) 1 = true ∧
    lpPoison { up with poison := [(0, true)] } 0 1 = true ∧ nextPcieTag up ≠ none ∧
    Ready (on exported (copyAs (2 ^ 62) (2 ^ 63 + 9 * 2 ^ 42) 1)) 3 0x52 (copyAs (2 ^ 62) (2 ^ 63 + 9 * 2 ^ 42) 1) ∧
    addrRemote exported (2 ^ 63 + 9 * 2 ^ 42) = true ∧ addrDevice (2 ^ 63 + 9 * 2 ^ 42) = 9 ∧
    unreachable exported 9 = false ∧ routePort exported 9 ≠ none ∧ routePort up 9 = none ∧
    mayName (on exported (copyAs (2 ^ 62) (2 ^ 63 + 9 * 2 ^ 42) 1)) 0 (2 ^ 63 + 9 * 2 ^ 42) 1 false = true ∧
    intoObject exported (copyAs (2 ^ 62) (2 ^ 63 + 9 * 2 ^ 42) 1) = false ∧ addrSpace 0x1000 = 0 ∧
    mayName up 0 0x1000 1 true = true ∧ Ready (on up (copyAs 0x1000 (2 ^ 62) 1)) 3 0x52 (copyAs 0x1000 (2 ^ 62) 1) ∧
    copyOverlaps up (copyAs 0x1000 (2 ^ 62) 1) = false := by
  decide +kernel

theorem witness_WindowsAndCopies_write :
    canonical up = true ∧ addrSpace (2 ^ 62 - 1) = 0 ∧ hostFails up (addrBits (2 ^ 62 - 1)) 1 = false ∧
    addrSpace (2 ^ 62 + usable up - 1) ≠ 0 ∧ (2 ^ 62 + usable up - 1) % 2 ^ 42 + 1 ≤ usable up := by
  decide +kernel

/-- Fabric port 7 is trained with 30 replays in a row; it is down and a training attempt is in progress. -/
def linked : State := { up with vertex := { up.vertex with ports := [(7, { trained := true, replaysInRow := 30 })] } }
def attempting : State := { up with vertex := { up.vertex with ports := [(7, { attempting := true })] } }

theorem witness_LinksAndScrubFollowTheirRules :
    linked.live = true ∧ (linked.fabPort 7).trained = true ∧ NoneHeld linked ∧ attempting.live = true ∧
    attempting.ident.numberValid = true ∧ attempting.vertex.portEnable.getLsbD 7 = true ∧
    (attempting.fabPort 7).trained = false ∧ (0, 7) ∉ attempting.test.loops ∧ (attempting.fabPort 7).attempting = true ∧
    attempting.vertex.protoMajor.toNat = 1 ∧ NoneHeld attempting ∧
    (up.fabPort 7).trained = false ∧ (up.fabPort 7).attempting = false ∧ State.reset.live = false ∧
    ¬ up.vertex.portEnable.getLsbD 7 = false ∧ State.reset.ident.numberValid = false ∧
    up.memc.trained = true ∧ up.memc.inlineEcc = true ∧ up.memc.scrubH ≠ 0 ∧ 32 * 0 + 32 ≤ usable up ∧
    up.now < up.memc.scrubAt + up.memc.scrubH.toNat * 3600000000000 ∧
    ({ up with ident := { up.ident with cycleCount := 86400000000000 } } : State).memc.scrubAt +
      up.memc.scrubH.toNat * 3600000000000 ≤ 86400000000000 ∧
    (attempting.fabPort 7).nextAttempt ≤ attempting.now := by
  decide +kernel

/-- A flit that acknowledges flit 4 and asks for flit 5 again; a port that has sent both and has packets of channels 0
and 2 before it, with a credit of each channel or of channel 2 alone. -/
def asksAgain : FlitHead := { seq := 9, acks := [4], replay := some 5 }
def sending (n : Nat) (cs : List Nat) : FabPort :=
  { trained := true, credits := cs, outq := [⟨2, true, 1⟩, ⟨0, false, 1⟩]
    replayBuf := [{ seq := 4, vc := 2 }, { seq := 5, vc := 2, replays := n }] }

theorem witness_LinksAndScrubFollowTheirRules_flits :
    Instr.wf (.flitArrival 7 asksAgain true true) = true ∧ Instr.wf (.flitArrival 7 {} true true) = true ∧
    (((sending 30 []).replayBuf.filter fun x => !asksAgain.acks.contains x.seq).find? fun x => x.seq == 5) =
      some { seq := 5, vc := 2, replays := 30 } ∧
    nextPacket (sending 0 [1, 1, 1, 1]) = some ⟨0, false, 1⟩ ∧ nextPacket (sending 0 [0, 1, 1, 1]) = some ⟨2, true, 1⟩ ∧
    nextPacket (sending 0 [0, 1, 0, 1]) = none := by
  decide +kernel

/-- A request from device 9 to this device. -/
def fromNine : FabHdr := { source := 9, dest := 5, hops := 8 }
def readReq : FabHdr := { fromNine with address := 5 * 2 ^ 42 + 4000, length := 96 }
def outside : FabHdr := { fromNine with address := 5 * 2 ^ 42 + 2 ^ 20, length := 1 }
def sinkReq (g : Nat) : FabHdr := { readReq with sink := true, sinkId := 7, generation := g }

theorem witness_RequestsAreServedAndAnswered_windows :
    exported.live = true ∧ fromNine.dest = exported.ident.number.toNat ∧ blockOk4k readReq = true ∧
    (windowFor exported readReq readReq.length fun _ => true).isSome = true ∧
    (windowFor exported outside 1 fun _ => true).isSome = false ∧
    jobWindow exported readReq readReq.length (writeCurrent exported readReq) ≠ none ∧
    jobWindow exported { readReq with address := 5 * 2 ^ 42 + 2 ^ 21 } 96 (fun _ => true) = none ∧
    jobWindow exported (sinkReq 1) 96 (writeCurrent exported (sinkReq 1)) ≠ none ∧
    jobWindow exported (sinkReq 2) 96 (writeCurrent exported (sinkReq 2)) = none ∧
    jobWindow exported (sinkReq 2) 96 (fun _ => true) ≠ none ∧
    regFind exported (4095, 7) = some (BitVec.ofNat 16 1) ∧ regFind exported (4095, 7) ≠ some (BitVec.ofNat 16 2) ∧
    (jobWindow exported (sinkReq 1) 1 fun _ => true).isSome = true ∧ regFind exported (4095, 8) = none ∧
    exported.vertex.regs.length < 65536 ∧ findObject exported 9 identity = some (2 ^ 21, 400) ∧
    findObject exported 9 [] = none ∧ (2 ^ 20) % 2 ^ 20 = 0 ∧ (routePort exported 9).isSome = true ∧
    blockOk4k { readReq with length := 97 } = false ∧ jobWindow exported outside 1 (fun _ => true) = none ∧ State.reset.live = false ∧
    (exported.vertex.windows.find? fun x => x.1 == 0) = none ∧ exported.ident.number.toNat ≠ 9 := by
  decide +kernel

/-- A registration table of `n` entries. -/
def registered (n : Nat) : State :=
  { exported with vertex := { exported.vertex with regs := List.replicate n ((4095, 7), 1) } }

theorem registered_find (n : Nat) : regFind (registered n) (4095, 8) = none := by simp [regFind, registered]

theorem witness_RequestsAreServedAndAnswered_full (n : Nat) :
    (registered n).live = true ∧ (registered n).vertex.regs.length = n ∧
    jobWindow (registered n) { sinkReq 1 with sinkId := 8 } 1 (fun _ => true) =
      jobWindow exported { sinkReq 1 with sinkId := 8 } 1 (fun _ => true) ∧
    regFind (registered n) (4095, 8) = none :=
  ⟨rfl, by simp [registered], rfl, registered_find n⟩

/-- A signed context of the image's voice with nothing carried, at step 0, and the block of key 2 over its digest. -/
def signedBody : Bytes :=
  ctxBody (voiceOf loaded [mh, 0, 0, 0]) [] { voiceId := streamVoiceId loaded [mh, 0, 0, 0], sink := zeros 32, pending := zeros 32 } true
def signedContext : Bytes :=
  signedBody ++ sm3 signedBody ++ key2 ++
  (toBE 48 0x9A28E3E19536358A0F64C985BEC497059F246619EA5690ABC27DCA4BC58D7DF7EE8F6812F1DBDC4EA06779A6D6279B50 ++
    toBE 16 0xD897907D90CE511C98A6BE8474746F57)

/-- A stream that awaits a context of the owner of key 2. -/
def receives : State :=
  { loaded with streams := [(1, { part := 1, voice := [mh, 0, 0, 0], awaitContext := true, sourceKey := vendor })] }
def messageReq : FabHdr := { fromNine with address := sh 1, length := signedContext.length }

theorem witness_RequestsAreServedAndAnswered_message :
    canonical receives = true ∧ receives.live = true ∧ messageStream receives messageReq = some 1 ∧ messageReq.length ≠ 0 ∧
    messageReq.length = 400 ∧ messageReq.poison = false ∧ inboxRoom receives 1 400 = true ∧
    (receives.stream 1).awaitContext = true ∧ (receives.stream 1).restoredFrom ≠ some (ctxHead signedContext).gen ∧
    Restores receives 1 signedContext true (receives.stream 1).sourceKey [] ∧ (receives.stream 1).sink = none ∧
    messageStream receives fromNine = none ∧
    inboxRoom { receives with memc := { receives.memc with poolGib := 0 } } 1 400 = false := by
  decide +kernel

/-- A WINDOW_IMPORT and a probe of device 9 wait for their responses since cycle 0. -/
def asked : State :=
  { on exported (importCmd 9 0) with vertex :=
    { exported.vertex with
      reqs := [{ tag := 1, type := 7, dest := 9, vc := 0, port := 7, since := 0, purpose := .windowImport 3 },
               { tag := 2, type := 7, dest := 9, vc := 0, port := 7, since := 0, purpose := .probe }]
      unreachable := [(0, 2 ^ 9)] } }

theorem witness_RequestsAreServedAndAnswered_responses :
    asked.live = true ∧ NoneHeld asked ∧ asked.cmd 3 = some (importCmd 9 0) ∧
    (asked.vertex.reqs.find? fun x => x.tag == 1).any (fun q => q.purpose == .windowImport 3) = true ∧
    (asked.vertex.reqs.find? fun x => x.tag == 2).any (fun q => q.purpose == .probe) = true ∧
    (∀ q ∈ asked.vertex.reqs, q.tag = 3 → q.heldBack = true) ∧ 0 + 1000 * fabricTimeoutUs asked ≤ asked.now ∧
    unreachable asked 9 = true ∧ (routePort asked 9).isSome = true ∧ 6 ≠ asked.ident.number.toNat ∧
    routePort asked 9 = some 7 ∧ routePort asked 6 = none ∧ asked.vertex.probeAt ≤ asked.now ∧
    ({ asked with vertex := { asked.vertex with probeAt := 10000001 } } : State).now < 10000001 := by
  decide +kernel

/-! ### Security and test -/

/-- A package waits for activation, and FW_ACTIVATE has started; a package is being staged. -/
def activateCmd : Cmd := cmd 0x72 0xFFFF 0 []
def stagedFw : State :=
  { on up activateCmd with
    sec := { up.sec with stagedValid := true, staged := some package }, vertex := linked.vertex }
def activating : State := { stagedFw with sec := { stagedFw.sec with activating := some 3 } }
def staging (b : Bytes) : State :=
  { on up (cmd 0x71 0xFFFF 0 (source 1 8)) with sec := { up.sec with staging := some (3, b) } }

theorem witness_FirmwareAndDebugFollowTheirRules_activate :
    Ready stagedFw 3 0x72 activateCmd ∧ stagedFw.sec.stagedValid = true ∧ Ready (on up activateCmd) 3 0x72 activateCmd ∧
    up.sec.stagedValid = false ∧ stagedFw.sec.staging = none ∧ up.sec.activating = none ∧ activating.live = true ∧ activating.cmd 3 = some activateCmd ∧
    activating.sec.activating = some 3 ∧ (∀ e ∈ activating.cmds, e.started = none ∨ e.cid = 3) ∧
    (activating.fabPort 7).trained = true := by
  decide +kernel

theorem staged_package : activating.sec.staged = some package := rfl

/-- Every image of the package carries the vendor's signature. -/
theorem package_signed : ((fwOffsets package).all fun o => fwSigned up package o) = true := by
  cases h : ((fwOffsets package).all fun o => fwSigned up package o) with
  | true => rfl
  | false =>
    have hk := fwCheck_package
    simp only [fwCheck, h, Bool.not_false, if_true] at hk
    split at hk <;> exact absurd hk (by decide)

/-- The package with another first byte of its first body. -/
def altered : Bytes := package.set 256 0

theorem fwCheck_altered : fwCheck up altered = .digest := by
  have ho : fwOffsets altered = fwOffsets package := by decide +kernel
  have hs : ∀ o ∈ fwOffsets package, slice altered (o + 128) 64 = slice package (o + 128) 64 ∧
      slice altered (o + 128) 128 = slice package (o + 128) 128 ∧ slice altered o 128 = slice package o 128 := by
    decide +kernel
  have hb : ((upTo 3).all (fwIntact altered)) = false := by decide +kernel
  have ha : ((fwOffsets package).all fun o => fwSigned up altered o) = true := by
    have hp := package_signed
    rw [List.all_eq_true] at *
    intro o h
    have := hp o h
    simp only [fwSigned, (hs o h).1, (hs o h).2.1, (hs o h).2.2] at *
    exact this
  simp only [fwCheck, ho, ha, hb, Bool.not_true, Bool.not_false, Bool.true_or, Bool.false_eq_true, if_false, if_true]

/-- The anti-rollback counter has passed the package. -/
def rolled : State := { staging package with sec := { (staging package).sec with counter := 2 } }

theorem fwCheck_rolled : fwCheck rolled package = .rollback := by
  have hr : ((fwOffsets package).any fun o => decide (rd package (o + 5) 1 < rolled.sec.counter.toNat)) = true := by
    decide +kernel
  have hp := package_signed
  have h2 : (!((upTo 3).all (fwIntact package)) || decide (2 ^ 25 < package.length) ||
      !((fwOffsets package).all fun o => fwShared package o == fwShared package 0)) = false := by
    decide +kernel
  have hm : rolled.sec.made = up.sec.made := rfl
  have hs : (fun o => fwSigned rolled package o) = fun o => fwSigned up package o := by
    funext o; simp only [fwSigned, vendorKey, hm]
  simp only [fwCheck, hs, hp, h2, hr, Bool.not_true, Bool.false_eq_true, if_false, if_true]

theorem witness_FirmwareAndDebugFollowTheirRules_staging :
    (staging package).live = true ∧ (staging package).cmd 3 = some (cmd 0x71 0xFFFF 0 (source 1 8)) ∧
    fwLevelOk package = true ∧ fwLevelOk (package.set 12 2) = false ∧ up.sec.staging = none ∧
    Ready (on up (cmd 0x71 0xFFFF 0 (zeros 16))) 3 0x71 (cmd 0x71 0xFFFF 0 (zeros 16)) ∧
    (cmd 0x71 0xFFFF 0 (zeros 16)).f 24 8 = 0 ∧
    Ready (on { up with sec := { up.sec with staging := some (2, []) } } (cmd 0x71 0xFFFF 0 (source 1 8))) 3 0x71
      (cmd 0x71 0xFFFF 0 (source 1 8)) := by
  decide +kernel

/-- The switch to the new firmware began 20 ms ago, or later; nothing has been staged; SPDM reaches the device by the
DOE of PF0 and at its SMBus address alone. -/
def switchedAt (x : Nat) : State :=
  { activating with
    sec := { activating.sec with switchAt := some x }, ident := { activating.ident with cycleCount := 30000000 } }

theorem witness_FirmwareAndDebugFollowTheirRules_spdm :
    (switchedAt 10000000).live = true ∧ 10000000 + 20000000 ≤ (switchedAt 10000000).now ∧
    (switchedAt 10000001).now < 10000001 + 20000000 ∧ (on up activateCmd).sec.staged = none ∧
    up.resettable = true ∧ up.mode ≠ .fatal ∧ up.mode ≠ .tripped ∧ up.pcie.released = true ∧ inD3 up 0 = false ∧
    SpdmPath.doe 1 ≠ .doe 0 ∧ SpdmPath.doe 1 ≠ .smbus (smbusAddress up) ∧ SpdmPath.smbus 0 ≠ .smbus (smbusAddress up) := by
  decide +kernel

theorem staging_package : (staging package).sec.staging = some (3, package) := rfl

theorem witness_FirmwareAndDebugFollowTheirRules_checks :
    fwCheck activating package = .ok ∧ fwCheck (staging package) package = .ok ∧
    fwCheck (staging altered) altered = .digest ∧ fwCheck rolled package = .rollback :=
  ⟨(fwCheck_congr (s := activating) (t := up) package rfl rfl).trans fwCheck_package,
   (fwCheck_congr (s := staging package) (t := up) package rfl rfl).trans fwCheck_package,
   (fwCheck_congr (s := staging altered) (t := up) altered rfl rfl).trans fwCheck_altered, fwCheck_rolled⟩

/-- Key 2 owns the device, and a challenge of zeros has been given. -/
def challenged : State := { up with sec := { up.sec with ownerRows := [vendor], challenge := some (zeros 32) } }
def unlockBlock : Bytes :=
  key2 ++ (toBE 48 0x2E6D2E7F8D6586041AB4B8F2280123942F6D689BC0DFC6F5B971FCF0A7C354113661E0FFF711A6A7EE322F5E8FFF3D9D ++ toBE 16 0x066304BBE00227BFF59D5362A3D09F78)

theorem witness_FirmwareAndDebugFollowTheirRules_debug :
    challenged.resettable = true ∧ challenged.mode ≠ .fatal ∧ challenged.mode ≠ .tripped ∧ challenged.sec.unlockFails < 3 ∧
    unlocks challenged 1 unlockBlock = true ∧ unlocks challenged 3 unlockBlock = false ∧ State.reset.resettable = false ∧
    ({ challenged with sec := { challenged.sec with unlockFails := 3 } } : State).sec.unlockFails = 3 := by
  decide +kernel

/-- The test state. -/
def testing : State := { up with mode := .test, test := { testState := true }, parts := [] }

/-- LINK_PATTERN of PRBS7 on all 16 lanes of LPDDR5X channel 63, generated and checked, for 1 µs, without a report. -/
def patternCmd : Cmd := cmd 0x80 0xFFFF 0 ([3, 63, 0, 3] ++ toLE 4 0xFFFF ++ toLE 4 1 ++ zeros 20)

/-- MEMORY_TEST of 256 bytes at LPDDR5X address 0, and LOOPBACK of channel 63. -/
def bistCmd : Cmd := cmd 0x81 0xFFFF 0 (zeros 8 ++ lp 0 ++ toLE 8 256 ++ zeros 8)
def loopCmd (on : Byte) : Cmd := cmd 0x82 0xFFFF 0 ([2, 63, on] ++ zeros 13)

theorem witness_TestEnginesFollowTheirRules_start :
    Ready (on testing patternCmd) 3 0x80 patternCmd ∧ patternParamsOk (on testing patternCmd) patternCmd = true ∧
    patternCmd.f 40 8 = 0 ∧ patternCmd.f 16 1 ≠ 2 ∧ testing.test.patterns = [] ∧
    linkBusy (on testing patternCmd) 3 63 0xFFFF = false ∧ Ready (on testing bistCmd) 3 0x81 bistCmd ∧
    bistParamsOk bistCmd = true ∧ bistCmd.f 16 1 = 0 ∧
    mayName (on testing bistCmd) 0 (bistCmd.f 24 8) (bistCmd.f 32 8) false = true ∧
    memLooped (on testing bistCmd) (bistCmd.f 24 8) (bistCmd.f 32 8) = false ∧ bistRangeOk (on testing bistCmd) bistCmd = true ∧
    bistBusy (on testing bistCmd) bistCmd = false ∧ Ready (on testing (loopCmd 1)) 3 0x82 (loopCmd 1) ∧
    (loopCmd 1).only [(16, 3)] = true ∧ (loopCmd 1).f 17 1 < loopCount ((loopCmd 1).f 16 1) ∧ (loopCmd 1).f 18 1 = 1 ∧
    loopBusy (on testing (loopCmd 1)) 2 63 = false ∧ Ready (on testing (loopCmd 0)) 3 0x82 (loopCmd 0) ∧
    (loopCmd 0).f 18 1 = 0 := by
  decide +kernel

/-- LINK_PATTERN with PATTERN 255, and of PCI Express outside the test state; MEMORY_TEST of TARGET 3, of memory that
does not exist, and of a loaded channel; LOOPBACK of channel 64, and of a channel under test. -/
def patternBad : Cmd := cmd 0x80 0xFFFF 0 ([3, 63, 255, 3] ++ toLE 4 0xFFFF ++ toLE 4 1 ++ zeros 20)
def patternPcie : Cmd := cmd 0x80 0xFFFF 0 ([2, 0, 0, 3] ++ toLE 4 1 ++ toLE 4 1 ++ zeros 20)
def bistBad : Cmd := cmd 0x81 0xFFFF 0 ([3] ++ zeros 31)
def bistFar : Cmd := cmd 0x81 0xFFFF 0 (zeros 8 ++ lp (2 ^ 40) ++ toLE 8 256 ++ zeros 8)
def loopBad : Cmd := cmd 0x82 0xFFFF 0 ([2, 64, 1] ++ zeros 13)

theorem witness_TestEnginesFollowTheirRules_refused :
    Ready (on testing patternBad) 3 0x80 patternBad ∧ patternParamsOk (on testing patternBad) patternBad = false ∧
    Ready (on up patternPcie) 3 0x80 patternPcie ∧ patternPcie.f 16 1 = 2 ∧ up.test.testState = false ∧
    Ready (on testing bistBad) 3 0x81 bistBad ∧ bistParamsOk bistBad = false ∧
    Ready (on testing bistFar) 3 0x81 bistFar ∧ bistRangeOk (on testing bistFar) bistFar = false ∧
    memLooped { testing with test := { testState := true, loops := [(2, 0)] } } (bistCmd.f 24 8) 256 = true ∧
    Ready (on testing loopBad) 3 0x82 loopBad ∧ ¬ loopBad.f 17 1 < loopCount (loopBad.f 16 1) ∧
    loopBusy { testing with test := { testState := true, bists := [⟨2, 0, 0, 0, 256⟩] } } 2 0 = true := by
  decide +kernel

/-- A checker of lane 31 that is not locked, or locked; PRBS7 from the state of all ones. -/
def checker (locked : Bool) : Checker := { lane := 31, locked := locked, everLocked := locked }
def pattern (locked : Bool) : Pattern :=
  { cid := 3, fn := 0, target := 2, index := 6, pattern := 0, mode := 3, lanes := [31], durationUs := 1, user := 0, report := 0
    since := 0, checkers := [checker locked] }
def prbs7 : Nat → List Bool → List Bool
  | 0, bs => bs
  | n + 1, bs => prbs7 n (bs ++ [bs.getD (bs.length - 7) false ^^ bs.getD (bs.length - 6) false])
def patternRuns (locked : Bool) : State := { on testing patternCmd with test := { testing.test with patterns := [pattern locked] } }

theorem witness_TestEnginesFollowTheirRules_checkers :
    (patternRuns false).live = true ∧ patternBy (patternRuns false) 3 = some (pattern false) ∧
    patternBy (patternRuns true) 3 = some (pattern true) ∧ patternBy testing 3 = none ∧
    linkBusy up 0 7 1 = true ∧ (List.replicate 31 true).length ≠ 64 ∧ checkerOf (pattern false) 31 = some (checker false) ∧ (checker false).locked = false ∧
    predicted (pattern false) (prbs7 64 (List.replicate 7 true)) = true ∧ (checker true).locked = true ∧
    checkerOf (pattern true) 31 = some (checker true) ∧ (List.replicate 64 true).length = 64 ∧
    32 ≤ ((List.replicate 32 true ++ List.replicate 32 false).filter id).length ∧
    (patternRuns true).cmd 3 = some patternCmd ∧ (∀ k ∈ (pattern true).checkers, k.everLocked = true) ∧
    (pattern true).since + 1000 * (pattern true).durationUs ≤ (patternRuns true).now ∧
    (∃ k ∈ (pattern false).checkers, k.everLocked = false) ∧ (pattern false).since + 10000000 ≤ (patternRuns false).now ∧
    PlainDest (patternRuns true) 0 0 40 (patternReport (lastCounts (pattern true) [])) := by
  decide +kernel

/-- A memory test of 256 bytes at address 0 runs. -/
def theBist : Bist := { cid := 3, target := 0, index := 0, base := 0, bytes := 256 }
def bistRuns : State := { on testing bistCmd with test := { testing.test with bists := [theBist] } }

theorem witness_TestEnginesFollowTheirRules_bist :
    canonical bistRuns = true ∧ bistRuns.live = true ∧ (bistRuns.test.bists.find? fun x => x.cid == 3) = some theBist ∧
    bistRuns.cmd 3 = some bistCmd ∧ testing.test.bists = [] ∧ bistBusy exported bistCmd = true ∧
    testing.mode ≠ .porLow ∧ State.reset.mode = .porLow := by
  decide +kernel

/-! ### Worked examples -/

/-- R47: the worked conversion of one group, from WIDE(16). -/
theorem test_dynamic_conversion :
    dynamicConvert [-113377, -40000, -532, 0, 532, 65536, 100000, 157942] (-16) =
      ((532, -5, -21), [-128, -59, -22, -21, -20, 41, 73, 127]) := by decide +kernel

/-- R40: the S16 word 0xEE14. -/
theorem test_s16 : s16Mant 0xEE14 = 532 ∧ s16Exp 0xEE14 = -5 ∧ s16Valid 0x8200 = true ∧ s16Exp 0x8200 = -32 := by decide

/-- R52: two half-precision words into Q4.11. -/
theorem test_f16 : f16ToFixed 0x3C00 11 true 16 = 2048 ∧ f16ToFixed 0x3555 11 true 16 = 683 := by decide

/-- R54 and R145: the values that check a regenerated table. -/
theorem test_tables :
    knot knotsSigmoid 0 = 11 ∧ knot knotsSigmoid 128 = 16384 ∧ knot knotsTanh 0 = -32746 ∧ knot knotsTanh 128 = 0 ∧
    knot knotsGelu 0 = 0 ∧ knot knotsGelu 128 = 0 ∧ knot knotsSoftplus 0 = 1 ∧ knot knotsSoftplus 128 = 1420 ∧
    knot knotsExp2 0 = 1073741824 ∧ knot knotsExp2 128 = 1518500250 ∧ knot knotsExp2 256 = 2147483648 ∧
    knot knotsLog2 0 = 0 ∧ knot knotsLog2 128 = 38336 ∧ knot knotsLog2 256 = 65536 ∧ knotRecip 0 = 1073741824 ∧ knotRecip 128 = 715827883 ∧
    knotRecip 256 = 536870912 ∧ knot knotsRsqrt 0 = 1073741824 ∧ knot knotsRsqrt 192 = 536870912 ∧
    knot knotsGum 0 = 0 ∧ knot knotsGum 128 = -9201 ∧
    knot knotsGum 256 = -21406 := by decide +kernel

/-- R136 and R137: the worked trace of draws 0 and 1 of seed 0, and its Gumbel values to one part in a thousand. -/
theorem test_draws :
    drawAt 0 0 = 0xA0C40BE37DA042D9 ∧ drawAt 0 1 = 0xBF4368E3A8E11B34 ∧
    bernoulli (2 ^ 23) [drawAt 0 0, drawAt 0 1] = [0, 0] ∧
    765 * 2 ^ 16 / 1000 - 33 ≤ gumbelT (drawAt 0 0) ∧ gumbelT (drawAt 0 0) ≤ 765 * 2 ^ 16 / 1000 + 33 ∧
    1233 * 2 ^ 16 / 1000 - 33 ≤ gumbelT (drawAt 0 1) ∧ gumbelT (drawAt 0 1) ≤ 1233 * 2 ^ 16 / 1000 + 33 := by
  decide +kernel

/-- The ramp block of R133. -/
def ramp : List Int := (upTo 64).map fun i => -40 + 10 * ((i % 8 : Nat) : Int)

/-- R133: CAB6 recovers the ramp; CAB4 is off by one at each code; both begin with 0xB0, 0x8F, 0x02. -/
theorem test_cab :
    cabDecode false (cabEncode false ramp) = ramp ∧ (cabEncode false ramp).take 3 = [0xB0, 0x8F, 0x02] ∧
    (cabEncode true ramp).take 3 = [0xB0, 0x8F, 0x02] ∧
    (cabDecode true (cabEncode true ramp)).take 8 = [-41, -29, -21, -9, -1, 11, 19, 31] := by decide +kernel

/-- R455: the error rate of a fabric lane that finds no error in 128,000,000,000 bits. -/
theorem test_ber : berOf 0 128000000000 = (52777, 51) := by decide +kernel

/-- R418: Lindenbay's partition 32, its lattice of 48 frames of AP2, and one stream of its LC group, on every facet. -/
def lindenbay : State :=
  { up with
    parts := [(32, { valid := true, prisms := BitVec.ofNat 128 (2 ^ 16 - 1)
                     active := some { frameSync := true, port := 2, periodN := 48
                                      entries := [lc 90000, lc 90000, lc 90000, lc 300000] } })]
    ports := [(2, { configured := true, rate := 6 })]
    streams := [(0, { part := 32, voice := [1], lc := true, group := 1, seats := (upTo 256).map fun f => ⟨f, 0, 0⟩ })] }
where
  lc (budget : Nat) : LEntry := { tick := 0, lc := true, lead := 0, budget := budget, group := 1, steps := 1, maxStreams := 1 }

/-- R418: the LC floor of the worked example is 179 W. -/
theorem test_floor : partFloor lindenbay 32 = 179 := by decide +kernel

/-- SM3 of "abc" (the published example of the hash, log 8). -/
theorem test_sm3 :
    sm3 [0x61, 0x62, 0x63] = toBE 32 0x66C7F0F462EEEDD9D1F2D46BDC10E4E24167C4875CF2F7A2297DA02B8F4BA8E0 := by decide +kernel

/-- R370: a READ of 96 bytes at fabric address 0x1234 of device 5 by device 9, with tag 7 and 8 hops. -/
theorem test_fabric_header :
    fabBytes 1 { fromNine with address := 0x1234, length := 96, tag := 7 } =
      [1, 0x80, 9, 0, 5, 0, 0, 0, 7, 0, 0, 0, 96, 0, 0, 0, 0x34, 0x12] ++ zeros 14 ∧
    fabParse (fabBytes 1 { fromNine with address := 0x1234, length := 96, tag := 7 }) =
      (1, { fromNine with address := 0x1234, length := 96, tag := 7 }) := by decide +kernel

/-- R438: the identity of PF0, the VF Device ID and the class code. -/
theorem test_configuration_header :
    (cfgHeader 0).vendor = 0x1D4B ∧ (cfgHeader 0).device = 0x2048 ∧ (cfgHeader 0).revision = 0xA1 ∧
    (cfgHeader 63).classCode = 0x120000 ∧ (sriov up).vfDevice = 0x2049 := by decide

/-- R323 and R324: FSYNC of I2S is low for slot 0 and high for slot 1, and changes one BCLK period before each; and of
left-justified at each slot's start. The bits of a slot go most significant first. -/
theorem test_pins :
    [7, 15, 23, 31].map (fsyncHigh { port with format := 0, slots := 2, width := 0 }) = [false, true, true, false] ∧
    fsyncHigh { port with format := 1, slots := 2, width := 0 } 15 = true ∧
    fsyncHigh { port with format := 1, slots := 2, width := 0 } 16 = false ∧
    wordOfBits [true, false, true, true] = 11 := by decide +kernel

/-! ### Well-formedness -/

/-- One ill-formed command for each check, at the first value outside its range. -/
theorem test_wf_refuses :
    [Instr.sqTailWrite 64 0 0, .sqTailWrite 0 16 0, .packetAccept 64 0, .packetAccept 0 16, .cqHeadWrite 64 0 0, .cqHeadWrite 0 16 0,
      .sqEnable 64 0 true, .sqEnable 0 16 true, .cqEnable 64 0 true, .cqEnable 0 16 true, .abort 64 0, .abort 0 16,
      .abortDone 64 0, .abortDone 0 16, .ringReset 64 0, .ringReset 0 16, .completionBurstWrite 64 0 true,
      .completionBurstWrite 0 16 true, .coalesceTimeExpiry 64 0, .coalesceTimeExpiry 0 16, .queueTailTimeout 10 0,
      .queueTailTimeout 0 65536, .dropPacket 10 0, .dropPacket 0 65536, .queueItemWrite 10 0 {}, .queueItemWrite 0 65536 {},
      .registerWrite 64 (.bar0 0 false) 4 0, .registerWrite 0 (.bar0 (2 ^ 28) false) 4 0,
      .registerWrite 0 (.config (.bar 6)) 4 0, .regLowWordRead 64 ⟨0, 4⟩, .regLowWordRead 0 ⟨2 ^ 28, 8⟩, .intArm 64 0,
      .msixUnmask 64, .acctClear 64 0 0, .acctClear 0 128 0, .localRangeWrite 256 true 0, .unreachableClear 32 0, .inject 10 0,
      .kernelStart 2048, .kernelEnd 2048 0, .kernelPoisonFault 2048 .stateStore, .watchdog 2048 none, .teardownComplete 128 0,
      .partitionFault 128 .culet, .partitionResetDone 128, .deviceFatalFault 0 0, .deviceFatalFault 7 0, .deviceFatalFault 1 256,
      .latticeTick 128, .latticeSwitchInstant 128, .fill 128 0, .fill 0 2048].all (fun i => !i.wf) = true := by decide

theorem test_wf_refuses_more :
    [Instr.stateFetchBackDone 16384, .modelPlacementDone 128 0, .modelPlacementDone 0 65536, .modelT1CopyDone 65536,
      .stagedFetchLand 128 0 0 false, .stagedFetchLand 0 16384 0 false, .prismZeroingDone 128, .checkpointWrite 16384 true,
      .migrateAck 16384 0 [] [] [], .migrateAckTimeout 16384, .stateCopyOutDone 16384, .jumpPrepare 128 0 false, .jumpPrepare 0 16 false,
      .arbitrationRound [⟨0, 128, true, 1, 0⟩], .arbitrationRound [⟨0, 0, true, 1, 4⟩], .sinkWriteTx 16 0 false, .sinkWriteTx 0 32 false, .portFrameBoundary 16 0 0 [],
      .portArmAction 16, .prerollEnd 16, .portArmTimeout 16, .startInEdge 16, .portStopAction 16, .postrollEnd 16, .portCommit 16,
      .clockLost 16, .clockReturned 16 0 0, .linkDown 8, .linkTrainAttempt 8, .linkUp 8 0 0 0 0 0, .linkUp 0 3 0 0 0 0,
      .linkUp 0 0 256 0 0 0, .linkUp 0 0 0 256 0 0, .linkUp 0 0 0 0 1024 0, .linkUp 0 0 0 0 0 8, .versionAnnounce 8 0 0,
      .versionAnnounce 0 256 0, .versionAnnounce 0 0 256, .flitArrival 8 {} true true, .functionLevelReset 64, .d3hotToD0 64,
      .d3hotEntry 64, .vfEnableSet 64, .pmuControlStep [0], .pmuControlStep (List.replicate 64 128),
      .pmuControlStep (List.replicate 64 (-129)), .thermtrip 128, .thermtrip (-129), .lostLock ⟨0, 32⟩ ⟨32, 0, 0⟩ [],
      .lostLock ⟨0, 0⟩ ⟨1, 0, 0⟩ [], .bar2Access 0 true 1 [] false, .prismGate 128, .prismWake 128,
      .checkerLock ⟨0, 32⟩ []].all (fun i => !i.wf) = true := by decide +kernel

/-- The last value inside each range. -/
theorem test_wf_accepts :
    [Instr.sqTailWrite 63 15 0, .queueItemWrite 9 65535 {}, .registerWrite 63 (.bar0 (2 ^ 28 - 1) true) 4 0, .registerWrite 0 (.config (.bar 5)) 4 0, .acctClear 63 127 0,
      .localRangeWrite 255 true 0, .unreachableClear 31 0, .kernelStart 2047, .deviceFatalFault 6 255, .fill 127 2047,
      .stateFetchBackDone 16383, .modelPlacementDone 127 65535, .jumpPrepare 127 15 false, .arbitrationRound [⟨0, 127, true, 1, 3⟩],
      .sinkWriteTx 15 31 false, .linkUp 7 2 255 255 1023 7, .vfEnableSet 63, .pmuControlStep (List.replicate 64 127),
      .thermtrip (-128), .lostLock ⟨0, 31⟩ ⟨31, 0, 0⟩ [], .bar2Access 0 true 1 [0] false, .bar2Access 0 false 0 [] false,
      .checkerLock ⟨0, 31⟩ []].all Instr.wf = true := by
  decide +kernel

/-- A command that is not well formed leaves the block as it is. -/
theorem test_wf_settles : exec (.linkDown 8) up = .next (settle up) := rfl

end Sys2Proof.Tests
end

section
/-! What the commands of the rings, of the fall-through queues and of the registers may change (O19). -/

namespace Sys2Proof.Machine

/-! ### Outcomes whose state evolves -/

/-- A change within one set of fields, then one within another, is a change within their union. -/
theorem Evolves.union {A B : Nat} {s t u : State} (h : Evolves A s t) (k : Evolves B t u) : Evolves (A ||| B) s u := by
  refine ⟨fun p hp => ?_, k.form ∘ h.form⟩
  rw [Nat.testBit_or, Bool.or_eq_false_iff] at hp
  exact Piece.same_trans (h.frame p hp.1) (k.frame p hp.2)

/-- A packet on the link only restarts the idle timer besides. -/
theorem Evolves.linkUsed {A : Nat} {s t : State} (h : Evolves A s t) : Evolves (A ||| 64) s t.linkUsed :=
  h.union (State.linkUsed_ev t)

/-- A set of fields lies within another. -/
abbrev Within (A T : Nat) : Prop := A &&& T = A

theorem Within.right {A B T : Nat} (h : Within (A ||| B) T) : Within B T := by
  refine Nat.eq_of_testBit_eq fun i => ?_
  have := congrArg (·.testBit i) h
  simp only [Nat.testBit_and, Nat.testBit_or] at this ⊢
  revert this
  cases A.testBit i <;> cases B.testBit i <;> simp

/-- The end of a command changes what every command may touch (R399). -/
theorem settle_sends (s : State) : Evolves (pieces sends) s (settle s) := (settle_ev s).mono

/-- Every state that an outcome goes on to has come from `s` by changes within a set of fields. -/
def Yields (T : Nat) (s : State) (o : Host.Outcome State Fault Refusal) : Prop := ∀ t, o = .next t → Evolves T s t

namespace Yields

variable {A T : Nat} {s u : State} {o : Host.Outcome State Fault Refusal} {b c : Bool}

theorem done (k : Evolves A s u) (hT : Within (A ||| pieces sends) T := by dsimp only [touches]; decide) :
    Yields T s (done u) := by
  intro t h
  obtain rfl : settle u = t := Host.Outcome.next.inj h
  exact (k.union (settle_sends u)).mono hT

theorem idle (hT : Within (pieces sends) T := by dsimp only [touches]; decide) : Yields T s (Machine.done s) :=
  .done (.refl 0 s) (by rwa [Nat.zero_or])

theorem cond (h : Yields T s o) (k : Yields T s (Machine.done s)) : Yields T s (if c then o else Machine.done s) := by
  split
  · exact h
  · exact k

theorem doneIf (k : Evolves A s u) (hT : Within (A ||| pieces sends) T := by dsimp only [touches]; decide) :
    Yields T s (doneIf c s u) :=
  .cond (.done k hT) (.idle hT.right)

/-- A command that is well formed acts under its condition, and is idle else. -/
theorem guarded (k : Evolves A s u) (hT : Within (A ||| pieces sends) T := by dsimp only [touches]; decide) :
    Yields T s (if b then Machine.doneIf c s u else Machine.done s) :=
  .cond (.doneIf k hT) (.idle hT.right)

end Yields

/-! ### The three families -/

/-- The commands of the rings evolve within what they touch. -/
theorem rings_yields {i : Instr} {s : State} (h : family i = .rings) : Yields (pieces (touches i)) s (exec i s) := by
  cases i with
  | sqTailWrite f r v => exact .guarded (sqTailEff_ev ..).linkUsed
  | packetAccept f r => exact .cond (.done (packetAcceptEff_ev ..)) .idle
  | deferredCommandStart cid =>
    change Yields _ s (execDeferredCommandStart cid s)
    unfold execDeferredCommandStart
    split
    · exact .idle
    · split
      · exact .doneIf (fail_ev ..)
      · exact .doneIf (State.modCmd_ev ..)
  | cqHeadWrite f r v => exact .guarded (cqHeadEff_ev ..).linkUsed
  | sqEnable f r on => exact .guarded (sqEnableEff_ev ..).linkUsed
  | cqEnable f r on => exact .guarded (cqEnableEff_ev ..).linkUsed
  | abort f r => exact .guarded (abortEff_ev ..).linkUsed
  | abortDone f r => exact .guarded (abortDoneEff_ev ..)
  | ringReset f r => exact .guarded (ringResetEff_ev ..).linkUsed
  | completionBurstWrite f r w => exact .guarded (burstEff_ev ..)
  | coalesceTimeExpiry f r => exact .guarded (State.setRingCause_ev ..)
  | _ => exact Family.noConfusion h

/-- The commands of the fall-through queues evolve within what they touch. -/
theorem queues_yields {i : Instr} {s : State} (h : family i = .queues) : Yields (pieces (touches i)) s (exec i s) := by
  cases i with
  | queueTailTimeout c i =>
    refine .cond ?_ .idle
    split
    · exact .doneIf (coFlush_ev ..)
    · exact .doneIf (tailFlush_ev ..)
  | dropPacket c i => exact .guarded (dropEff_ev ..)
  | queueItemWrite c i y =>
    refine .cond ?_ .idle
    split
    · next t ht =>
      exact .doneIf ((takesItem_ev s c i).ofSome ht |>.union (itemEff_ev ..))
    · exact .idle
  | inject c v => exact .guarded (injectEff_ev ..).linkUsed
  | _ => exact Family.noConfusion h

/-- Accesses to registers evolve within what they touch. -/
theorem registers_yields {i : Instr} {s : State} (h : family i = .registers) :
    Yields (pieces (touches i)) s (exec i s) := by
  cases i with
  | registerWrite f target size v =>
    refine .cond ?_ .idle
    cases target with
    | bar0 off ep => exact .doneIf (barWriteEff_ev ..).linkUsed
    | config reg => exact .doneIf (configEff_ev ..).linkUsed
  | regLowWordRead f a =>
    refine .guarded (Evolves.linkUsed (A := 8796093024320) ?_)
    split
    · exact regReadEff_ev ..
    · split
      · exact (regRead8_ev ..).mono
      · exact (outsideRead_ev ..).mono
  | globalLock v => exact .doneIf (lockEff_ev ..).linkUsed
  | numberValid v => exact .doneIf (numberEff_ev ..).linkUsed
  | intArm f v => exact .guarded (armEff_ev ..).linkUsed
  | msixUnmask f => exact .guarded (unmaskEff_ev ..).linkUsed
  | acctClear f k v => exact .guarded (acctClearEff_ev ..).linkUsed
  | localRangeWrite i b v => exact .guarded (rangeWrite_ev ..)
  | unreachableClear i v => exact .guarded (unreachableEff_ev ..)
  | resetControlWarm v => exact .doneIf (resetControlEff_ev ..)
  | go v => exact .doneIf (hostCtrlEff_ev ..).linkUsed
  | _ => exact Family.noConfusion h

/-- Settles O19: each command of the three families evolves within the fields that it touches. -/
theorem ringAndRegisterFrame : Obligations.RingAndRegisterFrame := by
  intro i s t hf h
  simp only [List.mem_cons, List.not_mem_nil, or_false] at hf
  obtain hf | hf | hf := hf
  · exact (rings_yields hf t h).frame
  · exact (queues_yields hf t h).frame
  · exact (registers_yields hf t h).frame

end Sys2Proof.Machine
end

section
/-! The registers with a row of their own: LOCK, DEVICE_NUMBER, ARMED, the MSI-X mask and CLEAR (O30). -/

namespace Sys2Proof.Machine

/-! ### What a command does that acts under a condition -/

theorem doneIf_true {c : Bool} (h : c = true) (s t : State) : doneIf c s t = .next (settle t) := by
  subst h
  rfl

theorem doneIf_false {c : Bool} (h : c = false) (s t : State) : doneIf c s t = .next (settle s) := by
  subst h
  rfl

/-! ### What `settle` leaves of an interrupt page, and what it sends (R399) -/

/-- A key that does not read as the default is listed with its value. -/
theorem mem_of_tabGet_ne {α : Type} {d : α} {t : Tab α} {k : Nat} (h : tabGet d t k ≠ d) : (k, tabGet d t k) ∈ t := by
  induction t with
  | nil => exact absurd rfl h
  | cons kv r ih =>
    obtain ⟨k', v⟩ := kv
    by_cases hk : k = k'
    · simp [tabGet, hk]
    · simp only [tabGet, if_neg hk] at h ⊢
      exact List.mem_cons_of_mem _ (ih h)

/-- What asserts has an enabled group. -/
theorem summaryEn_ne_zero {s : State} {f : Nat} (h : asserting s f = true) : (s.func f).summaryEn ≠ 0 := by
  intro h0
  simp [asserting, h0] at h

theorem mem_enabledFuncs {s : State} {f : Nat} (ha : (s.func f).armed = true) (h : asserting s f = true) :
    f ∈ enabledFuncs s := by
  have hen := summaryEn_ne_zero h
  have hne : s.func f ≠ {} := fun h0 => hen (congrArg FuncPage.summaryEn h0)
  refine List.mem_map.mpr ⟨(f, s.func f), List.mem_filter.mpr ⟨mem_of_tabGet_ne hne, ?_⟩, rfl⟩
  rw [ha, Bool.and_true]
  exact decide_eq_true hen

/-- A page that is not armed, or whose function does not assert, fires nothing. -/
theorem firePage_idle {s : State} {f : Nat} {p : FuncPage} (h : (p.armed && asserting s f) = false) :
    firePage s f p = (p, []) := by
  simp [firePage, h]

/-- With the vector masked, the message is held pending. -/
theorem firePage_masked {s : State} {f : Nat} {p : FuncPage} (h : (p.armed && asserting s f) = true)
    (hm : p.msixMask = true) : firePage s f p = ({ p with armed := false, msixPending := true }, []) := by
  simp [firePage, h, hm]

theorem firePage_sends {s : State} {f : Nat} {p : FuncPage} (h : (p.armed && asserting s f) = true)
    (hm : p.msixMask = false) (hd : inD3 s f = false) :
    firePage s f p = ({ p with armed := false }, [.msix f p.msixAddr.toNat p.msixData]) := by
  simp [firePage, h, hm, hd]

/-- A function in D0 with its vector unmasked holds no new message pending. -/
theorem firePage_unmasked {s : State} {f : Nat} {p : FuncPage} (hm : p.msixMask = false) (hd : inD3 s f = false) :
    (firePage s f p).1.msixMask = false ∧ (firePage s f p).1.msixPending = p.msixPending := by
  cases h : p.armed && asserting s f
  · rw [firePage_idle h]
    exact ⟨hm, rfl⟩
  · rw [firePage_sends h hm hd]
    exact ⟨hm, rfl⟩

/-- Each listed function fires once its page is due, and the others keep theirs. -/
theorem fireAll_func (s : State) (fs : List Nat) (f : Nat) :
    tabGet {} (fireAll s fs).1 f = if f ∈ fs then (firePage s f (s.func f)).1 else s.func f := by
  induction fs with
  | nil => rfl
  | cons x r ih =>
    unfold fireAll
    dsimp only
    split
    · rw [tabGet_set, ih]
      by_cases hx : f = x
      · subst hx
        simp
      · simp [hx]
    · next hq =>
      rw [ih]
      by_cases hx : f = x
      · subst hx
        simp [firePage_idle (Bool.not_eq_true _ ▸ hq)]
      · simp [hx]

theorem mem_fireAll {s : State} {fs : List Nat} {f : Nat} (hf : f ∈ fs) {x : Sent}
    (hx : x ∈ (firePage s f (s.func f)).2) : x ∈ (fireAll s fs).2 := by
  induction fs with
  | nil => exact absurd hf List.not_mem_nil
  | cons g r ih =>
    unfold fireAll
    dsimp only
    have hdue : ((s.func f).armed && asserting s f) = true := by
      by_contra hn
      rw [firePage_idle (Bool.not_eq_true _ ▸ hn)] at hx
      exact absurd hx List.not_mem_nil
    rcases List.mem_cons.mp hf with rfl | hr
    · rw [if_pos hdue]
      exact List.mem_append_left _ hx
    · split
      · exact List.mem_append_right _ (ih hr)
      · exact ih hr

/-- The end of a command fires every page that is due, and only those. -/
theorem settle_func (s : State) (f : Nat) : (settle s).func f = (firePage s f (s.func f)).1 := by
  refine (fireAll_func s (enabledFuncs s) f).trans ?_
  split
  · rfl
  · next hf =>
    refine congrArg Prod.fst (firePage_idle ?_).symm
    by_contra h
    rw [Bool.not_eq_false, Bool.and_eq_true] at h
    exact hf (mem_enabledFuncs h.1 h.2)

/-- The end of a command sends the message of every page that is due, after what was sent before. -/
theorem settle_sent (s : State) : ∃ rest, (settle s).sent = s.sent ++ rest ∧
    ∀ f, ∀ x ∈ (firePage s f (s.func f)).2, x ∈ rest := by
  refine ⟨_, rfl, fun f x hx => mem_fireAll ?_ hx⟩
  by_contra hf
  rw [firePage_idle (p := s.func f)] at hx
  · exact absurd hx List.not_mem_nil
  · by_contra h
    rw [Bool.not_eq_false, Bool.and_eq_true] at h
    exact hf (mem_enabledFuncs h.1 h.2)

/-! ### What an access to the interrupt page leaves of the tree -/

/-- A page's summary does not depend on its ARMED or on its vector. -/
theorem asserting_modFunc {s : State} {f : Nat} {g : FuncPage → FuncPage}
    (hs : (g (s.func f)).summaryEn = (s.func f).summaryEn) (he : (g (s.func f)).groupEn = (s.func f).groupEn) :
    asserting (s.modFunc f g) f = asserting s f := by
  have hc (k w : Nat) : groupCause (s.modFunc f g) f k w = groupCause s f k w := rfl
  have hen (k w : Nat) : groupEn (s.modFunc f g) f k w = groupEn s f k w := by simp [groupEn, he]
  simp [asserting, summaryBit, hs, hc, hen]

@[simp] theorem State.func_linkUsed (s : State) (f : Nat) : s.linkUsed.func f = s.func f := rfl

@[simp] theorem State.func_emit (s : State) (x : Sent) (f : Nat) : (s.emit x).func f = s.func f := rfl

@[simp] theorem asserting_linkUsed (s : State) (f : Nat) : asserting s.linkUsed f = asserting s f := rfl

@[simp] theorem inD3_linkUsed (s : State) (f : Nat) : inD3 s.linkUsed f = inD3 s f := rfl

theorem armEff_func (s : State) (f v : Nat) :
    (armEff s f v).linkUsed.func f = { s.func f with armed := (s.func f).armed || bitAt v 0 } := by
  rw [State.func_linkUsed, armEff, State.func_modFunc]

theorem armEff_asserting (s : State) (f v : Nat) : asserting (armEff s f v).linkUsed f = asserting s f := by
  rw [asserting_linkUsed, armEff, asserting_modFunc rfl rfl]

theorem answers_inD3 {s : State} {f : Nat} (h : s.answers f = true) : inD3 s f = false := by
  simp only [State.answers, Bool.and_eq_true, Bool.not_eq_true'] at h
  exact h.2

/-! ### INT_ARM -/

section
variable {s : State} {f : Nat} {v : Word32}

theorem exec_intArm (hf : f < 64) (h : s.answers f = true) (hb : s.barUp = true) :
    exec (.intArm f v) s = .next (settle (armEff s f v.toNat).linkUsed) :=
  (if_pos (decide_eq_true hf)).trans (doneIf_true (by rw [h, hb]; rfl) ..)

/-- A write of 1 to ARMED arms a function that does not assert. -/
theorem intArm_quiet (h : asserting s f = false) :
    ((settle (armEff s f v.toNat).linkUsed).func f).armed = ((s.func f).armed || v.getLsbD 0) := by
  rw [settle_func, firePage_idle (by rw [armEff_asserting, h, Bool.and_false]), armEff_func]
  rfl

theorem armEff_due (h : asserting s f = true) (ha : ((s.func f).armed || v.getLsbD 0) = true) :
    (((armEff s f v.toNat).linkUsed.func f).armed && asserting (armEff s f v.toNat).linkUsed f) = true := by
  rw [armEff_asserting, h, Bool.and_true, armEff_func]
  exact ha

/-- A function that asserts sends its message once it is armed. -/
theorem intArm_sends (h : asserting s f = true) (ha : ((s.func f).armed || v.getLsbD 0) = true)
    (hm : (s.func f).msixMask = false) (hd : inD3 s f = false) :
    ((settle (armEff s f v.toNat).linkUsed).func f).armed = false ∧
    Sent.msix f (s.func f).msixAddr.toNat (s.func f).msixData ∈
      (settle (armEff s f v.toNat).linkUsed).sent.drop s.sent.length := by
  have hp := firePage_sends (armEff_due h ha) (by rw [armEff_func]; exact hm) hd
  obtain ⟨rest, hr, hx⟩ := settle_sent (armEff s f v.toNat).linkUsed
  refine ⟨by rw [settle_func, hp], ?_⟩
  rw [hr, show (armEff s f v.toNat).linkUsed.sent = s.sent from rfl, List.drop_left]
  refine hx f _ ?_
  rw [hp, armEff_func]
  exact List.mem_singleton_self _

/-- With the vector masked, the message waits. -/
theorem intArm_pends (h : asserting s f = true) (ha : ((s.func f).armed || v.getLsbD 0) = true)
    (hm : (s.func f).msixMask = true) :
    ((settle (armEff s f v.toNat).linkUsed).func f).armed = false ∧
    ((settle (armEff s f v.toNat).linkUsed).func f).msixPending = true := by
  rw [settle_func, firePage_masked (armEff_due h ha) (by rw [armEff_func]; exact hm)]
  exact ⟨rfl, rfl⟩

/-! ### MSIX_UNMASK -/

theorem exec_msixUnmask (hf : f < 64) (h : s.answers f = true) (hb : s.barUp = true) :
    exec (.msixUnmask f) s = .next (settle (unmaskEff s f).linkUsed) :=
  (if_pos (decide_eq_true hf)).trans (doneIf_true (by rw [h, hb]; rfl) ..)

theorem unmaskEff_func (s : State) (f : Nat) :
    (unmaskEff s f).linkUsed.func f =
      { s.func f with
        msixMask := false, msixPending := false
        msixHeld := (s.func f).msixHeld || ((s.func f).msixPending && inD3 s f) } := by
  rw [State.func_linkUsed]
  unfold unmaskEff
  dsimp only
  split
  · rw [State.func_emit, State.func_modFunc]
  · rw [State.func_modFunc]

theorem unmaskEff_sent (hp : (s.func f).msixPending = true) (hd : inD3 s f = false) :
    (unmaskEff s f).linkUsed.sent = s.sent ++ [.msix f (s.func f).msixAddr.toNat (s.func f).msixData] := by
  simp [unmaskEff, hp, hd, State.linkUsed, State.emit, State.modFunc]

theorem unmaskEff_inD3 (s : State) (f : Nat) : inD3 (unmaskEff s f).linkUsed f = inD3 s f := by
  unfold unmaskEff
  dsimp only
  split <;> rfl

/-- Unmasking the vector of a function in D0 sends the message that waits. -/
theorem msixUnmask_sends (hd : inD3 s f = false) :
    ((settle (unmaskEff s f).linkUsed).func f).msixMask = false ∧
    ((settle (unmaskEff s f).linkUsed).func f).msixPending = false ∧
    ((s.func f).msixPending = true → Sent.msix f (s.func f).msixAddr.toNat (s.func f).msixData ∈
      (settle (unmaskEff s f).linkUsed).sent.drop s.sent.length) := by
  have hf := firePage_unmasked (s := (unmaskEff s f).linkUsed) (f := f) (p := (unmaskEff s f).linkUsed.func f)
    (by rw [unmaskEff_func]) (by rw [unmaskEff_inD3, hd])
  rw [settle_func]
  refine ⟨hf.1, by rw [hf.2, unmaskEff_func], fun hp => ?_⟩
  obtain ⟨rest, hr, -⟩ := settle_sent (unmaskEff s f).linkUsed
  rw [hr, unmaskEff_sent hp hd, List.append_assoc, List.drop_left]
  exact List.mem_append_left _ (List.mem_singleton_self _)

end

/-! ### GLOBAL_LOCK, DEVICE_NUMBER and CLEAR -/

section
variable {s : State} {v : Word32}

theorem exec_globalLock (h : s.answers 0 = true) (hb : s.barUp = true) :
    exec (.globalLock v) s = .next (settle (lockEff s v.toNat).linkUsed) :=
  doneIf_true (by rw [h, hb]; rfl) ..

theorem exec_numberValid (h : s.answers 0 = true) (hb : s.barUp = true) :
    exec (.numberValid v) s = .next (settle (numberEff s v.toNat).linkUsed) :=
  doneIf_true (by rw [h, hb]; rfl) ..

/-- An unlocked DEVICE_NUMBER takes its fields (R25, R31). -/
theorem numberEff_unlocked (h : s.ident.lock = false) (n : Nat) :
    (numberEff s n).ident = { s.ident with number := BitVec.ofNat 10 n, numberValid := bitAt n 31 } := by
  simp [numberEff, h]

/-- A locked DEVICE_NUMBER takes nothing (R10). -/
theorem numberEff_locked (h : s.ident.lock = true) (n : Nat) : numberEff s n = s := if_pos h

/-- A function's BAR0 that does not serve its registers takes none of these writes. -/
theorem exec_special_idle {f : Nat} (h : s.answers f = false ∨ s.barUp = false) :
    (f = 0 → exec (.globalLock v) s = .next (settle s) ∧ exec (.numberValid v) s = .next (settle s)) ∧
    exec (.intArm f v) s = .next (settle s) ∧ exec (.msixUnmask f) s = .next (settle s) := by
  have hc : (s.answers f && s.barUp) = false := Bool.and_eq_false_iff.mpr h
  refine ⟨?_, ?_, ?_⟩
  · rintro rfl
    exact ⟨doneIf_false hc .., doneIf_false hc ..⟩
  · exact (ite_eq_right_iff.mpr fun _ => doneIf_false hc ..)
  · exact (ite_eq_right_iff.mpr fun _ => doneIf_false hc ..)

theorem exec_acctClear {f k : Nat} (hf : f < 64) (hk : k < 128) (h : s.serves f = true)
    (ho : f = 0 ∨ ownsPart s f k = true) (hv : v.getLsbD 0 = true) :
    exec (.acctClear f k v) s = .next (settle (acctClearEff s k).linkUsed) := by
  refine (if_pos (decide_eq_true ⟨hf, hk⟩)).trans (doneIf_true ?_ ..)
  simpa [h, hv] using ho

/-- CLEAR empties the counters of its partition (R222). -/
theorem acctClear_part (s : State) (k : Nat) : (settle (acctClearEff s k).linkUsed).part k =
    { s.part k with acct := [], lcStartMax := 0, staleStages := 0 } := by
  change (acctClearEff s k).part k = _
  rw [acctClearEff, State.part_modPart]

theorem acctClear_part_other {j k : Nat} (h : j ≠ k) :
    (settle (acctClearEff s k).linkUsed).part j = s.part j := by
  change (acctClearEff s k).part j = _
  rw [acctClearEff, State.part_modPart_other h]

theorem exec_acctClear_idle {f k : Nat}
    (h : s.serves f = false ∨ f ≠ 0 ∧ ownsPart s f k = false ∨ v.getLsbD 0 = false) :
    exec (.acctClear f k v) s = .next (settle s) := by
  have hc : (s.serves f && (f == 0 || ownsPart s f k) && v.getLsbD 0) = false := by
    rcases h with h | ⟨h0, h⟩ | h
    · rw [h, Bool.false_and, Bool.false_and]
    · rw [h, Bool.or_false, beq_false_of_ne h0, Bool.and_false, Bool.false_and]
    · rw [h, Bool.and_false]
  exact (ite_eq_right_iff.mpr fun _ => doneIf_false hc ..)

end

/-- Settles O30: each access acts by its own effect, and the end of the command fires the page that is then due. -/
theorem specialRegistersTakeTheirWrites : Obligations.SpecialRegistersTakeTheirWrites := by
  intro s f v _ hf
  refine ⟨fun ha hb => ⟨?_, ?_, ?_, fun hq => ?_, fun has har => ⟨fun hm => ?_, fun hm => ?_⟩, ?_⟩,
    exec_special_idle, fun k hk => ⟨fun hs ho hv => ?_, exec_acctClear_idle⟩⟩
  · rintro rfl
    exact ⟨_, exec_globalLock ha hb, rfl, rfl⟩
  · rintro rfl hl
    refine ⟨_, exec_numberValid ha hb, ?_⟩
    change (numberEff s v.toNat).ident.number.toNat = _ ∧ (numberEff s v.toNat).ident.numberValid = _
    rw [numberEff_unlocked hl]
    exact ⟨BitVec.toNat_ofNat .., rfl⟩
  · rintro rfl hl
    refine ⟨_, exec_numberValid ha hb, ?_⟩
    rw [numberEff_locked hl]
    rfl
  · exact ⟨_, exec_intArm hf ha hb, intArm_quiet hq⟩
  · exact ⟨_, exec_intArm hf ha hb, intArm_sends has har hm (answers_inD3 ha)⟩
  · exact ⟨_, exec_intArm hf ha hb, intArm_pends has har hm⟩
  · exact ⟨_, exec_msixUnmask hf ha hb, msixUnmask_sends (answers_inD3 ha)⟩
  · have hp := acctClear_part s k
    exact ⟨_, exec_acctClear hf hk hs ho hv, by rw [hp], by rw [hp], by rw [hp], by rw [hp],
      fun j hj => acctClear_part_other hj⟩

end Sys2Proof.Machine
end

section
/-! Reads of the register file: the register at an offset, the latched high word, and what is outside (O29). -/

namespace Sys2Proof.Machine

/-! ### Where an access arrives (R8, R413, R443, R445) -/

/-- An access lies outside the registers that its function's BAR0 serves: it names no block, it is misaligned or of
another size, or its block has no register there. -/
abbrev Outside (s : State) (f off size : Nat) : Prop :=
  locate s f off = none ∨ ¬ (size = 4 ∧ off % 4 = 0 ∨ size = 8 ∧ off % 8 = 0) ∨
    (∃ b o, locate s f off = some (b, o) ∧ (s.barUp = true ∨ b = .clocks) ∧
      (rowAt s f b o = none ∨
        size = 8 ∧ (∃ q, rowAt s f b o = some q ∧ q.2.1 = false) ∧ rowAt s f b (o + 4) = none))

/-- An access arrives at offset `o` of a block that is served, where the register `q` stands. -/
structure Reaches (s : State) (f off : Nat) (b : Blk) (o : Nat) (q : RegRow) : Prop where
  block : locate s f off = some (b, o)
  up : s.barUp = true ∨ b = .clocks
  row : rowAt s f b o = some q

/-- A block is served once BAR0 serves all its registers, and the clocks block before (R413). -/
theorem served {s : State} {b : Blk} (h : s.barUp = true ∨ b = .clocks) : (!s.barUp && b != .clocks) = false := by
  rcases h with h | rfl
  · rw [h]
    rfl
  · rw [bne_self_eq_false, Bool.and_false]

theorem not_served {s : State} {b : Blk} (h : s.barUp = false) (hb : b ≠ .clocks) :
    (!s.barUp && b != .clocks) = true := by
  rw [h, bne_iff_ne.mpr hb]
  rfl

theorem accessOk_four {off : Nat} (h : off % 4 = 0) : accessOk off 4 = true := decide_eq_true (.inl ⟨rfl, h⟩)

theorem accessOk_eight {off : Nat} (h : off % 8 = 0) : accessOk off 8 = true := decide_eq_true (.inr ⟨rfl, h⟩)

/-! ### Reads of 4 bytes -/

/-- What a read of a size does (R445). -/
def barReadEff (s : State) (f off size : Nat) : State :=
  if size = 4 then regReadEff s f off else if size = 8 then regRead8 s f off else outsideRead s

section
variable {s : State} {f off o : Nat} {b : Blk} {q h : RegRow}

/-- A read of 4 bytes by what stands at the offset. -/
theorem barReadEff_four_served (ha : off % 4 = 0) (hr : Reaches s f off b o q) (hw : q.2.1 = false) :
    barReadEff s f off 4 = s.emit (.regData f off (BitVec.ofNat 32 (wordOf q o))) := by
  simp [barReadEff, regReadEff, accessOk_four ha, hr.block, served hr.up, hr.row, hw]

/-- The low word of a 64-bit register latches the high one (R8). -/
theorem barReadEff_four_low (ha : off % 4 = 0) (hr : Reaches s f off b o q) (hw : q.2.1 = true) (ho : o = q.1) :
    barReadEff s f off 4 =
      ({ s with latches := (s.latches.filter fun (l : Nat × Word32) => l.1 != latchKey f (off + 4)) ++
          [(latchKey f (off + 4), BitVec.ofNat 32 (q.2.2 / 2 ^ 32))] }).emit
        (.regData f off (BitVec.ofNat 32 (wordOf q o))) := by
  obtain ⟨hl, hb, hq⟩ := hr
  subst ho
  simp [barReadEff, regReadEff, accessOk_four ha, hl, served hb, hq, hw]

/-- The high word of a 64-bit register is the latched one, where one is latched (R8). -/
theorem barReadEff_four_high (ha : off % 4 = 0) (hr : Reaches s f off b o q) (hw : q.2.1 = true) (ho : o ≠ q.1) :
    barReadEff s f off 4 =
      ({ s with latches := s.latches.filter fun (l : Nat × Word32) => l.1 != latchKey f off }).emit
        (.regData f off (((s.latches.find? fun (l : Nat × Word32) => l.1 == latchKey f off).map Prod.snd).getD
          (BitVec.ofNat 32 (wordOf q o)))) := by
  simp [barReadEff, regReadEff, accessOk_four ha, hr.block, served hr.up, hr.row, hw, ho]

theorem barReadEff_four_boot (ha : off % 4 = 0) (hl : locate s f off = some (b, o)) (hb : s.barUp = false)
    (hc : b ≠ .clocks) : barReadEff s f off 4 = s.emit (.regData f off 0) := by
  simp [barReadEff, regReadEff, accessOk_four ha, hl, not_served hb hc]

/-! ### Reads of 8 bytes -/

theorem barReadEff_eight_whole (ha : off % 8 = 0) (hr : Reaches s f off b o q) (hw : q.2.1 = true) :
    barReadEff s f off 8 = s.emit (.regData64 f off (BitVec.ofNat 64 q.2.2)) := by
  simp [barReadEff, regRead8, accessOk_eight ha, hr.block, served hr.up, hr.row, hw]

theorem barReadEff_eight_pair (ha : off % 8 = 0) (hr : Reaches s f off b o q) (hw : q.2.1 = false)
    (hh : rowAt s f b (o + 4) = some h) :
    barReadEff s f off 8 =
      s.emit (.regData64 f off (BitVec.ofNat 64 (wordOf q o + 2 ^ 32 * wordOf h (o + 4)))) := by
  simp [barReadEff, regRead8, accessOk_eight ha, hr.block, served hr.up, hr.row, hw, hh]

theorem barReadEff_eight_boot (ha : off % 8 = 0) (hl : locate s f off = some (b, o)) (hb : s.barUp = false)
    (hc : b ≠ .clocks) : barReadEff s f off 8 = s.emit (.regData64 f off 0) := by
  simp [barReadEff, regRead8, accessOk_eight ha, hl, not_served hb hc]

end

/-! ### The command -/

/-- A read outside the registers is unsupported, whatever its size (R443). -/
theorem Outside.barReadEff {s : State} {f off size : Nat} (h : Outside s f off size) :
    barReadEff s f off size = outsideRead s := by
  unfold Machine.barReadEff
  split
  · next h4 =>
    subst h4
    by_cases ha : off % 4 = 0
    · rcases h with h | h | ⟨b, o, hl, hb, hr | ⟨h8, -⟩⟩
      · simp [regReadEff, h]
      · exact absurd (.inl ⟨rfl, ha⟩) h
      · simp [regReadEff, hl, served hb, hr]
      · exact absurd h8 (by decide)
    · simp [regReadEff, accessOk, ha]
  · split
    · next h8 =>
      subst h8
      by_cases ha : off % 8 = 0
      · rcases h with h | h | ⟨b, o, hl, hb, hr | ⟨-, ⟨q, hq, hw⟩, hr⟩⟩
        · simp [regRead8, h]
        · exact absurd (.inr ⟨rfl, ha⟩) h
        · simp [regRead8, hl, served hb, hr]
        · simp [regRead8, hl, served hb, hq, hw, hr]
      · simp [regRead8, accessOk, ha]
    · rfl

section
variable {s : State} {f off size : Nat}

theorem exec_regLowWordRead (hf : f < 64) (ho : off < 2 ^ 28) (h : s.answers f = true) :
    exec (.regLowWordRead f ⟨off, size⟩) s = .next (settle (barReadEff s f off size).linkUsed) :=
  (if_pos (decide_eq_true ⟨hf, ho⟩)).trans (doneIf_true h ..)

theorem exec_regLowWordRead_idle (h : s.answers f = false) :
    exec (.regLowWordRead f ⟨off, size⟩) s = .next (settle s) :=
  ite_eq_right_iff.mpr fun _ => doneIf_false h ..

/-- What an access sends is in the record, before the messages that its end sends. -/
theorem settled_emit_sent (s : State) (x : Sent) :
    ∃ rest, (settle (s.emit x).linkUsed).sent = s.sent ++ x :: rest := by
  obtain ⟨rest, hr, -⟩ := settle_sent (s.emit x).linkUsed
  exact ⟨rest, by rw [hr]; exact List.append_assoc s.sent [x] rest⟩

/-- A read of 4 or 8 bytes that answers with one record. -/
theorem read_sends {x : Sent} (hf : f < 64) (ho : off < 2 ^ 28) (h : s.answers f = true)
    (hx : barReadEff s f off size = s.emit x) :
    ∃ t rest, exec (.regLowWordRead f ⟨off, size⟩) s = .next t ∧ t.sent = s.sent ++ x :: rest := by
  obtain ⟨rest, hr⟩ := settled_emit_sent s x
  exact ⟨_, rest, exec_regLowWordRead hf ho h, by rw [hx, hr]⟩

/-- A key that has been filtered out is not found. -/
theorem find?_filter_ne (l : List (Nat × Word32)) (k : Nat) :
    (l.filter fun x => x.1 != k).find? (fun x => x.1 == k) = none := by
  simp

end

/-- The low word of a number of 64 bits, taken modulo 2 ^ 32 or not, is the same word. -/
theorem ofNat_wordOf_low {q : RegRow} {o : Nat} (h : o = q.1) :
    BitVec.ofNat 32 (wordOf q o) = BitVec.ofNat 32 q.2.2 := by
  rw [wordOf, if_pos h]
  exact BitVec.eq_of_toNat_eq (by simp)

theorem wordOf_high {q : RegRow} {o : Nat} (h : o ≠ q.1) : wordOf q o = q.2.2 / 2 ^ 32 := if_neg h

/-- Settles O29, by the register that the read reaches; a read that reaches none is outside. -/
theorem readsLatchTheHighWord : Obligations.ReadsLatchTheHighWord := by
  intro s f off size hf ho
  refine ⟨fun ha => ⟨fun b o q hl hb hq => ⟨?_, ?_⟩, fun b o hl hb hc => ⟨?_, ?_⟩, fun hout => ?_⟩,
    exec_regLowWordRead_idle⟩
  · have hr : Reaches s f off b o q := ⟨hl, hb, hq⟩
    rintro rfl h4
    refine ⟨_, exec_regLowWordRead hf ho ha, fun hw => ?_, fun hw hlow => ?_, fun hw hhigh => ?_⟩
    · rw [barReadEff_four_served h4 hr hw]
      exact ⟨settled_emit_sent .., rfl⟩
    · rw [barReadEff_four_low h4 hr hw hlow, ofNat_wordOf_low hlow]
      refine ⟨settled_emit_sent .., ?_⟩
      change List.find? _ (_ ++ _) = _
      rw [List.find?_append, find?_filter_ne]
      simp
    · rw [barReadEff_four_high h4 hr hw hhigh, wordOf_high hhigh]
      exact ⟨settled_emit_sent .., find?_filter_ne ..⟩
  · have hr : Reaches s f off b o q := ⟨hl, hb, hq⟩
    rintro rfl h8
    exact ⟨fun hw => read_sends hf ho ha (barReadEff_eight_whole h8 hr hw),
      fun h hw hh => read_sends hf ho ha (barReadEff_eight_pair h8 hr hw hh)⟩
  · rintro rfl h4
    exact read_sends hf ho ha (barReadEff_four_boot h4 hl hb hc)
  · rintro rfl h8
    exact read_sends hf ho ha (barReadEff_eight_boot h8 hl hb hc)
  · have hr : barReadEff s f off size = (outsideWrite s).emit .unsupported := Outside.barReadEff hout
    obtain ⟨rest, hs⟩ := settled_emit_sent (outsideWrite s) .unsupported
    exact ⟨_, rest, exec_regLowWordRead hf ho ha, by rw [hr, hs]; rfl, by rw [hr]; rfl⟩

end Sys2Proof.Machine
end

section
/-! Writes to the register file and to the configuration space, by the field types of the tables (O28). -/

namespace Sys2Proof.Machine

/-! ### What a write does where it arrives -/

/-- The register there takes the word, a 64-bit one beside its other half (R8). -/
theorem writeWord_row {s : State} {f o : Nat} {b : Blk} {q : RegRow} (h : rowAt s f b o = some q) (v : Nat) :
    writeWord s f b o v = blkWrite s f b q.1 (mergeWord q o v) := by
  simp [writeWord, h]

/-- A register of 32 bits takes the word as it is. -/
theorem mergeWord_word {q : RegRow} (h : q.2.1 = false) (o v : Nat) : mergeWord q o v = v % 2 ^ 32 := by
  simp [mergeWord, h]

/-- A field of at most 32 bits takes the same from a word as from the number that it is the low word of. -/
theorem ofNat_word {w : Nat} (h : w ≤ 32) (v : Nat) : BitVec.ofNat w (v % 2 ^ 32) = BitVec.ofNat w v :=
  BitVec.eq_of_toNat_eq (by
    rw [BitVec.toNat_ofNat, BitVec.toNat_ofNat, Nat.mod_mod_of_dvd _ (Nat.pow_dvd_pow 2 h)])

section
variable {s : State} {f off o v : Nat} {b : Blk} {q h : RegRow}

theorem regWriteEff_four (ha : off % 4 = 0) (hr : Reaches s f off b o q) :
    regWriteEff s f off 4 v = blkWrite s f b q.1 (mergeWord q o v) := by
  simp [regWriteEff, accessOk_four ha, hr.block, served hr.up, hr.row, writeWord_row hr.row]

theorem regWriteEff_eight_whole (ha : off % 8 = 0) (hr : Reaches s f off b o q) (hw : q.2.1 = true) :
    regWriteEff s f off 8 v = blkWrite s f b o (v % 2 ^ 64) := by
  simp [regWriteEff, accessOk_eight ha, hr.block, served hr.up, hr.row, hw]

theorem regWriteEff_eight_pair (ha : off % 8 = 0) (hr : Reaches s f off b o q) (hw : q.2.1 = false)
    (hh : rowAt s f b (o + 4) = some h) :
    regWriteEff s f off 8 v = writeWord (writeWord s f b o v) f b (o + 4) (v / 2 ^ 32) := by
  simp [regWriteEff, accessOk_eight ha, hr.block, served hr.up, hr.row, hw, hh]

/-- During boot, what is not the clocks block takes no write (R413). -/
theorem regWriteEff_boot {size : Nat} (ha : accessOk off size = true) (hl : locate s f off = some (b, o))
    (hb : s.barUp = false) (hc : b ≠ .clocks) : regWriteEff s f off size v = s := by
  simp [regWriteEff, ha, hl, not_served hb hc]

/-- A write outside the registers is dropped and reported (R443). -/
theorem Outside.regWriteEff {size : Nat} (h : Outside s f off size) :
    regWriteEff s f off size v = outsideWrite s := by
  by_cases ha : accessOk off size = true
  · rcases h with h | h | ⟨b, o, hl, hb, hr | ⟨rfl, ⟨q, hq, hw⟩, hr⟩⟩
    · simp [Machine.regWriteEff, h]
    · exact absurd (of_decide_eq_true ha) h
    · simp [Machine.regWriteEff, hl, served hb, hr]
    · simp [Machine.regWriteEff, hl, served hb, hq, hw, hr]
  · simp [Machine.regWriteEff, ha]

end

/-! ### The registers of O28 in their blocks -/

section
variable (s : State) (f : Nat)

theorem rowAt_intSummary : rowAt s f .irq 0x0 = some (r32 0x0 (intSummary s f)) := by
  simp [rowAt, blkRows, irqRegs, r32]

theorem rowAt_summaryEn : rowAt s f .irq 0x4 = some (r32 0x4 (s.func f).summaryEn.toNat) := by
  simp [rowAt, blkRows, irqRegs, r32]

theorem rowAt_bar2Window : rowAt s f .pcie 0x4 = some (r32 0x4 s.pcie.bar2Gib.toNat) := by
  simp [rowAt, blkRows, Machine.pcieRegs, r32]

theorem rowAt_pba : rowAt s f .pba 0 = some (r64 0 (b2n (s.func f).msixPending)) := by
  simp [rowAt, blkRows, r64]

theorem rowAt_hostAddr_low : rowAt s f .clocks 0x10 = some (r64 0x10 s.clk.hostAddr.toNat) := by
  simp [rowAt, blkRows, clockRegs, r32, r64]

theorem rowAt_hostAddr_high : rowAt s f .clocks 0x14 = some (r64 0x10 s.clk.hostAddr.toNat) := by
  simp [rowAt, blkRows, clockRegs, r32, r64]

/-- MODEL_CAUSE stands there whether or not the partition exists (R223). -/
theorem rowAt_modelCause (k : Nat) : ∃ n, rowAt s f (.part k) 0x50 = some (0x50, false, n) := by
  have hr : upTo 4 = [0, 1, 2, 3] := rfl
  unfold rowAt blkRows
  dsimp only
  split <;> simp [partRegs, zeroRows, rWords, hr, r32, r64]

end

/-! ### What each of them takes (R8, R9, R249, R401, R412, R451) -/

section
variable {s : State} {f off v : Nat}

theorem write_summaryEn (ha : off % 4 = 0) (hb : s.barUp = true) (hl : locate s f off = some (.irq, 0x4)) :
    regWriteEff s f off 4 v =
      s.modFunc f fun p => { p with summaryEn := BitVec.ofNat 13 (v % 2 ^ 32 &&& summaryMask f) } :=
  regWriteEff_four ha ⟨hl, .inl hb, rowAt_summaryEn s f⟩

/-- INT_SUMMARY is read-only: an 8-byte write there writes INT_SUMMARY_EN alone. -/
theorem write_intSummary (ha : off % 8 = 0) (hb : s.barUp = true) (hl : locate s f off = some (.irq, 0x0)) :
    regWriteEff s f off 8 v =
      s.modFunc f fun p => { p with summaryEn := BitVec.ofNat 13 (v / 2 ^ 32 % 2 ^ 32 &&& summaryMask f) } := by
  have h0 : writeWord s f .irq 0x0 v = s := writeWord_row (rowAt_intSummary s f) v
  rw [regWriteEff_eight_pair ha ⟨hl, .inl hb, rowAt_intSummary s f⟩ rfl (rowAt_summaryEn s f), h0]
  exact writeWord_row (rowAt_summaryEn s f) _

theorem write_modelCause {k : Nat} (ha : off % 4 = 0) (hb : s.barUp = true)
    (hl : locate s f off = some (.part k, 0x50)) :
    regWriteEff s f off 4 v = s.modPart k fun p => { p with modelCause := w1c p.modelCause (v % 2 ^ 32) } := by
  obtain ⟨n, hn⟩ := rowAt_modelCause s f k
  exact regWriteEff_four ha ⟨hl, .inl hb, hn⟩

theorem write_bar2Window (ha : off % 4 = 0) (hb : s.barUp = true) (hl : locate s f off = some (.pcie, 0x4)) :
    regWriteEff s f off 4 v = { s with pcie := { s.pcie with bar2Gib := BitVec.ofNat 9 (v % 2 ^ 32) } } :=
  regWriteEff_four ha ⟨hl, .inl hb, rowAt_bar2Window s f⟩

/-- The pending-bit array is read-only. -/
theorem write_pba (ha : off % 4 = 0) (hb : s.barUp = true) (hl : locate s f off = some (.pba, 0)) :
    regWriteEff s f off 4 v = s :=
  regWriteEff_four ha ⟨hl, .inl hb, rowAt_pba s f⟩

theorem write_hostAddr_low (ha : off % 4 = 0) (hl : locate s f off = some (.clocks, 0x10)) :
    regWriteEff s f off 4 v = { s with clk := { s.clk with
      hostAddr := BitVec.ofNat 64 (s.clk.hostAddr.toNat % 2 ^ 64 / 2 ^ 32 * 2 ^ 32 + v % 2 ^ 32) } } :=
  regWriteEff_four ha ⟨hl, .inr rfl, rowAt_hostAddr_low s f⟩

theorem write_hostAddr_high (ha : off % 4 = 0) (hl : locate s f off = some (.clocks, 0x14)) :
    regWriteEff s f off 4 v = { s with clk := { s.clk with
      hostAddr := BitVec.ofNat 64 (v % 2 ^ 32 * 2 ^ 32 + s.clk.hostAddr.toNat % 2 ^ 64 % 2 ^ 32) } } :=
  regWriteEff_four ha ⟨hl, .inr rfl, rowAt_hostAddr_high s f⟩

theorem write_hostAddr (ha : off % 8 = 0) (hl : locate s f off = some (.clocks, 0x10)) :
    regWriteEff s f off 8 v = { s with clk := { s.clk with hostAddr := BitVec.ofNat 64 (v % 2 ^ 64) } } :=
  regWriteEff_eight_whole ha ⟨hl, .inr rfl, rowAt_hostAddr_low s f⟩ rfl

end

/-! ### The command on BAR0 -/

section
variable {s u : State} {f off size : Nat} {v : Word64}

theorem exec_barWrite (hf : f < 64) (ho : off < 2 ^ 28) (h : s.answers f = true) (ep : Bool)
    (hu : barWriteEff s f off ep size v.toNat = u) :
    exec (.registerWrite f (.bar0 off ep) size v) s = .next (settle u.linkUsed) := by
  have hwf : Instr.wf (.registerWrite f (.bar0 off ep) size v) = true :=
    Bool.and_eq_true_iff.mpr ⟨decide_eq_true hf, decide_eq_true ho⟩
  exact (if_pos hwf).trans (hu ▸ doneIf_true h ..)

theorem exec_barWrite_idle (h : s.answers f = false) (ep : Bool) :
    exec (.registerWrite f (.bar0 off ep) size v) s = .next (settle s) :=
  ite_eq_right_iff.mpr fun _ => doneIf_false h ..

/-- The end of a command leaves INT_SUMMARY_EN as it is. -/
theorem settle_summaryEn (s : State) (f : Nat) : ((settle s).func f).summaryEn = (s.func f).summaryEn := by
  have h : ((settle s).func f).regs = (s.func f).regs := (settle_ev s).frame .funcRegs (by decide) f
  have hr := congrArg FuncPage.summaryEn h
  exact hr

@[simp] theorem State.part_settle (s : State) (k : Nat) : (settle s).part k = s.part k := rfl

@[simp] theorem State.part_linkUsed (s : State) (k : Nat) : s.linkUsed.part k = s.part k := rfl

/-- What a dropped access leaves alone, with the end of its command. -/
theorem dropped_frame (h : Evolves 64 s u) : Frame (pieces [.funcs, .sent, .pcie]) s (settle u.linkUsed) :=
  ((h.linkUsed.union (settle_ev _)).mono (T := pieces [.funcs, .sent, .pcie])).frame

end

/-! ### The configuration space of PF0 (R441 to R444, log 16) -/

theorem bar2Sizes_lt {n : Nat} (h : bar2Sizes.contains n = true) : n < 2 ^ 10 := by
  simp only [bar2Sizes, upTo, List.contains_iff_mem, List.mem_map, List.mem_range] at h
  obtain ⟨i, hi, rfl⟩ := h
  exact Nat.pow_lt_pow_right (by decide) hi

/-- A BAR2 size that is on the list is taken, and no other (R444). -/
theorem configEff_bar2Size (s : State) (v : Nat) : (configEff s .bar2Size v).pcie.bar2Size.toNat =
    if bar2Sizes.contains (2 ^ (v % 64)) then 2 ^ (v % 64) else s.pcie.bar2Size.toNat := by
  unfold configEff
  dsimp only
  split
  · next h => exact (BitVec.toNat_ofNat ..).trans (Nat.mod_eq_of_lt (bar2Sizes_lt h))
  · rfl

section
variable {s : State} {f size : Nat} {v : Word64} {reg : CfgReg}

theorem exec_config (hwf : (RegTarget.config reg).wf = true) (hr : s.pcie.released = true)
    (hc : s.clk.refclkOk = true) :
    exec (.registerWrite 0 (.config reg) size v) s = .next (settle (configEff s reg v.toNat).linkUsed) :=
  (if_pos hwf).trans (doneIf_true (by rw [hr, hc]; rfl) ..)

theorem exec_config_idle (h : f ≠ 0 ∨ s.pcie.released = false ∨ s.clk.refclkOk = false) :
    exec (.registerWrite f (.config reg) size v) s = .next (settle s) := by
  refine ite_eq_right_iff.mpr fun _ => doneIf_false ?_ ..
  rcases h with h | h | h
  · rw [beq_false_of_ne h, Bool.and_false]
  · rw [h, Bool.false_and, Bool.false_and]
  · rw [h, Bool.and_false, Bool.false_and]

/-- What a write to configuration space leaves alone. -/
theorem config_frame {A : Nat} {t : State} (h : Evolves A s t)
    (hA : Within A (pieces [.funcs, .sent, .pcie, .pcieRegs]) := by decide) :
    Frame (pieces [.funcs, .sent, .pcie, .pcieRegs]) s t :=
  (h.mono hA).frame

/-- A register of configuration space that does not exist is a BAR above the last (log 25). -/
theorem bar_of_not_wf (h : (RegTarget.config reg).wf ≠ true) : ∃ i, reg = .bar i ∧
    exec (.registerWrite f (.config reg) size v) s = .next (settle s) := by
  cases reg with
  | bar i => exact ⟨i, rfl, if_neg fun hw => h (Bool.and_eq_true_iff.mp hw).2⟩
  | _ => exact absurd rfl h

end

/-- Settles O28, by the register that the write reaches; what reaches none is dropped within its frame. -/
theorem registerWritesFollowTheirFields : Obligations.RegisterWritesFollowTheirFields := by
  intro s f off size v _ hf ho
  refine ⟨fun ha => ⟨?_, ?_, fun hok b o hl hb hc => ?_, fun hout => ?_⟩, fun ha => ?_, exec_barWrite_idle,
    fun reg => ⟨?_, exec_config_idle⟩⟩
  · rintro ⟨rfl, h4⟩
    refine ⟨fun hb => ⟨fun hl => ?_, fun k _ hl => ?_, fun hl => ?_, fun hl => ?_⟩, fun hl => ?_, fun hl => ?_⟩
    · refine ⟨_, exec_barWrite hf ho ha false (write_summaryEn h4 hb hl), ?_⟩
      rw [settle_summaryEn, State.func_linkUsed, State.func_modFunc]
    · refine ⟨_, exec_barWrite hf ho ha false (write_modelCause h4 hb hl), ?_⟩
      rw [State.part_settle, State.part_linkUsed, State.part_modPart, w1c, ofNat_word (by decide)]
    · refine ⟨_, exec_barWrite hf ho ha false (write_bar2Window h4 hb hl), ?_⟩
      change (BitVec.ofNat 9 _).toNat = _
      rw [ofNat_word (by decide), BitVec.toNat_ofNat]
    · exact ⟨_, exec_barWrite hf ho ha false (write_pba h4 hb hl), dropped_frame (.refl ..)⟩
    · refine ⟨_, exec_barWrite hf ho ha false (write_hostAddr_low h4 hl), ?_⟩
      change (BitVec.ofNat 64 _).toNat = _
      rw [BitVec.toNat_ofNat]
      omega
    · refine ⟨_, exec_barWrite hf ho ha false (write_hostAddr_high h4 hl), ?_⟩
      change (BitVec.ofNat 64 _).toNat = _
      rw [BitVec.toNat_ofNat]
      omega
  · rintro ⟨rfl, h8⟩
    refine ⟨fun hb hl => ?_, fun hl => ?_⟩
    · refine ⟨_, exec_barWrite hf ho ha false (write_intSummary h8 hb hl), ?_⟩
      rw [settle_summaryEn, State.func_linkUsed, State.func_modFunc, Nat.mod_eq_of_lt (by omega)]
    · refine ⟨_, exec_barWrite hf ho ha false (write_hostAddr h8 hl), ?_⟩
      change BitVec.ofNat 64 _ = v
      rw [Nat.mod_eq_of_lt v.isLt, BitVec.ofNat_toNat, BitVec.setWidth_eq]
  · exact ⟨_, exec_barWrite hf ho ha false (regWriteEff_boot hok hl hb hc), dropped_frame (.refl ..)⟩
  · exact ⟨_, exec_barWrite hf ho ha false (Outside.regWriteEff hout), rfl, dropped_frame (outsideWrite_ev s)⟩
  · exact ⟨_, exec_barWrite hf ho ha true rfl, rfl, dropped_frame (upd_pcieQ_ev s _)⟩
  · rintro rfl hr hc
    by_cases hwf : (RegTarget.config reg).wf = true
    · exact ⟨_, exec_config hwf hr hc, config_frame ((configEff_ev s reg v.toNat).linkUsed.union (settle_ev _)),
        by rintro rfl; rfl, by rintro rfl; rfl, by rintro rfl; rfl, by rintro rfl; exact BitVec.toNat_ofNat ..,
        by rintro rfl; rfl, by rintro rfl h; exact (congrArg (s.pcie.aerPoisonedTlp && !·) h).trans (Bool.and_false _),
        by rintro rfl h; exact (congrArg (s.pcie.aerUnsupported && !·) h).trans (Bool.and_false _),
        by rintro rfl; exact configEff_bar2Size s v.toNat⟩
    · obtain ⟨i, rfl, he⟩ := bar_of_not_wf hwf
      exact ⟨_, he, config_frame (settle_ev s),
        nofun, nofun, nofun, nofun, nofun, nofun, nofun, nofun⟩

end Sys2Proof.Machine
end

section
/-! Rules that the statements of the engine share: when an event acts, and what stays of a unit. -/

-- These proofs wait on the same definitions: they are elaborated in order.
set_option Elab.async false

namespace Sys2Proof.Machine

/-- An event that needs the engines and its own condition does nothing while either is missing (log 1). -/
theorem doneIf_idle {a b : Bool} {s t : State} (h : a = false ∨ b = false) : doneIf (a && b) s t = .next (settle s) :=
  doneIf_false (Bool.and_eq_false_iff.mpr h) ..

theorem doneIf_both {a b : Bool} {s t : State} (ha : a = true) (hb : b = true) :
    doneIf (a && b) s t = .next (settle t) := doneIf_true (Bool.and_eq_true_iff.mpr ⟨ha, hb⟩) ..

@[simp] theorem State.facet_settle (s : State) (f : Nat) : (settle s).facet f = s.facet f := rfl

@[simp] theorem State.cmd_settle (s : State) (cid : Nat) : (settle s).cmd cid = s.cmd cid := rfl

theorem Evolves.facet {A : Nat} {s t : State} (h : Evolves A s t) (hA : A.testBit 18 = false := by decide) (f : Nat) :
    t.facet f = s.facet f := congrArg (tabGet ({} : Facet) · f) (h.frame .facets hA)

theorem Evolves.part {A : Nat} {s t : State} (h : Evolves A s t) (hA : A.testBit 16 = false := by decide) (k : Nat) :
    t.part k = s.part k := congrArg (tabGet ({} : Partition) · k) (h.frame .parts hA)

theorem Evolves.cmd {A : Nat} {s t : State} (h : Evolves A s t) (hA : A.testBit 14 = false := by decide) (cid : Nat) :
    t.cmd cid = s.cmd cid := congrArg (List.find? fun c : Cmd => c.cid == cid) (h.frame .cmds hA)

theorem State.runOf_cid {s : State} {cid : Nat} {r : Run} (h : s.runOf cid = some r) : r.cid = cid := by
  have := List.find?_some h
  simpa using this

theorem getLsbD_setBit_self {w i : Nat} (b : BitVec w) (h : i < w) : (setBit b i).getLsbD i = true := by
  rw [setBit, BitVec.getLsbD_or, BitVec.getLsbD_ofNat, Nat.testBit_two_pow_self, decide_eq_true h]
  exact Bool.or_true _

end Sys2Proof.Machine
end

section
/-! The engine's clock, the reset state and the release of POR_N (O2, O3, O34). -/

-- These proofs wait on the same definitions: they are elaborated in order.
set_option Elab.async false

namespace Sys2Proof.Machine

/-! ### One cycle without a command (R31, log 2) -/

theorem countCycle_count (s : State) : (countCycle s).ident.cycleCount =
    if s.clk.rootLocked then s.ident.cycleCount + 1 else s.ident.cycleCount := by
  unfold countCycle
  split <;> rfl

theorem countCycle_mode (s : State) : (countCycle s).mode = s.mode := by
  unfold countCycle
  split <;> rfl

theorem cyclePasses_stopped {s : State} (h : s.live = false) : cyclePasses s = trainingStarts (countCycle s) :=
  if_neg (by rw [h]; exact Bool.false_ne_true)

/-- Training starts once the first stage has run, in mode training (log 84). -/
theorem trainingStarts_other {s : State} (h : s.mode ≠ .training) : trainingStarts s = s := if_neg fun k => h k.1

theorem trainingStarts_ident (s : State) : (trainingStarts s).ident = s.ident := by
  unfold trainingStarts
  split <;> rfl

/-- After the count of a cycle only queues, links and their timers move. -/
theorem cyclePasses_ident (s : State) : (cyclePasses s).ident = (countCycle s).ident := by
  cases h : s.live with
  | true =>
    rw [show cyclePasses s = _ from if_pos h]
    exact ((((switchStarts_ev _).union (noteLink_ev _)).union (linksWork_ev _)).union (allQueues_ev ..)).union
      (settle_sends _) |>.frame .ident (by decide)
  | false => rw [cyclePasses_stopped h, trainingStarts_ident]

/-- Settles O2: a cycle changes neither the queue of commands nor, after the count, CYCLE_COUNT. -/
theorem idleStepCountsOneCycle : Obligations.IdleStepCountsOneCycle := by
  intro s hp
  have hstep : step s = .next (cyclePasses s) := by rw [step, hp]
  refine ⟨_, hstep, ?_, ?_, cyclePasses_stopped, fun hl hm => ?_⟩
  · exact ((cyclePasses_ev s).frame .pending (by decide)).trans hp
  · rw [cyclePasses_ident, countCycle_count]
  · rw [cyclePasses_stopped hl, trainingStarts_other (by rwa [countCycle_mode])]

/-! ### Reset -/

theorem reset_canon : State.reset.Canon := by
  constructor
  case cids => exact ⟨List.nodup_nil, fun _ h => absurd h List.not_mem_nil⟩
  all_goals rfl

/-- At reset no function has a group enabled (R401). -/
theorem reset_armedQuiet : ArmedQuiet State.reset := fun _ _ =>
  Bool.eq_false_iff.mpr fun h => summaryEn_ne_zero h rfl

/-- Settles O3: each value is the default of its field, and a table without entries reads as the default. -/
theorem resetLeavesTabledValues : Obligations.ResetLeavesTabledValues :=
  ⟨rfl, rfl, rfl, rfl, rfl, rfl, rfl, rfl, rfl, rfl, fun _ => rfl, rfl, rfl, fun _ => ⟨rfl, rfl⟩, fun _ => ⟨rfl, rfl⟩,
    fun _ _ => ⟨rfl, rfl⟩, fun _ => rfl, fun _ => rfl, rfl, rfl, rfl, rfl, reset_canon, reset_armedQuiet⟩

/-! ### POR_N is released (R24, R413, R452, R460) -/

theorem tapExtest_iff (i : TapInstr) :
    tapExtest i = true ↔ i = .extest ∨ i = .extestPulse ∨ i = .extestTrain := by
  cases i <;> simp [tapExtest]

theorem porReleaseEff_mode (s : State) (tray boot : BitVec 2) : (porReleaseEff s tray boot).mode =
    if s.pins.tap = .extest ∨ s.pins.tap = .extestPulse ∨ s.pins.tap = .extestTrain then .scan else .starting :=
  ite_congr (propext (tapExtest_iff _)) (fun _ => rfl) fun _ => rfl

/-- The device number is TRAY_POS until it is written (R24). -/
theorem porReleaseEff_number (s : State) (tray boot : BitVec 2) :
    (porReleaseEff s tray boot).ident.number.toNat = tray.toNat :=
  (BitVec.toNat_ofNat ..).trans (Nat.mod_eq_of_lt (by omega))

/-- Settles O34: the release acts on the state with POR_N low, and on no other. -/
theorem strapsAreSampledAtRelease : Obligations.StrapsAreSampledAtRelease := by
  refine fun s tray boot => ⟨fun h => ?_, fun h => doneIf_false (beq_false_of_ne h) ..⟩
  exact ⟨_, doneIf_true (beq_iff_eq.mpr h) .., rfl, rfl, porReleaseEff_number .., rfl, decide_eq_true_iff,
    porReleaseEff_mode s tray boot⟩

end Sys2Proof.Machine
end

section
/-! What every function on the way of a kernel's end leaves of the facets: all but the descriptors that wait (O45). -/

-- These proofs wait on the same definitions: they are elaborated in order.
set_option Elab.async false

namespace Sys2Proof.Machine

/-! ### What a change of every entry leaves of a table -/

section
variable {α β : Type} {d : α} {t u : Tab α}

/-- What is listed in a canonical table is what its key reads as. -/
theorem tabGet_of_mem [DecidableEq α] {b : Nat} {kv : Nat × α} (w : tabWfFrom d b t = true) (h : kv ∈ t) :
    b ≤ kv.1 ∧ tabGet d t kv.1 = kv.2 := by
  induction t generalizing b with
  | nil => exact absurd h List.not_mem_nil
  | cons x r ih =>
    obtain ⟨k, v⟩ := x
    simp only [tabWfFrom, Bool.and_eq_true, decide_eq_true_eq] at w
    obtain ⟨⟨hb, -⟩, hr⟩ := w
    rcases List.mem_cons.mp h with rfl | hm
    · exact ⟨hb, if_pos rfl⟩
    · obtain ⟨hlt, hget⟩ := ih hr hm
      exact ⟨by omega, (if_neg (by omega)).trans hget⟩

variable [DecidableEq α] {π : α → β} {g : Nat → α → α}

/-- Setting each listed key to its changed value keeps what the change keeps. -/
theorem tabGet_mapAll (hg : ∀ k v, π (g k v) = π v) (h : ∀ kv ∈ t, π (tabGet d u kv.1) = π kv.2) (j : Nat) :
    π (tabGet d (tabMapAll d g t u) j) = π (tabGet d u j) := by
  induction t generalizing u with
  | nil => rfl
  | cons x r ih =>
    have hset (i : Nat) : π (tabGet d (tabSet d u x.1 (g x.1 x.2)) i) = π (tabGet d u i) := by
      rw [tabGet_set]
      split
      · next hi => rw [hg, hi, h x List.mem_cons_self]
      · rfl
    exact (ih fun kv hkv => (hset kv.1).trans (h kv (List.mem_cons_of_mem _ hkv))).trans (hset j)

theorem tabGet_mapV (hg : ∀ k v, π (g k v) = π v) (w : tabWf d t = true) (j : Nat) :
    π (tabGet d (tabMapV d t g) j) = π (tabGet d t j) :=
  tabGet_mapAll hg (fun _ h => congrArg π (tabGet_of_mem w h).2) j

end

/-! ### A reading of the state that functions keep -/

/-- A function leads from `s` to `t`: the canonical form is kept and, where `s` has it, what `π` reads. -/
structure Keeps {α : Type} (π : State → α) (s t : State) : Prop where
  form : s.Canon → t.Canon
  same : s.Canon → π t = π s

namespace Keeps

variable {α β : Type} {π : State → α} {s t u : State}

theorem refl (s : State) : Keeps π s s := ⟨id, fun _ => rfl⟩

/-- The last function of a chain, peeled off. -/
theorem step (k : Keeps π t u) (h : Keeps π s t) : Keeps π s u :=
  ⟨k.form ∘ h.form, fun w => (k.same (h.form w)).trans (h.same w)⟩

theorem foldl {f : State → β → State} (l : List β) (hf : ∀ s x, Keeps π s (f s x)) (h : Keeps π s t) :
    Keeps π s (l.foldl f t) := by
  induction l generalizing t with
  | nil => exact h
  | cons x r ih => exact ih ((hf t x).step h)

theorem optGetD {o : Option State} (ho : ∀ t, o = some t → Keeps π s t) (h : Keeps π s u) : Keeps π s (o.getD u) := by
  cases o with
  | none => exact h
  | some t => exact ho t rfl

end Keeps

/-! ### The work of the facets -/

/-- A facet without the descriptors that wait for it. -/
def Facet.work (c : Facet) : Facet := { c with queue := [], emptied := 0 }

/-- What each facet works on and has counted. -/
def State.works (s : State) (f : Nat) : Facet := (s.facet f).work

theorem Evolves.works {A : Nat} {s t : State} (h : Evolves A s t) (hA : A.testBit 18 = false := by decide) :
    Keeps State.works s t :=
  ⟨h.form, fun _ => funext fun f => congrArg Facet.work (h.facet hA f)⟩

theorem dropKernels_works (s : State) (p : Kernel → Bool) : Keeps State.works s (dropKernels s p) :=
  ⟨(dropKernels_ev s p).form, fun w => funext fun f => tabGet_mapV (π := Facet.work) (by intros; rfl) w.facets f⟩

theorem modFacet_works (s : State) (f : Nat) {g : Facet → Facet} (hg : ∀ c, (g c).work = c.work) :
    Keeps State.works s (s.modFacet f g) := by
  refine ⟨(State.modFacet_ev s f g).form, fun _ => funext fun j => ?_⟩
  by_cases hj : j = f
  · subst hj
    rw [State.works, State.facet_modFacet, hg, State.works]
  · rw [State.works, State.facet_modFacet_other hj, State.works]

theorem beginTeardown_works (s : State) (k g kind f : Nat) : Keeps State.works s (beginTeardown s k g kind f) := by
  unfold beginTeardown
  extract_lets
  split
  · exact .refl ..
  · exact .step (dropKernels_works ..) (State.modPart_ev ..).works

theorem sinkFault_works (s : State) (k g : Nat) : Keeps State.works s (sinkFault s k g) := beginTeardown_works ..

/-! ### The culet gives out kernels -/

theorem giveKernel_works (s : State) (k : Kernel) (f : Nat) : Keeps State.works s (giveKernel s k f) := by
  have h := Keeps.step (stagedFromT1_ev _ k).works
    (modFacet_works s f (g := fun c => { c with queue := c.queue ++ [k] }) fun _ => rfl)
  unfold giveKernel
  extract_lets
  split
  · exact .step (State.modPrism_ev ..).works h
  · exact h

theorem feedFrom_works (s : State) (k : Nat) (qs : List Kernel) : Keeps State.works s (feedFrom s k qs) := by
  fun_induction feedFrom s k qs
  case case1 => exact .refl ..
  case case2 ih => exact .step ih (State.modPart_ev ..).works
  case case3 ih => exact .step ih (giveKernel_works ..)
  case case4 ih => exact .step ih (State.modPart_ev ..).works

theorem feed_works (s : State) (k : Nat) : Keeps State.works s (feed s k) :=
  .step (feedFrom_works ..) (State.modPart_ev ..).works

/-! ### Yields and destructions that waited for the kernel (R190, R219) -/

theorem rehome_works (s : State) (cid i : Nat) : Keeps State.works s (rehome s cid i) := by
  unfold rehome
  extract_lets s1
  have h1 : Keeps State.works s s1 := (State.modStream_ev ..).works
  split
  · next h => exact .step (Evolves.ofSomeFst h (registerSink_ev ..)).works h1
  · exact .step (sinkFault_works ..) h1

theorem reseat_works (s : State) (cid i : Nat) : Keeps State.works s (reseat s cid i) := by
  unfold reseat
  extract_lets
  split
  · exact .refl ..
  · split
    · next h =>
      exact .step (rehome_works ..) <| .step (State.modStream_ev ..).works (Evolves.ofSome h (roomState_ev ..)).works
    · exact (moveAway_ev ..).works

theorem finishYield_works (s : State) (k cid : Nat) (mask : BitVec 128) :
    Keeps State.works s (finishYield s k cid mask) := by
  unfold finishYield
  extract_lets is s1 s2 cs s3 s4
  have h1 : Keeps State.works s s1 := .foldl _ (fun _ _ => (State.modStream_ev ..).works) (.refl s)
  have h2 : Keeps State.works s s2 := .foldl _ (fun _ _ => reseat_works ..) h1
  have h3 : Keeps State.works s s3 := .foldl _ (fun _ _ => (replaceCopy_ev ..).works) h2
  exact .step (feed_works ..) <| .step (fail_ev ..).works <| .step (State.setPartCause_ev ..).works <|
    .step (State.modPart_ev ..).works h3

theorem settleYields_works (s : State) (ks : List Nat) : Keeps State.works s (settleYields s ks) := by
  induction ks generalizing s with
  | nil => exact .refl s
  | cons k r ih =>
    refine .step (ih _) ?_
    split
    · split
      · exact finishYield_works ..
      · exact .refl s
    · exact .refl s

theorem destroyNow_works (s : State) (k cid : Nat) : Keeps State.works s (destroyNow s k cid) := by
  unfold destroyNow
  extract_lets s1 s2 s2' s3 s4 s5 s6
  have h5 : Keeps State.works s s5 :=
    .step (disownAll_ev ..).works <| .step (withdrawAll_ev ..).works <| .step (unregisterAll_ev ..).works <|
      .step (orphanCopies_ev ..).works <| .step (finishAll_ev ..).works (freeGroups_ev ..).works
  have h6 : Keeps State.works s s6 :=
    .foldl _ (fun _ _ => (releasePrism_ev ..).works) <| .step (dropKernels_works ..) h5
  exact .step (fail_ev ..).works <| .step (State.modPart_ev ..).works h6

/-- What follows the end of a kernel leaves the work of every facet. -/
theorem afterKernel_works (s : State) (k : Nat) : Keeps State.works s (afterKernel s k) := by
  unfold afterKernel
  split
  · split
    · exact .refl s
    · exact destroyNow_works ..
  · exact .step (feed_works ..) <| .step (evictForced_ev ..).works (settleYields_works ..)

/-! ### The kernel's results -/

theorem sinkStep_works (s : State) (r : Run) (v : Voice) (i a : Nat) (out : Tensor) :
    Keeps State.works s (sinkStep s r v i a out) := by
  unfold sinkStep
  extract_lets
  split
  · exact .refl s
  · exact (upd_sinkWrites_ev ..).works
  · extract_lets
    split
    · split
      · exact (writeRemotePieces_ev ..).works
      · exact .step (sinkFault_works ..) (writeRemotePieces_ev ..).works
    · split
      · exact (staleDrop_ev ..).works
      · split
        · exact (writeLocalPieces_ev ..).works
        · exact .step (sinkFault_works ..) (writeLocalPieces_ev ..).works

theorem execItem_works (r : Run) (v : Voice) (x : Nat) (s : State) (j : Nat) :
    Keeps State.works s (execItem r v x s j) := by
  unfold execItem
  extract_lets
  split
  · exact .step (sinkStep_works ..) <| .step (State.modStream_ev ..).works (keepMember_ev ..).works
  · exact (keepMember_ev ..).works

theorem execItems_works (r : Run) (v : Voice) (js : List Nat) (n lo : Nat) (s : State) :
    Keeps State.works s (execItems r v js n lo s) := by
  induction n generalizing lo s with
  | zero => exact .refl s
  | succ n ih => exact .step (ih ..) <| .foldl _ (fun s j => execItem_works r v lo s j) (.refl s)

theorem commit_works (s : State) (k : Kernel) : Keeps State.works s (commit s k) := by
  unfold commit
  split
  · exact .refl s
  · extract_lets
    split
    · exact (State.modRun_ev ..).works
    · exact .step (State.modRun_ev ..).works (execItems_works ..)

end Sys2Proof.Machine
end

section
/-! A kernel's start and end, and the starting states that a jump unit lands (O45). -/

-- These proofs wait on the same definitions: they are elaborated in order.
set_option Elab.async false

namespace Sys2Proof.Machine

/-! ### Start (R19, R71) -/

section
variable {s : State} {f : Nat} {k : Kernel} {rest : List Kernel}

theorem exec_kernelStart (hf : f < 2048) (hq : (s.facet f).queue = k :: rest) :
    exec (.kernelStart f) s = doneIf (s.live && mayStart s f k) s (startKernel s f k) := by
  have hwf : Instr.wf (.kernelStart f) = true := decide_eq_true hf
  refine (if_pos hwf).trans ?_
  rw [hq]

theorem exec_kernelStart_empty (hf : f < 2048) (hq : (s.facet f).queue = []) :
    exec (.kernelStart f) s = .next (settle s) := by
  have hwf : Instr.wf (.kernelStart f) = true := decide_eq_true hf
  refine (if_pos hwf).trans ?_
  rw [hq]
  rfl

/-- A kernel whose command has no run does not start. -/
theorem mayStart_run (h : mayStart s f k = true) : ∃ r, s.runOf k.cid = some r := by
  cases hr : s.runOf k.cid with
  | some r => exact ⟨r, rfl⟩
  | none => simp [mayStart, hr] at h

/-- A facet whose first waiting kernel starts. -/
def Facet.starts (now : Nat) (k : Kernel) (c : Facet) : Facet :=
  { c with running := some k, since := now, queue := c.queue.drop 1 }

/-- The first kernel of a run starts its command, and a later one finds it started (R263). -/
theorem firstKernel_cmd {r : Run} {c : Cmd} (h : s.cmd r.cid = some c) :
    ∃ d, (firstKernel s r).cmd r.cid = some d ∧ d.started = some (c.started.getD s.now) := by
  unfold firstKernel
  rw [h]
  cases hc : c.started with
  | some n => exact ⟨c, by simp [hc, h], hc⟩
  | none =>
    have hmod := State.cmd_modCmd s r.cid (fun c => { c with started := some s.now }) fun _ => rfl
    rw [h] at hmod
    refine ⟨{ c with started := some s.now }, ?_, rfl⟩
    simp only [hc, Option.isSome_none, Bool.false_eq_true, if_false]
    rw [(modAcct_ev ..).cmd, (State.modRun_ev ..).cmd, hmod, Option.map_some]

theorem startKernel_run {r : Run} (hr : s.runOf k.cid = some r) :
    startKernel s f k = lcStart (firstKernel (s.modFacet f (Facet.starts s.now k)) r) k := by
  have hr' : (s.modFacet f (Facet.starts s.now k)).runOf k.cid = some r := hr
  unfold startKernel
  dsimp only
  rw [show (fun c : Facet => { c with running := some k, since := s.now, queue := c.queue.drop 1 }) =
    Facet.starts s.now k from rfl, hr']

/-- The start changes its own facet alone. -/
theorem startKernel_facet (h : mayStart s f k = true) (g : Nat) :
    (startKernel s f k).facet g = (s.modFacet f (Facet.starts s.now k)).facet g := by
  obtain ⟨r, hr⟩ := mayStart_run h
  rw [startKernel_run hr, (lcStart_ev ..).facet, (firstKernel_ev ..).facet]

theorem startKernel_cmd {c : Cmd} (h : mayStart s f k = true) (hc : s.cmd k.cid = some c) :
    ∃ d, (startKernel s f k).cmd k.cid = some d ∧ d.started = some (c.started.getD s.now) := by
  obtain ⟨r, hr⟩ := mayStart_run h
  rw [startKernel_run hr, (lcStart_ev ..).cmd, ← State.runOf_cid hr]
  exact firstKernel_cmd (State.runOf_cid hr ▸ hc)

end

/-! ### End (R72, R90) -/

section
variable {s : State} {f n : Nat} {k : Kernel}

theorem exec_kernelEnd (hf : f < 2048) (hr : (s.facet f).running = some k) :
    exec (.kernelEnd f n) s = doneIf (s.live && endDue s f k) s (endKernel s f k n) := by
  have hwf : Instr.wf (.kernelEnd f n) = true := decide_eq_true hf
  refine (if_pos hwf).trans ?_
  rw [hr]

theorem exec_kernelEnd_free (hf : f < 2048) (hr : (s.facet f).running = none) :
    exec (.kernelEnd f n) s = .next (settle s) := by
  have hwf : Instr.wf (.kernelEnd f n) = true := decide_eq_true hf
  refine (if_pos hwf).trans ?_
  rw [hr]
  rfl

/-- A facet that counts the end of a kernel and the errors corrected in it (R90). -/
def Facet.counts (n : Nat) (c : Facet) : Facet :=
  { c with
    kernels := addWrap c.kernels 1
    ceCount := addSat c.ceCount n
    cause := if n = 0 then c.cause else setBit c.cause 2 }

theorem clearFacet_facet (s : State) (f : Nat) (k : Kernel) :
    ((clearFacet s f k).facet f).running = none ∧ ((clearFacet s f k).facet f).kernels = (s.facet f).kernels ∧
    ((clearFacet s f k).facet f).ceCount = (s.facet f).ceCount ∧
    ((clearFacet s f k).facet f).cause = (s.facet f).cause := by
  unfold clearFacet
  rw [(releaseIfIdle_ev ..).facet, (State.modPrism_ev ..).facet, State.facet_modFacet]
  exact ⟨rfl, rfl, rfl, rfl⟩

theorem clearFacet_facet_other {g : Nat} (h : g ≠ f) : (clearFacet s f k).facet g = s.facet g := by
  unfold clearFacet
  rw [(releaseIfIdle_ev ..).facet, (State.modPrism_ev ..).facet, State.facet_modFacet_other h]

/-- The results of a kernel, and what had waited for its end, leave the work of the facets as `clearFacet` does. -/
theorem endKernel_works (w : s.Canon) (g : Nat) :
    ((endKernel s f k n).facet g).work = ((clearFacet (s.modFacet f (Facet.counts n)) f k).facet g).work := by
  have h : Keeps State.works (clearFacet (s.modFacet f (Facet.counts n)) f k) (endKernel s f k n) := by
    unfold endKernel
    refine .step (afterKernel_works ..) ?_
    split
    · exact (touchT0_ev ..).works
    · exact .step (commit_works ..) (touchT0_ev ..).works
  exact congrFun (h.same ((clearFacet_ev ..).form ((State.modFacet_ev ..).form w))) g

theorem endKernel_facet (w : s.Canon) : ((endKernel s f k n).facet f).running = none ∧
    ((endKernel s f k n).facet f).kernels = addWrap (s.facet f).kernels 1 ∧
    ((endKernel s f k n).facet f).ceCount = addSat (s.facet f).ceCount n ∧
    ((endKernel s f k n).facet f).cause = if n = 0 then (s.facet f).cause else setBit (s.facet f).cause 2 := by
  have hw := endKernel_works (f := f) (k := k) (n := n) w f
  have hc : (s.modFacet f (Facet.counts n)).facet f = Facet.counts n (s.facet f) := State.facet_modFacet ..
  obtain ⟨hrun, hker, hce, hcause⟩ := clearFacet_facet (s.modFacet f (Facet.counts n)) f k
  rw [hc] at hker hce hcause
  exact ⟨(congrArg Facet.running hw).trans hrun, (congrArg Facet.kernels hw).trans hker,
    (congrArg Facet.ceCount hw).trans hce, (congrArg Facet.cause hw).trans hcause⟩

theorem endKernel_running_other {g : Nat} (w : s.Canon) (h : g ≠ f) :
    ((endKernel s f k n).facet g).running = (s.facet g).running := by
  have hw := congrArg Facet.running (endKernel_works (f := f) (k := k) (n := n) w g)
  rw [clearFacet_facet_other h, State.facet_modFacet_other h] at hw
  exact hw

end

/-! ### Starting states (R142, R143) -/

section
variable {s : State} {j i n : Nat} {pe : Bool} {k : Kernel} {a b : List Kernel}

/-- The first kernel of a queue that waits for a starting state takes the one that lands. -/
theorem landNoise_first (ha : ∀ x ∈ a, x.noise = 0) (hk : k.noise = n + 1) :
    landNoise pe (a ++ k :: b) = a ++ { k with noise := n, poison := k.poison || pe } :: b := by
  induction a with
  | nil => simp [landNoise, hk]
  | cons x r ih =>
    have hx := ha x List.mem_cons_self
    simp [landNoise, hx, ih fun y hy => ha y (List.mem_cons_of_mem _ hy)]

theorem find?_noise (ha : ∀ x ∈ a, x.noise = 0) (hk : k.noise = n + 1) :
    (a ++ k :: b).find? (fun q => q.noise != 0) = some k := by
  rw [List.find?_append, List.find?_eq_none.mpr fun x hx => by simp [ha x hx], Option.none_or,
    List.find?_cons_of_pos (by simp [hk])]

theorem exec_jumpPrepare (hj : j < 128) (hi : i < 16)
    (h : (s.facet (16 * j + i)).queue.find? (fun q => q.noise != 0) = some k) :
    exec (.jumpPrepare j i pe) s = doneIf s.live s (jumpEff s j i pe k) := by
  have hwf : Instr.wf (.jumpPrepare j i pe) = true := decide_eq_true ⟨hj, hi⟩
  refine (if_pos hwf).trans ?_
  rw [h]

theorem exec_jumpPrepare_none (hj : j < 128) (hi : i < 16)
    (h : (s.facet (16 * j + i)).queue.find? (fun q => q.noise != 0) = none) :
    exec (.jumpPrepare j i pe) s = .next (settle s) := by
  have hwf : Instr.wf (.jumpPrepare j i pe) = true := decide_eq_true ⟨hj, hi⟩
  refine (if_pos hwf).trans ?_
  rw [h]
  rfl

theorem jumpEff_queue (s : State) (j i : Nat) (pe : Bool) (k : Kernel) :
    ((jumpEff s j i pe k).facet (16 * j + i)).queue = landNoise pe (s.facet (16 * j + i)).queue := by
  unfold jumpEff
  rw [(State.modPrism_ev ..).facet, State.facet_modFacet]

/-- A row that fails its parity sets JUMP_CAUSE bit 0, its only one (R143). -/
theorem jumpEff_cause (s : State) (j i : Nat) (k : Kernel) : ((jumpEff s j i true k).prism j).jumpCause = 1 := by
  unfold jumpEff
  rw [State.prism_modPrism]
  change setBit _ 0 = (1 : BitVec 1)
  generalize Prism.jumpCause _ = q
  revert q
  decide

end

/-- Settles O45: a start by the queue's head, an end by what runs, a jump by the first kernel that waits for one. -/
theorem kernelsStartAndEnd : Obligations.KernelsStartAndEnd := by
  intro s f k w hf
  refine ⟨fun rest hq => ⟨fun hl hm => ?_, fun h => ?_⟩, exec_kernelStart_empty hf,
    fun n hr => ⟨fun hl hd => ?_, fun h => ?_⟩, fun n => exec_kernelEnd_free hf, ?_, ?_⟩
  · refine ⟨_, (exec_kernelStart hf hq).trans (doneIf_both hl hm), ?_⟩
    have hself : (startKernel s f k).facet f = Facet.starts s.now k (s.facet f) :=
      (startKernel_facet hm f).trans (State.facet_modFacet ..)
    simp only [State.facet_settle, State.cmd_settle, hself]
    exact ⟨rfl, congrArg (List.drop 1) hq, rfl,
      fun g hg => (startKernel_facet hm g).trans (State.facet_modFacet_other hg), fun c => startKernel_cmd hm⟩
  · exact (exec_kernelStart hf hq).trans (doneIf_idle h)
  · obtain ⟨hrun, hker, hce, hcause⟩ := endKernel_facet (f := f) (k := k) (n := n) w
    refine ⟨_, (exec_kernelEnd hf hr).trans (doneIf_both hl hd), hrun, hker, hce, fun hn => ?_,
      fun g hg => endKernel_running_other w hg⟩
    rw [State.facet_settle, hcause, if_neg hn, getLsbD_setBit_self _ (by decide)]
  · exact (exec_kernelEnd hf hr).trans (doneIf_idle h)
  · rintro j i n pe a b rfl hi hq ha hk
    have hex := exec_jumpPrepare (s := s) (pe := pe) (by omega : j < 128) hi (hq ▸ find?_noise ha hk)
    refine ⟨fun hl => ⟨_, hex.trans (doneIf_true hl ..), ?_, ?_⟩, fun hl => hex.trans (doneIf_false hl ..)⟩
    · rw [State.facet_settle, jumpEff_queue, hq, landNoise_first ha hk]
    · rintro rfl
      exact jumpEff_cause ..
  · rintro j i pe rfl hi hq
    exact exec_jumpPrepare_none (by omega) hi (List.find?_eq_none.mpr fun x hx => by simp [hq x hx])

end Sys2Proof.Machine
end

section
/-! What every function on the way of a tick leaves of the lattices of the partitions (O42). -/

-- These proofs wait on the same definitions: they are elaborated in order.
set_option Elab.async false

namespace Sys2Proof.Machine

/-- The lattice of a partition: its tables, the switches that wait, and where its ticks stand. -/
def Partition.lattice (p : Partition) : Partition :=
  { active := p.active, shadow := p.shadow, switch := p.switch, awaitBoundary := p.awaitBoundary, ticking := p.ticking
    tickIndex := p.tickIndex, lastTick := p.lastTick, periods := p.periods }

def State.lattices (s : State) (k : Nat) : Partition := (s.part k).lattice

theorem Evolves.lattices {A : Nat} {s t : State} (h : Evolves A s t) (hA : A.testBit 16 = false := by decide) :
    Keeps State.lattices s t :=
  ⟨h.form, fun _ => funext fun k => congrArg Partition.lattice (h.part hA k)⟩

theorem modPart_lattices (s : State) (k : Nat) {g : Partition → Partition} (hg : ∀ p, (g p).lattice = p.lattice) :
    Keeps State.lattices s (s.modPart k g) := by
  refine ⟨(State.modPart_ev s k g).form, fun _ => funext fun j => ?_⟩
  by_cases hj : j = k
  · subst hj
    rw [State.lattices, State.part_modPart, hg, State.lattices]
  · rw [State.lattices, State.part_modPart_other hj, State.lattices]

theorem dropKernels_lattices (s : State) (p : Kernel → Bool) : Keeps State.lattices s (dropKernels s p) :=
  ⟨(dropKernels_ev s p).form,
    fun w => funext fun k => tabGet_mapV (π := Partition.lattice) (by intros; rfl) w.parts k⟩

theorem sinkFault_lattices (s : State) (k g : Nat) : Keeps State.lattices s (sinkFault s k g) := by
  unfold sinkFault beginTeardown
  extract_lets
  split
  · exact .refl s
  · exact .step (dropKernels_lattices ..) (modPart_lattices _ _ fun _ => rfl)

/-! ### Placing models (R242) -/

theorem evictNowT0_lattices (s : State) (k : Nat) (id : Bytes) : Keeps State.lattices s (evictNowT0 s k id) :=
  .step (finishAll_ev ..).lattices (modPart_lattices _ _ fun _ => rfl)

theorem roomT0_lattices (n : Nat) (s : State) (k : Nat) (fs : List Nat) (need more : Nat) (keep : Bytes) {t : State}
    (h : roomT0 n s k fs need more keep = some t) : Keeps State.lattices s t := by
  induction n generalizing s with
  | zero =>
    unfold roomT0 at h
    split at h
    · exact Option.some.inj h ▸ .refl s
    · exact absurd h nofun
  | succ n ih =>
    unfold roomT0 at h
    split at h
    · exact Option.some.inj h ▸ .refl s
    · dsimp only at h
      split at h
      · exact absurd h nofun
      · exact .step (ih _ h) (evictNowT0_lattices ..)

theorem beginPlace_lattices (s : State) (k : Nat) (id : Bytes) (ws : List Nat) :
    Keeps State.lattices s ((beginPlace s k id ws).getD s) := by
  unfold beginPlace
  extract_lets
  split
  · exact .refl s
  · next h =>
    exact .step (modPart_lattices _ _ fun _ => rfl) <|
      .step (upd_cache_ev ..).lattices (roomT0_lattices _ _ _ _ _ _ _ h)

theorem placeAll_lattices (s : State) (k : Nat) (ids : List Bytes) : Keeps State.lattices s (placeAll s k ids) := by
  induction ids generalizing s with
  | nil => exact .refl s
  | cons id r ih =>
    refine .step (ih _) ?_
    split
    · exact .refl s
    · exact beginPlace_lattices ..

theorem modelMissEff_lattices (s : State) (r : Run) : Keeps State.lattices s (modelMissEff s r) := by
  unfold modelMissEff
  extract_lets ms s1
  refine .step (placeAll_lattices ..) ?_
  subst s1
  split
  · exact .refl s
  · exact .step (State.modRun_ev ..).lattices <| .step (modPart_lattices _ _ fun _ => rfl)
      (modPart_lattices _ _ fun _ => rfl)

/-! ### Runs go on (R201, R203) -/

theorem stateMissEff_lattices (s : State) (r : Run) : Keeps State.lattices s (stateMissEff s r) := by
  unfold stateMissEff
  extract_lets away s1
  refine .step (fetchBacks_ev ..).lattices ?_
  subst s1
  split
  · exact .refl s
  · exact .step (State.modRun_ev ..).lattices <| .step (modPart_lattices _ _ fun _ => rfl)
      (modPart_lattices _ _ fun _ => rfl)

theorem streamedEff_lattices (s : State) (r : Run) : Keeps State.lattices s (streamedEff s r) := by
  unfold streamedEff
  extract_lets ids s1 s2
  split
  · exact .refl s
  · have h1 : Keeps State.lattices s s1 :=
      .step (modPart_lattices _ _ fun _ => rfl) (modPart_lattices _ _ fun _ => rfl)
    have h2 : Keeps State.lattices s s2 := .optGetD (fun _ h => .step (roomT0_lattices _ _ _ _ _ _ _ h) h1) h1
    exact .foldl _ (fun _ _ => (firstStreamed_ev ..).lattices) h2

theorem stageRemote_lattices (s : State) (r : Run) (ds : List (Nat × Nat × Nat)) :
    Keeps State.lattices s (stageRemote s r ds).1 := by
  fun_induction stageRemote s r ds
  case case1 => exact .refl ..
  case case2 ih => exact ih
  case case3 => exact (issueReads_ev ..).lattices
  case case4 ih =>
    exact .step ih <| .step (modPart_lattices _ _ fun _ => rfl) <| .step (State.modCmd_ev ..).lattices
      (issueReads_ev ..).lattices

theorem startRun_lattices (s : State) (r : Run) (v : Voice) : Keeps State.lattices s (startRun s r v) := by
  unfold startRun
  extract_lets ms s1 whole s2 s3 s4 q
  have h1 : Keeps State.lattices s s1 := .foldl _ (fun _ _ => (State.modStream_ev ..).lattices) (.refl s)
  have h4 : Keeps State.lattices s s4 :=
    .step (stageLocal_ev ..).lattices <| .step (streamedEff_lattices ..) <| .step (State.modRun_ev ..).lattices h1
  have hq : Keeps State.lattices s q.1 := .step (stageRemote_lattices ..) h4
  split
  · exact .step (sinkFault_lattices ..) h4
  · split
    · exact hq
    · exact .step (sinkFault_lattices ..) hq

theorem tryDispatch_lattices (s : State) (r : Run) : Keeps State.lattices s (tryDispatch s r) := by
  unfold tryDispatch
  split
  · exact .refl s
  · extract_lets
    split
    · exact (finish_ev ..).lattices
    · split
      · exact .refl s
      · exact startRun_lattices ..

theorem advanceRun_lattices (s : State) (cid : Nat) : Keeps State.lattices s (advanceRun s cid) := by
  unfold advanceRun
  extract_lets go disp
  have hgo {f : State → Run → State} (hf : ∀ s r, Keeps State.lattices s (f s r)) (s : State) :
      Keeps State.lattices s (go f s) := by
    dsimp only [go]
    split
    · exact hf ..
    · exact .refl s
  have hdisp {f : State → Run → State} (hf : ∀ s r, Keeps State.lattices s (f s r)) (s : State) (r : Run) :
      Keeps State.lattices s (disp f s r) := by
    dsimp only [disp]
    split
    · exact hf ..
    · exact .refl s
  exact .step (hgo (hdisp fun s r => (fixBatches_ev s r).lattices) _) <|
    .step (hgo (hdisp fun s r => (stageDone_ev s r).lattices) _) <|
    .step (hgo (hdisp modelMissEff_lattices) _) <|
    .step (hgo (hdisp stateMissEff_lattices) _) (hgo tryDispatch_lattices _)

theorem advanceAll_lattices (s : State) (cs : List Nat) : Keeps State.lattices s (advanceAll s cs) := by
  induction cs generalizing s with
  | nil => exact .refl s
  | cons c r ih => exact .step (ih _) (advanceRun_lattices ..)

/-! ### The batch composer (R198, R201) -/

theorem putKernel_lattices (s : State) (r : Run) (v : Voice) (k : Kernel) :
    Keeps State.lattices s (putKernel s r v k) := by
  unfold putKernel
  extract_lets s1
  have h1 : Keeps State.lattices s s1 := by
    subst s1
    split
    · exact .refl s
    · exact (takeRx_ev ..).lattices
  exact .step (modPart_lattices _ _ fun _ => rfl) <| .step (State.modRun_ev ..).lattices h1

theorem schedSteps_lattices (n : Nat) (s : State) (cid most : Nat) (o : Occ) :
    Keeps State.lattices s (schedSteps n s cid most o).1 := by
  fun_induction schedSteps n s cid most o
  case case5 ih => exact .step ih (putKernel_lattices ..)
  all_goals exact .refl ..

theorem schedOutputs_lattices (e : LEntry) (only : State → Nat → Bool) (cs : List Nat) (a : State × Occ) :
    Keeps State.lattices a.1 (schedOutputs e only cs a).1 := by
  induction cs generalizing a with
  | nil => exact .refl ..
  | cons c r ih =>
    unfold schedOutputs
    extract_lets
    refine .step (ih _) ?_
    split
    · exact schedSteps_lattices ..
    · exact .refl ..

theorem schedPrefill_lattices (cs : List Nat) (a : State × Occ) :
    Keeps State.lattices a.1 (schedPrefill cs a).1 := by
  induction cs generalizing a with
  | nil => exact .refl ..
  | cons c r ih =>
    unfold schedPrefill
    refine .step (ih _) ?_
    split
    · exact .refl ..
    · split
      · exact .refl ..
      · extract_lets
        split
        · exact putKernel_lattices ..
        · exact .refl ..

theorem schedMore_lattices (n : Nat) (cs : List Nat) (a : State × Occ) :
    Keeps State.lattices a.1 (schedMore n cs a).1 := by
  induction n generalizing a with
  | zero => exact .refl ..
  | succ n ih =>
    unfold schedMore
    extract_lets
    split
    · exact schedPrefill_lattices ..
    · exact .step (ih _) (schedPrefill_lattices ..)

theorem composeEntry_lattices (s : State) (k i : Nat) (e : LEntry) (cs : List Nat) :
    Keeps State.lattices s (composeEntry s k i e cs) := by
  unfold composeEntry
  extract_lets s1 was a b c
  have h1 : Keeps State.lattices s s1 :=
    .step (mapRuns_ev ..).lattices <| .step (mapRuns_ev ..).lattices (advanceAll_lattices ..)
  have hb : Keeps State.lattices s b.1 :=
    .step (schedMore_lattices ..) <| .step (schedPrefill_lattices ..) <| .step (schedOutputs_lattices ..) h1
  exact .step (schedOutputs_lattices ..) <| .step (mapRuns_ev ..).lattices hb

theorem launchLc_lattices (s : State) (k i : Nat) (e : LEntry) : Keeps State.lattices s (launchLc s k i e) :=
  .step (modPart_lattices _ _ fun _ => rfl) (composeEntry_lattices ..)

theorem launchBe_lattices (s : State) (k i : Nat) (e : LEntry) : Keeps State.lattices s (launchBe s k i e) :=
  .step (composeEntry_lattices ..) <| .foldl _ (fun _ _ => modPart_lattices _ _ fun _ => rfl) (advanceAll_lattices ..)

theorem launchAll_lattices (s : State) (k : Nat) (es : List (LEntry × Nat)) :
    Keeps State.lattices s (launchAll s k es) := by
  induction es generalizing s with
  | nil => exact .refl s
  | cons e r ih =>
    refine .step (ih _) ?_
    split
    · exact launchLc_lattices ..
    · exact launchBe_lattices ..

theorem feedFrom_lattices (s : State) (k : Nat) (qs : List Kernel) : Keeps State.lattices s (feedFrom s k qs) := by
  fun_induction feedFrom s k qs
  case case1 => exact .refl ..
  case case2 ih => exact .step ih (modPart_lattices _ _ fun _ => rfl)
  case case3 ih => exact .step ih (giveKernel_ev ..).lattices
  case case4 ih => exact .step ih (modPart_lattices _ _ fun _ => rfl)

theorem feed_lattices (s : State) (k : Nat) : Keeps State.lattices s (feed s k) :=
  .step (feedFrom_lattices ..) (modPart_lattices _ _ fun _ => rfl)

end Sys2Proof.Machine
end

section
/-! What the completion of several commands leaves (R262 to R264). -/

-- These proofs wait on the same definitions: they are elaborated in order.
set_option Elab.async false

namespace Sys2Proof.Machine

theorem State.cmd_eq_none {s : State} {cid : Nat} : s.cmd cid = none ↔ ∀ e ∈ s.cmds, e.cid ≠ cid := by
  simp [State.cmd]

/-- A completion takes its command, and no other, from the accepted commands. -/
theorem finish_cmds (s : State) (cid st d r : Nat) :
    (finish s cid st d r).cmds = s.cmds.filter fun e => decide (e.cid ≠ cid) := by
  unfold finish
  split
  · next h => exact (List.filter_eq_self.mpr fun e he => decide_eq_true (State.cmd_eq_none.mp h e he)).symm
  · extract_lets
    split
    · exact (postEntry_cmds ..).1
    · rfl

theorem cmd_finish_self (s : State) (cid st d r : Nat) : (finish s cid st d r).cmd cid = none := by
  rw [State.cmd_eq_none, finish_cmds]
  exact fun e he => of_decide_eq_true (List.mem_filter.mp he).2

theorem cmd_finish_other {s : State} {cid j st d r : Nat} (h : j ≠ cid) :
    (finish s cid st d r).cmd j = s.cmd j := by
  unfold State.cmd
  rw [finish_cmds, List.find?_filter]
  congr 1
  funext e
  by_cases he : e.cid = j <;> simp [he, h]

theorem cmd_finish_of_none {s : State} {cid j st d r : Nat} (h : s.cmd j = none) :
    (finish s cid st d r).cmd j = none := by
  by_cases hj : j = cid
  · exact hj ▸ cmd_finish_self ..
  · rw [cmd_finish_other hj, h]

theorem runOf_finish_of_none {s : State} {cid j st d r : Nat} (h : s.runOf j = none) :
    (finish s cid st d r).runOf j = none := by
  have hmem : ∀ q ∈ (finish s cid st d r).runs, q ∈ s.runs := by
    unfold finish
    split
    · exact fun _ => id
    · extract_lets
      split
      · rw [(postEntry_cmds ..).2]
        exact fun _ hq => (List.mem_filter.mp hq).1
      · exact fun _ hq => (List.mem_filter.mp hq).1
  exact List.find?_eq_none.mpr fun q hq => List.find?_eq_none.mp h q (hmem q hq)

theorem coalescer_postEntry {s : State} {f q g p : Nat} {e x : CplEntry} (h : x ∈ (s.ring f q).coalescer) :
    x ∈ ((postEntry s g p e).ring f q).coalescer := by
  unfold postEntry
  split
  · by_cases hk : 16 * f + q = 16 * g + p
    · have hr (t : State) : t.ring f q = t.ring g p := congrArg (tabGet ({} : Ring) t.rings) hk
      rw [hr] at h ⊢
      rw [State.ring_modRing]
      exact List.mem_append_left _ h
    · rwa [State.ring_modRing_other hk]
  · exact h

/-- A later completion leaves the entries that wait. -/
theorem coalescer_finish {s : State} {f q cid st d r : Nat} {x : CplEntry} (h : x ∈ (s.ring f q).coalescer) :
    x ∈ ((finish s cid st d r).ring f q).coalescer := by
  unfold finish
  split
  · exact h
  · extract_lets
    split
    · exact coalescer_postEntry h
    · exact h

theorem cqEnable_finish (s : State) (cid st d r f q : Nat) :
    ((finish s cid st d r).ring f q).cqEnable = (s.ring f q).cqEnable := by
  have h : ((finish s cid st d r).ring f q).regs = (s.ring f q).regs := (finish_ev ..).frame .ringRegs (by decide) f q
  exact (congrArg Ring.cqEnable h :)

namespace Completed

variable {s u t : State} {c : Cmd} {st d r : Nat}

/-- Completions of other commands keep a completion. -/
theorem finishAll (h : Completed s t c st d r) (st' : Nat) (l : List Nat) :
    Completed s (finishAll t st' l) c st d r := by
  induction l generalizing t with
  | nil => exact h
  | cons x l ih =>
    obtain ⟨hc, hr, he⟩ := h
    refine ih ⟨cmd_finish_of_none hc, runOf_finish_of_none hr, fun h1 h2 h3 => ?_⟩
    obtain ⟨e, hmem, hval⟩ := he h1 h2 h3
    exact ⟨e, coalescer_finish hmem, hval⟩

/-- Completions of other commands before do not matter: they leave CQ_ENABLE. -/
theorem afterFinish {cid st' d' r' : Nat} (h : Completed (finish s cid st' d' r') t c st d r) :
    Completed s t c st d r := by
  obtain ⟨hc, hr, he⟩ := h
  exact ⟨hc, hr, fun h1 h2 h3 => he h1 h2 ((cqEnable_finish ..).trans h3)⟩

end Completed

/-- Each accepted command of a list that completes has completed. -/
theorem finishAll_completed {s : State} {c : Cmd} {l : List Nat} (st : Nat) (h : s.cmd c.cid = some c)
    (hl : c.cid ∈ l) : Completed s (finishAll s st l) c st 0 0 := by
  induction l generalizing s with
  | nil => exact absurd hl List.not_mem_nil
  | cons x l ih =>
    by_cases hx : c.cid = x
    · subst hx
      exact (finish_completed h st 0 0).finishAll ..
    · exact (ih ((cmd_finish_other hx).trans h) ((List.mem_cons.mp hl).resolve_left hx)).afterFinish

theorem cmd_finishAll_of_none {s : State} {cid : Nat} (st : Nat) {l : List Nat} (h : s.cmd cid = none) :
    (finishAll s st l).cmd cid = none := by
  induction l generalizing s with
  | nil => exact h
  | cons x l ih => exact ih (cmd_finish_of_none h)

/-- The commands of a list that completes are no longer accepted. -/
theorem cmd_finishAll {s : State} {cid : Nat} (st : Nat) {l : List Nat} (h : cid ∈ l) :
    (finishAll s st l).cmd cid = none := by
  induction l generalizing s with
  | nil => exact absurd h List.not_mem_nil
  | cons x l ih =>
    rcases List.mem_cons.mp h with rfl | h
    · exact cmd_finishAll_of_none (s := fail s cid st) st (cmd_finish_self ..)
    · exact ih h

end Sys2Proof.Machine
end

section
/-! The switch of a lattice table and its ticks (O42). -/

-- These proofs wait on the same definitions: they are elaborated in order.
set_option Elab.async false

namespace Sys2Proof.Machine

/-! ### The switch instant (R199) -/

/-- From `s` to `t` the shadow table of a partition, where it has one, has become active, and no switch waits. -/
structure Switched (s t : State) (k : Nat) : Prop where
  moved : Evolves (pieces [.parts, .prisms]) s t
  valid : (t.part k).valid = (s.part k).valid
  switch : (t.part k).switch = []
  shadow : ∀ sh, (s.part k).shadow = some sh →
    (t.part k).active = some sh ∧ (t.part k).shadow = none ∧ (t.part k).partCause.getLsbD 1 = true
  active : (s.part k).shadow = none → (t.part k).active = (s.part k).active

/-- At the instant the tables change, and then every waiting switch completes. -/
theorem switchNow_switched (s : State) (k : Nat) :
    ∃ t, Switched s t k ∧ switchNow s k = finishAll t stOk (s.part k).switch := by
  unfold switchNow
  extract_lets p
  split
  · next h =>
    refine ⟨_, ⟨(State.modPart_ev ..).mono, ?_, ?_, fun sh hsh => ?_, fun _ => ?_⟩, rfl⟩
    · rw [State.part_modPart]
    · rw [State.part_modPart]
    · exact absurd (h.symm.trans hsh) nofun
    · rw [State.part_modPart]
  · next sh h =>
    extract_lets same other s1 s2
    have h2 : Evolves 131072 s1 s2 := by
      subst s2
      refine .iteR (.refl ..) (.foldl _ (fun s q => ?_) (.refl ..))
      split
      · exact State.modPrism_ev ..
      · exact .refl ..
    have hpart : (s2.setPartCause k 1).part k = { s1.part k with partCause := setBit (s1.part k).partCause 1 } := by
      rw [State.setPartCause, State.part_modPart, h2.part]
    have h1 : s1.part k = _ := State.part_modPart ..
    refine ⟨_, ⟨.step (State.setPartCause_ev ..) <| .step h2 (State.modPart_ev ..).mono, ?_, ?_, fun sh' hsh => ?_,
      fun hn => absurd (h.symm.trans hn) nofun⟩, rfl⟩
    · rw [hpart, h1]
    · rw [hpart, h1]
    · obtain rfl : sh = sh' := Option.some.inj (h.symm.trans hsh)
      rw [hpart]
      exact ⟨congrArg Partition.active h1, congrArg Partition.shadow h1, getLsbD_setBit_self _ (by decide)⟩

theorem switchNow_part {s t : State} {k : Nat} (h : switchNow s k = finishAll t stOk (s.part k).switch) (j : Nat) :
    (switchNow s k).part j = t.part j := by
  rw [h, (finishAll_ev ..).part]

/-- After the switch instant none is due. -/
theorem switchDue_switchNow (s : State) (k : Nat) : switchDue (switchNow s k) k = false := by
  obtain ⟨t, hsw, ht⟩ := switchNow_switched s k
  simp [switchDue, switchNow_part ht, hsw.switch]

theorem switchNow_live (s : State) (k : Nat) : (switchNow s k).live = s.live := by
  have h : (switchNow s k).mode = s.mode := (switchNow_ev s k).frame .mode (by decide)
  rw [State.live, State.live, h]

theorem switchNow_valid (s : State) (k : Nat) : ((switchNow s k).part k).valid = (s.part k).valid := by
  obtain ⟨t, hsw, ht⟩ := switchNow_switched s k
  rw [switchNow_part ht, hsw.valid]

theorem exec_switchInstant {s : State} {k : Nat} (hk : k < 128) :
    exec (.latticeSwitchInstant k) s = doneIf (s.live && switchDue s k) s (switchNow s k) := by
  have hwf : Instr.wf (.latticeSwitchInstant k) = true := decide_eq_true hk
  exact if_pos hwf

/-! ### LATTICE_SWITCH (R199, R287) -/

section
variable {s : State} {c : Cmd} {a sh : Lattice}

/-- The state with a switch that waits. -/
def awaitSwitch (s : State) (c : Cmd) : State :=
  s.modPart c.partition fun p => { p with switch := p.switch ++ [c.cid] }

/-- The windows of a shadow table keep clear of those of the active table of its source (R199, log 44). -/
def keepsApart (s : State) (k : Nat) (sh a : Lattice) : Prop :=
  sameSource a sh = false ∨ switchApart s a sh (switchTick s (s.part k) a) = true

theorem keepsApart_iff {k : Nat} : keepsApart s k sh a ↔
    ¬ (sameSource a sh && !switchApart s a sh (switchTick s (s.part k) a)) = true := by
  unfold keepsApart
  cases sameSource a sh <;> simp

theorem latticeSwitchEff_missing (h : (s.part c.partition).shadow = none) :
    latticeSwitchEff c s = fail s c.cid stNotFound := by
  simp only [latticeSwitchEff, h]

variable (hs : (s.part c.partition).shadow = some sh)
include hs

theorem latticeSwitchEff_refused {g n : Nat}
    (h : readmit s c.partition { s.part c.partition with active := some sh } = some (g, n)) :
    latticeSwitchEff c s = finish s c.cid stAdmissionRefused n g := by
  simp only [hs] at h
  simp only [latticeSwitchEff, hs, h]

variable (hr : readmit s c.partition { s.part c.partition with active := some sh } = none)
include hr

/-- With an admitted shadow table, what the switch does is a matter of the active one. -/
theorem latticeSwitchEff_admitted : latticeSwitchEff c s =
    (s.part c.partition).active.elim (switchNow (awaitSwitch s c) c.partition) fun a =>
      if sameSource a sh && !switchApart s a sh (switchTick s (s.part c.partition) a) then
        finish s c.cid stAdmissionRefused 0 0
      else if !(s.part c.partition).ticking then switchNow (awaitSwitch s c) c.partition
      else awaitSwitch s c := by
  simp only [hs] at hr
  simp only [latticeSwitchEff, hs, hr]
  cases (s.part c.partition).active <;> rfl

theorem latticeSwitchEff_overlap (ha : (s.part c.partition).active = some a) (h : ¬ keepsApart s c.partition sh a) :
    latticeSwitchEff c s = finish s c.cid stAdmissionRefused 0 0 := by
  rw [latticeSwitchEff_admitted hs hr, ha, Option.elim_some, if_pos (not_not.mp (mt keepsApart_iff.mpr h))]

/-- Where no table ticks, the switch is at once (log 44). -/
theorem latticeSwitchEff_atOnce (h : (s.part c.partition).active = none ∨ (s.part c.partition).ticking = false ∧
      ∀ a, (s.part c.partition).active = some a → keepsApart s c.partition sh a) :
    latticeSwitchEff c s = switchNow (awaitSwitch s c) c.partition := by
  rw [latticeSwitchEff_admitted hs hr]
  cases ha : (s.part c.partition).active with
  | none => rfl
  | some a =>
    obtain ⟨ht, hap⟩ := h.resolve_left (by rw [ha]; exact nofun)
    rw [Option.elim_some, if_neg (keepsApart_iff.mp (hap a ha)), ht]
    rfl

theorem latticeSwitchEff_ticking (ha : (s.part c.partition).active = some a) (h : keepsApart s c.partition sh a)
    (ht : (s.part c.partition).ticking = true) : latticeSwitchEff c s = awaitSwitch s c := by
  rw [latticeSwitchEff_admitted hs hr, ha, Option.elim_some, if_neg (keepsApart_iff.mp h), ht]
  rfl

end

theorem awaitSwitch_part (s : State) (c : Cmd) : (awaitSwitch s c).part c.partition =
    { s.part c.partition with switch := (s.part c.partition).switch ++ [c.cid] } := State.part_modPart ..

/-- A switch at once makes the shadow table active and completes. -/
theorem switchNow_awaitSwitch {s : State} {c : Cmd} {sh : Lattice} {cid : Nat} (h : Ready s cid 0x15 c)
    (hs : (s.part c.partition).shadow = some sh) :
    let t := settle (switchNow (awaitSwitch (begin' s cid) c) c.partition)
    (t.part c.partition).active = some sh ∧ (t.part c.partition).shadow = none ∧
      (t.part c.partition).partCause.getLsbD 1 = true ∧ Completed s t c 0 0 0 := by
  obtain ⟨u, hsw, hu⟩ := switchNow_switched (awaitSwitch (begin' s cid) c) c.partition
  have hwait := awaitSwitch_part (begin' s cid) c
  obtain ⟨hact, hshadow, hcause⟩ := hsw.shadow sh ((congrArg Partition.shadow hwait).trans hs)
  dsimp only
  rw [State.part_settle, switchNow_part hu]
  refine ⟨hact, hshadow, hcause, ?_⟩
  have hc : u.cmd (c.begun s).cid = some (c.begun s) := by
    change u.cmd c.cid = _
    rw [hsw.moved.cmd, State.cmd_cid h.1]
    exact begin'_cmd h.1
  have hmem : (c.begun s).cid ∈ ((awaitSwitch (begin' s cid) c).part c.partition).switch := by
    rw [hwait]
    exact List.mem_append_right _ List.mem_cons_self
  have hdone := (finishAll_completed stOk hc hmem).mono (settle_ev _)
  rw [← hu] at hdone
  exact .ofBegun (.after (Evolves.union (begin'_ev s cid) <|
    .union (State.modPart_ev ..) hsw.moved) hdone)

/-- A switch that waits stands in the list of its partition, and its command stays accepted. -/
theorem awaitSwitch_waits {s : State} {c : Cmd} {cid : Nat} (h : Ready s cid 0x15 c) :
    let t := settle (awaitSwitch (begin' s cid) c)
    (t.part c.partition).active = (s.part c.partition).active ∧
      (t.part c.partition).switch = (s.part c.partition).switch ++ [cid] ∧ t.cmd cid ≠ none := by
  dsimp only
  have hwait := awaitSwitch_part (begin' s cid) c
  rw [State.part_settle, hwait, State.cmd_cid h.1]
  refine ⟨rfl, rfl, ?_⟩
  rw [State.cmd_settle, show (awaitSwitch (begin' s cid) c).cmd cid = some (c.begun s) from begin'_cmd h.1]
  exact nofun

/-! ### LATTICE_TICK (R28, R192, R198) -/

section
variable {s : State} {k : Nat} {l : Lattice}

theorem exec_latticeTick (hk : k < 128) :
    exec (.latticeTick k) s = doneIf (s.live && (s.part k).valid) s (tickEff s k) := by
  have hwf : Instr.wf (.latticeTick k) = true := decide_eq_true hk
  exact if_pos hwf

/-- A tick of a partition launches: the ticks run, the partition is not being reset, and after a switch to another
source the tick begins a period (R199, log 98). -/
def tickLaunches (s : State) (k : Nat) (l : Lattice) : Bool :=
  (s.part k).resetting.isNone && tickDue s (s.part k) l && (!(s.part k).awaitBoundary || decide (tickIndexOf s l = 0))

theorem tickEff_switches (h : switchDue s k = true) : tickEff s k = tickEff (switchNow s k) k := by
  simp only [tickEff, h, switchDue_switchNow, if_true, Bool.false_eq_true, if_false]

theorem tickEff_none (hd : switchDue s k = false) (ha : (s.part k).active = none) : tickEff s k = s := by
  simp only [tickEff, hd, Bool.false_eq_true, if_false, ha]

theorem tickEff_some (hd : switchDue s k = false) (ha : (s.part k).active = some l) :
    tickEff s k = if tickLaunches s k l then launchTick s k l else s := by
  simp only [tickEff, hd, Bool.false_eq_true, if_false, ha]
  rfl

theorem tickLaunches_iff : tickLaunches s k l = true ↔ (s.part k).resetting = none ∧ tickDue s (s.part k) l = true ∧
    ((s.part k).awaitBoundary = false ∨ tickIndexOf s l = 0) := by
  simp [tickLaunches, and_assoc]

/-- A partition at a tick of its table. -/
def Partition.atTick (s : State) (l : Lattice) (p : Partition) : Partition :=
  { p with
    tickIndex := tickIndexOf s l, ticking := true, awaitBoundary := false, lastTick := some (sourceTick s l)
    periods := if tickIndexOf s l = 0 then addWrap p.periods 1 else p.periods }

/-- The occurrences that a tick launches leave where the ticks stand. -/
theorem launchTick_lattice (w : s.Canon) :
    ((launchTick s k l).part k).lattice = ((s.part k).atTick s l).lattice := by
  have h : Keeps State.lattices (s.modPart k (Partition.atTick s l)) (launchTick s k l) :=
    .step (feed_lattices ..) <| .step (launchAll_lattices ..) (claimFor_ev ..).lattices
  have hk := congrFun (h.same ((State.modPart_ev ..).form w)) k
  rwa [State.lattices, State.lattices, State.part_modPart] at hk

end

/-- Settles O42: a switch by its table and its admission, the instant and the tick by what makes them due. -/
theorem latticeSwitchesAndTicks : Obligations.LatticeSwitchesAndTicks := by
  intro s k w hk
  refine ⟨?_, ?_, fun hl hd => ?_, fun h => (exec_switchInstant hk).trans (doneIf_idle h), fun hl hv => ?_,
    fun h => (exec_latticeTick hk).trans (doneIf_idle h)⟩
  · rintro cid c h rfl hs
    refine ⟨_, onCmd_ready h latticeSwitchEff, ?_⟩
    rw [latticeSwitchEff_missing (s := begin' s cid) hs]
    exact ⟨finish_parts .., h.completed rfl rfl ..⟩
  · -- Whether a command has begun is nothing that the checks read: what holds of `s` holds of `begin' s cid`.
    rintro cid c sh h rfl hs
    have hex := onCmd_ready h latticeSwitchEff
    refine ⟨fun g n hr => ?_, ?_⟩
    · rw [latticeSwitchEff_refused (s := begin' s cid) hs hr] at hex
      exact ⟨_, hex, finish_parts .., h.completed rfl rfl ..⟩
    · rintro hr apart rfl
      refine ⟨fun hidle => ?_, fun a ha hn => ?_, fun a ha ht hap => ?_⟩
      · rw [latticeSwitchEff_atOnce (s := begin' s cid) hs hr hidle] at hex
        exact ⟨_, hex, switchNow_awaitSwitch h hs⟩
      · rw [latticeSwitchEff_overlap (s := begin' s cid) hs hr ha hn] at hex
        exact ⟨_, hex, finish_parts .., h.completed rfl rfl ..⟩
      · rw [latticeSwitchEff_ticking (s := begin' s cid) hs hr ha hap ht] at hex
        obtain ⟨hact, hsw, hcmd⟩ := awaitSwitch_waits h
        exact ⟨_, hex, hact.trans ha, hsw, hcmd⟩
  · obtain ⟨t, hsw, ht⟩ := switchNow_switched s k
    refine ⟨_, (exec_switchInstant hk).trans (doneIf_both hl hd), ?_⟩
    rw [State.part_settle, switchNow_part ht]
    refine ⟨hsw.switch, fun cid hcid => ?_, fun sh hsh => ?_, hsw.active⟩
    · rw [State.cmd_settle, ht, cmd_finishAll stOk hcid]
    · obtain ⟨hact, hnone, -⟩ := hsw.shadow sh hsh
      exact ⟨hact, hnone⟩
  · have hex : exec (.latticeTick k) s = .next (settle (tickEff s k)) := (exec_latticeTick hk).trans (doneIf_both hl hv)
    refine ⟨fun hd => ?_, fun l hd ha hres hdue hb => ?_, fun hd hidle => ?_⟩
    · rw [hex, tickEff_switches hd]
      have hl' := (switchNow_live s k).trans hl
      exact ((exec_latticeTick hk).trans (doneIf_both hl' ((switchNow_valid s k).trans hv))).symm
    · rw [tickEff_some hd ha, if_pos (tickLaunches_iff.mpr ⟨hres, hdue, hb⟩)] at hex
      have hp := launchTick_lattice (k := k) (l := l) w
      exact ⟨_, hex, congrArg Partition.tickIndex hp, congrArg Partition.ticking hp,
        congrArg Partition.awaitBoundary hp, congrArg Partition.lastTick hp, congrArg Partition.periods hp⟩
    · cases ha : (s.part k).active with
      | none => rw [hex, tickEff_none hd ha]
      | some l =>
        have hstop : ¬ tickLaunches s k l = true := by
          rw [tickLaunches_iff]
          rintro ⟨hres, hdue, hb⟩
          rcases hidle l ha with h | h | ⟨hwait, hi⟩
          · exact h hres
          · exact Bool.eq_false_iff.mp h hdue
          · exact hb.elim (Bool.eq_false_iff.mp · hwait) hi
        rw [hex, tickEff_some hd ha, if_neg hstop]

end Sys2Proof.Machine
end

section
/-! What kernels, their faults, windows, copies, links and the requests of the fabric may change (O20). -/

-- These proofs wait on the same definitions: they are elaborated in order.
set_option Elab.async false

namespace Sys2Proof.Machine

/-- The row of a command begins it and acts within a set of fields, and is idle while no such command may act. -/
theorem Yields.onCmd {A T : Nat} {s : State} {cid op : Nat} {act : Cmd → State → State}
    (k : ∀ c s, Evolves A s (act c s))
    (hT : Within ((16384 ||| A) ||| pieces sends) T := by dsimp only [touches]; decide) :
    Yields T s (onCmd s cid op act) := by
  unfold Machine.onCmd
  split
  · exact .idle hT.right
  · exact .cond (.done ((begin'_ev s cid).union (k _ _)) hT) (.idle hT.right)

/-- The events of kernels and partitions evolve within what they touch. -/
theorem kernels_yields {i : Instr} {s : State} (h : family i = .kernels) :
    Yields (pieces (touches i)) s (exec i s) := by
  cases i with
  | kernelStart f =>
    refine .cond ?_ .idle
    split
    · exact .idle
    · exact .doneIf (startKernel_ev ..)
  | kernelEnd f n =>
    refine .cond ?_ .idle
    split
    · exact .idle
    · exact .doneIf (endKernel_ev ..)
  | kernelPoisonFault f src =>
    refine .cond ?_ .idle
    split
    · exact .idle
    · exact .doneIf <| (poisonBits_ev ..).union <| (consumed_ev ..).union (faultKernel_ev ..)
  | watchdog f p =>
    refine .cond ?_ .idle
    split
    · exact .idle
    · next k _ =>
      cases p with
      | none => exact .doneIf <| (State.setFacetCause_ev ..).union (faultKernel_ev ..)
      | some src =>
        exact .doneIf <| (State.setFacetCause_ev ..).union <| (poisonBits_ev ..).union <|
          (consumed_ev _ k src).union (faultKernel_ev ..)
  | teardownComplete p g => exact .guarded (endTeardown_ev ..)
  | partitionFault p u => exact .guarded (beginReset_ev ..)
  | partitionResetDone p => exact .guarded (endReset_ev ..)
  | deviceFatalFault c l => exact .guarded (fatalEff_ev ..)
  | jumpPrepare j i pe =>
    refine .cond ?_ .idle
    split
    · exact .idle
    · exact .doneIf (jumpEff_ev ..)
  | _ => exact Family.noConfusion h

/-- Windows, copies, links and the requests of the fabric evolve within what they touch. -/
theorem fabric_yields {i : Instr} {s : State} (h : family i = .fabric) : Yields (pieces (touches i)) s (exec i s) := by
  cases i with
  | windowExport cid => exact .onCmd fun _ _ => windowExportEff_ev ..
  | windowImport cid => exact .onCmd fun _ _ => windowImportEff_ev ..
  | copy cid => exact .onCmd fun _ _ => copyEff_ev ..
  | scrubPass c u => exact .doneIf (scrubEff_ev ..)
  | linkDown p => exact .guarded (linkDownEff_ev ..)
  | linkTrainAttempt p => exact .guarded (attemptEff_ev ..)
  | linkUp p w ma mi d q => exact .guarded (linkUpEff_ev ..)
  | versionAnnounce p ma mi => exact .guarded (announceEff_ev ..)
  | flitArrival p c d ok => exact .guarded (flitEff_ev ..)
  | read q => exact .doneIf <| (noteMinor_ev ..).union (readEff_ev ..)
  | write q b => exact .doneIf <| (noteMinor_ev ..).union (writeEff_ev ..)
  | message q b => exact .doneIf <| (noteMinor_ev ..).union (messageEff_ev ..)
  | fetchObject q id => exact .doneIf <| (noteMinor_ev ..).union (fetchEff_ev ..)
  | register q => exact .doneIf <| (noteMinor_ev ..).union (registerEff_ev ..)
  | deregister q => exact .doneIf <| (noteMinor_ev ..).union (deregisterEff_ev ..)
  | probe q => exact .doneIf <| (noteMinor_ev ..).union (probeEff_ev ..)
  | response q b => exact .doneIf (responseEff_ev ..)
  | fabricForward q n b =>
    change Yields _ s (execFabricForward q n b s)
    unfold execFabricForward
    split
    · exact .doneIf <| (noteMinor_ev ..).union (reply_ev ..)
    · exact .doneIf (forwardEff_ev ..)
  | fabricRequestTimeout g =>
    change Yields _ s (execFabricRequestTimeout g s)
    unfold execFabricRequestTimeout
    split
    · exact .idle
    · exact .doneIf (timeoutEff_ev ..)
  | probeTimer => exact .doneIf (probesEff_ev ..)
  | _ => exact Family.noConfusion h

/-- Settles O20: each command of the two families evolves within the fields that it touches. -/
theorem kernelAndFabricFrame : Obligations.KernelAndFabricFrame := by
  intro i s t hf h
  simp only [List.mem_cons, List.not_mem_nil, or_false] at hf
  obtain hf | hf := hf
  · exact (kernels_yields hf t h).frame
  · exact (fabric_yields hf t h).frame

end Sys2Proof.Machine
end

section
/-! What a fault and a teardown leave of the partitions, and that a fault ends no teardown (O46). -/

-- These proofs wait on the same definitions: they are elaborated in order.
set_option Elab.async false

namespace Sys2Proof.Machine

/-! ### What stands in a partition while its kernels, its models and its prisms move -/

/-- A partition without the kernels that wait in its culets, its T0 copies and its prisms. -/
def Partition.standing (p : Partition) : Partition := { p with culetQ := [], t0 := [], prisms := 0 }

def State.standings (s : State) (k : Nat) : Partition := (s.part k).standing

theorem Evolves.standings {A : Nat} {s t : State} (h : Evolves A s t) (hA : A.testBit 16 = false := by decide) :
    Keeps State.standings s t :=
  ⟨h.form, fun _ => funext fun k => congrArg Partition.standing (h.part hA k)⟩

theorem modPart_standings (s : State) (k : Nat) {g : Partition → Partition} (hg : ∀ p, (g p).standing = p.standing) :
    Keeps State.standings s (s.modPart k g) := by
  refine ⟨(State.modPart_ev s k g).form, fun _ => funext fun j => ?_⟩
  by_cases hj : j = k
  · subst hj
    rw [State.standings, State.part_modPart, hg, State.standings]
  · rw [State.standings, State.part_modPart_other hj, State.standings]

theorem dropKernels_standings (s : State) (p : Kernel → Bool) : Keeps State.standings s (dropKernels s p) :=
  ⟨(dropKernels_ev s p).form,
    fun w => funext fun k => tabGet_mapV (π := Partition.standing) (by intros; rfl) w.parts k⟩

theorem recallReaders_standings (s : State) (k : Nat) (id : Bytes) : Keeps State.standings s (recallReaders s k id) :=
  .step (modPart_standings _ _ fun _ => rfl) (upd_facets_ev ..).standings

theorem dropPoisoned_standings (s : State) (k : Kernel) (role : Nat) :
    Keeps State.standings s (dropPoisoned s k role) := by
  unfold dropPoisoned
  split
  · exact .refl s
  · exact .step (recallReaders_standings ..) (modPart_standings _ _ fun _ => rfl)

theorem consumed_standings (s : State) (k : Kernel) (src : PoisonSource) :
    Keeps State.standings s (consumed s k src) := by
  cases src with
  | weightStore role => exact dropPoisoned_standings ..
  | scratchpad => exact .refl s
  | stateStore => exact .refl s

theorem releasePrism_standings (s : State) (p : Nat) : Keeps State.standings s (releasePrism s p) := by
  unfold releasePrism
  refine .step (State.modPrism_ev ..).standings ?_
  split
  · exact modPart_standings _ _ fun _ => rfl
  · exact .refl s

theorem clearFacet_standings (s : State) (f : Nat) (k : Kernel) : Keeps State.standings s (clearFacet s f k) := by
  have h (t : State) (p : Nat) : Keeps State.standings t (releaseIfIdle t p) := by
    unfold releaseIfIdle
    split
    · exact releasePrism_standings ..
    · exact .refl t
  exact .step (h ..) <| .step (State.modPrism_ev ..).standings (State.modFacet_ev ..).standings

theorem evictNowT0_standings (s : State) (k : Nat) (id : Bytes) : Keeps State.standings s (evictNowT0 s k id) :=
  .step (finishAll_ev ..).standings (modPart_standings _ _ fun _ => rfl)

theorem roomT0_standings {n : Nat} {s t : State} {k : Nat} {fs : List Nat} {need more : Nat} {keep : Bytes}
    (h : roomT0 n s k fs need more keep = some t) : Keeps State.standings s t := by
  fun_induction roomT0 n s k fs need more keep
  case case1 => exact Option.some.inj h ▸ .refl _
  case case4 ih => exact .step (ih h) (evictNowT0_standings ..)
  all_goals exact absurd h nofun

theorem beginPlace_standings {s t : State} {k : Nat} {id : Bytes} {ws : List Nat} (h : beginPlace s k id ws = some t) :
    Keeps State.standings s t := by
  unfold beginPlace at h
  dsimp only at h
  split at h
  · exact absurd h nofun
  · next hroom =>
    rw [← Option.some.inj h]
    exact .step (modPart_standings _ _ fun _ => rfl) <| .step (upd_cache_ev ..).standings (roomT0_standings hroom)

theorem freeDead_standings (s : State) (k : Nat) : Keeps State.standings s (freeDead s k) := by
  refine .foldl _ (fun s c => ?_) (.refl s)
  have h := evictNowT0_standings s k c.identity
  dsimp only
  split
  · exact .optGetD (fun _ hp => .step (beginPlace_standings hp) h) h
  · exact h

theorem evictForced_standings (s : State) (k : Nat) : Keeps State.standings s (evictForced s k) :=
  .foldl _ (fun _ _ => evictNowT0_standings ..) (freeDead_standings s k)

theorem feedFrom_standings (s : State) (k : Nat) (qs : List Kernel) : Keeps State.standings s (feedFrom s k qs) := by
  fun_induction feedFrom s k qs
  case case1 => exact .refl ..
  case case3 ih => exact .step ih (giveKernel_ev ..).standings
  all_goals next ih => exact .step ih (modPart_standings _ _ fun _ => rfl)

theorem feed_standings (s : State) (k : Nat) : Keeps State.standings s (feed s k) :=
  .step (feedFrom_standings ..) (modPart_standings _ _ fun _ => rfl)

theorem replaceCopy_standings (s : State) (k : Nat) (c : T0Copy) : Keeps State.standings s (replaceCopy s k c) := by
  have h : Keeps State.standings s (dropT0 s k c.identity) := modPart_standings _ _ fun _ => rfl
  unfold replaceCopy
  split
  · next hp => exact .step (modPart_standings _ _ fun _ => rfl) <| .step (beginPlace_standings hp) h
  · exact .step (finishAll_ev ..).standings <| .step (finishAll_ev ..).standings h

/-! ### Teardowns that go on -/

/-- A function leads from `s` to `t`: the canonical form is kept and, where `s` has it, every teardown that is under
way in `s` is under way in `t`. -/
structure TearsOn (s t : State) : Prop where
  form : s.Canon → t.Canon
  torn : s.Canon → ∀ k, ∀ g ∈ (s.part k).tearing, g ∈ (t.part k).tearing

theorem Keeps.tearsOn {s t : State} (h : Keeps State.standings s t) : TearsOn s t :=
  ⟨h.form, fun w k _ hg => (congrArg Partition.tearing (congrFun (h.same w) k)).symm ▸ hg⟩

namespace TearsOn

variable {β : Type} {s t u : State}

/-- The last function of a chain, peeled off. -/
theorem step (k : TearsOn t u) (h : TearsOn s t) : TearsOn s u :=
  ⟨k.form ∘ h.form, fun w p g hg => k.torn (h.form w) p g (h.torn w p g hg)⟩

theorem foldl {f : State → β → State} (l : List β) (hf : ∀ s x, TearsOn s (f s x)) (h : TearsOn s t) :
    TearsOn s (l.foldl f t) := by
  induction l generalizing t with
  | nil => exact h
  | cons x r ih => exact ih ((hf t x).step h)

end TearsOn

theorem modPart_tearsOn (s : State) (k : Nat) {g : Partition → Partition}
    (hg : ∀ p, ∀ x ∈ p.tearing, x ∈ (g p).tearing) : TearsOn s (s.modPart k g) := by
  refine ⟨(State.modPart_ev s k g).form, fun _ j => ?_⟩
  by_cases hj : j = k
  · subst hj
    rw [State.part_modPart]
    exact hg _
  · rw [State.part_modPart_other hj]
    exact fun _ => id

theorem beginTeardown_tearsOn (s : State) (k g kind f : Nat) : TearsOn s (beginTeardown s k g kind f) := by
  unfold beginTeardown
  extract_lets
  split
  · exact (Keeps.refl s).tearsOn
  · exact .step (dropKernels_standings ..).tearsOn (modPart_tearsOn _ _ fun _ _ => List.mem_append_left _)

theorem rehome_tearsOn (s : State) (cid i : Nat) : TearsOn s (rehome s cid i) := by
  unfold rehome
  extract_lets s1
  have h1 : TearsOn s s1 := (State.modStream_ev ..).standings.tearsOn
  split
  · next h => exact .step (Evolves.ofSomeFst h (registerSink_ev ..)).standings.tearsOn h1
  · exact .step (beginTeardown_tearsOn ..) h1

theorem reseat_tearsOn (s : State) (cid i : Nat) : TearsOn s (reseat s cid i) := by
  unfold reseat
  extract_lets
  split
  · exact (Keeps.refl s).tearsOn
  · split
    · next h =>
      exact .step (rehome_tearsOn ..) <| .step (State.modStream_ev ..).standings.tearsOn
        (Evolves.ofSome h (roomState_ev ..)).standings.tearsOn
    · exact (moveAway_ev ..).standings.tearsOn

theorem finishYield_tearsOn (s : State) (k cid : Nat) (mask : BitVec 128) : TearsOn s (finishYield s k cid mask) := by
  unfold finishYield
  extract_lets is s1 s2 cs s3 s4
  have h1 : Keeps State.standings s s1 := .foldl _ (fun _ _ => (State.modStream_ev ..).standings) (.refl s)
  have h2 : TearsOn s s2 := .foldl _ (fun _ _ => reseat_tearsOn ..) h1.tearsOn
  have h3 : TearsOn s s3 := .foldl _ (fun _ _ => (replaceCopy_standings ..).tearsOn) h2
  have h4 : TearsOn s s4 :=
    .step (modPart_tearsOn _ _ fun _ _ => id) <| .step (modPart_tearsOn _ _ fun _ _ => id) h3
  exact .step (feed_standings ..).tearsOn <| .step (fail_ev ..).standings.tearsOn h4

theorem settleYields_tearsOn (s : State) (ks : List Nat) : TearsOn s (settleYields s ks) := by
  induction ks generalizing s with
  | nil => exact (Keeps.refl s).tearsOn
  | cons k r ih =>
    refine .step (ih _) ?_
    split
    · split
      · exact finishYield_tearsOn ..
      · exact (Keeps.refl s).tearsOn
    · exact (Keeps.refl s).tearsOn

/-- What follows the end of a kernel ends no teardown, where no destruction waits for it. -/
theorem afterKernel_tearsOn {s : State} {k : Nat} (h : (s.part k).destroying = none) :
    TearsOn s (afterKernel s k) := by
  unfold afterKernel
  rw [h]
  exact .step (feed_standings ..).tearsOn <| .step (evictForced_standings ..).tearsOn (settleYields_tearsOn ..)

end Sys2Proof.Machine
end

section
/-! The faults of a kernel and the end of its group's teardown (O46). -/

-- These proofs wait on the same definitions: they are elaborated in order.
set_option Elab.async false

namespace Sys2Proof.Machine

@[simp] theorem State.stream_settle (s : State) (i : Nat) : (settle s).stream i = s.stream i := rfl

theorem Evolves.stream {A : Nat} {s t : State} (h : Evolves A s t) (hA : A.testBit 22 = false := by decide) (i : Nat) :
    t.stream i = s.stream i := congrArg (tabGet ({} : Stream) · i) (h.frame .streams hA)

theorem getLsbD_setBit_of {w i : Nat} {b : BitVec w} (j : Nat) (h : b.getLsbD i = true) :
    (setBit b j).getLsbD i = true := by
  rw [setBit, BitVec.getLsbD_or, h, Bool.true_or]

/-! ### What the fault of a kernel does (R64, R75, R390, R391) -/

section
variable {s u : State} {f kind : Nat} {k : Kernel}

theorem recallReaders_works (s : State) (p : Nat) (id : Bytes) : Keeps State.works s (recallReaders s p id) :=
  ⟨(recallReaders_ev ..).form, fun w => funext fun f => tabGet_mapV (π := Facet.work) (by intros; rfl) w.facets f⟩

theorem dropPoisoned_works (s : State) (k : Kernel) (role : Nat) : Keeps State.works s (dropPoisoned s k role) := by
  unfold dropPoisoned
  split
  · exact .refl s
  · exact .step (recallReaders_works ..) (State.modPart_ev ..).works

theorem consumed_works (s : State) (k : Kernel) (src : PoisonSource) : Keeps State.works s (consumed s k src) := by
  cases src with
  | weightStore role => exact dropPoisoned_works ..
  | scratchpad => exact .refl s
  | stateStore => exact .refl s

/-- A fault counts no end of a kernel and sets no cause of its own. -/
theorem faultKernel_facet (w : u.Canon) : ((faultKernel u f kind k).facet f).running = none ∧
    ((faultKernel u f kind k).facet f).kernels = (u.facet f).kernels ∧
    ((faultKernel u f kind k).facet f).cause = (u.facet f).cause := by
  have h : Keeps State.works (clearFacet u f k) (faultKernel u f kind k) :=
    .step (afterKernel_works ..) (beginTeardown_works ..)
  have hw := congrFun (h.same ((clearFacet_ev ..).form w)) f
  obtain ⟨hrun, hker, -, hcause⟩ := clearFacet_facet (k := k) u f
  exact ⟨(congrArg Facet.running hw).trans hrun, (congrArg Facet.kernels hw).trans hker,
    (congrArg Facet.cause hw).trans hcause⟩

/-- The teardown of a group begins where its partition exists and is not being reset; a further fault is absorbed. -/
theorem beginTeardown_begins {p g : Nat} (w : s.Canon) (hv : (s.part p).valid = true)
    (hr : (s.part p).resetting = none) : g ∈ ((beginTeardown s p g kind f).part p).tearing := by
  have hc : (!(s.part p).valid || (s.part p).resetting.isSome) = false := by rw [hv, hr]; rfl
  unfold beginTeardown
  dsimp only
  rw [hc, Bool.false_or]
  split
  · next h => exact List.contains_iff_mem.mp h
  · refine (dropKernels_standings ..).tearsOn.torn ((State.modPart_ev ..).form w) p g ?_
    rw [State.part_modPart]
    exact List.mem_append_right _ List.mem_cons_self

theorem beginTeardown_destroying {p g : Nat} (w : s.Canon) :
    ((beginTeardown s p g kind f).part p).destroying = (s.part p).destroying := by
  unfold beginTeardown
  dsimp only
  split
  · rfl
  · change (State.standings (dropKernels ..) p).destroying = _
    rw [(dropKernels_standings ..).same ((State.modPart_ev ..).form w), State.standings, State.part_modPart]
    rfl

/-- After a fault the group of the kernel is being torn down, where its partition is not being reset or destroyed. -/
theorem faultKernel_tearing (w : u.Canon) (hv : (u.part k.part).valid = true)
    (hr : (u.part k.part).resetting = none) (hd : (u.part k.part).destroying = none) :
    k.group ∈ ((faultKernel u f kind k).part k.part).tearing := by
  have hstand := congrFun ((clearFacet_standings u f k).same w) k.part
  have wc := (clearFacet_ev u f k).form w
  have hbegun := beginTeardown_begins (kind := kind) (f := f) (g := k.group) wc
    ((congrArg Partition.valid hstand).trans hv) ((congrArg Partition.resetting hstand).trans hr)
  have hnone := (beginTeardown_destroying (kind := kind) (f := f) (g := k.group) wc).trans
    ((congrArg Partition.destroying hstand).trans hd)
  exact (afterKernel_tearsOn hnone).torn ((beginTeardown_ev ..).form wc) _ _ hbegun

/-- A kernel that faults in `u`, which differs from `s` in what the fault has noted, is contained. -/
theorem faultKernel_contains (h : Keeps State.standings s u) (w : s.Canon) :
    ((faultKernel u f kind k).facet f).running = none ∧
    ((faultKernel u f kind k).facet f).kernels = (u.facet f).kernels ∧
    ((faultKernel u f kind k).facet f).cause = (u.facet f).cause ∧
    ((s.part k.part).valid = true → (s.part k.part).resetting = none → (s.part k.part).destroying = none →
      k.group ∈ ((faultKernel u f kind k).part k.part).tearing) := by
  obtain ⟨hrun, hker, hcause⟩ := faultKernel_facet (f := f) (kind := kind) (k := k) (h.form w)
  have hstand := congrFun (h.same w) k.part
  exact ⟨hrun, hker, hcause, fun hv hr hd => faultKernel_tearing (h.form w)
    ((congrArg Partition.valid hstand).trans hv) ((congrArg Partition.resetting hstand).trans hr)
    ((congrArg Partition.destroying hstand).trans hd)⟩

end

/-! ### What a fault notes first -/

section
variable {s : State} {f : Nat} {k : Kernel}

/-- A kernel that consumes poison, as its facet and its weights note it. -/
def poisoned (s : State) (f : Nat) (k : Kernel) (src : PoisonSource) : State := consumed (poisonBits s f) k src

/-- A kernel that overruns, and may consume poison in the same cycle. -/
def overran (s : State) (f : Nat) (k : Kernel) (p : Option PoisonSource) : State :=
  p.elim (s.setFacetCause f 1) (poisoned (s.setFacetCause f 1) f k)

theorem poisoned_standings (s : State) (f : Nat) (k : Kernel) (src : PoisonSource) :
    Keeps State.standings s (poisoned s f k src) := .step (consumed_standings ..) (poisonBits_ev ..).standings

theorem overran_standings (s : State) (f : Nat) (k : Kernel) (p : Option PoisonSource) :
    Keeps State.standings s (overran s f k p) := by
  cases p with
  | none => exact (State.setFacetCause_ev ..).standings
  | some src => exact .step (poisoned_standings ..) (State.setFacetCause_ev ..).standings

@[simp] theorem kernels_setFacetCause (s : State) (f i : Nat) :
    ((s.setFacetCause f i).facet f).kernels = (s.facet f).kernels := by
  rw [State.setFacetCause, State.facet_modFacet]

@[simp] theorem cause_setFacetCause (s : State) (f i : Nat) :
    ((s.setFacetCause f i).facet f).cause = setBit (s.facet f).cause i := by
  rw [State.setFacetCause, State.facet_modFacet]

theorem poisoned_facet (w : s.Canon) (src : PoisonSource) :
    ((poisoned s f k src).facet f).kernels = (s.facet f).kernels ∧
    ((poisoned s f k src).facet f).cause = setBit (setBit (s.facet f).cause 0) 3 := by
  have hw : (poisoned s f k src).works f = (poisonBits s f).works f :=
    congrFun ((consumed_works _ k src).same ((poisonBits_ev s f).form w)) f
  have hbits : ((poisonBits s f).facet f).kernels = (s.facet f).kernels ∧
      ((poisonBits s f).facet f).cause = setBit (setBit (s.facet f).cause 0) 3 := by simp [poisonBits]
  exact ⟨(congrArg Facet.kernels hw).trans hbits.1, (congrArg Facet.cause hw).trans hbits.2⟩

theorem overran_facet (w : s.Canon) (p : Option PoisonSource) :
    ((overran s f k p).facet f).kernels = (s.facet f).kernels ∧
    ((overran s f k p).facet f).cause.getLsbD 1 = true ∧
    (p ≠ none → ((overran s f k p).facet f).cause.getLsbD 0 = true) := by
  have hone : ((s.setFacetCause f 1).facet f).cause.getLsbD 1 = true := by
    rw [cause_setFacetCause]
    exact getLsbD_setBit_self _ (by decide)
  cases p with
  | none => exact ⟨kernels_setFacetCause .., hone, absurd rfl⟩
  | some src =>
    obtain ⟨hker, hcause⟩ := poisoned_facet (f := f) (k := k) ((State.setFacetCause_ev s f 1).form w) src
    change ((poisoned _ f k src).facet f).kernels = _ ∧ ((poisoned _ f k src).facet f).cause.getLsbD 1 = true ∧
      (_ → ((poisoned _ f k src).facet f).cause.getLsbD 0 = true)
    rw [hker, hcause]
    exact ⟨kernels_setFacetCause .., getLsbD_setBit_of 3 (getLsbD_setBit_of 0 hone),
      fun _ => getLsbD_setBit_of 3 (getLsbD_setBit_self _ (by decide))⟩

theorem exec_kernelPoisonFault (hf : f < 2048) (hr : (s.facet f).running = some k) (src : PoisonSource) :
    exec (.kernelPoisonFault f src) s = doneIf s.live s (faultKernel (poisoned s f k src) f 1 k) := by
  have hwf : Instr.wf (.kernelPoisonFault f src) = true := decide_eq_true hf
  refine (if_pos hwf).trans ?_
  rw [hr]
  rfl

theorem exec_watchdog (hf : f < 2048) (hr : (s.facet f).running = some k) (p : Option PoisonSource) :
    exec (.watchdog f p) s =
      doneIf (s.live && decide ((s.facet f).since + 2 * k.dur < s.now)) s (faultKernel (overran s f k p) f 2 k) := by
  have hwf : Instr.wf (.watchdog f p) = true := decide_eq_true hf
  refine (if_pos hwf).trans ?_
  rw [hr]
  rfl

theorem exec_kernelPoisonFault_free (hf : f < 2048) (hr : (s.facet f).running = none) (src : PoisonSource) :
    exec (.kernelPoisonFault f src) s = .next (settle s) := by
  have hwf : Instr.wf (.kernelPoisonFault f src) = true := decide_eq_true hf
  refine (if_pos hwf).trans ?_
  rw [hr]
  rfl

theorem exec_watchdog_free (hf : f < 2048) (hr : (s.facet f).running = none) (p : Option PoisonSource) :
    exec (.watchdog f p) s = .next (settle s) := by
  have hwf : Instr.wf (.watchdog f p) = true := decide_eq_true hf
  refine (if_pos hwf).trans ?_
  rw [hr]
  rfl

end

/-! ### The end of a teardown (R166, R391) -/

theorem exec_teardownComplete {s : State} {p g : Nat} (hp : p < 128) :
    exec (.teardownComplete p g) s =
      doneIf (s.live && (s.part p).tearing.contains g && !groupRunning s p g) s (endTeardown s p g) := by
  have hwf : Instr.wf (.teardownComplete p g) = true := decide_eq_true hp
  exact if_pos hwf

/-- A stream that is freed is closed, and every other stays as it is. -/
theorem stream_freeStream (s : State) (i j : Nat) :
    (freeStream s i).stream j = if j = i then {} else s.stream j := by
  have h : (dropReader (releaseSink s i) i).streams = s.streams :=
    ((releaseSink_ev s i).union (dropReader_ev _ i)).frame .streams (by decide)
  change tabGet {} (tabSet {} (dropReader (releaseSink s i) i).streams i {}) j = _
  rw [h, tabGet_set]
  rfl

theorem stream_freeStreams (s : State) (is : List Nat) (j : Nat) :
    (freeStreams s is).stream j = if j ∈ is then {} else s.stream j := by
  induction is generalizing s with
  | nil => rfl
  | cons i r ih =>
    unfold freeStreams
    rw [ih, stream_freeStream]
    by_cases hr : j ∈ r <;> by_cases hi : j = i <;> simp [hr, hi]

/-- An open stream of a partition is listed among those that satisfy what it satisfies. -/
theorem mem_streamsOf {s : State} {k i : Nat} {q : Stream → Bool} (ho : (s.stream i).isOpen = true)
    (hk : (s.stream i).part = k) (hq : q (s.stream i) = true) : i ∈ streamsOf s k q := by
  have hne : s.stream i ≠ {} := fun h => absurd (h ▸ ho) (by decide)
  refine List.mem_map.mpr ⟨_, List.mem_filter.mpr ⟨mem_of_tabGet_ne hne, ?_⟩, rfl⟩
  exact Bool.and_eq_true_iff.mpr ⟨Bool.and_eq_true_iff.mpr ⟨ho, beq_iff_eq.mpr hk⟩, hq⟩

theorem freeGroup_closes {s : State} {k g i : Nat} (ho : ((freeGroup s k g).stream i).isOpen = true)
    (hk : ((freeGroup s k g).stream i).part = k) : ((freeGroup s k g).stream i).group ≠ g := by
  have h : (freeGroup s k g).stream i = if i ∈ streamsOf s k (fun t => t.group == g) then {} else s.stream i := by
    change (freeStreams (finishTorn s _) _).stream i = _
    rw [stream_freeStreams, (finishTorn_ev ..).stream]
  rw [h] at ho hk ⊢
  split at ho
  · exact absurd ho (by decide)
  · next hi =>
    rw [if_neg hi] at hk ⊢
    exact fun hg => hi (mem_streamsOf ho hk (beq_iff_eq.mpr hg))

/-- A partition whose group has been torn down. -/
def Partition.tornDown (g : Nat) (p : Partition) : Partition :=
  { p with
    tearing := p.tearing.filter (· ≠ g), faultCause := setBit p.faultCause 0
    streamCause := setBit p.streamCause 2, teardowns := addWrap p.teardowns 1 }

/-- The end of a teardown counts once, and evicts what waited for it besides. -/
theorem endTeardown_part {s : State} {k g : Nat} (w : s.Canon) :
    ∃ p : Partition, (endTeardown s k g).part k = p.tornDown g ∧ p.teardowns = (s.part k).teardowns := by
  have h : Keeps State.standings s (evictForced (freeGroup s k g) k) :=
    .step (evictForced_standings ..) (freeGroup_ev ..).standings
  have hcount := congrArg Partition.teardowns (congrFun (h.same w) k)
  exact ⟨_, State.part_modPart .., hcount⟩

theorem Partition.notMem_tornDown (g : Nat) (p : Partition) : g ∉ (p.tornDown g).tearing := fun h =>
  of_decide_eq_true (List.mem_filter.mp h).2 rfl

theorem endTeardown_stream (s : State) (k g i : Nat) : (endTeardown s k g).stream i = (freeGroup s k g).stream i := by
  unfold endTeardown
  rw [(State.modPart_ev ..).stream, (evictForced_ev ..).stream]

/-- Settles O46: each fault by what it notes and the teardown that it begins, the teardown's end by what it frees. -/
theorem faultsTearTheirGroupDown : Obligations.FaultsTearTheirGroupDown := by
  intro s f k w hf
  refine ⟨fun hr hl => ⟨fun src => ?_, fun p hlate => ?_⟩, fun src p => ⟨fun h => ?_, fun hr hin => ?_⟩,
    fun p g hp => ⟨fun hl hg hrun => ?_, fun h => ?_⟩⟩
  · obtain ⟨hrun, hker, hcause, htear⟩ := faultKernel_contains (f := f) (kind := 1) (poisoned_standings s f k src) w
    obtain ⟨hker', hcause'⟩ := poisoned_facet (f := f) (k := k) w src
    refine ⟨_, (exec_kernelPoisonFault hf hr src).trans (doneIf_true hl ..), ?_⟩
    rw [State.facet_settle, State.part_settle, hker, hcause, hker', hcause']
    have hzero : (setBit (s.facet f).cause 0).getLsbD 0 = true := getLsbD_setBit_self _ (by decide)
    exact ⟨hrun, rfl, getLsbD_setBit_of 3 hzero, getLsbD_setBit_self _ (by decide), htear⟩
  · obtain ⟨hrun, hker, hcause, htear⟩ := faultKernel_contains (f := f) (kind := 2) (overran_standings s f k p) w
    obtain ⟨hker', hone, hzero⟩ := overran_facet (f := f) (k := k) w p
    refine ⟨_, (exec_watchdog hf hr p).trans (doneIf_both hl (decide_eq_true hlate)), ?_⟩
    rw [State.facet_settle, State.part_settle, hker, hcause]
    exact ⟨hrun, hker', hone, hzero, htear⟩
  · cases hr : (s.facet f).running with
    | none => exact ⟨exec_kernelPoisonFault_free hf hr src, exec_watchdog_free hf hr p⟩
    | some k' =>
      have hl := h.resolve_left (by rw [hr]; exact nofun)
      exact ⟨(exec_kernelPoisonFault hf hr src).trans (doneIf_false hl ..),
        (exec_watchdog hf hr p).trans (doneIf_idle (.inl hl))⟩
  · exact (exec_watchdog hf hr p).trans (doneIf_idle (.inr (decide_eq_false (Nat.not_lt.mpr hin))))
  · obtain ⟨q, hq, hcount⟩ := endTeardown_part (k := p) (g := g) w
    have hgo : (s.live && (s.part p).tearing.contains g && !groupRunning s p g) = true := by simp [hl, hg, hrun]
    refine ⟨_, (exec_teardownComplete hp).trans (doneIf_true hgo ..), ?_⟩
    simp only [State.part_settle, State.stream_settle, hq, endTeardown_stream]
    exact ⟨q.notMem_tornDown g, getLsbD_setBit_self _ (by decide), getLsbD_setBit_self _ (by decide),
      congrArg (addWrap · 1) hcount, fun _ => freeGroup_closes⟩
  · refine (exec_teardownComplete hp).trans (doneIf_false ?_ ..)
    rcases h with hl | hg | hrun
    · simp [hl]
    · simp [hg]
    · simp [hrun]

end Sys2Proof.Machine
end

section
/-! The admission of a latency-critical group, and STREAM_OPEN of a stream that it admits (O50). -/

-- These proofs wait on the same definitions: they are elaborated in order.
set_option Elab.async false

namespace Sys2Proof.Machine

/-! ### What admits a group (R213) -/

section
variable {s : State} {k g : Nat} {p : Partition} {l : Lattice} {ts : List Stream}

/-- The LC entries of a group in a table. -/
def Lattice.lcOf (l : Lattice) (g : Nat) : List LEntry := l.entries.filter fun e => e.lc && e.group == g

theorem entryChecks_none {ckpt : Bool} (h5 : ∀ e ∈ l.lcOf g, critical s p k e ts ckpt ≤ e.budget)
    (h6 : ∀ t ∈ ts, stepTime k g (voiceOf s t.voice) (min p.rowCount ts.length) ≤ 5000)
    (h7 : ∀ e ∈ l.lcOf g, trafficOk s k p e ts = true)
    (h8 : ∀ e ∈ l.lcOf g, 2 * jumpCycles s k e ts ≤ 28000 + e.budget)
    (h9 : ∀ t ∈ ts, firstAudio s p l g t.maxPrompt (firstWrite k g p ((l.lcOf g).any (·.lead == 0)) (voiceOf s t.voice)
      (min p.rowCount ts.length)) ≤ 4000000) : entryChecks s k p l g ts ckpt = none := by
  unfold entryChecks
  extract_lets es
  rw [show l.lcOf g = es from rfl] at h5 h7 h8 h9
  rw [if_neg (by simpa using h5), if_neg (by simpa using fun t ht _ => h6 t ht), if_neg (by simpa using h7),
    if_neg (by simpa using h8), if_neg (by simpa using h9)]

theorem admit213_none {floor : Nat} (ha : p.active = some l) (hne : l.lcOf g ≠ [])
    (hmax : ∀ e ∈ l.lcOf g, ts.length ≤ e.maxStreams) (hpin : ∀ t ∈ ts, voicePinned s k t.voice = true)
    (hes : entryChecks s k p l g ts ((tabGet {} p.ckpts g).periodK ≠ 0) = none) (hf : floor ≤ s.clk.capW.toNat) :
    admit213 s k p g ts floor true = none := by
  unfold admit213
  rw [ha]
  dsimp only
  change (if (l.lcOf g).isEmpty || (l.lcOf g).any _ then _ else _) = _
  rw [if_neg (by simpa [hne] using hmax), if_neg (by simpa using hpin), if_neg (by decide), hes]
  exact if_neg (by omega)

theorem placedPath_le (k g n : Nat) : placedPath k g n ≤ n := Nat.min_le_left ..

/-- Cycles of a role over the batches of a group's streams. -/
def rolePath (s : State) (p : Partition) (e : LEntry) (ts : List Stream) (role : Nat) : Nat :=
  sumN ((batches p.rowCount ts).map fun b =>
    let v := voiceOf s b.1
    let c := stepPath v role b.2 e.steps (fun _ => true) + prefillPath v role b.2 p.chunkMax
    if c = 0 then 0 else c + overhead p c)

theorem critical_le (s : State) (p : Partition) (k : Nat) (e : LEntry) (ts : List Stream) :
    critical s p k e ts false ≤ maxN ([0, 2, 3].map (rolePath s p e ts)) + Config.transferCycles k e.group :=
  placedPath_le ..

end

theorem le_sumN {n : Nat} {l : List Nat} (h : n ∈ l) : n ≤ sumN l := by
  induction l with
  | nil => exact nomatch h
  | cons x r ih =>
    unfold sumN
    rcases List.mem_cons.mp h with rfl | hr
    · omega
    · have := ih hr
      omega

/-- A partition whose share of each resource is a multiple of what an occurrence moves over it has room for that. -/
theorem trafficOk_of_share {s : State} {k : Nat} {p : Partition} {e : LEntry} {ts : List Stream} (hb : 0 < e.budget)
    (h : ∀ r ∈ resources, 0 < capacity s r ∧
      1024000 * (Config.resourceBytes r e.steps p.chunkMax (ts.map fun t => (t.voice, t.kvPositions)) +
        Config.stagingBytes r e.steps p.chunkMax (ts.map fun t => (t.voice, t.kvPositions))) ≤ shareOf s r k) :
    trafficOk s k p e ts = true := by
  unfold trafficOk
  dsimp only
  refine List.all_eq_true.mpr fun r hr => ?_
  obtain ⟨hc, hs⟩ := h r hr
  have hroom (ns : Nat) (hns : 0 < ns) : shareOf s r k ≤ capacity s r * shareOf s r k * ns :=
    (Nat.le_mul_of_pos_left _ hc).trans (Nat.le_mul_of_pos_right _ hns)
  have h1 := hroom e.budget hb
  have h2 := hroom 988 (by decide)
  simp only [Bool.and_eq_true, decide_eq_true_eq]
  constructor <;> omega

theorem firstWrite_le (k g rows : Nat) (p : Partition) (lead0 : Bool) (v : Voice) :
    firstWrite k g p lead0 v rows ≤
      kernelDuration (sumN ([0, 2, 3].map fun role => prefillPath v role rows p.chunkMax)) +
        oneStep v rows (fun _ => true) + oneStep v rows fun o => o.dec == 1 := by
  unfold firstWrite
  dsimp only
  split
  · refine (placedPath_le ..).trans ?_
    split <;> omega
  · exact (placedPath_le ..).trans (Nat.le_add_left ..)

theorem firstAudio_add (s : State) (p : Partition) (l : Lattice) (g prompt w : Nat) :
    firstAudio s p l g prompt w = firstAudio s p l g prompt 0 + w := rfl

/-! ### STREAM_OPEN of an admitted stream (R213, R292) -/

/-- The role entries of STREAM_OPEN. -/
def Cmd.roles (c : Cmd) : List Nat := [c.f 16 4, c.f 20 4, c.f 24 4, c.f 28 4]

/-- The packet of STREAM_OPEN breaks no rule of its own: reserved bytes, and a source key only where a context is
awaited (R292). -/
def openForm (c : Cmd) : Bool :=
  !(!c.only [(16, 28), (48, 32)] || decide (1 < c.f 33 1) || (!bitAt (c.f 33 1) 0 && !allZero (slice c.packet 48 32)))

/-- The status of the first role entry whose handle fails its checks. -/
def rolesCheck (s : State) (c : Cmd) : Option Nat :=
  (c.roles.filter (· ≠ 0)).findSome? fun h => checkModel s c.fn c.partition h

/-- What admission answers to STREAM_OPEN (R213). -/
def openAdmits (s : State) (c : Cmd) : Option Nat :=
  admit213 s c.partition (s.part c.partition) (c.f 34 2)
    ((lcMembers s c.partition (c.f 34 2)).map s.stream ++ [newStream s c c.roles])
    (lcFloor s (some (c.partition, c.f 34 2, c.roles))) true

/-- STREAM_OPEN of a latency-critical stream whose checks have passed. -/
def openCritical (s : State) (c : Cmd) : State :=
  if openAdmits s c == some 1 || openAdmits s c == some 2 then
    finish s c.cid stAdmissionRefused ((openAdmits s c).getD 0) 0
  else match openAlloc s c (newStream s c c.roles) with
  | none => finish s c.cid stNoResource 4 0
  | some (s1, i) =>
    match openAdmits s c with
    | some n => finish s c.cid stAdmissionRefused n 0
    | none => finish s1 c.cid stOk 0 (s1.streamHandle i)

section
variable {s : State} {c : Cmd}

theorem streamOpenEff_critical (h : openForm c = true) (hr : rolesCheck s c = none) (hv : voiceOk s c.roles = true)
    (hk : kvPositionsOk (voiceOf s c.roles) (c.f 40 4) = true) (hc : c.f 32 1 = 1)
    (hg : groupClassOk s c.partition 1 (c.f 34 2) = true) : streamOpenEff c s = openCritical s c := by
  refine (if_neg (ne_true_of_eq_false ((Bool.not_eq_true' _).mp h))).trans ?_
  change (match rolesCheck s c with | some st => _ | none => _) = _
  rw [hr]
  have hvk : ¬ (!voiceOk s c.roles || !kvPositionsOk (voiceOf s c.roles) (c.f 40 4)) = true := by simp [hv, hk]
  have hclass : ¬ (!groupClassOk s c.partition (c.f 32 1) (c.f 34 2)) = true := by simp [hc, hg]
  exact ((if_neg hvk).trans (if_neg hclass)).trans (if_pos (beq_iff_eq.mpr hc))

theorem openCritical_admitted {u : State} {i : Nat} (ha : openAdmits s c = none)
    (hu : openAlloc s c (newStream s c c.roles) = some (u, i)) :
    openCritical s c = finish u c.cid stOk 0 (u.streamHandle i) := by
  unfold openCritical
  rw [ha, hu]
  rfl

end

end Sys2Proof.Machine
end

section
/-! A STREAM_OPEN that its own eviction completes: the counterexample to O50. The state slots of the only stream fill
the partition's state stores, so that STREAM_OPEN moves them to the geode (R161, R163); the geode is full of a model
copy, which is evicted, and completes the commands that wait for it (R242). A canonical state may list the STREAM_OPEN itself
among those: it then completes with RESULT 0, and not with the handle of the stream that it makes. -/

-- These proofs wait on the same definitions: they are elaborated in order.
set_option Elab.async false

namespace Sys2Proof.Machine

/-! ### The state -/

namespace SelfEviction

/-- An image of one CONVERT whose output edge feeds back, so that its streams carry 8 bytes (R93). -/
def image : Bytes :=
  toLE 4 0x554D4431 ++ [1, 0, 0, 0] ++ toLE 8 400 ++ toLE 4 5 ++ toLE 4 1 ++ toLE 4 2 ++ zeros 56 ++ toLE 4 1 ++
  toLE 4 48000 ++ zeros 36 ++
  (toLE 8 1 ++ toLE 8 256 ++ toLE 8 64) ++ (toLE 8 2 ++ toLE 8 320 ++ toLE 8 64) ++
  (toLE 8 3 ++ toLE 8 384 ++ toLE 8 0) ++ (toLE 8 4 ++ toLE 8 384 ++ toLE 8 0) ++
  (toLE 8 5 ++ toLE 8 384 ++ toLE 8 16) ++ zeros 8 ++
  (toLE 4 0x0A ++ toLE 4 1 ++ toLE 2 1 ++ toLE 2 1 ++ toLE 2 0 ++ toLE 2 2 ++ toLE 4 none32 ++ zeros 28 ++
    toLE 4 0 ++ toLE 4 1 ++ toLE 4 0 ++ toLE 4 15) ++
  ([2, 15, 0, 0] ++ toLE 4 1 ++ toLE 2 0 ++ toLE 2 1 ++ toLE 4 none32 ++ toLE 4 none32 ++ toLE 4 0 ++ zeros 8) ++
  ([2, 15, 0, 8] ++ toLE 4 1 ++ toLE 2 0 ++ toLE 2 1 ++ toLE 4 0 ++ toLE 4 none32 ++ toLE 4 0 ++ zeros 8) ++
  (toLE 4 0 ++ toLE 4 64 ++ toLE 4 64 ++ toLE 4 64)

/-- The handle of registration 0 of partition 1. -/
def base : Nat := 2 ^ 16 + 2 ^ 23

/-- STREAM_OPEN of a latency-critical stream of that model in group 1, accepted as command 3, with COMPLETION set. -/
def packet : Cmd :=
  { cid := 3, fn := 0, ring := 0, cq := 0, accepted := 2
    packet := toLE 1 0x30 ++ toLE 1 2 ++ toLE 2 5 ++ toLE 2 7 ++ toLE 2 1 ++ toLE 4 0 ++ toLE 4 9 ++ toLE 4 base ++
      zeros 12 ++ [1, 0] ++ toLE 2 1 ++ zeros 44 }

/-- The entry of group 1: one step at every tick, within a budget. -/
def entry (budget : Nat) : LEntry := ⟨0, true, 0, budget, 1, 1, 1⟩

/-- The table of the partition: group 1 at every tick. -/
def table (budget : Nat) : Lattice :=
  { frameSync := false, port := 0, periodN := 1, entries := [entry budget] }

/-- Partition 1 has prism 1, and the model pinned and placed. -/
def part (budget : Nat) : Partition :=
  { valid := true, prisms := 2, ticking := true, t0 := [{ identity := [8], placed := true }]
    active := some (table budget) }

/-- The best-effort stream 0 fills the state stores, and a copy for which command 3 waits the geode. -/
def device (budget : Nat) (share : Nat → Nat) : State :=
  { mode := .ready
    ident := { cycleCount := 10000000 }
    pcie := { width := 16, rate := 5 }
    rings := [(0, { sqEnable := true, cqEnable := true })]
    parts := [(1, part budget)]
    models := [(0, { part := 1, identity := [8], pinT0 := true })]
    t2 := [{ identity := [8], image := image }]
    t1 := [{ identity := [9], bytes := Config.t1Bytes, waiters := [3] }]
    streams := [(0, { part := 1, voice := [base, 0, 0, 0],
                      seats := (upTo 16).map fun f => ⟨16 + f, 0, Config.stateStoreBytes⟩ })]
    share := resources.map fun r => ⟨r, 1, share r⟩
    cmds := [packet]
    nextCid := 4 }

/-- What the new stream moves over a resource in an occurrence, with what stages its first kernel (log 11). -/
def traffic (r : Nat) : Nat :=
  Config.resourceBytes r 1 (part 0).chunkMax [([base, 0, 0, 0], 0)] +
  Config.stagingBytes r 1 (part 0).chunkMax [([base, 0, 0, 0], 0)]

/-- The budget is longer than the critical path, and the shares leave room for what an occurrence moves. -/
@[irreducible] def budget : Nat := 10000 + Config.transferCycles 1 1

def state : State := device budget fun r => 1024000 * traffic r

/-- The state in which the command acts. -/
def begun : State := begin' state 3

/-- The stream that STREAM_OPEN makes, before its state slots. -/
def stream : Stream := newStream begun packet packet.roles

theorem state_canon : state.Canon where
  funcs := rfl
  rings := by decide +kernel
  parts := by decide +kernel
  prisms := rfl
  facets := rfl
  streams := by decide +kernel
  streamGens := rfl
  models := by decide +kernel
  modelGens := rfl
  ports := rfl
  ranges := rfl
  hostBase := rfl
  classes := rfl
  ftqs := rfl
  mem := rfl
  poison := rfl
  hostMem := rfl
  hostPoison := rfl
  hostBroken := rfl
  cids := by decide +kernel

theorem packet_ready : Ready state 3 0x30 packet := by decide +kernel

theorem packet_form : openForm packet = true ∧ packet.only [(16, 28), (48, 32)] = true ∧ packet.f 33 1 ≤ 1 ∧
    allZero (slice packet.packet 48 32) = true := by
  decide +kernel

theorem roles_pass : rolesCheck state packet = none ∧
    ∀ h ∈ packet.roles, h ≠ 0 → checkModel state packet.fn packet.partition h = none := by
  decide +kernel

theorem voice_passes : voiceOk state packet.roles = true ∧
    kvPositionsOk (voiceOf state packet.roles) (packet.f 40 4) = true ∧ packet.f 32 1 = 1 ∧
    groupClassOk state packet.partition 1 (packet.f 34 2) = true := by
  decide +kernel

theorem paths_within : maxN ([0, 2, 3].map (rolePath begun (part budget) (entry budget) [stream])) ≤ 10000 := by
  decide +kernel

theorem budget_eq : budget = 10000 + Config.transferCycles 1 1 := by
  unfold budget
  rfl

theorem critical_within : critical begun (part budget) 1 (entry budget) [stream] false ≤ budget :=
  (critical_le ..).trans ((Nat.add_le_add_right paths_within _).trans_eq budget_eq.symm)

theorem budget_pos : 0 < budget := by
  rw [budget_eq]
  omega

theorem traffic_within : trafficOk begun 1 (part budget) (entry budget) [stream] = true := by
  have hcap : ∀ r ∈ resources, 0 < capacity begun r := by decide +kernel
  refine trafficOk_of_share (e := entry budget) budget_pos fun r hr => ⟨hcap r hr, le_sumN ?_⟩
  have hmem : (⟨r, 1, 1024000 * traffic r⟩ : ShareEntry) ∈ begun.share := List.mem_map_of_mem hr
  exact List.mem_map.mpr ⟨_, List.mem_filter.mpr ⟨hmem, by simp⟩, rfl⟩

theorem jumps_within : jumpCycles begun 1 (entry budget) [stream] ≤ 14000 := by decide +kernel

theorem step_within : oneStep (voiceOf begun stream.voice) 1 (·.inLoop) ≤ 5000 := by decide +kernel

theorem audio_within : firstAudio begun (part budget) (table budget) 1 stream.maxPrompt
    (firstWrite 1 1 (part budget) (((table budget).lcOf 1).any (·.lead == 0)) (voiceOf begun stream.voice) 1) ≤
      4000000 := by
  have hbase : firstAudio begun (part budget) (table budget) 1 stream.maxPrompt 0 ≤ 1000000 := by decide +kernel
  have hw := (firstWrite_le 1 1 1 (part budget) (((table budget).lcOf 1).any (·.lead == 0))
    (voiceOf begun stream.voice)).trans (show _ ≤ 3000000 by decide +kernel)
  rw [firstAudio_add]
  exact Nat.add_le_add hbase hw

theorem floor_within : lcFloor begun (some (1, 1, packet.roles)) ≤ 650 := by decide +kernel

theorem pinned : voicePinned begun 1 stream.voice = true := by decide +kernel

theorem packet_group : packet.f 34 2 = 1 := by decide +kernel

theorem admits : openAdmits begun packet = none := by
  have he : ∀ e ∈ (table budget).lcOf 1, e = entry budget := fun e h =>
    List.mem_singleton.mp (List.mem_filter.mp h).1
  have ht : ∀ t ∈ [stream], t = stream := fun t => List.mem_singleton.mp
  unfold openAdmits
  rw [packet_group]
  change admit213 begun 1 (part budget) 1 [stream] (lcFloor begun (some (1, 1, packet.roles))) true = none
  refine admit213_none rfl (by decide +kernel) (fun e h => ?_) (fun t h => ?_) (entryChecks_none (fun e h => ?_)
    (fun t h => ?_) (fun e h => ?_) (fun e h => ?_) fun t h => ?_) floor_within
  · rw [he e h]
    decide
  · rw [ht t h]
    exact pinned
  · rw [he e h]
    exact critical_within
  · rw [ht t h]
    exact (placedPath_le ..).trans step_within
  · rw [he e h]
    exact traffic_within
  · rw [he e h]
    have := jumps_within
    omega
  · rw [ht t h]
    exact audio_within

/-- The eviction completes the command itself, with RESULT 0, before the stream is made. -/
theorem evicts : ∃ u j, openAlloc begun packet stream = some (u, j) ∧ u.cmd 3 = none ∧
    (∀ e ∈ (u.ring 0 0).coalescer, e.result = 0) ∧ u.streamHandle j % 2 ^ 64 ≠ 0 := by
  have h : (openAlloc begun packet stream).any (fun q => (q.1.cmd 3).isNone &&
      (q.1.ring 0 0).coalescer.all (fun e => e.result == 0) && q.1.streamHandle q.2 % 2 ^ 64 != 0) = true := by
    decide +kernel
  obtain ⟨⟨u, j⟩, hu, hq⟩ := (Option.any_eq_true ..).mp h
  simp only [Bool.and_eq_true, Option.isNone_iff_eq_none, List.all_eq_true, beq_iff_eq, bne_iff_ne] at hq
  obtain ⟨⟨hcmd, hres⟩, hne⟩ := hq
  exact ⟨u, j, hu, hcmd, hres, hne⟩

/-- The row makes the stream, and has nothing left to complete. -/
theorem opens {u : State} {j : Nat} (hu : openAlloc begun packet stream = some (u, j)) (hc : u.cmd 3 = none) :
    exec (.streamOpen 3) state = .next (settle u) := by
  obtain ⟨hvoice, hkv, hclass, hgroup⟩ := voice_passes
  have hact : streamOpenEff packet begun = finish u packet.cid stOk 0 (u.streamHandle j) := by
    rw [streamOpenEff_critical (s := begun) packet_form.1 roles_pass.1 hvoice hkv hclass hgroup]
    exact openCritical_admitted admits hu
  have hdone : finish u packet.cid stOk 0 (u.streamHandle j) = u := by
    unfold finish
    rw [show u.cmd packet.cid = none from hc]
  exact (onCmd_ready packet_ready streamOpenEff).trans
    (congrArg (fun x => Host.Outcome.next (settle x)) (hact.trans hdone))

end SelfEviction

open SelfEviction in
/-- Refutes O50: a STREAM_OPEN of a latency-critical stream makes room by an eviction that completes the STREAM_OPEN
itself, with RESULT 0 in place of the handle. -/
theorem not_streamsOpenAndClose : ¬ Obligations.StreamsOpenAndClose := by
  intro h
  obtain ⟨u, j, hu, hcmd, hres, hne⟩ := evicts
  obtain ⟨-, honly, hflag, hkey⟩ := packet_form
  obtain ⟨hvoice, hkv, hclass, hgroup⟩ := voice_passes
  obtain ⟨-, hopen, -⟩ := h state 3 packet 0 packet.partition state_canon rfl _ rfl
  obtain ⟨-, -, hchecked⟩ := hopen _ _ _ _ packet_ready rfl rfl rfl Iff.rfl
  obtain ⟨-, hvoices⟩ := hchecked ⟨honly, hflag, fun _ => hkey⟩ roles_pass.2
  obtain ⟨-, hlc⟩ := hvoices hvoice hkv
  obtain ⟨-, -, hmade⟩ := hlc _ hgroup hclass rfl
  obtain ⟨t, ht, -, -, -, -, hcompleted⟩ := hmade u j admits hu
  obtain rfl : settle u = t := Host.Outcome.next.inj ((opens hu hcmd).symm.trans ht)
  obtain ⟨-, -, hposts⟩ := hcompleted
  obtain ⟨e, he, -, -, -, -, -, -, hresult⟩ := hposts (by decide +kernel) rfl (by decide +kernel)
  exact hne (hresult.symm.trans (hres e he))

end Sys2Proof.Machine
end

section
/-! The checks of a RUN and its queueing (O53). -/

-- These proofs wait on the same definitions: they are elaborated in order.
set_option Elab.async false

namespace Sys2Proof.Machine

/-! ### Reads without poison (R352, R358) -/

/-- The state after reads that met no poison: requests have left to the host, and corrected errors are counted. -/
def ReadsLeave (s t : State) : Prop :=
  ∃ sent ce ch cause, t = { s with sent, memc := { s.memc with ceCount := ce, chCe := ch, cause } }

namespace ReadsLeave

variable {s t u : State}

theorem refl (s : State) : ReadsLeave s s := ⟨_, _, _, _, rfl⟩

theorem trans (h : ReadsLeave s t) (k : ReadsLeave t u) : ReadsLeave s u := by
  obtain ⟨_, _, _, _, rfl⟩ := h
  obtain ⟨_, _, _, _, rfl⟩ := k
  exact ⟨_, _, _, _, rfl⟩

theorem evolves (h : ReadsLeave s t) : Evolves 8796093022336 s t := by
  obtain ⟨x, ce, ch, cause, rfl⟩ := h
  exact .step (upd_sent_ev ..) <| .step (upd_memcQ_ev s { s.memc with ceCount := ce, chCe := ch, cause }) <| .refl ..

theorem foldl {α : Type} {f : State → α → State} {l : List α} (hf : ∀ x ∈ l, ∀ t, ReadsLeave t (f t x)) :
    ReadsLeave s (l.foldl f s) := by
  induction l generalizing s with
  | nil => exact .refl s
  | cons x l ih =>
    exact (hf x List.mem_cons_self s).trans (ih fun y hy => hf y (List.mem_cons_of_mem _ hy))

end ReadsLeave

theorem lpReadEff_leaves {s : State} {a n : Nat} (h : lpPoison s a n = false) : ReadsLeave s (lpReadEff s a n) := by
  have hone : ∀ q ∈ flipsIn s a n, q.2 = 1 := by
    intro q hq
    by_cases he : s.memc.inlineEcc = true
    · simp only [lpPoison, he, Bool.true_and, Bool.or_eq_false_iff, List.any_eq_false] at h
      simpa using h.2 q hq
    · simp [flipsIn, he] at hq
  refine ReadsLeave.foldl fun q hq t => ?_
  rw [if_pos (hone q hq)]
  exact ⟨_, _, _, _, rfl⟩

theorem hostReadEff_leaves {s : State} {f a n : Nat} (h : anyPoison s.hostPoison a n = false) :
    ReadsLeave s (hostReadEff s f a n) := by
  have : hostReadEff s f a n = _ := if_neg (ne_true_of_eq_false h)
  rw [this]
  exact ⟨_, _, _, _, rfl⟩

theorem addrReadEff_leaves {s : State} {f v n : Nat} {b : Bytes} (hm : OnMap s v n) (h : addrRead s v n = (b, false)) :
    ReadsLeave s (addrReadEff s f v n) := by
  unfold addrRead at h
  unfold addrReadEff
  by_cases h0 : addrSpace v = 0
  · rw [if_pos h0] at h ⊢
    exact hostReadEff_leaves (congrArg Prod.snd h)
  · rw [if_neg h0] at h ⊢
    have hm := hm.resolve_left h0
    unfold localRead at h
    unfold localReadEff
    revert h hm
    cases regionOf s (v % 2 ^ 42) with
    | lpddr =>
      intro h hm
      have hle := of_decide_eq_true hm
      dsimp only at h ⊢
      rw [if_pos hle] at h ⊢
      exact lpReadEff_leaves (congrArg Prod.snd h)
    | host g off => exact fun h _ => hostReadEff_leaves (congrArg Prod.snd h)
    | geode => exact fun _ hm => nomatch hm
    | registers => exact fun _ hm => nomatch hm
    | absent => exact fun _ hm => nomatch hm

/-- Such reads change no later read. -/
theorem ReadsLeave.plainRead {s t : State} (h : ReadsLeave s t) {f v n : Nat} {b : Bytes} (k : PlainRead s f v n b) :
    PlainRead t f v n b := by
  obtain ⟨_, _, _, _, rfl⟩ := h
  exact k

/-- A structure that lies on this device or the host is read at once (R276). -/
theorem withStruct_plain {s : State} {c : Cmd} {v n : Nat} {b : Bytes} (h : PlainRead s c.fn v n b) :
    ∃ u, ReadsLeave s u ∧ ∀ k, withStruct s c v n false k = k u b := by
  obtain ⟨hv, hn, hl, hr, hm, hb⟩ := h
  exact ⟨_, addrReadEff_leaves (f := c.fn) hm hb, fun k => by simp [withStruct, hv, hn, hl, hr, hb]⟩

/-! ### The index data of a RUN (R87) -/

section
variable {s t : State} {c : Cmd} {v : Voice} {ds : List InDesc}

/-- The index data of a descriptor and a member, where the voice has the input, lie on this device or the host, and no
index of theirs is out of range. -/
def IndexPasses (s : State) (c : Cmd) (v : Voice) (q : InDesc × Nat) (j : Nat) : Prop :=
  ∀ e, (voiceInputs v).find? (fun x => x.1 == q.2) = some e → ∃ b, IndexRead s c v q j e b ∧ indexesOk v q e b = true

/-- The indices that a read of index data finds, step by step. -/
def indices (q : InDesc × Nat) (e : EdgeRec) (b : Bytes) : List Int :=
  (upTo q.1.positions).flatMap fun t => (upTo e.rowsF).flatMap fun f => (upTo e.elements).map fun ch =>
    (rd b (4 * elemOffset e q.1.positions f t ch) 4 : Int)

theorem outOfRange_eq (v : Voice) (q : InDesc × Nat) (e : Nat × EdgeRec) (b : Bytes) :
    ((embedLimit v q.2).any fun lim => (indices q e.2 b).any fun x => decide ((lim : Int) ≤ x)) =
      !indexesOk v q e b := by
  unfold indexesOk indices
  cases embedLimit v q.2 with
  | none => rfl
  | some lim => simp [List.any_flatMap, List.not_all_eq_any_not, Function.comp_def, ← decide_not]

theorem readIndices_pass {q : InDesc × Nat} {j : Nat} (hq : ds.getD q.2 {} = q.1) (ht : ReadsLeave s t)
    (h : IndexPasses s c v q j) (fin : State → List (Nat × Nat × List Int) → State) (r : List (Nat × Nat))
    (acc : List (Nat × Nat × List Int)) :
    ∃ u acc', ReadsLeave s u ∧ readIndices t c v ds fin ((q.2, j) :: r) acc = readIndices u c v ds fin r acc' := by
  rw [readIndices]
  dsimp only
  split
  · exact ⟨t, acc, ht, rfl⟩
  · next e he =>
    obtain ⟨b, ⟨-, hread⟩, hok⟩ := h e he
    obtain ⟨u, hu, hk⟩ := withStruct_plain (ht.plainRead hread)
    have hin := outOfRange_eq v q e b
    rw [hok] at hin
    rw [hq, hk]
    exact ⟨u, _, ht.trans hu, if_neg (ne_true_of_eq_false hin)⟩

theorem readIndices_passes {l : List ((InDesc × Nat) × Nat)} (hl : ∀ x ∈ l, ds.getD x.1.2 {} = x.1.1)
    (h : ∀ x ∈ l, IndexPasses s c v x.1 x.2) (fin : State → List (Nat × Nat × List Int) → State)
    (r : List (Nat × Nat)) (ht : ReadsLeave s t) (acc : List (Nat × Nat × List Int)) :
    ∃ u acc', ReadsLeave s u ∧
      readIndices t c v ds fin (l.map (fun x => (x.1.2, x.2)) ++ r) acc = readIndices u c v ds fin r acc' := by
  induction l generalizing t acc with
  | nil => exact ⟨t, acc, ht, rfl⟩
  | cons x l ih =>
    obtain ⟨w, acc1, hw, he⟩ := readIndices_pass (hl x List.mem_cons_self) ht (h x List.mem_cons_self) fin
      (l.map (fun x => (x.1.2, x.2)) ++ r) acc
    obtain ⟨u, acc2, hu, he'⟩ := ih (fun y hy => hl y (List.mem_cons_of_mem _ hy))
      (fun y hy => h y (List.mem_cons_of_mem _ hy)) hw acc1
    exact ⟨u, acc2, hu, he.trans he'⟩

theorem readIndices_fail {q : InDesc × Nat} {j : Nat} {e : Nat × EdgeRec} {b : Bytes} (hq : ds.getD q.2 {} = q.1)
    (ht : ReadsLeave s t) (h : IndexRead s c v q j e b) (hbad : indexesOk v q e b = false)
    (fin : State → List (Nat × Nat × List Int) → State) (r : List (Nat × Nat)) (acc : List (Nat × Nat × List Int)) :
    ∃ u, ReadsLeave s u ∧
      readIndices t c v ds fin ((q.2, j) :: r) acc = finish u c.cid stInvalidParameter j 0 := by
  obtain ⟨he, hread⟩ := h
  obtain ⟨u, hu, hk⟩ := withStruct_plain (ht.plainRead hread)
  have hout := outOfRange_eq v q e b
  rw [hbad] at hout
  rw [readIndices, he]
  dsimp only
  rw [hq, hk]
  exact ⟨u, ht.trans hu, if_pos hout⟩

end

end Sys2Proof.Machine
end

section
/-! RUN: what refuses it and what queues it (O53). -/

-- These proofs wait on the same definitions: they are elaborated in order.
set_option Elab.async false

namespace Sys2Proof.Machine

section
variable {s : State} {cid : Nat} {c : Cmd} {dt mt bt : Bytes}

/-! ### The row of RUN (R259, R299) -/

theorem execRun_wanting (h : Ready s cid 0x34 c) (hw : c.wanting ≠ 0) : exec (.run cid) s = .next (settle s) := by
  have he : runEff c s = s := if_pos hw
  change execRun cid s = _
  unfold execRun
  rw [h.1]
  dsimp only
  rw [he, ite_self]
  rfl

/-- A RUN that fails a check completes after the RUNs of its streams before it. -/
theorem execRun_refused {u : State} {st d res : Nat} (h : Ready s cid 0x34 c) (hu : ReadsLeave s u)
    (he : runEff c s = finish u c.cid st d res) :
    (behindRun s c = false → ∃ t, exec (.run cid) s = .next t ∧ t.streams = s.streams ∧ Completed s t c st d res) ∧
    (behindRun s c = true → exec (.run cid) s = .next (settle s)) := by
  have hcid := State.cmd_cid h.1
  have hrow : exec (.run cid) s = if !behindRun s c then done (finish u c.cid st d res) else done s := by
    change execRun cid s = _
    unfold execRun
    rw [h.1]
    dsimp only
    rw [he, h.2, ← hcid, cmd_finish_self]
    simp
  rw [hrow]
  refine ⟨fun hb => ⟨settle (finish u c.cid st d res), by rw [hb]; rfl, ?_, ?_⟩, fun hb => by rw [hb]; rfl⟩
  · obtain ⟨_, _, _, _, rfl⟩ := hu
    simp
  · have hcmd : u.cmd c.cid = some c := (hu.evolves.cmd (hA := by decide) _).trans (hcid ▸ h.1)
    exact ((finish_completed hcmd st d res).mono (settle_ev _)).after hu.evolves

/-- A RUN that passes its checks is queued (R299). -/
theorem execRun_accepted {u : State} (h : Ready s cid 0x34 c) (he : runEff c s = u) (hc : u.cmd cid ≠ none) :
    exec (.run cid) s = .next (settle u) := by
  change execRun cid s = _
  unfold execRun
  rw [h.1]
  dsimp only
  rw [he, h.2, Option.isNone_eq_false_iff.mpr (Option.isSome_iff_ne_none.mpr hc)]
  simp [done]

/-! ### The tables of a RUN (R276, R299) -/

theorem runTable_of_tableIs {v n : Nat} {snap b : Bytes} (h : TableIs s c v n snap b) (k : State → Bytes → State) :
    runTable s c v n snap k = k s b := by
  unfold runTable
  rcases h with ⟨h0, rfl⟩ | ⟨hv, hn, hvalid, hname, hlocal, rfl⟩
  · rw [if_pos (by simpa using h0)]
  · simp [hv, hn, hvalid, hname, hlocal]

theorem runEff_badFields (hw : c.wanting = 0) (hf : runFieldsOk c = false) :
    runEff c s = finish s c.cid stInvalidParameter 0 0 := by
  unfold runEff
  rw [if_neg (not_not_intro hw), if_pos (by simp [hf])]
  rfl

theorem runEff_tables (hw : c.wanting = 0) (hf : runFieldsOk c = true)
    (hdt : TableIs s c (c.f 32 8) (32 * c.f 24 1) c.descTable dt)
    (hmt : TableIs s c (c.f 40 8) (4 * c.f 22 2) c.memberList mt)
    (hbt : TableIs s c (c.f 48 8) (bitmapBytes (c.f 22 2) (c.f 16 4)) c.bitmap bt) :
    runEff c s = runChecks c dt mt bt s := by
  unfold runEff
  rw [if_neg (not_not_intro hw), if_neg (by simp [hf]), runTable_of_tableIs hdt, runTable_of_tableIs hmt,
    runTable_of_tableIs hbt]

/-! ### The checks of a RUN (R299, R300) -/

/-- The handles that a RUN names: its OBJECT alone, or its member list. -/
def runHandles (c : Cmd) (mt : Bytes) : List Nat := if c.f 40 8 = 0 then [c.object] else (chunks 4 mt).map leNat

/-- The voice of the first member of a RUN. -/
def headVoice (s : State) (hs : List Nat) : Voice := voiceOf s (s.stream ((hs.map streamIndex).headD 0)).voice

/-- The descriptors of a table. -/
def descsOf (dt : Bytes) : List InDesc := (chunks 32 dt).map parseDesc

/-- The descriptors of whole-edge index data, each with its RUN input. -/
def wholeDescs (ds : List InDesc) : List (InDesc × Nat) :=
  (ds.zip (upTo ds.length)).filter fun q => q.1.format == 3 && decide (0 < q.1.positions)

theorem runChecks_readStatus (h : c.readStatus ≠ 0) :
    runChecks c dt mt bt s = finish s c.cid c.readStatus 0 0 := if_pos h

theorem runChecks_notHead (hr : c.readStatus = 0) (h : (runHandles c mt).headD 0 ≠ c.object) :
    runChecks c dt mt bt s = finish s c.cid stInvalidParameter 0 0 :=
  (if_neg (not_not_intro hr)).trans (if_pos h)

/-- The checks from the members on. -/
def memberChecks (c : Cmd) (dt mt bt : Bytes) (s : State) : State :=
  match membersCheck s c (runHandles c mt) [] 0 with
  | some (st, d, res) => finish s c.cid st d res
  | none =>
    match badInline c, (bitmapCodes (c.f 16 4) bt).find? (fun x => x.2.2 == 2) with
    | some m, _ => finish s c.cid stInvalidParameter m 0
    | none, some x => finish s c.cid stInvalidParameter x.1 0
    | none, none =>
      match descsCheck s c (headVoice s (runHandles c mt)) ((runHandles c mt).map streamIndex) (chunks 32 dt)
        (descsOf dt) with
      | some d => finish s c.cid stInvalidParameter d 0
      | none =>
        readIndices s c (headVoice s (runHandles c mt)) (descsOf dt)
          (fun s1 idx => acceptRun c ((runHandles c mt).map streamIndex)
            (inlineMarks c ++ bitmapMarks (bitmapCodes (c.f 16 4) bt)) (descsOf dt) idx s1)
          ((wholeDescs (descsOf dt)).flatMap fun q =>
            (upTo ((runHandles c mt).map streamIndex).length).map fun j => (q.2, j)) []

theorem runChecks_members (hr : c.readStatus = 0) (h : (runHandles c mt).headD 0 = c.object) :
    runChecks c dt mt bt s = memberChecks c dt mt bt s :=
  (if_neg (not_not_intro hr)).trans (if_neg (not_not_intro h))

theorem memberChecks_refused {st d res : Nat} (h : membersCheck s c (runHandles c mt) [] 0 = some (st, d, res)) :
    memberChecks c dt mt bt s = finish s c.cid st d res := by
  unfold memberChecks
  rw [h]

theorem memberChecks_badInline {m : Nat} (hm : membersCheck s c (runHandles c mt) [] 0 = none)
    (h : badInline c = some m) : memberChecks c dt mt bt s = finish s c.cid stInvalidParameter m 0 := by
  unfold memberChecks
  rw [hm, h]

theorem memberChecks_badBitmap {x : Nat × Nat × Nat} (hm : membersCheck s c (runHandles c mt) [] 0 = none)
    (hi : badInline c = none) (h : (bitmapCodes (c.f 16 4) bt).find? (fun x => x.2.2 == 2) = some x) :
    memberChecks c dt mt bt s = finish s c.cid stInvalidParameter x.1 0 := by
  unfold memberChecks
  rw [hm, hi, h]

theorem memberChecks_badDesc {d : Nat} (hm : membersCheck s c (runHandles c mt) [] 0 = none)
    (hi : badInline c = none) (hb : ∀ x ∈ bitmapCodes (c.f 16 4) bt, x.2.2 ≠ 2)
    (h : descsCheck s c (headVoice s (runHandles c mt)) ((runHandles c mt).map streamIndex) (chunks 32 dt)
      (descsOf dt) = some d) :
    memberChecks c dt mt bt s = finish s c.cid stInvalidParameter d 0 := by
  unfold memberChecks
  rw [hm, hi, List.find?_eq_none.mpr (by simpa using hb)]
  dsimp only
  rw [h]

theorem memberChecks_indices (hm : membersCheck s c (runHandles c mt) [] 0 = none)
    (hi : badInline c = none) (hb : ∀ x ∈ bitmapCodes (c.f 16 4) bt, x.2.2 ≠ 2)
    (h : descsCheck s c (headVoice s (runHandles c mt)) ((runHandles c mt).map streamIndex) (chunks 32 dt)
      (descsOf dt) = none) :
    memberChecks c dt mt bt s = readIndices s c (headVoice s (runHandles c mt)) (descsOf dt)
      (fun s1 idx => acceptRun c ((runHandles c mt).map streamIndex)
        (inlineMarks c ++ bitmapMarks (bitmapCodes (c.f 16 4) bt)) (descsOf dt) idx s1)
      ((wholeDescs (descsOf dt)).flatMap fun q => (upTo (runHandles c mt).length).map fun j => (q.2, j)) [] := by
  unfold memberChecks
  rw [hm, hi, List.find?_eq_none.mpr (by simpa using hb)]
  dsimp only
  rw [h, List.length_map]

end

end Sys2Proof.Machine
end

section
/-! RUN joins the culet's queue once the indices that it names are read (O53). -/

-- These proofs wait on the same definitions: they are elaborated in order.
set_option Elab.async false

namespace Sys2Proof.Machine

section
variable {s u : State} {cid : Nat} {c : Cmd} {v : Voice} {ds : List InDesc} {n : Nat}

/-! ### What acceptance leaves (R299) -/

theorem mem_queueRun (rs : List Run) (r : Run) : r ∈ queueRun rs r := List.mem_append_right _ List.mem_cons_self

theorem cmd_modCmd_ne_none {g : Cmd → Cmd} (hg : ∀ e, (g e).cid = e.cid) (h : u.cmd cid ≠ none) :
    (u.modCmd cid g).cmd cid ≠ none := by
  rw [State.cmd_modCmd _ _ _ hg]
  simpa using h

theorem acceptRun_cmd {is : List Nat} {ms : List Mark} {idx : List (Nat × Nat × List Int)} (h : u.cmd c.cid = some c) :
    (acceptRun c is ms ds idx u).cmd c.cid ≠ none := by
  unfold acceptRun
  extract_lets t used long r s1
  have hcmd : s1.cmd c.cid = some c := ((claimSlots_ev ..).cmd (hA := by decide) _).trans h
  refine cmd_modCmd_ne_none (fun _ => rfl) ?_
  exact ne_of_eq_of_ne hcmd (Option.some_ne_none _)

theorem acceptRun_queues (c : Cmd) (is : List Nat) (ms : List Mark) (ds : List InDesc)
    (idx : List (Nat × Nat × List Int)) (u : State) :
    ∃ r ∈ (acceptRun c is ms ds idx u).runs, r.cid = c.cid ∧ r.members = is ∧ r.steps = c.f 16 4 ∧
      r.part = c.partition ∧ r.descs = ds ∧ r.group = (u.stream (is.headD 0)).group ∧
      r.lc = (u.stream (is.headD 0)).lc ∧ r.dispatched = false :=
  ⟨_, mem_queueRun .., rfl, rfl, rfl, rfl, rfl, rfl, rfl, rfl⟩

/-! ### The index data that a RUN names (R87, R300) -/

theorem getD_of_mem_zip_upTo {q : InDesc × Nat} (h : q ∈ ds.zip (upTo ds.length)) : ds.getD q.2 {} = q.1 := by
  obtain ⟨i, hi, rfl⟩ := List.mem_iff_getElem.mp h
  have hlt : i < ds.length := by simpa [upTo] using hi
  simp [upTo, List.getElem?_eq_getElem hlt]

/-- Each descriptor of index data with each member. -/
def indexReads (ds : List InDesc) (n : Nat) : List ((InDesc × Nat) × Nat) :=
  (wholeDescs ds).flatMap fun q => (upTo n).map fun j => (q, j)

theorem indexReads_map (ds : List InDesc) (n : Nat) :
    ((wholeDescs ds).flatMap fun q => (upTo n).map fun j => (q.2, j)) =
      (indexReads ds n).map fun x => (x.1.2, x.2) := by
  simp [indexReads, List.map_flatMap, Function.comp_def]

theorem readIndices_all (h : ∀ q ∈ wholeDescs ds, ∀ j < n, IndexPasses s c v q j)
    (fin : State → List (Nat × Nat × List Int) → State) :
    ∃ u idx, ReadsLeave s u ∧
      readIndices s c v ds fin ((wholeDescs ds).flatMap fun q => (upTo n).map fun j => (q.2, j)) [] = fin u idx := by
  have hmem : ∀ x ∈ indexReads ds n, x.1 ∈ wholeDescs ds ∧ x.2 < n := by
    intro x hx
    obtain ⟨q, hq, hj⟩ := List.mem_flatMap.mp hx
    obtain ⟨j, hlt, rfl⟩ := List.mem_map.mp hj
    exact ⟨hq, List.mem_range.mp hlt⟩
  obtain ⟨u, idx, hu, he⟩ := readIndices_passes (l := indexReads ds n)
    (fun x hx => getD_of_mem_zip_upTo (List.mem_filter.mp (hmem x hx).1).1)
    (fun x hx => h x.1 (hmem x hx).1 x.2 (hmem x hx).2) fin [] (.refl s) []
  rw [List.append_nil] at he
  exact ⟨u, idx, hu, by rw [indexReads_map, he, readIndices]⟩

theorem upTo_split {j n : Nat} (h : j < n) : ∃ r, upTo n = upTo j ++ j :: r := by
  obtain ⟨k, rfl⟩ : ∃ k, n = j + (k + 1) := ⟨n - j - 1, by omega⟩
  unfold upTo
  rw [List.range_add, List.range_succ_eq_map]
  exact ⟨_, rfl⟩

theorem readIndices_first {q : InDesc × Nat} {j : Nat} (hq : wholeDescs ds = [q]) (hj : j < n)
    (hpass : ∀ i < j, IndexPasses s c v q i)
    (hbad : ∃ e b, IndexRead s c v q j e b ∧ indexesOk v q e b = false)
    (fin : State → List (Nat × Nat × List Int) → State) :
    ∃ u, ReadsLeave s u ∧
      readIndices s c v ds fin ((wholeDescs ds).flatMap fun q => (upTo n).map fun j => (q.2, j)) [] =
        finish u c.cid stInvalidParameter j 0 := by
  have hget : ds.getD q.2 {} = q.1 :=
    getD_of_mem_zip_upTo (List.mem_filter.mp (hq ▸ List.mem_cons_self : q ∈ wholeDescs ds)).1
  obtain ⟨r, hr⟩ := upTo_split hj
  obtain ⟨e, b, hread, hout⟩ := hbad
  obtain ⟨w, acc, hw, he⟩ := readIndices_passes (ds := ds) (l := (upTo j).map fun i => (q, i))
    (fun x hx => by obtain ⟨i, -, rfl⟩ := List.mem_map.mp hx; exact hget)
    (fun x hx => by obtain ⟨i, hi, rfl⟩ := List.mem_map.mp hx; exact hpass i (List.mem_range.mp hi))
    fin ((q.2, j) :: r.map fun i => (q.2, i)) (.refl s) []
  obtain ⟨u, hu, hfail⟩ := readIndices_fail hget hw hread hout fin (r.map fun i => (q.2, i)) acc
  refine ⟨u, hu, ?_⟩
  rw [hq, List.flatMap_singleton, hr, List.map_append, List.map_cons]
  rw [List.map_map] at he
  exact he.trans hfail

end

/-! ### The statement about acceptance -/

/-- A RUN that fails a check with these values completes after the RUNs of its streams before it. -/
abbrev RunRefused (s : State) (cid : Nat) (c : Cmd) (st d res : Nat) : Prop :=
  (behindRun s c = false → ∃ t, exec (.run cid) s = .next t ∧ t.streams = s.streams ∧ Completed s t c st d res) ∧
  (behindRun s c = true → exec (.run cid) s = .next (settle s))

section
variable {s : State} {cid : Nat} {c : Cmd} {dt mt bt : Bytes}

/-- The checks of the tables have passed, up to those of the index data. -/
structure RunPasses (s : State) (c : Cmd) (dt mt bt : Bytes) : Prop where
  tables : runEff c s = runChecks c dt mt bt s
  readStatus : c.readStatus = 0
  head : (runHandles c mt).headD 0 = c.object
  members : membersCheck s c (runHandles c mt) [] 0 = none
  inline : badInline c = none
  codes : ∀ x ∈ bitmapCodes (c.f 16 4) bt, x.2.2 ≠ 2
  descs : descsCheck s c (headVoice s (runHandles c mt)) ((runHandles c mt).map streamIndex) (chunks 32 dt)
    (descsOf dt) = none

theorem RunPasses.reads (p : RunPasses s c dt mt bt) :
    runEff c s = readIndices s c (headVoice s (runHandles c mt)) (descsOf dt)
      (fun s1 idx => acceptRun c ((runHandles c mt).map streamIndex)
        (inlineMarks c ++ bitmapMarks (bitmapCodes (c.f 16 4) bt)) (descsOf dt) idx s1)
      ((wholeDescs (descsOf dt)).flatMap fun q => (upTo (runHandles c mt).length).map fun j => (q.2, j)) [] :=
  (p.tables.trans (runChecks_members p.readStatus p.head)).trans
    (memberChecks_indices p.members p.inline p.codes p.descs)

theorem RunPasses.queued (p : RunPasses s c dt mt bt) (h : Ready s cid 0x34 c)
    (hi : ∀ q ∈ wholeDescs (descsOf dt), ∀ j < (runHandles c mt).length,
      IndexPasses s c (headVoice s (runHandles c mt)) q j) :
    ∃ t, exec (.run cid) s = .next t ∧ t.cmd cid ≠ none ∧
      ∃ r ∈ t.runs, r.cid = cid ∧ r.members = (runHandles c mt).map streamIndex ∧ r.steps = c.f 16 4 ∧
        r.part = c.partition ∧ r.descs = descsOf dt ∧
        r.group = (s.stream (((runHandles c mt).map streamIndex).headD 0)).group ∧
        r.lc = (s.stream (((runHandles c mt).map streamIndex).headD 0)).lc ∧ r.dispatched = false := by
  obtain ⟨u, idx, hu, he⟩ := readIndices_all hi fun s1 idx => acceptRun c ((runHandles c mt).map streamIndex)
    (inlineMarks c ++ bitmapMarks (bitmapCodes (c.f 16 4) bt)) (descsOf dt) idx s1
  have hcid := State.cmd_cid h.1
  subst hcid
  have hcmd := acceptRun_cmd (is := (runHandles c mt).map streamIndex)
    (ms := inlineMarks c ++ bitmapMarks (bitmapCodes (c.f 16 4) bt)) (ds := descsOf dt) (idx := idx)
    ((hu.evolves.cmd (hA := by decide) _).trans h.1)
  refine ⟨_, execRun_accepted h (p.reads.trans he) hcmd, hcmd, ?_⟩
  have hs := hu.evolves.stream (hA := by decide)
  simp only [← hs]
  exact acceptRun_queues ..

theorem RunPasses.badIndex (p : RunPasses s c dt mt bt) (h : Ready s cid 0x34 c) {q : InDesc × Nat} {j : Nat}
    (hq : wholeDescs (descsOf dt) = [q]) (hj : j < (runHandles c mt).length)
    (hpass : ∀ i < j, ∃ e b, IndexRead s c (headVoice s (runHandles c mt)) q i e b ∧
      indexesOk (headVoice s (runHandles c mt)) q e b = true)
    (hbad : ∃ e b, IndexRead s c (headVoice s (runHandles c mt)) q j e b ∧
      indexesOk (headVoice s (runHandles c mt)) q e b = false) : RunRefused s cid c stInvalidParameter j 0 := by
  obtain ⟨u, hu, he⟩ := readIndices_first hq hj (fun i hi e he => by
    obtain ⟨e', b, hread, hok⟩ := hpass i hi
    obtain rfl := Option.some.inj (hread.1.symm.trans he)
    exact ⟨b, hread, hok⟩) hbad _
  exact execRun_refused h hu (p.reads.trans he)

end

end Sys2Proof.Machine
end

section
/-! The commands that wait for a run's end, when it comes: they add no command and no run (O53). -/

-- These proofs wait on the same definitions: they are elaborated in order.
set_option Elab.async false

namespace Sys2Proof.Machine

/-- From `s` to `t` commands and runs leave, and none joins. -/
structure Withdraws (s t : State) : Prop where
  cmds : ∀ cid, s.cmd cid = none → t.cmd cid = none
  runs : ∀ cid, s.runOf cid = none → t.runOf cid = none

namespace Withdraws

variable {s t u : State}

theorem refl (s : State) : Withdraws s s := ⟨fun _ => id, fun _ => id⟩

theorem trans (h : Withdraws s t) (k : Withdraws t u) : Withdraws s u :=
  ⟨fun cid hc => k.cmds cid (h.cmds cid hc), fun cid hr => k.runs cid (h.runs cid hr)⟩

/-- What touches neither commands nor runs. -/
theorem of {A : Nat} (h : Evolves A s t) (h14 : A.testBit 14 = false := by decide)
    (h24 : A.testBit 24 = false := by decide) : Withdraws s t :=
  ⟨fun cid hc => (h.cmd h14 cid).trans hc, fun cid hr => by
    unfold State.runOf at *
    exact (h.frame .runs h24 : t.runs = s.runs) ▸ hr⟩

theorem ite {p : Prop} [Decidable p] (h : p → Withdraws s t) (k : ¬ p → Withdraws s u) :
    Withdraws s (if p then t else u) := by
  split
  · exact h ‹_›
  · exact k ‹_›

end Withdraws

theorem finish_withdraws (s : State) (cid st d r : Nat) : Withdraws s (finish s cid st d r) :=
  ⟨fun _ => cmd_finish_of_none, fun _ => runOf_finish_of_none⟩

theorem fail_withdraws (s : State) (cid st : Nat) : Withdraws s (fail s cid st) := finish_withdraws ..

theorem finishAll_withdraws (s : State) (st : Nat) (l : List Nat) : Withdraws s (finishAll s st l) := by
  induction l generalizing s with
  | nil => exact .refl s
  | cons c l ih => exact (fail_withdraws s c st).trans (ih _)

theorem modCmd_withdraws (s : State) (cid : Nat) {g : Cmd → Cmd} (hg : ∀ c, (g c).cid = c.cid) :
    Withdraws s (s.modCmd cid g) := by
  refine ⟨fun j hj => ?_, fun _ => id⟩
  rw [State.cmd_eq_none] at hj ⊢
  intro e he
  obtain ⟨x, hx, rfl⟩ := List.mem_map.mp he
  have := hj x hx
  split
  · exact (hg x).symm ▸ this
  · exact this

/-! ### Room (R161, R163, R242) -/

theorem evictNowT1_withdraws (s : State) (id : Bytes) : Withdraws s (evictNowT1 s id) :=
  (Withdraws.of (dropT1_ev s id)).trans (finishAll_withdraws ..)

theorem roomT1_withdraws {n : Nat} {s : State} {need entries : Nat} {keep : Bytes} {t : State}
    (h : roomT1 n s need entries keep = some t) : Withdraws s t := by
  induction n generalizing s with
  | zero =>
    unfold roomT1 at h
    split at h
    · exact Option.some.inj h ▸ .refl s
    · exact nomatch h
  | succ n ih =>
    unfold roomT1 at h
    split at h
    · exact Option.some.inj h ▸ .refl s
    · dsimp only at h
      split at h
      · exact nomatch h
      · exact (evictNowT1_withdraws ..).trans (ih h)

theorem roomGeode_withdraws {s t : State} {n : Nat} (h : roomGeode s n = some t) : Withdraws s t := by
  unfold roomGeode at h
  split at h
  · exact roomT1_withdraws h
  · exact nomatch h

theorem moveAway_withdraws {s t : State} {i : Nat} (h : moveAway s i = some t) : Withdraws s t := by
  unfold moveAway at h
  dsimp only at h
  split at h
  · next s1 h1 => exact Option.some.inj h ▸ (roomGeode_withdraws h1).trans (.of (State.modStream_ev ..))
  · split at h
    · exact Option.some.inj h ▸ .of (State.modStream_ev ..)
    · exact nomatch h

theorem roomState_withdraws {n : Nat} {s : State} {k : Nat} {hs : List Nat} {need : Nat} {t : State}
    (h : roomState n s k hs need = some t) : Withdraws s t := by
  induction n generalizing s with
  | zero =>
    unfold roomState at h
    split at h
    · exact Option.some.inj h ▸ .refl s
    · exact nomatch h
  | succ n ih =>
    unfold roomState at h
    split at h
    · exact Option.some.inj h ▸ .refl s
    · dsimp only at h
      split at h
      · exact nomatch h
      · obtain ⟨s1, h1, h2⟩ := Option.bind_eq_some_iff.mp h
        exact (moveAway_withdraws h1).trans (ih h2)

theorem tryRestore_withdraws {s : State} {i : Nat} {b : Bytes} {x : Bool} {k : Bytes} {t : State}
    (h : tryRestore s i b x k = .ok t) : Withdraws s t := by
  unfold tryRestore at h
  extract_lets at h
  split at h; · cases h
  split at h; · cases h
  split at h; · cases h
  split at h; · cases h
  split at h
  · cases h
  · split at h
    · cases h
    · next hroom =>
      cases h
      exact ((roomState_withdraws hroom).trans (.of (State.modStream_ev ..))).trans (.of (State.used_ev ..))

/-! ### Closes, saves and evictions (R154, R163, R166) -/

theorem closeNow_withdraws (s : State) (cid i : Nat) : Withdraws s (closeNow s cid i) :=
  (Withdraws.of (freeStream_ev s i)).trans (fail_withdraws ..)

theorem writeOut_withdraws (s : State) (c : Cmd) (v : Nat) (b : Bytes) (st d r : Nat) :
    Withdraws s (writeOut s c v b st d r) := by
  unfold writeOut
  dsimp only
  refine .ite (fun _ => fail_withdraws ..) fun _ => .ite (fun _ => .ite (fun _ => ?_) fun _ => ?_) fun _ =>
    .ite (fun _ => ?_) fun _ => ?_
  · exact (Withdraws.of (issueWrites_ev ..)).trans (modCmd_withdraws _ _ fun _ => rfl)
  · exact (Withdraws.of (issueWrites_ev ..)).trans (fail_withdraws ..)
  · exact (Withdraws.of (addrWrite_ev ..)).trans (finish_withdraws ..)
  · exact (Withdraws.of (addrWrite_ev ..)).trans (fail_withdraws ..)

theorem writeSized_withdraws (s : State) (c : Cmd) (v size : Nat) (b : Bytes) (r : Nat) :
    Withdraws s (writeSized s c v size b r) :=
  .ite (fun _ => fail_withdraws ..) fun _ => .ite (fun _ => fail_withdraws ..) fun _ =>
    .ite (fun _ => finish_withdraws ..) fun _ => writeOut_withdraws ..

theorem saveNow_withdraws (s : State) (c : Cmd) (i : Nat) : Withdraws s (saveNow s c i) := by
  unfold saveNow
  dsimp only
  refine .ite (fun _ => fail_withdraws ..) fun _ => .trans ?_ (writeSized_withdraws ..)
  refine .trans ?_ (.of (noteCapture_ev ..))
  split
  · exact (Withdraws.of (State.modStream_ev ..)).trans (.of (State.used_ev ..))
  · exact .of (State.modStream_ev ..)

theorem evictNow_withdraws (s : State) (c : Cmd) (i : Nat) : Withdraws s (evictNow s c i) := by
  unfold evictNow
  extract_lets geode n s0 already
  have h0 : Withdraws s s0 := modCmd_withdraws _ _ fun _ => rfl
  refine h0.trans (.ite (fun _ => fail_withdraws ..) fun _ => ?_)
  split
  · exact fail_withdraws ..
  · next s1 hroom =>
    have h1 : Withdraws s0 s1 := by
      split at hroom
      · exact roomGeode_withdraws hroom
      · split at hroom
        · exact Option.some.inj hroom ▸ .refl s0
        · exact nomatch hroom
    split
    · exact h1.trans (.of (State.modStream_ev ..))
    · exact (h1.trans (.of (State.modStream_ev ..))).trans (fail_withdraws ..)

/-! ### Migrations (R165, R180 to R182) -/

theorem migrateRefused_withdraws (s : State) (c : Cmd) (i st : Nat) : Withdraws s (migrateRefused s c i st) :=
  ((Withdraws.of (State.modStream_ev ..)).trans (.of (State.setStreamCause_ev ..))).trans (fail_withdraws ..)

theorem migrateFenced_withdraws (s : State) (c : Cmd) (i st : Nat) : Withdraws s (migrateFenced s c i st) :=
  ((Withdraws.of (State.modStream_ev ..)).trans (.of (State.setStreamCause_ev ..))).trans (fail_withdraws ..)

theorem migrateEnd_withdraws (s : State) (c : Cmd) (i step : Nat) : Withdraws s (migrateEnd s c i step) :=
  (Withdraws.of (freeStream_ev s i)).trans (finish_withdraws ..)

theorem migrateLocalNow_withdraws (s : State) (c : Cmd) (i j : Nat) (b : Bytes) :
    Withdraws s (migrateLocalNow s c i j b) := by
  unfold migrateLocalNow
  split
  · exact migrateRefused_withdraws ..
  · next s1 hres =>
    have h2 : Withdraws s (moveSink s1 i j) := (tryRestore_withdraws hres).trans (.of (moveSink_ev ..))
    dsimp only
    split
    · exact (h2.trans (.of (State.modStream_ev ..))).trans (migrateEnd_withdraws ..)
    · split
      · next hreg => exact (h2.trans (.of (.ofSomeFst hreg (registerSink_ev ..)))).trans (migrateEnd_withdraws ..)
      · exact migrateRefused_withdraws ..

theorem migrateLocal_withdraws (s : State) (c : Cmd) (i : Nat) : Withdraws s (migrateLocal s c i) := by
  unfold migrateLocal
  extract_lets h j t b
  refine .ite (fun _ => migrateRefused_withdraws ..) fun _ => .ite (fun _ => migrateEnd_withdraws ..) fun _ =>
    .ite (fun _ => migrateRefused_withdraws ..) fun _ => ?_
  split
  · split
    · exact migrateRefused_withdraws ..
    · next hsend =>
      exact ((Withdraws.of (.ofSome hsend (sendRegister_ev ..))).trans (.of (noteCapture_ev ..))).trans
        (modCmd_withdraws _ _ fun _ => rfl)
  · exact (Withdraws.of (noteCapture_ev ..)).trans (migrateLocalNow_withdraws ..)

theorem migrateRemote_withdraws (s : State) (c : Cmd) (i : Nat) : Withdraws s (migrateRemote s c i) := by
  unfold migrateRemote
  extract_lets b s1 r
  have h1 : Withdraws s s1 := (Withdraws.of (State.used_ev ..)).trans (.of (noteCapture_ev ..))
  refine h1.trans (.ite (fun _ => migrateRefused_withdraws ..) fun _ => ?_)
  have hr : Withdraws s1 r.1 := .of (issueReq_ev ..)
  exact .ite (fun _ => hr.trans (.of (State.modStream_ev ..))) fun _ => hr.trans (migrateFenced_withdraws ..)

theorem migrateGo_withdraws (s : State) (c : Cmd) (i : Nat) : Withdraws s (migrateGo s c i) := by
  unfold migrateGo
  refine .ite (fun _ => ?_) fun _ => modCmd_withdraws _ _ fun _ => rfl
  extract_lets s1
  have h1 : Withdraws s s1 := (Withdraws.of (State.modStream_ev ..)).trans (modCmd_withdraws _ _ fun _ => rfl)
  exact h1.trans (.ite (fun _ => migrateRefused_withdraws ..) fun _ =>
    .ite (fun _ => migrateLocal_withdraws ..) fun _ => migrateRemote_withdraws ..)

/-! ### The commands that wait -/

theorem resumeOne_withdraws (s : State) (i : Nat) (c : Cmd) : Withdraws s (resumeOne s i c) := by
  unfold resumeOne
  split
  · exact .ite (fun _ => .refl s) fun _ => closeNow_withdraws ..
  · refine .ite (fun _ => .refl s) fun _ => .trans ?_ (saveNow_withdraws ..)
    exact modCmd_withdraws _ _ fun _ => rfl
  · exact .ite (fun _ => .refl s) fun _ => evictNow_withdraws ..
  · exact migrateGo_withdraws ..
  · exact .refl s

theorem resumeList_withdraws (s : State) (i : Nat) (l : List Cmd) : Withdraws s (resumeList s i l) := by
  induction l generalizing s with
  | nil => exact .refl s
  | cons c l ih => exact (Withdraws.ite (fun _ => resumeOne_withdraws ..) fun _ => .refl s).trans (ih _)

/-- The commands that waited for the end of a run leave, or go on under their own numbers. -/
theorem resumeWaiting_withdraws (s : State) (l : List Nat) : Withdraws s (resumeWaiting s l) := by
  induction l generalizing s with
  | nil => exact .refl s
  | cons i l ih => exact (resumeList_withdraws ..).trans (ih _)

theorem resumeWaiting_none {s : State} {l : List Nat} (h : ∀ i ∈ l, waiting s i = []) : resumeWaiting s l = s := by
  induction l with
  | nil => rfl
  | cons i l ih =>
    rw [resumeWaiting, h i List.mem_cons_self, resumeList]
    exact ih fun j hj => h j (List.mem_cons_of_mem _ hj)

end Sys2Proof.Machine
end

section
/-! The device pool that streams and partitions use (R356), when one entry of their tables changes (O53). -/

-- These proofs wait on the same definitions: they are elaborated in order.
set_option Elab.async false

namespace Sys2Proof.Machine

/-! ### Sums over a table -/

section
variable {α : Type} {d : α} {t : Tab α} {w f : Nat × α → Nat} {p : Nat × α → Bool} {b k : Nat} {v : α} {g : α → α}

theorem sumN_append (l r : List Nat) : sumN (l ++ r) = sumN l + sumN r := by
  induction l with
  | nil => exact (Nat.zero_add _).symm
  | cons x l ih =>
    rw [List.cons_append, sumN, sumN, ih]
    omega

theorem sumN_filter_map (l : List (Nat × α)) :
    sumN ((l.filter p).map f) = sumN (l.map fun kv => if p kv then f kv else 0) := by
  induction l with
  | nil => rfl
  | cons x l ih =>
    rw [List.filter_cons, List.map_cons, sumN, ← ih]
    split
    · rfl
    · exact (Nat.zero_add _).symm

variable [DecidableEq α]

theorem sumN_tabDel (ht : tabWfFrom d b t = true) (hd : w (k, d) = 0) :
    sumN ((tabDel t k).map w) + w (k, tabGet d t k) = sumN (t.map w) := by
  induction t generalizing b with
  | nil => exact (Nat.zero_add _).trans hd
  | cons x r ih =>
    obtain ⟨k', x⟩ := x
    simp only [tabWfFrom, Bool.and_eq_true, decide_eq_true_eq] at ht
    obtain ⟨-, hr⟩ := ht
    have ih := ih hr
    unfold tabDel at *
    by_cases hk : k = k'
    · subst hk
      rw [tabGet_below hr (Nat.lt_succ_self k), hd] at ih
      simp only [List.filter_cons, tabGet, bne_self_eq_false, Bool.false_eq_true, if_false, if_true, List.map_cons,
        sumN]
      omega
    · simp only [List.filter_cons, tabGet, bne_iff_ne.mpr (Ne.symm hk), if_neg hk, if_true, List.map_cons, sumN]
      omega

theorem sumN_tabPut (ht : tabWfFrom d b t = true) (hd : w (k, d) = 0) :
    sumN ((tabPut t k v).map w) + w (k, tabGet d t k) = sumN (t.map w) + w (k, v) := by
  induction t generalizing b with
  | nil => simp [tabPut, tabGet, sumN, hd]
  | cons x r ih =>
    obtain ⟨k', x⟩ := x
    simp only [tabWfFrom, Bool.and_eq_true, decide_eq_true_eq] at ht
    obtain ⟨-, hr⟩ := ht
    have ih := ih hr
    unfold tabPut tabGet
    by_cases hlt : k < k'
    · rw [if_pos hlt, if_neg (by omega), tabGet_below hr (by omega), hd]
      simp only [List.map_cons, sumN]
      omega
    · rw [if_neg hlt]
      by_cases hk : k = k'
      · subst hk
        simp only [if_true, List.map_cons, sumN]
        omega
      · simp only [if_neg hk, List.map_cons, sumN]
        omega

/-- A sum over a table in which one entry changes. -/
theorem sumN_tabMod (ht : tabWf d t = true) (hd : w (k, d) = 0) :
    sumN ((tabMod d t k g).map w) + w (k, tabGet d t k) = sumN (t.map w) + w (k, g (tabGet d t k)) := by
  unfold tabMod tabSet
  split
  · next h =>
    rw [h, hd, sumN_tabDel ht hd, Nat.add_zero]
  · exact sumN_tabPut ht hd

/-- The same over some entries of the table. -/
theorem sumN_filter_tabMod_le {n : Nat} (ht : tabWf d t = true) (hd : p (k, d) = false)
    (hp : p (k, g (tabGet d t k)) = p (k, tabGet d t k)) (hf : f (k, g (tabGet d t k)) ≤ f (k, tabGet d t k) + n) :
    sumN (((tabMod d t k g).filter p).map f) ≤ sumN ((t.filter p).map f) + n := by
  rw [sumN_filter_map, sumN_filter_map]
  have h := sumN_tabMod (w := fun kv => if p kv then f kv else 0) (k := k) (g := g) ht (by simp [hd])
  rw [hp] at h
  split at h <;> omega

theorem sumN_tabMod_eq (ht : tabWf d t = true) (hd : w (k, d) = 0)
    (hw : w (k, g (tabGet d t k)) = w (k, tabGet d t k)) : sumN ((tabMod d t k g).map w) = sumN (t.map w) := by
  have := sumN_tabMod (g := g) ht hd
  omega

end

/-! ### The pool (R356) -/

section
variable {s : State} {i n : Nat} {g : Stream → Stream}

theorem poolUsed_modStream_le (h : s.Canon) (hv : (g (s.stream i)).voice = (s.stream i).voice)
    (hk : (g (s.stream i)).kvPositions = (s.stream i).kvPositions) (hr : (g (s.stream i)).resid = (s.stream i).resid)
    (hc : sumN ((g (s.stream i)).ckptCopies.map List.length) ≤ sumN ((s.stream i).ckptCopies.map List.length) + n) :
    poolUsed (s.modStream i g) ≤ poolUsed s + n := by
  have hsum : ∀ f : Nat × Stream → Nat, f (i, g (s.stream i)) ≤ f (i, s.stream i) + n →
      sumN (((tabMod {} s.streams i g).filter fun kv => kv.2.isOpen).map f) ≤
        sumN ((s.streams.filter fun kv => kv.2.isOpen).map f) + n := fun f =>
    sumN_filter_tabMod_le h.streams rfl (by
      change Stream.isOpen (g (s.stream i)) = Stream.isOpen (s.stream i)
      unfold Stream.isOpen
      rw [hv])
  unfold poolUsed
  have comm (a b c d e f : Nat) : a + n + b + c + d + e + f = a + b + c + d + e + f + n := by omega
  refine LE.le.trans_eq ?_ (comm ..)
  refine Nat.add_le_add_right (Nat.add_le_add_right (Nat.add_le_add_right (Nat.add_le_add_right
    (Nat.add_le_add_right (hsum _ ?_) _) _) _) _) _
  simp only [hv, hk, hr, Nat.add_assoc]
  exact Nat.add_le_add_left (Nat.add_le_add_left hc _) _

theorem poolUsed_modPart {k : Nat} {g : Partition → Partition} (h : s.Canon)
    (ha : (g (s.part k)).active = (s.part k).active) (hs : (g (s.part k)).shadow = (s.part k).shadow)
    (hst : (g (s.part k)).stages = (s.part k).stages) : poolUsed (s.modPart k g) = poolUsed s := by
  have hsum : ∀ w : Nat × Partition → Nat, w (k, {}) = 0 → w (k, g (s.part k)) = w (k, s.part k) →
      sumN ((tabMod {} s.parts k g).map w) = sumN (s.parts.map w) := fun w => sumN_tabMod_eq h.parts
  have hland : landingBytes (s.modPart k g) = landingBytes s :=
    congrArg (· + _) (hsum _ rfl (by rw [hst]))
  have hlat := hsum (fun kv => latticeBytes kv.2) rfl (by unfold latticeBytes; rw [ha, hs])
  unfold poolUsed
  rw [hland, show sumN ((s.modPart k g).parts.map _) = _ from hlat]
  rfl

end

end Sys2Proof.Machine
end

section
/-! What the end of a run leaves in its members (O53). -/

-- These proofs wait on the same definitions: they are elaborated in order.
set_option Elab.async false

namespace Sys2Proof.Machine

/-! ### The end of one member (R173, R184, R185) -/

/-- The checkpoint ring of a stream's group. -/
def ckptRing (s : State) (i : Nat) : CkptRing := tabGet {} (s.part (s.stream i).part).ckpts (s.stream i).group

/-- The end of this run makes a checkpoint of the stream due (R184). -/
def ckptDue (s : State) (i : Nat) : Bool :=
  (ckptRing s i).periodK ≠ 0 && decide (((s.stream i).runsDone + 1) % (ckptRing s i).periodK = 0)

/-- The member with LAST_SEQUENCE, RUNS_DONE and the time of the run. -/
def memberRan (s : State) (seq i : Nat) : State :=
  s.modStream i fun t => { t with lastSequence := seq, runsDone := t.runsDone + 1, lastRun := s.now }

section
variable {s t u : State} {seq i j : Nat} {b : Bytes}

theorem memberRan_stream (s : State) (seq i : Nat) : (memberRan s seq i).stream i =
    { s.stream i with lastSequence := seq, runsDone := (s.stream i).runsDone + 1, lastRun := s.now } :=
  State.stream_modStream ..

theorem ckptRing_memberRan (s : State) (seq i : Nat) : ckptRing (memberRan s seq i) i = ckptRing s i := by
  unfold ckptRing
  rw [memberRan_stream]
  rfl

theorem memberEnd_eq (s : State) (seq i : Nat) : memberEnd s seq i =
    if ckptDue s i then
      keepCapture (if (ckptRing s i).sign then (memberRan s seq i).used 1 else memberRan s seq i) i
        (captureCtx (memberRan s seq i) i (ckptRing s i).sign)
    else memberRan s seq i := by
  have hdone : ((memberRan s seq i).stream i).runsDone = (s.stream i).runsDone + 1 :=
    congrArg Stream.runsDone (memberRan_stream ..)
  unfold ckptDue
  rw [← hdone, ← ckptRing_memberRan s seq i]
  rfl

theorem keepCapture_poisoned (h : (s.stream i).poison = true) : keepCapture s i b =
    (s.modPart (s.stream i).part fun p => { p with ckptSkipped := addSat p.ckptSkipped 1 }).setStreamCause
      (s.stream i).part 0 := by
  unfold keepCapture
  simp [h]

theorem keepCapture_kept (hp : (s.stream i).poison = false)
    (hf : poolFits ((noteCapture s i b).modStream i fun t => { t with ckptCopies := t.ckptCopies ++ [b] }) = true) :
    ((keepCapture s i b).stream i).ckptCopies = (s.stream i).ckptCopies ++ [b] := by
  unfold keepCapture
  simp only [hf, hp, Bool.not_false, Bool.and_self, if_true, State.stream_modStream]
  rfl

/-! ### What it leaves of the other members -/

/-- From `s` to `t` stream i is as it was, the time and the checkpoint rings too, and a skipped checkpoint stays on
record. -/
structure LeavesMember (i : Nat) (s t : State) : Prop where
  stream : t.stream i = s.stream i
  now : t.now = s.now
  ckpts : ∀ k, (t.part k).ckpts = (s.part k).ckpts
  skipped : ∀ k, (s.part k).streamCause.getLsbD 0 = true → (t.part k).streamCause.getLsbD 0 = true

namespace LeavesMember

theorem refl (i : Nat) (s : State) : LeavesMember i s s := ⟨rfl, rfl, fun _ => rfl, fun _ => id⟩

theorem trans (h : LeavesMember i s t) (k : LeavesMember i t u) : LeavesMember i s u :=
  ⟨k.stream.trans h.stream, k.now.trans h.now, fun x => (k.ckpts x).trans (h.ckpts x),
    fun x hx => k.skipped x (h.skipped x hx)⟩

theorem modStream (h : i ≠ j) (s : State) (g : Stream → Stream) : LeavesMember i s (s.modStream j g) :=
  ⟨State.stream_modStream_other h, rfl, fun _ => rfl, fun _ => id⟩

theorem modPart (i : Nat) (s : State) (k : Nat) {g : Partition → Partition} (hc : ∀ p, (g p).ckpts = p.ckpts)
    (hs : ∀ p, p.streamCause.getLsbD 0 = true → (g p).streamCause.getLsbD 0 = true) :
    LeavesMember i s (s.modPart k g) := by
  refine ⟨rfl, rfl, fun x => ?_, fun x hx => ?_⟩ <;> by_cases hk : x = k
  · rw [hk, State.part_modPart, hc]
  · rw [State.part_modPart_other hk]
  · rw [hk, State.part_modPart]
    exact hs _ (hk ▸ hx)
  · rwa [State.part_modPart_other hk]

theorem foldl {f : State → Nat → State} {l : List Nat} (hf : ∀ s, ∀ j ∈ l, LeavesMember i s (f s j)) (s : State) :
    LeavesMember i s (l.foldl f s) := by
  induction l generalizing s with
  | nil => exact .refl i s
  | cons j l ih =>
    exact (hf s j List.mem_cons_self).trans (ih (fun s x hx => hf s x (List.mem_cons_of_mem _ hx)) _)

end LeavesMember

theorem modAcct_leaves (i : Nat) (s : State) (r : Run) (g : AcctSet → AcctSet) : LeavesMember i s (modAcct s r g) :=
  .modPart i s r.part (fun _ => rfl) fun _ => id

theorem skipCapture_leaves (i : Nat) (s : State) (k : Nat) : LeavesMember i s
    ((s.modPart k fun p => { p with ckptSkipped := addSat p.ckptSkipped 1 }).setStreamCause k 0) := by
  refine .trans ?_ (.modPart i _ k (fun _ => rfl) ?_)
  · exact .modPart i s k (fun _ => rfl) fun _ => id
  · exact fun _ => getLsbD_setBit_of 0

theorem keepCapture_leaves (h : i ≠ j) (s : State) (b : Bytes) : LeavesMember i s (keepCapture s j b) := by
  unfold keepCapture
  extract_lets k s1
  have h1 : LeavesMember i s (noteCapture s j b) := ⟨rfl, rfl, fun _ => rfl, fun _ => id⟩
  split
  · exact h1.trans (.modStream h (noteCapture s j b) _)
  · exact skipCapture_leaves i s k

theorem memberEnd_leaves (h : i ≠ j) (s : State) (seq : Nat) : LeavesMember i s (memberEnd s seq j) := by
  rw [memberEnd_eq]
  have h1 : LeavesMember i s (memberRan s seq j) := .modStream h ..
  split
  · refine h1.trans (.trans ?_ (keepCapture_leaves h ..))
    split
    · exact ⟨rfl, rfl, fun _ => rfl, fun _ => id⟩
    · exact .refl ..
  · exact h1

/-! ### What it leaves of the member itself -/

/-- Member i of a run has ended, with its checkpoint that was due skipped where the slots hold poison (R173, R184,
R185). -/
structure MemberEnded (s t : State) (seq i : Nat) : Prop where
  sequence : (t.stream i).lastSequence = seq
  ran : (t.stream i).lastRun = s.now
  done : (t.stream i).runsDone = (s.stream i).runsDone + 1
  uncaptured : ckptDue s i = false ∨ (s.stream i).poison = true → (t.stream i).ckptCopies = (s.stream i).ckptCopies
  skips : ckptDue s i = true → (s.stream i).poison = true →
    (t.part (s.stream i).part).streamCause.getLsbD 0 = true

theorem MemberEnded.after (h : LeavesMember i s t) (k : MemberEnded t u seq i) : MemberEnded s u seq i := by
  have hdue : ckptDue t i = ckptDue s i := by
    unfold ckptDue ckptRing
    rw [h.stream, h.ckpts]
  obtain ⟨hseq, hran, hdone, hcopies, hskips⟩ := k
  rw [h.stream] at hdone hcopies hskips
  rw [hdue] at hcopies hskips
  exact ⟨hseq, hran.trans h.now, hdone, hcopies, hskips⟩

theorem MemberEnded.leaves (h : MemberEnded s t seq i) (k : LeavesMember i t u) : MemberEnded s u seq i := by
  obtain ⟨hseq, hran, hdone, hcopies, hskips⟩ := h
  rw [← k.stream] at hseq hran hdone hcopies
  exact ⟨hseq, hran, hdone, hcopies, fun hd hp => k.skipped _ (hskips hd hp)⟩

/-- A capture changes nothing of a stream but the contexts that wait. -/
theorem keepCapture_stream {α : Type} (π : Stream → α) (hπ : ∀ t l, π { t with ckptCopies := l } = π t) (s : State)
    (i : Nat) (b : Bytes) : π ((keepCapture s i b).stream i) = π (s.stream i) := by
  unfold keepCapture
  extract_lets k s1
  split
  · exact (congrArg π (State.stream_modStream (noteCapture s i b) i _)).trans (hπ ..)
  · rfl

theorem memberEnd_ended (s : State) (seq i : Nat) : MemberEnded s (memberEnd s seq i) seq i := by
  rw [memberEnd_eq]
  have hran := memberRan_stream s seq i
  split
  · next hdue =>
    generalize hu : (if (ckptRing s i).sign then (memberRan s seq i).used 1 else memberRan s seq i) = u
    have hi : u.stream i = (memberRan s seq i).stream i := by
      rw [← hu]
      split <;> rfl
    rw [hran] at hi
    have hp (h : (s.stream i).poison = true) : (u.stream i).poison = true := by rw [hi]; exact h
    refine ⟨?_, ?_, ?_, fun h => ?_, fun _ h => ?_⟩
    · rw [keepCapture_stream Stream.lastSequence fun _ _ => rfl, hi]
    · rw [keepCapture_stream Stream.lastRun fun _ _ => rfl, hi]
    · rw [keepCapture_stream Stream.runsDone fun _ _ => rfl, hi]
    · have h := h.resolve_left (by simp [hdue])
      rw [keepCapture_poisoned (hp h)]
      change (u.stream i).ckptCopies = _
      rw [hi]
    · rw [keepCapture_poisoned (hp h), hi]
      refine (congrArg (fun p : Partition => p.streamCause.getLsbD 0) (State.part_modPart ..)).trans ?_
      exact getLsbD_setBit_self _ (by decide)
  · next hdue =>
    refine ⟨?_, ?_, ?_, fun _ => ?_, fun h => absurd h hdue⟩ <;> rw [hran]

/-- Each member of a run that ends has ended. -/
theorem membersEnd_ended {l : List Nat} (hn : l.Nodup) (hi : i ∈ l) (s : State) (seq : Nat) :
    MemberEnded s (l.foldl (fun s j => memberEnd s seq j) s) seq i := by
  induction l generalizing s with
  | nil => exact absurd hi List.not_mem_nil
  | cons j l ih =>
    obtain ⟨hj, hn⟩ := List.nodup_cons.mp hn
    by_cases h : i = j
    · subst h
      exact (memberEnd_ended s seq i).leaves
        (.foldl (fun s x hx => memberEnd_leaves (ne_of_mem_of_not_mem hx hj).symm s seq) _)
    · exact .after (memberEnd_leaves h s seq) (ih hn ((List.mem_cons.mp hi).resolve_left h) _)

end

end Sys2Proof.Machine
end

section
/-! RUN_COMPLETE: the members, the completion and the commands that waited (O53). -/

-- These proofs wait on the same definitions: they are elaborated in order.
set_option Elab.async false

namespace Sys2Proof.Machine

section
variable {s u : State} {cid i seq : Nat} {c : Cmd} {r : Run}

/-! ### The checkpoint of a run of one member (R184, R356) -/

theorem captureCtx_modPart (s : State) (k i : Nat) (sign : Bool) {g : Partition → Partition}
    (hg : ∀ p, (g p).rows = p.rows) : captureCtx (s.modPart k g) i sign = captureCtx s i sign := by
  have hrows : ((s.modPart k g).part (s.stream i).part).rowCount = (s.part (s.stream i).part).rowCount := by
    unfold Partition.rowCount
    by_cases h : (s.stream i).part = k
    · rw [h, State.part_modPart, hg]
    · rw [State.part_modPart_other h]
  unfold captureCtx
  extract_lets t v h t' v' h'
  have : h = h' := by
    subst h h'
    rw [show t = s.stream i from rfl, hrows]
    rfl
  rw [this]
  rfl

/-- The state after the run's account has counted it. -/
def runCounted (s : State) (r : Run) : State := modAcct s r fun a => { a with runs := addWrap a.runs 1 }

theorem captureCtx_runCounted (s : State) (r : Run) (i : Nat) (sign : Bool) :
    captureCtx (runCounted s r) i sign = captureCtx s i sign := by
  refine captureCtx_modPart s r.part i sign ?_
  exact fun _ => rfl

theorem poolUsed_runCounted (h : s.Canon) : poolUsed (runCounted s r) = poolUsed s := poolUsed_modPart h rfl rfl rfl

theorem poolUsed_memberRan (h : s.Canon) : poolUsed (memberRan s seq i) ≤ poolUsed s :=
  poolUsed_modStream_le (n := 0) h rfl rfl rfl (Nat.le_refl _)

theorem poolUsed_capture {b : Bytes} (h : s.Canon) :
    poolUsed ((noteCapture s i b).modStream i fun t => { t with ckptCopies := t.ckptCopies ++ [b] }) ≤
      poolUsed s + b.length := by
  refine poolUsed_modStream_le (s := noteCapture s i b) ((noteCapture_ev ..).form h) rfl rfl rfl ?_
  rw [List.map_append, sumN_append]
  exact Nat.le_refl _

/-- A checkpoint that is due is captured where the pool has room for its context. -/
theorem memberEnd_captures {b : Bytes} (h : s.Canon) (hdue : ckptDue s i = true) (hp : (s.stream i).poison = false)
    (hb : captureCtx (memberRan s seq i) i (ckptRing s i).sign = b) (hroom : poolUsed s + b.length ≤ poolBytes s) :
    ((memberEnd s seq i).stream i).ckptCopies = (s.stream i).ckptCopies ++ [b] := by
  have hran := memberRan_stream s seq i
  have hcopies : ((memberRan s seq i).stream i).ckptCopies = (s.stream i).ckptCopies := by rw [hran]
  have hpoison : ((memberRan s seq i).stream i).poison = false := by rw [hran, hp]
  have hcanon : (memberRan s seq i).Canon := (State.modStream_ev ..).form h
  have hfits (u : State) (hu : u.Canon) (hused : poolUsed u = poolUsed (memberRan s seq i))
      (hbytes : poolBytes u = poolBytes s) :
      poolFits ((noteCapture u i b).modStream i fun t => { t with ckptCopies := t.ckptCopies ++ [b] }) = true := by
    have h1 := poolUsed_capture (i := i) (b := b) hu
    have h2 := poolUsed_memberRan (seq := seq) (i := i) h
    refine decide_eq_true ((h1.trans ?_).trans hbytes.ge)
    omega
  rw [memberEnd_eq, if_pos hdue, hb, ← hcopies]
  split
  · exact keepCapture_kept (s := (memberRan s seq i).used 1) hpoison
      (hfits _ ((State.used_ev ..).form hcanon) rfl rfl)
  · exact keepCapture_kept hpoison (hfits _ hcanon rfl rfl)

/-! ### The effect of RUN_COMPLETE (R158) -/

/-- What a run that ran to its end leaves in its members. -/
def runEnded (s : State) (r : Run) (seq : Nat) : State :=
  r.members.foldl (fun s i => memberEnd s seq i) (runCounted s r)

/-- What a run that a counter limit stopped leaves in its members. -/
def runCut (s : State) (r : Run) : State :=
  r.members.foldl (fun s i => s.modStream i fun t => { t with lastRun := s.now }) s

/-- The DETAIL of a RUN that ran to its end (R300). -/
def runDetail (r : Run) : Nat := b2n r.stateMiss + 2 * b2n r.modelMiss + 4 * b2n r.longPrompt

theorem runEnded_ev (s : State) (r : Run) (seq : Nat) : Evolves 17592190304768 s (runEnded s r seq) :=
  .foldl _ (fun s i => (memberEnd_ev s seq i).mono) ((modAcct_ev ..).mono)

theorem runCut_ev (s : State) (r : Run) : Evolves 4194304 s (runCut s r) :=
  .foldl _ (fun _ _ => State.modStream_ev ..) (.refl ..)

theorem runCompleteEff_ended (hc : s.cmd r.cid = some c) (h : ¬ r.fin < r.steps) : runCompleteEff s r =
    resumeWaiting (finish (runEnded s r c.sequence) r.cid stOk (runDetail r) (s.stream (r.members.headD 0)).step)
      r.members := by
  unfold runCompleteEff
  rw [hc]
  dsimp only
  rw [if_neg h, if_neg h]
  rfl

theorem runCompleteEff_cut (h : r.fin < r.steps) : runCompleteEff s r =
    resumeWaiting (finish (runCut s r) r.cid stInvalidParameter ((r.stopAt.map (·.2)).getD 0)
      (s.stream (r.members.headD 0)).step) r.members := by
  unfold runCompleteEff
  dsimp only
  rw [if_pos h, if_pos h]
  rfl

/-- Its command and the run leave. -/
theorem runCompleteEff_leaves (hc : s.cmd r.cid = some c) :
    (runCompleteEff s r).cmd r.cid = none ∧ (runCompleteEff s r).runOf r.cid = none := by
  have hcid := State.cmd_cid hc
  by_cases h : r.fin < r.steps
  · have hcut := finish_completed (((runCut_ev s r).cmd (hA := by decide) _).trans hc) stInvalidParameter
      ((r.stopAt.map (·.2)).getD 0) (s.stream (r.members.headD 0)).step
    obtain ⟨hcmd, hrun, -⟩ := hcut
    rw [hcid] at hcmd hrun
    rw [runCompleteEff_cut h]
    exact ⟨(resumeWaiting_withdraws ..).cmds _ hcmd, (resumeWaiting_withdraws ..).runs _ hrun⟩
  · have hend := finish_completed (((runEnded_ev s r c.sequence).cmd (hA := by decide) _).trans hc) stOk
      (runDetail r) (s.stream (r.members.headD 0)).step
    obtain ⟨hcmd, hrun, -⟩ := hend
    rw [hcid] at hcmd hrun
    rw [runCompleteEff_ended hc h]
    exact ⟨(resumeWaiting_withdraws ..).cmds _ hcmd, (resumeWaiting_withdraws ..).runs _ hrun⟩

/-! ### The row of RUN_COMPLETE -/

theorem exec_runComplete (hl : s.live = true) (hr : s.runOf cid = some r) (ho : runOver s r = true) :
    exec (.runComplete cid) s = .next (settle (runCompleteEff s r)) := by
  change execRunComplete cid s = _
  unfold execRunComplete
  rw [hr]
  exact doneIf_both hl ho

theorem exec_runComplete_idle (h : ∀ r, s.runOf cid = some r → s.live = false ∨ runOver s r = false) :
    exec (.runComplete cid) s = .next (settle s) := by
  change execRunComplete cid s = _
  unfold execRunComplete
  cases hr : s.runOf cid with
  | none => rfl
  | some r => exact doneIf_idle (h r hr)

/-! ### Members that no command waits for -/

theorem waiting_finish {A st d res : Nat} (k : Evolves A s u) (hA : A.testBit 14 = false) (h : waiting s i = []) :
    waiting (finish u cid st d res) i = [] := by
  have hcmds : u.cmds = s.cmds := k.frame .cmds hA
  unfold waiting at *
  rw [finish_cmds, hcmds, List.filter_filter, List.filter_eq_nil_iff] at *
  exact fun e he hw => h e he (Bool.and_eq_true _ _ ▸ hw).1

theorem runCompleteEff_quiet_ended (hc : s.cmd r.cid = some c) (h : r.fin = r.steps)
    (hw : ∀ i ∈ r.members, waiting s i = []) : runCompleteEff s r =
      finish (runEnded s r c.sequence) r.cid stOk (runDetail r) (s.stream (r.members.headD 0)).step := by
  rw [runCompleteEff_ended hc (by omega)]
  exact resumeWaiting_none fun i hi => waiting_finish (runEnded_ev ..) (by decide) (hw i hi)

theorem runCompleteEff_quiet_cut (h : r.fin < r.steps) (hw : ∀ i ∈ r.members, waiting s i = []) :
    runCompleteEff s r = finish (runCut s r) r.cid stInvalidParameter ((r.stopAt.map (·.2)).getD 0)
      (s.stream (r.members.headD 0)).step := by
  rw [runCompleteEff_cut h]
  exact resumeWaiting_none fun i hi => waiting_finish (runCut_ev ..) (by decide) (hw i hi)

/-- The completion of a run whose members changed, and no ring or command before it. -/
theorem finish_settle_completed {A st d res : Nat} (k : Evolves A s u) (hc : s.cmd cid = some c)
    (h14 : A.testBit 14 = false) (h13 : A &&& 8192 = 0) : Completed s (settle (finish u cid st d res)) c st d res :=
  ((finish_completed ((k.cmd h14 cid).trans hc) st d res).mono (settle_ev _)).after k h13

/-! ### The members of a run that ended -/

/-- The completion itself leaves the members. -/
theorem finish_leaves (i : Nat) (s : State) (cid st d res : Nat) :
    LeavesMember i s (settle (finish s cid st d res)) := by
  have hpart (k : Nat) : (settle (finish s cid st d res)).part k = s.part k :=
    congrArg (tabGet ({} : Partition) · k) (finish_parts ..)
  exact ⟨congrArg (tabGet ({} : Stream) · i) (finish_streams ..), congrArg (·.cycleCount.toNat) (finish_ident ..),
    fun k => by rw [hpart], fun k h => by rwa [hpart]⟩

theorem runEnded_member (hn : r.members.Nodup) (hi : i ∈ r.members) (s : State) (seq : Nat) :
    MemberEnded s (runEnded s r seq) seq i :=
  .after (modAcct_leaves i s r _) (membersEnd_ended hn hi (runCounted s r) seq)

theorem runEnded_captures {b : Bytes} (h : s.Canon) (hm : r.members = [i]) (hdue : ckptDue s i = true)
    (hp : (s.stream i).poison = false) (hb : captureCtx (memberRan s seq i) i (ckptRing s i).sign = b)
    (hroom : poolUsed s + b.length ≤ poolBytes s) :
    ((runEnded s r seq).stream i).ckptCopies = (s.stream i).ckptCopies ++ [b] := by
  have hk : LeavesMember i s (runCounted s r) := modAcct_leaves i s r _
  have hring : ckptRing (runCounted s r) i = ckptRing s i := by
    unfold ckptRing
    rw [hk.stream, hk.ckpts]
  have hcomm : memberRan (runCounted s r) seq i = runCounted (memberRan s seq i) r := rfl
  have hdue' : ckptDue (runCounted s r) i = true := by
    unfold ckptDue at *
    rwa [hring, hk.stream]
  have hp' : ((runCounted s r).stream i).poison = false := by rw [hk.stream, hp]
  unfold runEnded
  rw [hm, ← hk.stream]
  exact memberEnd_captures ((modAcct_ev ..).form h) hdue' hp' (by rw [hring, hcomm, captureCtx_runCounted, hb])
    ((poolUsed_runCounted h).symm ▸ hroom)

end

/-- Settles O53: the row of RUN branch by branch, its tables and index data read without any change that a later read
sees; at its end the members one by one, and the commands that waited for it, which bring back neither its command nor
its run. -/
theorem runsQueueAndComplete : Obligations.RunsQueueAndComplete := by
  refine ⟨fun s cid c h => ⟨execRun_wanting h, ?_⟩,
    fun s cid canon => ⟨fun c r hl hc hr ho => ?_, exec_runComplete_idle⟩⟩
  · rintro hw refuses rfl
    have refused {st d res : Nat} (he : runEff c s = finish s c.cid st d res) : RunRefused s cid c st d res :=
      execRun_refused h (.refl s) he
    refine ⟨fun hf => refused (runEff_badFields hw hf), ?_⟩
    rintro dt mt bt _ _ _ _ hf hdt hmt hbt rfl rfl rfl rfl
    have htab := runEff_tables hw hf hdt hmt hbt
    refine ⟨fun hr => refused (htab.trans (runChecks_readStatus hr)),
      fun hr hh => refused (htab.trans (runChecks_notHead hr hh)), fun hr hh => ?_⟩
    have hmem := htab.trans (runChecks_members hr hh)
    refine ⟨fun st d res hm => refused (hmem.trans (memberChecks_refused hm)), fun hm =>
      ⟨fun m hi => refused (hmem.trans (memberChecks_badInline hm hi)),
        fun x hi hb => refused (hmem.trans (memberChecks_badBitmap hm hi hb)), fun hi hb =>
      ⟨fun d hd => refused (hmem.trans (memberChecks_badDesc hm hi hb hd)), fun hd hpass => ?_,
        fun q j hd hq hj => RunPasses.badIndex ⟨htab, hr, hh, hm, hi, hb, hd⟩ h hq hj⟩⟩⟩
    refine RunPasses.queued ⟨htab, hr, hh, hm, hi, hb, hd⟩ h fun q hq => ?_
    obtain ⟨hz, hwhole⟩ := List.mem_filter.mp hq
    obtain ⟨hformat, hpos⟩ := by simpa using hwhole
    exact hpass q hz hformat hpos
  · obtain rfl := State.runOf_cid hr
    have hex := exec_runComplete hl hr ho
    refine ⟨⟨_, hex, runCompleteEff_leaves hc⟩, fun hfin hw => ⟨_, hex, ?_⟩, fun hfin hw => ⟨_, hex, ?_⟩,
      fun hfin hn hw => ⟨_, hex, ?_⟩⟩
    · rw [runCompleteEff_quiet_ended hc hfin hw]
      exact finish_settle_completed (runEnded_ev ..) hc (by decide) (by decide)
    · rw [runCompleteEff_quiet_cut hfin hw]
      exact finish_settle_completed (runCut_ev ..) hc (by decide) (by decide)
    · rw [runCompleteEff_quiet_ended hc hfin hw]
      rintro i hi ring due rfl rfl
      have hdue : decide ((ckptRing s i).periodK ≠ 0 ∧ ((s.stream i).runsDone + 1) % (ckptRing s i).periodK = 0) =
          ckptDue s i := Bool.decide_and ..
      have hleaves := finish_leaves i (runEnded s r c.sequence) r.cid stOk (runDetail r)
        (s.stream (r.members.headD 0)).step
      obtain ⟨hseq, hran, hdone, hcopies, hskips⟩ := (runEnded_member hn hi s c.sequence).leaves hleaves
      refine ⟨hseq, hran, hdone, hdue ▸ hcopies, hdue ▸ hskips, ?_⟩
      rintro w b hd hp hone rfl hb hroom
      exact (congrArg Stream.ckptCopies hleaves.stream).trans
        (runEnded_captures canon hone (hdue ▸ hd) hp hb.symm hroom)

end Sys2Proof.Machine
end

section
/-! A STATE_EVICT that its own eviction completes: the counterexample to O51. The state of the only stream moves to a
geode that is full of a model copy, which is evicted, and completes the commands that wait for it (R163, R242). A
canonical state may list the STATE_EVICT itself among those: it is then gone while the copy out has only begun. -/

-- These proofs wait on the same definitions: they are elaborated in order.
set_option Elab.async false

namespace Sys2Proof.Machine

/-! ### STATE_EVICT of a resident stream (R162, R163, R296) -/

section
variable {s u : State} {c : Cmd} {i : Nat}

theorem withStream_onStream (h : OnStream s c i) (a b : Bool) (k : Nat → State) : withStream s c a b k = k i := by
  obtain ⟨rfl, hcheck, hclosing, hmig⟩ := h
  simp [withStream, hcheck, hclosing, hmig]

theorem exec_stateEvict {cid : Nat} (h : Ready s cid 0x37 c) (hact : stateEvictEff c (begin' s cid) = u) :
    exec (.stateEvict cid) s = .next (settle u) := by
  rw [← hact]
  exact onCmd_ready h stateEvictEff

theorem runsQueued_none {cid : Nat} (h : runsNaming s i cid = []) : runsQueued s i cid = [] := by simp [runsQueued, h]

theorem runExecuting_none {cid : Nat} (h : runsNaming s i cid = []) : runExecuting s i cid = false := by
  simp [runExecuting, h]

/-- Where no RUN names the stream and no copy is in progress, its state moves at once. -/
theorem stateEvictEff_now (h : OnStream s c i) (honly : c.only [(16, 1)] = true) (hdest : c.f 16 1 ≤ 1)
    (hruns : runsNaming s i c.cid = []) (hres : (s.stream i).resid = .resident) :
    stateEvictEff c s = evictNow s c i := by
  unfold stateEvictEff
  rw [withStream_onStream h]
  simp [honly, hdest, runsQueued_none hruns, runExecuting_none hruns, hres, Residency.moving]

/-- The copy out to the geode begins in the state that the room for it leaves. -/
theorem evictNow_toGeode (hdest : c.f 16 1 = 0) (hres : (s.stream i).resid = .resident)
    (hroom : roomGeode (s.modCmd c.cid fun c => { c with waitStream := none })
      (voiceStateBytes (voiceOf s (s.stream i).voice)) = some u) :
    evictNow s c i = u.modStream i fun t => { t with resid := .movingOut true } := by
  simp [evictNow, hdest, hres, hroom]

end

/-! ### The state -/

namespace SelfEviction

/-- STATE_EVICT of stream 0 of partition 1 to the geode, accepted as command 3. -/
def evictPacket : Cmd :=
  { cid := 3, fn := 0, ring := 0, cq := 0, accepted := 2
    packet := toLE 1 0x37 ++ toLE 1 2 ++ toLE 2 5 ++ toLE 2 7 ++ toLE 2 1 ++ toLE 4 (2 ^ 14 + 2 ^ 21) ++ toLE 4 9 ++
      zeros 80 }

/-- The state of the counterexample to O50, with STATE_EVICT as command 3: stream 0 is resident, and a copy for which
command 3 waits fills the geode. -/
def evicting : State := { state with cmds := [evictPacket] }

/-- The state in which the command acts. -/
def evictBegun : State := begin' evicting 3

theorem evicting_canon : evicting.Canon := { state_canon with cids := by decide +kernel }

theorem evictPacket_ready : Ready evicting 3 0x37 evictPacket := by decide +kernel

theorem evictPacket_onStream : OnStream evicting evictPacket 0 ∧ OnStream evictBegun evictPacket 0 := by
  decide +kernel

theorem evictPacket_form : evictPacket.only [(16, 1)] = true ∧ evictPacket.f 16 1 = 0 := by decide +kernel

theorem evicting_idle : runsNaming evicting 0 3 = [] ∧ runsNaming evictBegun 0 3 = [] := by decide +kernel

theorem evicting_resident : (evicting.stream 0).resid = .resident ∧ (evictBegun.stream 0).resid = .resident := by
  decide +kernel

/-- The bytes of the stream's state slots. -/
def stateBytes : Nat := voiceStateBytes (voiceOf evicting (evicting.stream 0).voice)

theorem geode_room : (roomGeode evicting stateBytes).isSome = true := by decide +kernel

/-- The eviction that makes the room completes the command itself. -/
theorem geode_evicts : ∃ u,
    roomGeode (evictBegun.modCmd 3 fun c => { c with waitStream := none }) stateBytes = some u ∧ u.cmd 3 = none := by
  have h : (roomGeode (evictBegun.modCmd 3 fun c => { c with waitStream := none }) stateBytes).any
      (fun u => (u.cmd 3).isNone) = true := by
    decide +kernel
  obtain ⟨u, hu, hcmd⟩ := (Option.any_eq_true ..).mp h
  exact ⟨u, hu, Option.isNone_iff_eq_none.mp hcmd⟩

/-- After the row the copy out is in progress, and no command waits for its end. -/
theorem evicts_itself : ∃ t, exec (.stateEvict 3) evicting = .next t ∧ t.cmd 3 = none := by
  obtain ⟨u, hu, hcmd⟩ := geode_evicts
  obtain ⟨honly, hdest⟩ := evictPacket_form
  have hact : stateEvictEff evictPacket evictBegun = u.modStream 0 fun t => { t with resid := .movingOut true } :=
    (stateEvictEff_now evictPacket_onStream.2 honly (by omega) evicting_idle.2 evicting_resident.2).trans
      (evictNow_toGeode hdest evicting_resident.2 hu)
  exact ⟨settle (u.modStream 0 _), exec_stateEvict evictPacket_ready hact, hcmd⟩

end SelfEviction

open SelfEviction in
/-- Refutes O51: a STATE_EVICT makes room in the geode by an eviction that completes the STATE_EVICT itself, before
the copy out that it begins has ended. -/
theorem not_streamStateMovesAndIsCheckpointed : ¬ Obligations.StreamStateMovesAndIsCheckpointed := by
  intro h
  obtain ⟨t, ht, hgone⟩ := evicts_itself
  obtain ⟨honly, hdest⟩ := evictPacket_form
  obtain ⟨hruns, -⟩ := evicting_idle
  obtain ⟨hevict, -⟩ := h evicting 3 evictPacket 0 evicting_canon (by decide) _ rfl
  obtain ⟨-, hmoves⟩ := hevict evictPacket_ready evictPacket_onStream.1
  obtain ⟨-, hacts⟩ := hmoves honly (by omega)
  obtain ⟨-, hnow⟩ := hacts (.inl (runsQueued_none hruns))
  obtain ⟨-, -, hbegins, -⟩ :=
    hnow true stateBytes true (runExecuting_none hruns) (by simp [hdest]) rfl (by simp [geode_room])
  obtain ⟨t', ht', hcmd, -⟩ := hbegins rfl evicting_resident.1
  obtain rfl : t = t' := Host.Outcome.next.inj (ht.symm.trans ht')
  exact hcmd hgone

end Sys2Proof.Machine
end

section
/-! The loads of a lattice table, of a share table and of a firmware package (O14). -/

-- These proofs wait on the same definitions: they are elaborated in order.
set_option Elab.async false

namespace Sys2Proof.Machine

/-! ### The device pool when a command begins or a read passes (R356) -/

theorem State.cmd_map {s t : State} {g : Cmd → Cmd} (hg : ∀ c, (g c).cid = c.cid) (h : t.cmds = s.cmds.map g)
    (cid : Nat) : t.cmd cid = (s.cmd cid).map g := by
  unfold State.cmd
  rw [h, List.find?_map]
  simp [hg]

/-- What a command has fetched, and with it what its landing zone holds, does not change when it begins. -/
theorem landingBytes_begin' (s : State) (cid : Nat) : landingBytes (begin' s cid) = landingBytes s := by
  have hg (c : Cmd) : (if c.cid = cid then c.begun s else c).cid = c.cid ∧
      (if c.cid = cid then c.begun s else c).fetched = c.fetched ∧
      (if c.cid = cid then c.begun s else c).opcode = c.opcode := by
    split <;> exact ⟨rfl, rfl, rfl⟩
  have hcmds : (begin' s cid).cmds = s.cmds.map fun c => if c.cid = cid then c.begun s else c := rfl
  unfold landingBytes
  simp only [State.cmd_map (fun c => (hg c).1) hcmds, hcmds, List.filter_map, List.map_map, Function.comp_def, hg,
    Option.any_map]
  rfl

theorem poolFits_begin' (s : State) (cid : Nat) : poolFits (begin' s cid) = poolFits s := by
  have h : poolUsed (begin' s cid) = poolUsed s := by
    unfold poolUsed
    rw [landingBytes_begin']
    rfl
  unfold poolFits
  rw [h]
  rfl

/-- The row of a packet goes on to the state that its effect leaves. -/
theorem onCmd_acts {s u : State} {cid op : Nat} {c : Cmd} {act : Cmd → State → State} (h : Ready s cid op c)
    (hact : act c (begin' s cid) = u) : onCmd s cid op act = .next (settle u) := hact ▸ onCmd_ready h act

namespace ReadsLeave

variable {s u : State}

theorem poolFits (h : ReadsLeave s u) : Machine.poolFits u = Machine.poolFits s := by
  obtain ⟨_, _, _, _, rfl⟩ := h
  rfl

theorem modPart (h : ReadsLeave s u) (k : Nat) (g : Partition → Partition) :
    ReadsLeave (s.modPart k g) (u.modPart k g) := by
  obtain ⟨_, _, _, _, rfl⟩ := h
  exact ⟨_, _, _, _, rfl⟩

theorem setShareNext (h : ReadsLeave s u) (es : Option (List ShareEntry)) :
    ReadsLeave { s with shareNext := es } { u with shareNext := es } := by
  obtain ⟨_, _, _, _, rfl⟩ := h
  exact ⟨_, _, _, _, rfl⟩

theorem latticeOk (h : ReadsLeave s u) (p : Partition) (b : Bytes) :
    Machine.latticeOk u p b = Machine.latticeOk s p b := by
  obtain ⟨_, _, _, _, rfl⟩ := h
  rfl

theorem shareOk (h : ReadsLeave s u) (b : Bytes) : Machine.shareOk u b = Machine.shareOk s b := by
  obtain ⟨_, _, _, _, rfl⟩ := h
  rfl

/-- A command whose structure has been read completes as one that has only begun. -/
theorem completed {cid op : Nat} {c : Cmd} (hu : ReadsLeave (begin' s cid) u) (h : Ready s cid op c) {t : State}
    (hc : t.cmds = u.cmds) (hr : t.rings = u.rings) (st d r : Nat) :
    Completed s (settle (finish t c.cid st d r)) c st d r := by
  obtain ⟨_, _, _, _, rfl⟩ := hu
  exact h.completed hc hr st d r

end ReadsLeave

/-! ### LATTICE_LOAD (R194 to R196) -/

section
variable {s u : State} {cid : Nat} {c : Cmd} {b : Bytes}

/-- The state with a table as the shadow of the command's partition. -/
def takeShadow (s : State) (c : Cmd) (b : Bytes) : State :=
  s.modPart c.partition fun p => { p with shadow := some (parseLattice b) }

/-- A table that passes R196 becomes the shadow where the pool has room for its copy. -/
theorem latticeLoadEff_read (ho : c.only [(16, 8), (24, 4)] = true) (hlo : 48 ≤ c.f 24 4)
    (hhi : c.f 24 4 ≤ 16 + 32 * 256) (hn : c.f 24 4 = 16 + 32 * rd b 0 2)
    (hread : ∀ k, withStruct s c (c.f 16 8) (c.f 24 4) false k = k u b)
    (hok : latticeOk u (u.part c.partition) b = true) :
    latticeLoadEff c s =
      if poolFits (takeShadow u c b) = true then fail (takeShadow u c b) c.cid stOk else fail u c.cid stNoResource := by
  have hform : ¬ (!c.only [(16, 8), (24, 4)] || decide (c.f 24 4 < 48) || decide (16 + 32 * 256 < c.f 24 4)) = true := by
    simp only [ho, Bool.not_true, Bool.false_or, Bool.or_eq_true, decide_eq_true_eq]
    omega
  unfold latticeLoadEff
  dsimp only
  rw [if_neg hform, hread, if_neg (by simp [← hn, hok])]
  unfold takeShadow
  split <;> rfl

theorem latticeLoad_takes (h : Ready s cid 0x14 c) (ho : c.only [(16, 8), (24, 4)] = true) (hlo : 48 ≤ c.f 24 4)
    (hhi : c.f 24 4 ≤ 16 + 32 * 256) (hb : PlainRead s c.fn (c.f 16 8) (c.f 24 4) b)
    (hn : c.f 24 4 = 16 + 32 * rd b 0 2) (hok : latticeOk s (s.part c.partition) b = true) :
    (poolFits (takeShadow s c b) = true →
      ∃ t, exec (.latticeLoad cid) s = .next t ∧ (t.part c.partition).shadow = some (parseLattice b) ∧
        (t.part c.partition).active = (s.part c.partition).active ∧ (∀ k, k ≠ c.partition → t.part k = s.part k) ∧
        Completed s t c 0x00 0 0) ∧
    (poolFits (takeShadow s c b) = false →
      ∃ t, exec (.latticeLoad cid) s = .next t ∧ t.parts = s.parts ∧ Completed s t c stNoResource 0 0) := by
  obtain ⟨u, hu, hread⟩ := withStruct_plain (s := begin' s cid) hb
  have hparts (k : Nat) : u.part k = s.part k := hu.evolves.part (hA := by decide) k
  have hfits : poolFits (takeShadow u c b) = poolFits (takeShadow s c b) :=
    (hu.modPart ..).poolFits.trans (poolFits_begin' (takeShadow s c b) cid)
  have hex : exec (.latticeLoad cid) s = _ :=
    onCmd_acts h (latticeLoadEff_read ho hlo hhi hn hread (by rw [hu.latticeOk, hparts]; exact hok))
  rw [hfits] at hex
  refine ⟨fun hf => ?_, fun hf => ?_⟩
  · rw [if_pos hf] at hex
    refine ⟨_, hex, ?_, ?_, fun k hk => ?_, hu.completed (t := takeShadow u c b) h rfl rfl ..⟩
    all_goals rw [State.part_settle, fail, (finish_ev ..).part, takeShadow]
    · rw [State.part_modPart]
    · rw [State.part_modPart, hparts]
    · rw [State.part_modPart_other hk, hparts]
  · rw [if_neg (by rw [hf]; decide)] at hex
    exact ⟨_, hex, (finish_parts ..).trans (hu.evolves.frame .parts (by decide)), hu.completed h rfl rfl ..⟩

end

/-! ### SHARE_TABLE_LOAD (R209) -/

section
variable {s u : State} {cid : Nat} {c : Cmd} {b : Bytes}

/-- The state with a share table that waits for its round. -/
def takeShares (s : State) (b : Bytes) : State := { s with shareNext := some (parseShare b) }

theorem shareTableLoadEff_read (ho : c.only [(16, 8)] = true)
    (hread : ∀ k, withStruct s c (c.f 16 8) 512 false k = k u b) (hok : shareOk u b = true) :
    shareTableLoadEff c s =
      if poolFits (takeShares u b) = true then fail (takeShares u b) c.cid stOk else fail u c.cid stNoResource := by
  unfold shareTableLoadEff
  rw [if_neg (by simp [ho]), hread]
  dsimp only
  rw [if_pos hok]
  unfold takeShares
  split <;> rfl

theorem shareTableLoad_takes (h : Ready s cid 0x16 c) (ho : c.only [(16, 8)] = true)
    (hb : PlainRead s c.fn (c.f 16 8) 512 b) (hok : shareOk s b = true) :
    (poolFits (takeShares s b) = true →
      ∃ t, exec (.shareTableLoad cid) s = .next t ∧ t.shareNext = some (parseShare b) ∧ t.share = s.share ∧
        Completed s t c 0x00 0 0) ∧
    (poolFits (takeShares s b) = false →
      ∃ t, exec (.shareTableLoad cid) s = .next t ∧ t.shareNext = s.shareNext ∧ t.share = s.share ∧
        Completed s t c stNoResource 0 0) := by
  obtain ⟨u, hu, hread⟩ := withStruct_plain (s := begin' s cid) hb
  have hshare : u.share = s.share := hu.evolves.frame .share (by decide)
  have hfits : poolFits (takeShares u b) = poolFits (takeShares s b) :=
    (hu.setShareNext _).poolFits.trans (poolFits_begin' (takeShares s b) cid)
  have hex : exec (.shareTableLoad cid) s = _ :=
    onCmd_acts h (shareTableLoadEff_read ho hread (by rw [hu.shareOk]; exact hok))
  rw [hfits] at hex
  refine ⟨fun hf => ?_, fun hf => ?_⟩
  · rw [if_pos hf] at hex
    exact ⟨_, hex, finish_shareNext .., (finish_share ..).trans hshare,
      hu.completed (t := takeShares u b) h rfl rfl ..⟩
  · rw [if_neg (by rw [hf]; decide)] at hex
    exact ⟨_, hex, (finish_shareNext ..).trans (hu.evolves.frame .shareNext (by decide)),
      (finish_share ..).trans hshare, hu.completed h rfl rfl ..⟩

end

/-! ### FW_STAGE (R425, R426) -/

section
variable {s u : State} {cid : Nat} {c : Cmd} {b : Bytes}

theorem setSlot_hostBoot (s : State) (i : Bool) (b : Bytes) : (setSlot s i b).sec.hostBoot = s.sec.hostBoot := by
  unfold setSlot
  dsimp only
  split <;> split <;> rfl

theorem slotOf_setSlot_self (s : State) (i : Bool) (b : Bytes) : slotOf (setSlot s i b) i = b := by
  unfold slotOf
  rw [setSlot_hostBoot]
  cases h : s.sec.hostBoot <;> cases i <;> simp [setSlot, h]

theorem slotOf_setSlot_other (s : State) (i : Bool) (b : Bytes) : slotOf (setSlot s (!i) b) i = slotOf s i := by
  unfold slotOf
  rw [setSlot_hostBoot]
  cases h : s.sec.hostBoot <;> cases i <;> simp [setSlot, h]

/-- A slot's bytes are no part of what is staged. -/
theorem setSlot_staging (s : State) (i : Bool) (b : Bytes) :
    (setSlot s i b).sec.staging = s.sec.staging ∧ (setSlot s i b).sec.stagedValid = s.sec.stagedValid ∧
    (setSlot s i b).sec.staged = s.sec.staged := by
  unfold setSlot
  dsimp only
  split <;> split <;> exact ⟨rfl, rfl, rfl⟩

/-- The state in which FW_STAGE reads its package: nothing is staged any more. -/
def unstaged (s : State) : State := { s with sec := { s.sec with stagedValid := false, staged := none } }

/-- The state in which the copy of a package has begun, before its first bytes. -/
def noteStaging (s : State) (c : Cmd) (b : Bytes) : State :=
  { s with sec := { s.sec with staging := some (c.cid, b), stagedValid := false, staged := none } }

theorem fwStageEff_read (ho : c.only [(16, 16)] = true) (h0 : c.f 24 8 ≠ 0) (hn : c.f 24 8 ≤ 2 ^ 25)
    (hs : s.sec.staging = none) (ha : s.sec.activating = none)
    (hread : ∀ k, withStruct (unstaged s) c (c.f 16 8) (c.f 24 8) false k = k u b) :
    fwStageEff c s = stageFrom c u b := by
  unfold fwStageEff
  dsimp only
  have hform : ¬ (!c.only [(16, 16)] || decide (c.f 24 8 = 0) || decide (2 ^ 25 < c.f 24 8)) = true := by
    simp only [ho, Bool.not_true, Bool.false_or, Bool.or_eq_true, decide_eq_true_eq]
    omega
  rw [if_neg (by simp [hs, ha]), if_neg hform]
  exact hread (stageFrom c)

theorem fwStage_begins (h : Ready s cid 0x71 c) (ho : c.only [(16, 16)] = true) (h0 : c.f 24 8 ≠ 0)
    (hn : c.f 24 8 ≤ 2 ^ 25) (hs : s.sec.staging = none) (ha : s.sec.activating = none)
    (hb : PlainRead s c.fn (c.f 16 8) (c.f 24 8) b) :
    ∃ t, exec (.fwStage cid) s = .next t ∧ t.sec.staging = some (cid, b) ∧ t.sec.stagedValid = false ∧
      t.sec.staged = none ∧ slotOf t s.sec.activeSlot = slotOf s s.sec.activeSlot ∧
      ∃ n, slotOf t (!s.sec.activeSlot) = halfCopied n (slotOf s (!s.sec.activeSlot)) b := by
  obtain ⟨u, hu, hread⟩ := withStruct_plain (s := unstaged (begin' s cid)) hb
  have hsec : u.sec = (unstaged s).sec := hu.evolves.frame .sec (by decide)
  have hslot (i : Bool) : slotOf u i = slotOf s i := by
    unfold slotOf
    rw [hsec]
    rfl
  have hex : exec (.fwStage cid) s = _ := onCmd_acts h (fwStageEff_read (s := begin' s cid) ho h0 hn hs ha hread)
  have hactive : u.sec.activeSlot = s.sec.activeSlot := by rw [hsec]; rfl
  obtain rfl := State.cmd_cid h.1
  obtain ⟨hstaging, hvalid, hstaged⟩ := setSlot_staging (noteStaging u c b) (!s.sec.activeSlot)
    (halfCopied u.free (slotOf s (!s.sec.activeSlot)) b)
  have hstage : stageFrom c u b =
      (setSlot (noteStaging u c b) (!s.sec.activeSlot) (halfCopied u.free (slotOf s (!s.sec.activeSlot)) b)).used 1 := by
    rw [stageFrom, hactive, hslot]
    rfl
  rw [hstage] at hex
  refine ⟨_, hex, hstaging, hvalid, hstaged, ?_, u.free, slotOf_setSlot_self ..⟩
  exact (slotOf_setSlot_other ..).trans (hslot _)

end

/-- Settles O14: each load takes the structure that it reads, and the tables only where the pool has room for them. -/
theorem loadsTakeTheirStructure : Obligations.LoadsTakeTheirStructure := by
  intro s cid c b
  refine ⟨fun h ho hlo hhi hb hn hok u hu => ?_, shareTableLoad_takes, fwStage_begins⟩
  subst hu
  exact latticeLoad_takes h ho hlo hhi hb hn hok

end Sys2Proof.Machine
end

section
/-! Fill of a free facet, and the landing of staged fetches (O43). -/

-- These proofs wait on the same definitions: they are elaborated in order.
set_option Elab.async false

namespace Sys2Proof.Machine

/-! ### FILL (R204) -/

section
variable {s : State} {k f c : Nat} {cs : List Nat} {r : Run} {kn : Kernel}

theorem exec_fill (hk : k < 128) (hf : f < 2048) :
    exec (.fill k f) s = doneIf (s.live && fillFree s k f) s
      (if fillFree (feed (evictForced s k) k) k f then
        fillFrom (feed (evictForced s k) k) f (beRuns (feed (evictForced s k) k) k)
      else feed (evictForced s k) k) := by
  have hwf : Instr.wf (.fill k f) = true := decide_eq_true ⟨hk, hf⟩
  exact if_pos hwf

/-- The first run of the list has a kernel for the facet: it is planned, and given without a wait at the culet. -/
theorem fillFrom_first (hr : (advanceRun s c).runOf c = some r) (hi : runIdle (advanceRun s c) r = true)
    (hn : nextKernel (advanceRun s c) r = some kn)
    (hf : (kernelFacets (advanceRun s c) r kn.batch (kernelReads (advanceRun s c) kn)).contains f = true) :
    fillFrom s f (c :: cs) =
      giveKernel ((putKernel (advanceRun s c) r (runVoice (advanceRun s c) r) kn).modPart r.part fun p =>
        { p with culetQ := p.culetQ.dropLast }) kn f := by
  rw [fillFrom]
  dsimp only
  rw [hr]
  dsimp only
  rw [if_pos hi, hn]
  dsimp only
  rw [if_neg (by rw [hf]; decide)]

theorem giveKernel_queue (s : State) (k : Kernel) (f : Nat) :
    ((giveKernel s k f).facet f).queue = (s.facet f).queue ++ [k] := by
  have h : ((stagedFromT1 (s.modFacet f fun c => { c with queue := c.queue ++ [k] }) k).facet f).queue =
      (s.facet f).queue ++ [k] := by
    rw [(stagedFromT1_ev ..).facet, State.facet_modFacet]
  unfold giveKernel
  extract_lets
  split
  · rw [(State.modPrism_ev ..).facet, h]
  · exact h

end

/-! ### STAGED_FETCH_LAND (R220) -/

/-- What a partition knows of its staged fetches: those outstanding, the discarded ones, and its cause bits. -/
def State.stagings (s : State) (k : Nat) : List Stage × Word32 × BitVec 6 :=
  ((s.part k).stages, (s.part k).staleStages, (s.part k).partCause)

theorem Keeps.stagings {s t : State} (h : Keeps State.standings s t) : Keeps State.stagings s t :=
  ⟨h.form, fun w => funext fun k =>
    congrArg (fun p => (p.stages, p.staleStages, p.partCause)) (congrFun (h.same w) k)⟩

theorem modPart_stagings (s : State) (k : Nat) {g : Partition → Partition} (hst : ∀ p, (g p).stages = p.stages)
    (hn : ∀ p, (g p).staleStages = p.staleStages) (hc : ∀ p, (g p).partCause = p.partCause) :
    Keeps State.stagings s (s.modPart k g) := by
  refine ⟨(State.modPart_ev s k g).form, fun _ => funext fun j => ?_⟩
  unfold State.stagings
  by_cases hj : j = k
  · subst hj
    rw [State.part_modPart, hst, hn, hc]
  · rw [State.part_modPart_other hj]

theorem sinkFault_stagings (s : State) (k g : Nat) : Keeps State.stagings s (sinkFault s k g) := by
  unfold sinkFault beginTeardown
  extract_lets
  split
  · exact .refl s
  · exact .step (dropKernels_standings ..).stagings
      (modPart_stagings _ _ (fun _ => rfl) (fun _ => rfl) fun _ => rfl)

section
variable {s : State} {k i gen : Nat} {zone : Bool} {q : Stage}

/-- The outstanding fetches of a stream with a generation, whose commands are still accepted. -/
def stagesAsked (s : State) (k i gen : Nat) : List Stage :=
  (s.part k).stages.filter fun q => q.stream == i && q.gen == gen && (s.cmd q.cid).isSome

theorem exec_stagedFetchLand (hk : k < 128) (hi : i < 16384) : exec (.stagedFetchLand k i gen zone) s =
    doneIf (s.live && (s.part k).valid) s (stageLand s k i gen zone) := by
  have hwf : Instr.wf (.stagedFetchLand k i gen zone) = true := decide_eq_true ⟨hk, hi⟩
  exact if_pos hwf

/-- What an arrival does is a matter of the first outstanding fetch whose bytes are there. -/
theorem stageLand_eq : stageLand s k i gen zone =
    ((stagesAsked s k i gen).find? (stageArrived s)).elim
      (if zone || !(stagesAsked s k i gen).isEmpty then s else staleStage s k) fun q =>
        if zone || gen == (s.stream i).placementGen.toNat then
          s.modPart k fun p => { p with stages := dropStage q p.stages }
        else restage (staleStage s k) k q := by
  change (match (stagesAsked s k i gen).find? (stageArrived s) with | some q => _ | none => _) = _
  cases (stagesAsked s k i gen).find? (stageArrived s) <;> rfl

theorem stageLand_lands (hq : (stagesAsked s k i gen).find? (stageArrived s) = some q)
    (h : zone = true ∨ gen = (s.stream i).placementGen.toNat) :
    stageLand s k i gen zone = s.modPart k fun p => { p with stages := dropStage q p.stages } := by
  rw [stageLand_eq, hq, Option.elim_some, if_pos (by simpa using h)]

theorem stageLand_stale (hq : (stagesAsked s k i gen).find? (stageArrived s) = some q) (hz : zone = false)
    (hg : gen ≠ (s.stream i).placementGen.toNat) : stageLand s k i gen zone = restage (staleStage s k) k q := by
  rw [stageLand_eq, hq, Option.elim_some, if_neg (by simpa [hz] using hg)]

theorem stageLand_unasked (hq : stagesAsked s k i gen = []) (hz : zone = false) :
    stageLand s k i gen zone = staleStage s k := by
  rw [stageLand_eq, hq, hz]
  rfl

theorem stageLand_waits (hq : (stagesAsked s k i gen).find? (stageArrived s) = none)
    (h : stagesAsked s k i gen ≠ [] ∨ zone = true) : stageLand s k i gen zone = s := by
  rw [stageLand_eq, hq, Option.elim_none, if_pos (by simpa [or_comm] using h)]

/-- A discarded fetch is counted, and stays outstanding as far as this alone goes. -/
theorem staleStage_stagings (s : State) (k : Nat) : (staleStage s k).stagings k =
    ((s.part k).stages, addSat (s.part k).staleStages 1, setBit (s.part k).partCause 5) := by
  rw [State.stagings, staleStage, State.setPartCause, State.part_modPart, State.part_modPart]

/-- Its fetch goes out again, with the generation of now, or its group falls: both leave it among the outstanding. -/
theorem restage_stagings (w : s.Canon) (k : Nat) (q : Stage) : (restage s k q).stagings k =
    (dropStage q (s.part k).stages ++ [{ q with gen := (s.stream q.stream).placementGen.toNat }],
      (s.part k).staleStages, (s.part k).partCause) := by
  unfold restage
  extract_lets now s1 s2 r
  have h1 : s1.stagings k = (dropStage q (s.part k).stages ++ [{ q with gen := now }], (s.part k).staleStages,
      (s.part k).partCause) := by
    rw [State.stagings, State.part_modPart]
  have hr : Keeps State.stagings s1 r.1 :=
    .step (issueReq_ev ..).standings.stagings (State.modCmd_ev ..).standings.stagings
  have w1 : s1.Canon := (State.modPart_ev ..).form w
  split
  · rw [hr.same w1, h1]
  · rw [(Keeps.step (sinkFault_stagings ..) hr).same w1, h1]

end

/-- Settles O43: the first run of fill by its next kernel, a staged fetch by what asked for it and its generation. -/
theorem fillAndStagingFeedTheFacets : Obligations.FillAndStagingFeedTheFacets := by
  intro s k w hk
  refine ⟨?_, fun f hf h => (exec_fill hk hf).trans (doneIf_idle h), ?_,
    fun i gen zone hi h => (exec_stagedFetchLand hk hi).trans (doneIf_idle h)⟩
  · rintro f u a c cs r kn hf hl hfree rfl hfree' hbe rfl hr hidle hn hfacet
    refine ⟨_, (exec_fill hk hf).trans (doneIf_both hl hfree), ?_⟩
    rw [if_pos hfree', hbe, fillFrom_first hr hidle hn hfacet, State.facet_settle, giveKernel_queue,
      (State.modPart_ev ..).facet, (putKernel_ev ..).facet]
  · rintro i gen zone asked hi hl hv rfl
    have hex := (exec_stagedFetchLand (gen := gen) (zone := zone) hk hi).trans (doneIf_both hl hv)
    refine ⟨fun q hq => ⟨fun h => ⟨_, hex, ?_⟩, fun hz hg => ⟨_, hex, ?_⟩⟩, fun hq hz => ⟨_, hex, ?_⟩, fun hq h => ?_⟩
    · rw [State.part_settle, stageLand_lands hq h, State.part_modPart]
      exact ⟨rfl, rfl⟩
    · have h1 := staleStage_stagings s k
      have h2 := restage_stagings (s := staleStage s k) ((State.setPartCause_ev ..).form ((State.modPart_ev ..).form w)) k q
      simp only [State.stagings, Prod.mk.injEq] at h1 h2
      obtain ⟨hst, hcount, hcause⟩ := h1
      obtain ⟨hst', hcount', hcause'⟩ := h2
      rw [State.part_settle, stageLand_stale hq hz hg, hst', hcount', hcause', hst, hcount, hcause]
      exact ⟨rfl, getLsbD_setBit_self _ (by decide), rfl⟩
    · have h1 := staleStage_stagings s k
      simp only [State.stagings, Prod.mk.injEq] at h1
      obtain ⟨hst, hcount, hcause⟩ := h1
      rw [State.part_settle, stageLand_unasked hq hz, hst, hcount, hcause]
      exact ⟨rfl, getLsbD_setBit_self _ (by decide), rfl⟩
    · rw [hex, stageLand_waits hq h]

end Sys2Proof.Machine
end

section
/-! The prisms of a yield: what is withdrawn and released, and what later work leaves of their phases (O40). -/

-- These proofs wait on the same definitions: they are elaborated in order.
set_option Elab.async false

namespace Sys2Proof.Machine

/-! ### Masks of a packet (R5) -/

theorem leNat_lt (b : Bytes) : leNat b < 256 ^ b.length := by
  induction b with
  | nil => exact Nat.one_pos
  | cons x r ih =>
    have hx : x.toNat < 256 := x.isLt
    rw [leNat, List.length_cons, Nat.pow_succ]
    omega

/-- A field of `n` bytes is below 256 ^ n. -/
theorem Cmd.f_lt (c : Cmd) (off n : Nat) : c.f off n < 256 ^ n :=
  (leNat_lt _).trans_le (Nat.pow_le_pow_right (by decide) (List.length_take_le ..))

theorem mem_maskBits {n v i : Nat} : i ∈ maskBits n v ↔ i < n ∧ v.testBit i = true := by
  simp [maskBits, upTo]

theorem mem_maskBits_ofNat {m p : Nat} : p ∈ maskBits 128 (BitVec.ofNat 128 m).toNat ↔ p < 128 ∧ m.testBit p = true := by
  rw [mem_maskBits, BitVec.testBit_toNat, BitVec.getLsbD_ofNat, Bool.and_eq_true, decide_eq_true_eq]
  tauto

theorem mask_ne_nil {m : Nat} (h0 : m ≠ 0) (hm : m < 2 ^ 128) : ∃ p < 128, m.testBit p = true := by
  obtain ⟨p, hp⟩ := Nat.exists_testBit_of_ne_zero h0
  refine ⟨p, Nat.lt_of_not_le fun hle => ?_, hp⟩
  rw [Nat.testBit_lt_two_pow (hm.trans_le (Nat.pow_le_pow_right (by decide) hle))] at hp
  exact absurd hp (by decide)

/-! ### The phases of a prism that later work leaves (R191, R219) -/

/-- Whether each prism leaves its partition, and whether it is being zeroed. -/
def State.phases (s : State) (p : Nat) : Bool × Bool := ((s.prism p).leaving, (s.prism p).zeroing)

theorem Evolves.prism {A : Nat} {s t : State} (h : Evolves A s t) (hA : A.testBit 17 = false := by decide) (p : Nat) :
    t.prism p = s.prism p := congrArg (tabGet ({} : Prism) · p) (h.frame .prisms hA)

theorem Evolves.phases {A : Nat} {s t : State} (h : Evolves A s t) (hA : A.testBit 17 = false := by decide) :
    Keeps State.phases s t :=
  ⟨h.form, fun _ => funext fun p => congrArg (fun q : Prism => (q.leaving, q.zeroing)) (h.prism hA p)⟩

theorem modPrism_phases (s : State) (p : Nat) {g : Prism → Prism} (hl : ∀ q, (g q).leaving = q.leaving)
    (hz : ∀ q, (g q).zeroing = q.zeroing) : Keeps State.phases s (s.modPrism p g) := by
  refine ⟨(State.modPrism_ev s p g).form, fun _ => funext fun j => ?_⟩
  unfold State.phases
  by_cases hj : j = p
  · subst hj
    rw [State.prism_modPrism, hl, hz]
  · rw [State.prism_modPrism_other hj]

theorem giveKernel_phases (s : State) (k : Kernel) (f : Nat) : Keeps State.phases s (giveKernel s k f) := by
  have h : Keeps State.phases s (stagedFromT1 (s.modFacet f fun c => { c with queue := c.queue ++ [k] }) k) :=
    .step (stagedFromT1_ev ..).phases (State.modFacet_ev ..).phases
  unfold giveKernel
  extract_lets
  split
  · exact .step (modPrism_phases _ _ (fun _ => rfl) fun _ => rfl) h
  · exact h

theorem feedFrom_phases (s : State) (k : Nat) (qs : List Kernel) : Keeps State.phases s (feedFrom s k qs) := by
  fun_induction feedFrom s k qs
  case case1 => exact .refl ..
  case case3 ih => exact .step ih (giveKernel_phases ..)
  all_goals next ih => exact .step ih (State.modPart_ev ..).phases

theorem feed_phases (s : State) (k : Nat) : Keeps State.phases s (feed s k) :=
  .step (feedFrom_phases ..) (State.modPart_ev ..).phases

theorem finishYield_phases (s : State) (k cid : Nat) (mask : BitVec 128) :
    Keeps State.phases s (finishYield s k cid mask) := by
  unfold finishYield
  extract_lets is s1 s2 cs s3 s4
  have h1 : Keeps State.phases s s1 := .foldl _ (fun _ _ => (State.modStream_ev ..).phases) (.refl s)
  have h2 : Keeps State.phases s s2 := .foldl _ (fun _ _ => (reseat_ev ..).phases) h1
  have h3 : Keeps State.phases s s3 := .foldl _ (fun _ _ => (replaceCopy_ev ..).phases) h2
  exact .step (feed_phases ..) <| .step (fail_ev ..).phases <| .step (State.setPartCause_ev ..).phases <|
    .step (State.modPart_ev ..).phases h3

theorem settleYields_phases (s : State) (ks : List Nat) : Keeps State.phases s (settleYields s ks) := by
  induction ks generalizing s with
  | nil => exact .refl s
  | cons k r ih =>
    refine .step (ih _) ?_
    split
    · split
      · exact finishYield_phases ..
      · exact .refl s
    · exact .refl s

/-! ### Prisms are withdrawn (R219 step 1) -/

/-- A change of the first facets of a prism changes each of them once. -/
theorem facet_foldl_modFacet (s : State) (p n : Nat) (g : Facet → Facet) (f : Nat) :
    ((upTo n).foldl (fun s i => s.modFacet (16 * p + i) g) s).facet f =
      if 16 * p ≤ f ∧ f < 16 * p + n then g (s.facet f) else s.facet f := by
  induction n with
  | zero => exact (if_neg (by omega)).symm
  | succ n ih =>
    unfold upTo at ih ⊢
    rw [List.range_succ, List.foldl_append, List.foldl_cons, List.foldl_nil]
    by_cases hf : f = 16 * p + n
    · rw [if_pos (by omega), hf, State.facet_modFacet, ← hf, ih, if_neg (by omega)]
    · rw [State.facet_modFacet_other hf, ih]
      exact ite_congr (propext (by omega)) (fun _ => rfl) fun _ => rfl

theorem withdrawPrism_facet (s : State) (k p f : Nat) : (withdrawPrism s k p).facet f =
    if f / 16 = p then { s.facet f with queue := [] } else s.facet f := by
  unfold withdrawPrism
  rw [(State.modPrism_ev ..).facet, (State.modPart_ev ..).facet, facet_foldl_modFacet]
  exact ite_congr (propext (by omega)) (fun _ => rfl) fun _ => rfl

theorem withdrawPrism_prism (s : State) (k p j : Nat) : (withdrawPrism s k p).prism j =
    if j = p then { s.prism j with leaving := true } else s.prism j := by
  have h : Evolves 262144 s ((upTo 16).foldl (fun s i => s.modFacet (16 * p + i) fun c => { c with queue := [] }) s) :=
    .foldl _ (fun _ _ => State.modFacet_ev ..) (.refl ..)
  unfold withdrawPrism
  by_cases hj : j = p
  · rw [if_pos hj, hj, State.prism_modPrism, (State.modPart_ev ..).prism, h.prism]
  · rw [if_neg hj, State.prism_modPrism_other hj, (State.modPart_ev ..).prism, h.prism]

/-- The descriptors of the prisms of a list go back to their culet. -/
def withdrawAllPrisms (s : State) (k : Nat) (ps : List Nat) : State := ps.foldl (fun s q => withdrawPrism s k q) s

theorem withdrawAllPrisms_facet (s : State) (k : Nat) (ps : List Nat) (f : Nat) :
    (withdrawAllPrisms s k ps).facet f = if f / 16 ∈ ps then { s.facet f with queue := [] } else s.facet f := by
  induction ps generalizing s with
  | nil => rfl
  | cons p r ih =>
    rw [withdrawAllPrisms, List.foldl_cons, ← withdrawAllPrisms, ih, withdrawPrism_facet]
    by_cases hp : f / 16 = p <;> simp [hp]

theorem withdrawAllPrisms_prism (s : State) (k : Nat) (ps : List Nat) (j : Nat) :
    (withdrawAllPrisms s k ps).prism j = if j ∈ ps then { s.prism j with leaving := true } else s.prism j := by
  induction ps generalizing s with
  | nil => rfl
  | cons p r ih =>
    rw [withdrawAllPrisms, List.foldl_cons, ← withdrawAllPrisms, ih, withdrawPrism_prism]
    by_cases hp : j = p <;> simp [hp]

/-! ### Prisms are released (R191, R219) -/

/-- A prism whose zeroing begins. -/
def Prism.released (now : Nat) (q : Prism) : Prism :=
  { q with leaving := false, zeroing := true, zeroSince := now, gated := false, waking := none }

theorem releasePrism_prism (s : State) (p j : Nat) : (releasePrism s p).prism j =
    if j = p then (s.prism j).released s.now else s.prism j := by
  unfold releasePrism
  extract_lets s1
  have h : s1.prism j = s.prism j := by
    subst s1
    split
    · exact (State.modPart_ev ..).prism (hA := by decide) j
    · rfl
  by_cases hj : j = p
  · rw [if_pos hj, ← hj, State.prism_modPrism, h]
    rfl
  · rw [if_neg hj, State.prism_modPrism_other hj, h]

theorem prismHolds_congr {s t : State} (h : ∀ f, t.facet f = s.facet f) (p : Nat) : prismHolds t p = prismHolds s p := by
  simp only [prismHolds, h]

theorem releaseIfIdle_prism (s : State) (p j : Nat) : (releaseIfIdle s p).prism j =
    if j = p ∧ (s.prism j).leaving = true ∧ prismHolds s j = false then (s.prism j).released s.now
    else s.prism j := by
  unfold releaseIfIdle
  split
  · next hgo =>
    rw [releasePrism_prism]
    by_cases hj : j = p
    · subst hj
      rw [if_pos rfl, if_pos ⟨rfl, by simpa using hgo⟩]
    · rw [if_neg hj, if_neg fun h => hj h.1]
  · next hgo =>
    rw [if_neg]
    rintro ⟨rfl, h⟩
    exact hgo (by simpa using h)

/-- Each prism of a list that leaves without a kernel is released, and no other. -/
theorem releaseAll_prism (s : State) (ps : List Nat) (j : Nat) : (releaseAll s ps).prism j =
    if j ∈ ps ∧ (s.prism j).leaving = true ∧ prismHolds s j = false then (s.prism j).released s.now
    else s.prism j := by
  induction ps generalizing s with
  | nil => exact (if_neg (by simp)).symm
  | cons p r ih =>
    have hev := releaseIfIdle_ev s p
    have hholds : prismHolds (releaseIfIdle s p) j = prismHolds s j := prismHolds_congr (hev.facet (hA := by decide)) j
    have hnow : (releaseIfIdle s p).now = s.now := congrArg (·.cycleCount.toNat) (hev.frame .ident (by decide))
    rw [releaseAll, ih, hholds, hnow, releaseIfIdle_prism]
    by_cases hp : j = p ∧ (s.prism j).leaving = true ∧ prismHolds s j = false
    · rw [if_pos hp, if_neg fun h => Bool.false_ne_true h.2.1, if_pos ⟨hp.1 ▸ List.mem_cons_self, hp.2⟩]
    · rw [if_neg hp]
      refine ite_congr (propext ?_) (fun _ => rfl) fun _ => rfl
      rw [List.mem_cons]
      tauto

end Sys2Proof.Machine
end

section
/-! PARTITION_YIELD and the end of a prism's zeroing (O40). -/

-- These proofs wait on the same definitions: they are elaborated in order.
set_option Elab.async false

namespace Sys2Proof.Machine

@[simp] theorem State.prism_settle (s : State) (p : Nat) : (settle s).prism p = s.prism p := rfl

/-! ### The command (R219, R285) -/

/-- The prisms that PARTITION_YIELD names, as a mask. -/
def Cmd.yieldMask (c : Cmd) : BitVec 128 := BitVec.ofNat 128 (c.f 16 16)

/-- Those prisms, lowest first. -/
def Cmd.yieldPrisms (c : Cmd) : List Nat := maskBits 128 c.yieldMask.toNat

theorem Cmd.mem_yieldPrisms {c : Cmd} {p : Nat} : p ∈ c.yieldPrisms ↔ p < 128 ∧ (c.f 16 16).testBit p = true :=
  mem_maskBits_ofNat

/-- The partition without those prisms. -/
def yieldRest (s : State) (c : Cmd) : Partition :=
  { s.part c.partition with prisms := (s.part c.partition).prisms &&& ~~~ c.yieldMask }

/-- The checks of the parameters (R285). -/
def yieldOk (s : State) (c : Cmd) : Bool :=
  c.only [(16, 16)] && !c.yieldMask.getLsbD c.partition &&
    c.yieldPrisms.all fun q => (s.part c.partition).prisms.getLsbD q

/-- The yield is under way: groups without admission are best-effort, and the partition notes what it waits for. -/
def yieldNoted (s : State) (c : Cmd) : State :=
  (withdrawAllPrisms (demote ((lcGroups s c.partition).length + 1) s c.partition (yieldRest s c)) c.partition
    c.yieldPrisms).modPart c.partition fun p => { p with yielding := some (c.cid, c.yieldMask) }

/-- The prisms without a running kernel have been released. -/
def yieldBegun (s : State) (c : Cmd) : State := releaseAll (yieldNoted s c) c.yieldPrisms

section
variable {s : State} {c : Cmd}

theorem yieldOk_iff : yieldOk s c = true ↔ c.only [(16, 16)] = true ∧
    ¬ (c.partition < 128 ∧ (c.f 16 16).testBit c.partition = true) ∧
    ∀ p < 128, (c.f 16 16).testBit p = true → (s.part c.partition).prisms.getLsbD p = true := by
  simp only [yieldOk, Cmd.yieldMask, BitVec.getLsbD_ofNat, Bool.and_eq_true, Bool.not_eq_true', Bool.eq_false_iff,
    ne_eq, decide_eq_true_eq, List.all_eq_true, Cmd.mem_yieldPrisms, and_imp, and_assoc]

theorem not_yieldOk : (!c.only [(16, 16)] || c.yieldMask.getLsbD c.partition ||
    !(c.yieldPrisms.all fun q => (s.part c.partition).prisms.getLsbD q)) = !yieldOk s c := by
  simp only [yieldOk, Bool.not_and, Bool.not_not]

theorem partitionYieldEff_invalid (h : yieldOk s c = false) :
    partitionYieldEff c s = fail s c.cid stInvalidParameter :=
  if_pos (not_yieldOk.trans (congrArg not h))

variable (h : yieldOk s c = true)
include h

/-- A yield that does not re-admit is refused, unless FORCE is set. -/
theorem partitionYieldEff_refused {g n : Nat} (hf : c.force = false)
    (hr : readmit s c.partition (yieldRest s c) = some (g, n)) :
    partitionYieldEff c s = finish s c.cid stAdmissionRefused n g := by
  refine (if_neg (not_yieldOk.trans (congrArg not h) ▸ Bool.false_ne_true)).trans ?_
  split
  · next hr' _ =>
    cases hr.symm.trans hr'
    rfl
  · next hno => exact absurd hf (hno g n hr)

/-- A yield that re-admits goes on, and so does one with FORCE. -/
theorem partitionYieldEff_goes (hgo : readmit s c.partition (yieldRest s c) = none ∨ c.force = true) :
    partitionYieldEff c s = feed (settleYields (yieldBegun s c) [c.partition]) c.partition := by
  refine (if_neg (not_yieldOk.trans (congrArg not h) ▸ Bool.false_ne_true)).trans ?_
  split
  · next hr hf =>
    rcases hgo with hn | ht
    · exact absurd (hr.symm.trans hn) (by simp)
    · exact absurd (hf.symm.trans ht) (by decide)
  · rfl

end

/-! ### What the yield has begun -/

section
variable (s : State) (c : Cmd)

/-- A yield under way has not touched a kernel that runs, and has emptied the queues of its prisms. -/
theorem yieldNoted_facet (f : Nat) : (yieldNoted s c).facet f =
    if f / 16 ∈ c.yieldPrisms then { s.facet f with queue := [] } else s.facet f := by
  rw [yieldNoted, (State.modPart_ev ..).facet, withdrawAllPrisms_facet, (demote_ev ..).facet]

theorem yieldNoted_prism (p : Nat) : (yieldNoted s c).prism p =
    if p ∈ c.yieldPrisms then { s.prism p with leaving := true } else s.prism p := by
  rw [yieldNoted, (State.modPart_ev ..).prism, withdrawAllPrisms_prism, (demote_ev ..).prism]

theorem yieldNoted_ev : Evolves 21430272 s (yieldNoted s c) :=
  .step (State.modPart_ev ..) <| .foldl _ (fun _ _ => (withdrawPrism_ev ..).mono) ((demote_ev ..).mono)

theorem yieldBegun_ev : Evolves 21430272 s (yieldBegun s c) :=
  .step (releaseAll_ev ..) (yieldNoted_ev s c)

variable {s c}

/-- A prism of the mask is kept as long as one of its facets runs a kernel. -/
theorem prismHolds_yieldNoted {p : Nat} (hp : p ∈ c.yieldPrisms) :
    prismHolds (yieldNoted s c) p = true ↔ ∃ i < 16, (s.facet (16 * p + i)).running ≠ none := by
  unfold prismHolds
  simp only [List.any_eq_true, upTo, List.mem_range, yieldNoted_facet]
  refine exists_congr fun i => and_congr_right fun hi => ?_
  rw [if_pos (by rwa [show (16 * p + i) / 16 = p by omega])]
  simp [Option.isSome_iff_ne_none]

/-- A prism of the mask without a running kernel is zeroed at once. -/
theorem yieldBegun_zeroing {p : Nat} (hp : p ∈ c.yieldPrisms)
    (hidle : ∀ i < 16, (s.facet (16 * p + i)).running = none) : ((yieldBegun s c).prism p).zeroing = true := by
  have hno : prismHolds (yieldNoted s c) p = false := by
    rw [Bool.eq_false_iff, ne_eq, prismHolds_yieldNoted hp]
    exact fun ⟨i, hi, hrun⟩ => hrun (hidle i hi)
  rw [yieldBegun, releaseAll_prism, yieldNoted_prism, if_pos hp, if_pos ⟨hp, rfl, hno⟩]
  rfl

/-- One with a running kernel leaves. -/
theorem yieldBegun_leaving {p : Nat} (hp : p ∈ c.yieldPrisms)
    (hrun : ∃ i < 16, (s.facet (16 * p + i)).running ≠ none) : ((yieldBegun s c).prism p).leaving = true := by
  rw [yieldBegun, releaseAll_prism, yieldNoted_prism, if_pos hp,
    if_neg fun h => Bool.false_ne_true (h.2.2.symm.trans ((prismHolds_yieldNoted hp).2 hrun))]

theorem releaseAll_standings (s : State) (ps : List Nat) : Keeps State.standings s (releaseAll s ps) := by
  induction ps generalizing s with
  | nil => exact .refl s
  | cons p r ih =>
    refine .step (ih _) ?_
    unfold releaseIfIdle
    split
    · exact releasePrism_standings ..
    · exact .refl s

theorem yieldBegun_yielding (hs : s.Canon) :
    ((yieldBegun s c).part c.partition).yielding = some (c.cid, c.yieldMask) := by
  have h := congrArg Partition.yielding
    (congrFun ((releaseAll_standings (yieldNoted s c) c.yieldPrisms).same ((yieldNoted_ev s c).form hs)) c.partition)
  refine h.trans ?_
  simp only [State.standings, Partition.standing, yieldNoted, State.part_modPart]

/-- A yield of prisms waits for each of them. -/
theorem settleYields_yieldBegun (hs : s.Canon) (hm : c.f 16 16 ≠ 0) :
    settleYields (yieldBegun s c) [c.partition] = yieldBegun s c := by
  obtain ⟨p, hp, hbit⟩ := mask_ne_nil hm (c.f_lt 16 16)
  have hmem : p ∈ c.yieldPrisms := c.mem_yieldPrisms.2 ⟨hp, hbit⟩
  have hover : yieldOver (yieldBegun s c) c.yieldMask = false := by
    refine List.all_eq_false.2 ⟨p, hmem, ?_⟩
    by_cases hrun : ∃ i < 16, (s.facet (16 * p + i)).running ≠ none
    · simp [yieldBegun_leaving hmem hrun]
    · push Not at hrun
      simp [yieldBegun_zeroing hmem hrun]
  simp only [settleYields, yieldBegun_yielding hs, hover, Bool.false_and, Bool.false_eq_true, if_false]

end

/-! ### A yield of no prism (R219, R285) -/

theorem onMask_zero (fs : List Nat) : onMask 0#128 fs = false := by simp [onMask]

theorem lostStreams_zero (s : State) (k : Nat) : lostStreams s k 0#128 = [] := by
  have h : streamsOf s k (fun t => onMask 0#128 (t.seats.map (·.facet))) = [] := by simp [streamsOf, onMask_zero]
  unfold lostStreams
  rw [h]
  rfl

/-- The loss of no prism displaces nothing that a running kernel uses. -/
theorem lostRunning_zero (s : State) (k : Nat) : lostRunning s k 0#128 = false := by
  have hids : ([] : List Bytes).contains = fun _ => false := rfl
  have his : ([] : List Nat).contains = fun _ => false := rfl
  have hany {α : Type} (xs : List α) : (xs.any fun _ => false) = false := by simp
  have hopt {α : Type} (x : Option α) : (x.any fun _ => false) = false := by simp
  simp only [lostRunning, lostStreams_zero, onMask_zero, List.filter_false, List.map_nil, hids, his, hany, hopt,
    Bool.or_false, Bool.and_false]

theorem finishYield_zero (s : State) (k cid : Nat) : finishYield s k cid 0#128 =
    feed (fail ((s.modPart k fun p => { p with yielding := none }).setPartCause k 2) cid stOk) k := by
  simp [finishYield, lostStreams_zero, onMask_zero]

/-- A yield of no prism is over when it begins. -/
theorem settleYields_completed {s : State} {c : Cmd} (h : s.cmd c.cid = some c) (hs : s.Canon) (hm : c.f 16 16 = 0) :
    Completed s (settleYields (yieldBegun s c) [c.partition]) c 0x00 0 0 := by
  have hmask : c.yieldMask = 0#128 := by
    rw [Cmd.yieldMask, hm]
  have hover : (yieldOver (yieldBegun s c) 0#128 && !lostRunning (yieldBegun s c) c.partition 0#128) = true := by
    rw [lostRunning_zero]
    rfl
  simp only [settleYields, yieldBegun_yielding hs, hmask, hover, if_true, finishYield_zero]
  have hev : Evolves 21430272 s (((yieldBegun s c).modPart c.partition fun p => { p with yielding := none }).setPartCause
      c.partition 2) := .step (State.setPartCause_ev ..) <| .step (State.modPart_ev ..) (yieldBegun_ev s c)
  exact ((finish_completed ((hev.cmd (hA := by decide) c.cid).trans h) ..).mono (feed_ev ..)).after hev

/-! ### What each form of the command does (R285) -/

section
variable {s : State} {cid : Nat} {c : Cmd} (h : Ready s cid 0x12 c)
include h

/-- A yield with parameters in range that may go on withdraws its prisms. -/
theorem partitionYield_goes (hs : s.Canon) (hok : yieldOk s c = true)
    (hgo : readmit s c.partition (yieldRest s c) = none ∨ c.force = true) (hm : c.f 16 16 ≠ 0) :
    ∃ t, exec (.partitionYield cid) s = .next t ∧ t.cmd cid ≠ none ∧
      (∀ p < 128, (c.f 16 16).testBit p = true →
        ((∀ i < 16, (s.facet (16 * p + i)).running = none) → (t.prism p).zeroing = true) ∧
        ((∃ i < 16, (s.facet (16 * p + i)).running ≠ none) → (t.prism p).leaving = true)) ∧
      (t.part c.partition).yielding = some (cid, BitVec.ofNat 128 (c.f 16 16)) := by
  have hb : (begin' s cid).Canon := (begin'_ev s cid).form hs
  have hact := partitionYieldEff_goes (s := begin' s cid) hok hgo
  rw [settleYields_yieldBegun hb hm] at hact
  have hev := yieldBegun_ev (begin' s cid) c
  refine ⟨_, onCmd_acts h hact, ?_, fun p hp hbit => ?_, ?_⟩
  · rw [State.cmd_settle, (feed_ev ..).cmd, hev.cmd, begin'_cmd h.1]
    exact Option.some_ne_none _
  · have hph := congrFun ((feed_phases (yieldBegun (begin' s cid) c) c.partition).same (hev.form hb)) p
    have hmem := c.mem_yieldPrisms.2 ⟨hp, hbit⟩
    exact ⟨fun hidle => (congrArg Prod.snd hph).trans (yieldBegun_zeroing hmem hidle),
      fun hrun => (congrArg Prod.fst hph).trans (yieldBegun_leaving hmem hrun)⟩
  · have hst := congrFun ((feed_standings (yieldBegun (begin' s cid) c) c.partition).same (hev.form hb)) c.partition
    rw [State.part_settle]
    refine (congrArg Partition.yielding hst).trans ((yieldBegun_yielding hb).trans ?_)
    rw [State.cmd_cid h.1]
    rfl

theorem partitionYield_empty (hs : s.Canon) (hok : yieldOk s c = true)
    (hgo : readmit s c.partition (yieldRest s c) = none ∨ c.force = true) (hm : c.f 16 16 = 0) :
    ∃ t, exec (.partitionYield cid) s = .next t ∧ Completed s t c 0x00 0 0 := by
  have hact := partitionYieldEff_goes (s := begin' s cid) hok hgo
  have hc : (begin' s cid).cmd (c.begun s).cid = some (c.begun s) :=
    (congrArg (begin' s cid).cmd (State.cmd_cid h.1)).trans (begin'_cmd h.1)
  refine ⟨_, onCmd_acts h hact, ?_⟩
  have hdone := settleYields_completed hc ((begin'_ev s cid).form hs) hm
  exact ((hdone.ofBegun.mono (feed_ev ..)).mono (settle_ev ..)).after (begin'_ev s cid)

theorem partitionYield_refused (hok : yieldOk s c = true) {g n : Nat} (hf : c.force = false)
    (hr : readmit s c.partition (yieldRest s c) = some (g, n)) :
    ∃ t, exec (.partitionYield cid) s = .next t ∧ t.prisms = s.prisms ∧ t.parts = s.parts ∧
      Completed s t c stAdmissionRefused n g :=
  ⟨_, onCmd_acts h (partitionYieldEff_refused (s := begin' s cid) hok hf hr), finish_prisms .., finish_parts ..,
    h.completed rfl rfl ..⟩

theorem partitionYield_invalid (hok : yieldOk s c = false) :
    ∃ t, exec (.partitionYield cid) s = .next t ∧ t.prisms = s.prisms ∧ t.parts = s.parts ∧
      Completed s t c stInvalidParameter 0 0 :=
  ⟨_, onCmd_acts h (partitionYieldEff_invalid (s := begin' s cid) hok), finish_prisms .., finish_parts ..,
    h.completed rfl rfl ..⟩

end

/-! ### The end of a prism's zeroing (R191) -/

/-- The zeroing of a prism ends only on a live device, 6,144 cycles after the prism left its partition. -/
def zeroingDue (s : State) (p : Nat) : Bool :=
  s.live && (s.prism p).zeroing && (partOfPrism s p).isNone && decide ((s.prism p).zeroSince + 6144 ≤ s.now)

theorem zeroingDue_iff {s : State} {p : Nat} : zeroingDue s p = true ↔
    s.live = true ∧ (s.prism p).zeroing = true ∧ partOfPrism s p = none ∧ (s.prism p).zeroSince + 6144 ≤ s.now := by
  simp only [zeroingDue, Bool.and_eq_true, Option.isNone_iff_eq_none, decide_eq_true_eq, and_assoc]

theorem exec_prismZeroingDone {s : State} {p : Nat} (hp : p < 128) :
    exec (.prismZeroingDone p) s = doneIf (zeroingDue s p) s (zeroingEff s p) :=
  if_pos (decide_eq_true hp)

theorem zeroingEff_zeroing {s : State} (hs : s.Canon) (p : Nat) : ((zeroingEff s p).prism p).zeroing = false := by
  have h := settleYields_phases (s.modPrism p fun q => { q with zeroing := false }) (tabKeys s.parts)
  refine (congrArg Prod.snd (congrFun (h.same ((State.modPrism_ev ..).form hs)) p)).trans ?_
  rw [State.phases, State.prism_modPrism]

/-- Settles O40: a yield that may go on withdraws the prisms of its mask, of which each without a running kernel is
released at once; one of no prism is over when it begins. -/
theorem yieldReleasesItsPrisms : Obligations.YieldReleasesItsPrisms := by
  rintro s cid c _ _ _ hs rfl rfl rfl
  refine ⟨fun h ho hk hin => ?_, fun h hbad => ?_, fun p hp => ⟨fun hl hz hnone hdue => ?_, fun hno => ?_⟩⟩
  · have hok : yieldOk s c = true := yieldOk_iff.2 ⟨ho, fun hbit => Bool.false_ne_true (hk.symm.trans hbit.2), hin⟩
    exact ⟨fun hm hgo => partitionYield_goes h hs hok hgo hm, fun hm hgo => partitionYield_empty h hs hok hgo hm,
      fun _ _ hf hr => partitionYield_refused h hok hf hr⟩
  · refine partitionYield_invalid h (Bool.eq_false_iff.2 fun hok => ?_)
    obtain ⟨ho, hk, hin⟩ := yieldOk_iff.1 hok
    rcases hbad with hbad | hbad | ⟨p, hp, hbit, hbad⟩
    · exact Bool.false_ne_true (hbad.symm.trans ho)
    · exact hk hbad
    · exact Bool.false_ne_true (hbad.symm.trans (hin p hp hbit))
  · exact ⟨_, (exec_prismZeroingDone hp).trans (doneIf_true (zeroingDue_iff.2 ⟨hl, hz, hnone, hdue⟩) ..),
      zeroingEff_zeroing hs p⟩
  · refine (exec_prismZeroingDone hp).trans (doneIf_false (Bool.eq_false_iff.2 fun hdue => ?_) ..)
    obtain ⟨hl, hz, hnone, hsince⟩ := zeroingDue_iff.1 hdue
    rcases hno with hno | hno | hno | hno
    · exact Bool.false_ne_true (hno.symm.trans hl)
    · exact Bool.false_ne_true (hno.symm.trans hz)
    · exact hno hnone
    · exact absurd hsince (Nat.not_le.2 hno)

end Sys2Proof.Machine
end

section
/-! PARTITION_DESTROY ends the copies of commands that are gone, and with them what waits for the copies (O39). -/

-- These proofs wait on the same definitions: they are elaborated in order.
set_option Elab.async false

namespace Sys2Proof.Machine

namespace OrphanedDestroy

/-- PARTITION_DESTROY of partition 1, accepted as command 3, with COMPLETION set. -/
def packet : Cmd :=
  { cid := 3, fn := 0, ring := 0, cq := 0, accepted := 2
    packet := toLE 1 0x11 ++ toLE 1 2 ++ toLE 2 5 ++ toLE 2 7 ++ toLE 2 1 ++ toLE 4 0 ++ toLE 4 9 ++ zeros 80 }

/-- Partition 1 has prism 1. A copy for command 2, which is gone, holds the list of its waiters: command 3 alone. -/
def state : State :=
  { mode := .ready
    ident := { cycleCount := 10000000 }
    pcie := { width := 16, rate := 5 }
    rings := [(0, { sqEnable := true, cqEnable := true })]
    parts := [(1, { valid := true, prisms := 2 })]
    t2 := [{ identity := [8], image := [], copying := some 2, waiters := [3] }]
    cmds := [packet]
    nextCid := 4 }

theorem state_canon : state.Canon where
  funcs := rfl
  rings := by decide +kernel
  parts := by decide +kernel
  prisms := rfl
  facets := rfl
  streams := rfl
  streamGens := rfl
  models := rfl
  modelGens := rfl
  ports := rfl
  ranges := rfl
  hostBase := rfl
  classes := rfl
  ftqs := rfl
  mem := rfl
  poison := rfl
  hostMem := rfl
  hostPoison := rfl
  hostBroken := rfl
  cids := by decide +kernel

theorem packet_ready : Ready state 3 0x11 packet := by decide +kernel

/-- The partition has no stream and runs no kernel. -/
theorem partition_idle : openGroups state packet.partition = [] ∧ partRunning state packet.partition = false := by
  decide +kernel

/-- The command posts an entry where it completes. -/
theorem packet_posts : packet.completion = true ∧ packet.orphaned = false ∧
    (state.ring packet.fn packet.cq).cqEnable = true := by
  decide +kernel

/-- The only entry that the row leaves in the coalescer has the status NOT_PERMITTED. -/
theorem destroy_notPermitted : ∃ t, exec (.partitionDestroy 3) state = .next t ∧
    (t.ring packet.fn packet.cq).coalescer.map (·.status) = [stNotPermitted] := by
  refine ⟨_, onCmd_ready packet_ready partitionDestroyEff, ?_⟩
  decide +kernel

end OrphanedDestroy

open OrphanedDestroy in
/-- Refutes O39: in a canonical state in which a PARTITION_DESTROY is listed as a waiter of a copy whose command is gone,
the destruction drops the copy and so completes its own command with NOT_PERMITTED, not with OK. No command sequence is
claimed to reach the state: the statement asks only that it be canonical. -/
theorem not_partitionsAreCreatedAndDestroyed : ¬ Obligations.PartitionsAreCreatedAndDestroyed := by
  intro h
  obtain ⟨hopen, hrun⟩ := partition_idle
  obtain ⟨hcompletion, horphaned, henabled⟩ := packet_posts
  obtain ⟨t, ht, hstatus⟩ := destroy_notPermitted
  obtain ⟨-, hdestroy, -⟩ := h state 3 packet state_canon
  obtain ⟨hnow, -⟩ := hdestroy packet_ready (.inl hopen)
  obtain ⟨t', ht', ⟨-, -, hentry⟩, -⟩ := hnow hrun
  obtain rfl : t = t' := Host.Outcome.next.inj (ht.symm.trans ht')
  obtain ⟨e, he, -, -, -, -, hok, -⟩ := hentry (.inl hcompletion) horphaned henabled
  have hmem : e.status ∈ [stNotPermitted] := hstatus ▸ List.mem_map_of_mem he
  exact absurd ((List.mem_singleton.mp hmem).symm.trans hok) (by decide)

end Sys2Proof.Machine
end

section
/-! Models in the tiers: prefetch, pin, unpin, evict, and the ends of copies and placements (O49). -/

-- These proofs wait on the same definitions: they are elaborated in order.
set_option Elab.async false

namespace Sys2Proof.Machine

/-! ### Commands on a model (R234, R277) -/

/-- An outcome completes a command and leaves the registrations, the partitions and T1. -/
def EndsLeaving (s : State) (o : Host.Outcome State Fault Refusal) (c : Cmd) (st d : Nat) : Prop :=
  ∃ t, o = .next t ∧ t.models = s.models ∧ t.parts = s.parts ∧ t.t1 = s.t1 ∧ Completed s t c st d 0

section
variable {s u : State} {cid op : Nat} {c : Cmd} {act : Cmd → State → State}

/-- A row that does nothing but complete its command. -/
theorem Ready.endsLeaving {st d : Nat} (h : Ready s cid op c)
    (hact : act c (begin' s cid) = finish (begin' s cid) c.cid st d 0) :
    EndsLeaving s (onCmd s cid op act) c st d :=
  ⟨_, onCmd_acts h hact, finish_models .., finish_parts .., finish_t1 .., h.completed rfl rfl st d 0⟩

/-- A command that has begun is still accepted in every state with the same accepted commands. -/
theorem Ready.cmd_ne_none (h : Ready s cid op c) (hu : u.cmds = (begin' s cid).cmds) : u.cmd cid ≠ none := by
  unfold State.cmd
  rw [hu]
  exact ne_of_eq_of_ne (begin'_cmd h.1) (Option.some_ne_none _)

/-- A command among several that complete with one status, after a change of neither commands nor rings. -/
theorem Ready.completedAll {A : Nat} (h : Ready s cid op c) (k : Evolves A (begin' s cid) u) {l : List Nat}
    (hl : c.cid ∈ l) (st : Nat) (h14 : A.testBit 14 = false := by decide)
    (h13 : A &&& 8192 = 0 := by decide) : Completed s (settle (finishAll u st l)) c st 0 0 := by
  obtain rfl : c.cid = cid := State.cmd_cid h.1
  have hc : u.cmd (c.begun s).cid = some (c.begun s) := (k.cmd h14 c.cid).trans (begin'_cmd h.1)
  exact (((finishAll_completed st hc hl).mono (settle_ev _)).ofBegun.after k h13).after (begin'_ev ..)

/-- A command that completes after a change of neither commands nor rings. -/
theorem Ready.completedBy {A : Nat} (h : Ready s cid op c) (k : Evolves A (begin' s cid) u) (st : Nat)
    (h14 : A.testBit 14 = false := by decide) (h13 : A.testBit 13 = false := by decide) :
    Completed s (settle (fail u c.cid st)) c st 0 0 :=
  h.completed (k.frame .cmds h14) (k.frame .rings h13) st 0 0

/-- One more command completes after several. -/
theorem fail_finishAll (s : State) (st cid : Nat) (l : List Nat) :
    fail (finishAll s st l) cid st = finishAll s st (l ++ [cid]) := by
  induction l generalizing s with
  | nil => rfl
  | cons x l ih => exact ih _

theorem withModel_refused {k : Nat → State} {st : Nat} (h : checkModel s c.fn c.partition c.object = some st) :
    withModel s c k = fail s c.cid st := by
  unfold withModel
  rw [h]

theorem withModel_passes {k : Nat → State} (h : checkModel s c.fn c.partition c.object = none) :
    withModel s c k = k (modelIndex c.object) := by
  unfold withModel
  rw [h]

end

/-- The identity that the handle of a command names. -/
abbrev namedId (s : State) (c : Cmd) : Bytes := (s.model (modelIndex c.object)).identity

/-! ### Copies into T1 (R244) -/

section
variable {s u : State} {cid i : Nat} {id : Bytes} {ws : List Nat} {c : Cmd}

/-- A copy of an identity is present in T1. -/
abbrev t1Present (s : State) (id : Bytes) : Bool := s.t1.any fun x => x.identity == id && !x.copying

theorem t1Find_isSome {x : T1Copy} (hx : x ∈ s.t1) (hid : x.identity = id) : (t1Find s id).isSome = true :=
  List.find?_isSome.2 ⟨x, hx, beq_iff_eq.2 hid⟩

theorem t1Find_of_present (h : t1Present s id = true) : (t1Find s id).isSome = true := by
  obtain ⟨x, hx, hp⟩ := List.any_eq_true.1 h
  exact t1Find_isSome hx (beq_iff_eq.1 (Bool.and_eq_true_iff.1 hp).1)

/-- A copy that is under way or begins notes who waits for it. -/
theorem beginT1_mem (h : beginT1 s id ws = some u) : ∃ x ∈ u.t1, x.identity = id ∧ ws ⊆ x.waiters := by
  unfold beginT1 at h
  split at h
  · next y hy =>
    cases h
    have hid : y.identity = id := beq_iff_eq.1 (List.find?_some (p := fun x : T1Copy => x.identity == id) hy)
    exact ⟨_, List.mem_map_of_mem (List.mem_of_find?_eq_some hy), by simp [hid], by simp [hid]⟩
  · dsimp only at h
    split at h
    · exact absurd h nofun
    · cases h
      exact ⟨_, List.mem_append_right _ List.mem_cons_self, rfl, List.Subset.refl _⟩

/-- Only a copy that T1 does not hold has no room. -/
theorem beginT1_none (h : beginT1 s id ws = none) : t1Find s id = none := by
  unfold beginT1 at h
  split at h
  · exact absurd h nofun
  · assumption

theorem beginT1_models (h : beginT1 s id ws = some u) : u.models = s.models :=
  ((beginT1_ev s id ws).ofSome h).frame .models (by decide)

theorem ensureT1_present (h : t1Present s id = true) : ensureT1 s cid id = fail s cid stOk := if_pos h

theorem ensureT1_begins (h : t1Present s id = false) (hb : beginT1 s id [cid] = some u) : ensureT1 s cid id = u := by
  unfold ensureT1
  rw [if_neg (ne_true_of_eq_false h), hb]

theorem ensureT1_noRoom (h : t1Present s id = false) (hb : beginT1 s id [cid] = none) :
    ensureT1 s cid id = fail s cid stNoResource := by
  unfold ensureT1
  rw [if_neg (ne_true_of_eq_false h), hb]

end

/-! ### MODEL_PREFETCH (R244) -/

section
variable {s u : State} {cid : Nat} {c : Cmd}

theorem modelPrefetchEff_invalid (h : checkModel s c.fn c.partition c.object = none) (ho : c.only [] = false) :
    modelPrefetchEff c s = fail s c.cid stInvalidParameter := by
  rw [modelPrefetchEff, withModel_passes h, ho]
  rfl

theorem modelPrefetchEff_valid (h : checkModel s c.fn c.partition c.object = none) (ho : c.only [] = true) :
    modelPrefetchEff c s = ensureT1 s c.cid (namedId s c) := by
  rw [modelPrefetchEff, withModel_passes h, ho]
  rfl

end

/-! ### MODEL_PIN and MODEL_UNPIN (R241) -/

/-- A registration pins its identity to T0. -/
abbrev pinT0 (s : State) (i : Nat) : State := s.modModel i fun r => { r with pinT0 := true }

/-- A registration pins its identity to T1. -/
abbrev pinT1 (s : State) (i : Nat) : State := s.modModel i fun r => { r with pinT1 := true }

theorem State.model_of_models {s t : State} (h : t.models = s.models) (i : Nat) : t.model i = s.model i := by
  unfold State.model
  rw [h]

@[simp] theorem State.model_settle (s : State) (i : Nat) : (settle s).model i = s.model i := rfl

theorem fail_models (s : State) (cid st : Nat) : (fail s cid st).models = s.models := finish_models ..

theorem pinT0_model (s : State) (i : Nat) : (pinT0 s i).model i = { s.model i with pinT0 := true } :=
  State.model_modModel ..

theorem pinT1_model (s : State) (i : Nat) : (pinT1 s i).model i = { s.model i with pinT1 := true } :=
  State.model_modModel ..

/-- A command waits for the copies of an identity in T0. -/
def awaitT0 (s : State) (k : Nat) (id : Bytes) (cid : Nat) : State :=
  s.modPart k fun p =>
    { p with t0 := p.t0.map fun x => if x.identity == id then { x with waiters := x.waiters ++ [cid] } else x }

theorem mem_awaitT0 {s : State} {k cid : Nat} {id : Bytes} {x : T0Copy} (hx : x ∈ ((awaitT0 s k id cid).part k).t0)
    (hid : x.identity = id) : cid ∈ x.waiters := by
  rw [awaitT0, State.part_modPart] at hx
  obtain ⟨y, -, rfl⟩ := List.mem_map.1 hx
  split at hid
  · next hy => simp [hy]
  · next hy => exact absurd (beq_iff_eq.2 hid) hy

/-- A placement that begins notes who waits for it. -/
theorem beginPlace_mem {s u : State} {k : Nat} {id : Bytes} {ws : List Nat} (h : beginPlace s k id ws = some u) :
    ∃ x ∈ (u.part k).t0, x.identity = id ∧ x.waiters = ws := by
  unfold beginPlace at h
  dsimp only at h
  split at h
  · exact absurd h nofun
  · cases h
    rw [State.part_modPart]
    exact ⟨_, List.mem_append_right _ List.mem_cons_self, rfl, rfl⟩

theorem beginPlace_models {s u : State} {k : Nat} {id : Bytes} {ws : List Nat} (h : beginPlace s k id ws = some u) :
    u.models = s.models :=
  ((beginPlace_ev s k id ws).ofSome h).frame .models (by decide)

section
variable {s u : State} {c : Cmd} {i : Nat}

theorem modelPinEff_invalid (h : checkModel s c.fn c.partition c.object = none)
    (hp : c.only [(16, 1)] = false ∨ 1 < c.f 16 1) : modelPinEff c s = fail s c.cid stInvalidParameter := by
  rw [modelPinEff, withModel_passes h]
  exact if_pos (by simpa using hp)

theorem modelPinEff_t0 (h : checkModel s c.fn c.partition c.object = none) (ho : c.only [(16, 1)] = true)
    (ht : c.f 16 1 = 0) : modelPinEff c s = pinT0Now s c (modelIndex c.object) := by
  rw [modelPinEff, withModel_passes h]
  exact (if_neg (by simp [ho, ht])).trans (if_pos ht)

theorem modelPinEff_t1 (h : checkModel s c.fn c.partition c.object = none) (ho : c.only [(16, 1)] = true)
    (ht : c.f 16 1 = 1) : modelPinEff c s = pinT1Now s c (modelIndex c.object) := by
  rw [modelPinEff, withModel_passes h]
  exact (if_neg (by simp [ho, ht])).trans (if_neg (by simp [ht]))

theorem pinT0Now_baseNotPinned (ha : (imageOfId s (s.model i).identity).adapter = true)
    (hb : basePinned s c.partition (imageOfId s (s.model i).identity) = false) :
    pinT0Now s c i = fail s c.cid stInvalidParameter :=
  if_pos (by simp [ha, hb])

theorem base_passes {m : Image} (hb : m.adapter = false ∨ basePinned s c.partition m = true) :
    ¬ (m.adapter && !basePinned s c.partition m) = true := by
  rcases hb with hb | hb <;> simp [hb]

section
variable (hb : (imageOfId s (s.model i).identity).adapter = false ∨
  basePinned s c.partition (imageOfId s (s.model i).identity) = true)
include hb

theorem pinT0Now_placed (hp : t0Placed (s.part c.partition) (s.model i).identity = true) :
    pinT0Now s c i = fail (pinT0 s i) c.cid stOk :=
  (if_neg (base_passes hb)).trans (if_pos hp)

theorem pinT0Now_awaits (hp : t0Placed (s.part c.partition) (s.model i).identity = false)
    (hf : t0Find (s.part c.partition) (s.model i).identity ≠ none) :
    pinT0Now s c i = awaitT0 (pinT0 s i) c.partition (s.model i).identity c.cid :=
  (if_neg (base_passes hb)).trans
    ((if_neg (ne_true_of_eq_false hp)).trans (if_pos (Option.isSome_iff_ne_none.2 hf)))

section
variable (hf : t0Find (s.part c.partition) (s.model i).identity = none)
include hf

theorem pinT0Now_absent :
    pinT0Now s c i = (beginPlace s c.partition (s.model i).identity [c.cid]).elim (fail s c.cid stNoResource)
      fun u => pinT0 u i := by
  have hp : t0Placed (s.part c.partition) (s.model i).identity = false :=
    List.any_eq_false.2 fun x hx h => List.find?_eq_none.1 hf x hx (by
      simp only [Bool.and_eq_true] at h
      exact h.1.1)
  refine (if_neg (base_passes hb)).trans ((if_neg (ne_true_of_eq_false hp)).trans ((if_neg (by simp [hf])).trans ?_))
  cases beginPlace s c.partition (s.model i).identity [c.cid] <;> rfl

theorem pinT0Now_begins (hu : beginPlace s c.partition (s.model i).identity [c.cid] = some u) :
    pinT0Now s c i = pinT0 u i := by
  rw [pinT0Now_absent hb hf, hu]
  rfl

theorem pinT0Now_noRoom (hu : beginPlace s c.partition (s.model i).identity [c.cid] = none) :
    pinT0Now s c i = fail s c.cid stNoResource := by
  rw [pinT0Now_absent hb hf, hu]
  rfl

end

end

theorem pinT1Now_overLimit (h : Config.t1PinLimit < t1PinnedWith s (s.model i).identity) :
    pinT1Now s c i = fail s c.cid stNoResource := if_pos h

section
variable (h : t1PinnedWith s (s.model i).identity ≤ Config.t1PinLimit)
include h

/-- A pin to T1 whose copy is present, under way or begins stays. -/
theorem pinT1Now_stays (hu : ensureT1 (pinT1 s i) c.cid (s.model i).identity = u)
    (hf : (t1Find u (s.model i).identity).isSome = true) : pinT1Now s c i = u := by
  subst hu
  exact (if_neg (Nat.not_lt.2 h)).trans (if_pos hf)

/-- One whose copy has no room goes again. -/
theorem pinT1Now_undone (hu : ensureT1 (pinT1 s i) c.cid (s.model i).identity = u)
    (hf : t1Find u (s.model i).identity = none) :
    pinT1Now s c i = u.modModel i fun r => { r with pinT1 := (s.model i).pinT1 } := by
  subst hu
  exact (if_neg (Nat.not_lt.2 h)).trans (if_neg (by simp [hf]))

end

/-- The registration without its pin to a tier. -/
def unpin (s : State) (c : Cmd) (i : Nat) : State :=
  if c.f 16 1 = 0 then s.modModel i fun r => { r with pinT0 := false }
  else s.modModel i fun r => { r with pinT1 := false }

theorem modelUnpinEff_invalid (h : checkModel s c.fn c.partition c.object = none)
    (hp : c.only [(16, 1)] = false ∨ 1 < c.f 16 1) : modelUnpinEff c s = fail s c.cid stInvalidParameter := by
  rw [modelUnpinEff, withModel_passes h]
  exact if_pos (by simpa using hp)

theorem modelUnpinEff_valid (h : checkModel s c.fn c.partition c.object = none) (ho : c.only [(16, 1)] = true)
    (ht : c.f 16 1 ≤ 1) : modelUnpinEff c s = fail (unpin s c (modelIndex c.object)) c.cid stOk := by
  rw [modelUnpinEff, withModel_passes h]
  exact if_neg (by simp [ho, ht])

theorem unpin_model (s : State) (c : Cmd) (i : Nat) : (unpin s c i).model i =
    if c.f 16 1 = 0 then { s.model i with pinT0 := false } else { s.model i with pinT1 := false } := by
  unfold unpin
  split <;> exact State.model_modModel ..

theorem unpin_model_other {j : Nat} (h : j ≠ i) : (unpin s c i).model j = s.model j := by
  unfold unpin
  split <;> exact State.model_modModel_other h

end

end Sys2Proof.Machine
end

section
/-! What MODEL_EVICT and the ends of copies and placements leave of T0 and T1 (O49). -/

-- These proofs wait on the same definitions: they are elaborated in order.
set_option Elab.async false

namespace Sys2Proof.Machine

/-! ### MODEL_EVICT (R243) -/

/-- A command waits until the copies of an identity in T0 are no longer in use. -/
def awaitEviction (s : State) (k : Nat) (id : Bytes) (cid : Nat) : State :=
  s.modPart k fun p =>
    { p with t0 := p.t0.map fun x => if x.identity == id then { x with forced := x.forced ++ [cid] } else x }

theorem mem_awaitEviction {s : State} {k cid : Nat} {id : Bytes} {x : T0Copy}
    (hx : x ∈ ((awaitEviction s k id cid).part k).t0) (hid : x.identity = id) : cid ∈ x.forced := by
  rw [awaitEviction, State.part_modPart] at hx
  obtain ⟨y, -, rfl⟩ := List.mem_map.1 hx
  split at hid
  · next hy => simp [hy]
  · next hy => exact absurd (beq_iff_eq.2 hid) hy

section
variable {s : State} {c : Cmd} {i : Nat}

theorem modelEvictEff_invalid (h : checkModel s c.fn c.partition c.object = none)
    (hp : c.only [(16, 1)] = false ∨ 1 < c.f 16 1 ∧ c.f 16 1 ≠ 0xFF) :
    modelEvictEff c s = fail s c.cid stInvalidParameter := by
  rw [modelEvictEff, withModel_passes h]
  exact if_pos (by simpa using hp)

theorem modelEvictEff_t0 (h : checkModel s c.fn c.partition c.object = none) (ho : c.only [(16, 1)] = true)
    (ht : c.f 16 1 = 0) : modelEvictEff c s = evictT0 s c (modelIndex c.object) := by
  rw [modelEvictEff, withModel_passes h]
  exact (if_neg (by simp [ho, ht])).trans (if_pos ht)

theorem modelEvictEff_t1 (h : checkModel s c.fn c.partition c.object = none) (ho : c.only [(16, 1)] = true)
    (ht : c.f 16 1 = 1) : modelEvictEff c s = evictT1 s c (modelIndex c.object) := by
  rw [modelEvictEff, withModel_passes h]
  exact (if_neg (by simp [ho, ht])).trans ((if_neg (by simp [ht])).trans (if_pos ht))

theorem modelEvictEff_named (h : checkModel s c.fn c.partition c.object = none) (ho : c.only [(16, 1)] = true)
    (ht : c.f 16 1 = 0xFF) (hu : modelUsers s (modelIndex c.object) ≠ 0 ∨
      namedAsBase s c.partition (namedId s c) = true) :
    modelEvictEff c s = finish s c.cid stBusy 2 0 := by
  rw [modelEvictEff, withModel_passes h]
  exact (if_neg (by simp [ho, ht])).trans
    ((if_neg (by simp [ht])).trans ((if_neg (by simp [ht])).trans (if_pos (by simpa using hu))))

theorem modelEvictEff_unregisters (h : checkModel s c.fn c.partition c.object = none) (ho : c.only [(16, 1)] = true)
    (ht : c.f 16 1 = 0xFF) (hu : modelUsers s (modelIndex c.object) = 0)
    (hb : namedAsBase s c.partition (namedId s c) = false) :
    modelEvictEff c s = fail (unregister s (modelIndex c.object)) c.cid stOk := by
  rw [modelEvictEff, withModel_passes h]
  exact (if_neg (by simp [ho, ht])).trans
    ((if_neg (by simp [ht])).trans ((if_neg (by simp [ht])).trans (if_neg (by simp [hu, hb]))))

theorem evictT0_absent (h : t0Find (s.part c.partition) (s.model i).identity = none) :
    evictT0 s c i = fail s c.cid stOk := by
  unfold evictT0
  dsimp only
  rw [h]

section
variable {x : T0Copy} (hx : t0Find (s.part c.partition) (s.model i).identity = some x)
include hx

theorem evictT0_pinned (hp : t0Pinned s c.partition (s.model i).identity = true) :
    evictT0 s c i = finish s c.cid stBusy 1 0 := by
  unfold evictT0
  dsimp only
  rw [hx]
  exact if_pos hp

variable (hp : t0Pinned s c.partition (s.model i).identity = false)
include hp

theorem evictT0_idle (hu : t0InUse s c.partition (s.model i).identity = false) (hd : x.dead = false) :
    evictT0 s c i = fail (evictNowT0 s c.partition (s.model i).identity) c.cid stOk := by
  unfold evictT0
  dsimp only
  rw [hx]
  exact (if_neg (ne_true_of_eq_false hp)).trans (if_pos (by simp [hu, hd]))

variable (hu : t0InUse s c.partition (s.model i).identity = true ∨ x.dead = true)
include hu

theorem evictT0_kept (hf : c.force = false) : evictT0 s c i = fail s c.cid stBusy := by
  unfold evictT0
  dsimp only
  rw [hx]
  exact (if_neg (ne_true_of_eq_false hp)).trans ((if_neg (by rcases hu with h | h <;> simp [h])).trans
    (if_pos (by simp [hf])))

theorem evictT0_forced (hf : c.force = true) :
    evictT0 s c i = awaitEviction s c.partition (s.model i).identity c.cid := by
  unfold evictT0
  dsimp only
  rw [hx]
  exact (if_neg (ne_true_of_eq_false hp)).trans ((if_neg (by rcases hu with h | h <;> simp [h])).trans
    (if_neg (by simp [hf])))

end

theorem evictT1_absent (h : t1Find s (s.model i).identity = none) : evictT1 s c i = fail s c.cid stOk := by
  unfold evictT1
  dsimp only
  rw [h]

section
variable {x : T1Copy} (hx : t1Find s (s.model i).identity = some x)
include hx

theorem evictT1_pinned (hp : t1Pinned s (s.model i).identity = true) :
    evictT1 s c i = finish s c.cid stBusy 1 0 := by
  unfold evictT1
  dsimp only
  rw [hx]
  exact if_pos hp

theorem evictT1_unpinned (hp : t1Pinned s (s.model i).identity = false) :
    evictT1 s c i = fail (evictNowT1 s (s.model i).identity) c.cid stOk := by
  unfold evictT1
  dsimp only
  rw [hx]
  exact if_neg (ne_true_of_eq_false hp)

end

end

/-- The end of a registration frees its index alone. -/
theorem unregister_models (s : State) (i : Nat) : (unregister s i).models = tabSet {} s.models i {} := by
  unfold unregister dropT0 State.modPart
  dsimp only
  split <;> split <;> rfl

theorem unregister_model (s : State) (i : Nat) : (unregister s i).model i = {} := by
  rw [State.model, unregister_models, tabGet_set_self]

theorem unregister_model_other {s : State} {i j : Nat} (h : j ≠ i) : (unregister s i).model j = s.model j := by
  rw [State.model, unregister_models, tabGet_set_other h]
  rfl

/-! ### Copies that leave T0 (R242, R243) -/

section
variable {s t : State} {k : Nat} {id : Bytes} {y : T0Copy}

theorem evictNowT0_t0 (s : State) (k : Nat) (id : Bytes) :
    ((evictNowT0 s k id).part k).t0 = (s.part k).t0.filter fun c => c.identity != id := by
  rw [evictNowT0, (finishAll_ev ..).part, dropT0, State.part_modPart]

theorem mem_evictNowT0 (h : y ∈ ((evictNowT0 s k id).part k).t0) : y ∈ (s.part k).t0 :=
  List.mem_of_mem_filter (evictNowT0_t0 s k id ▸ h)

/-- No copy of an identity that has been evicted is left. -/
theorem t0Find_evictNowT0 (s : State) (k : Nat) (id : Bytes) : t0Find ((evictNowT0 s k id).part k) id = none := by
  rw [t0Find, evictNowT0_t0, List.find?_filter, List.find?_eq_none]
  simp

theorem t1Find_evictNowT1 (s : State) (id : Bytes) : t1Find (evictNowT1 s id) id = none := by
  have h : (evictNowT1 s id).t1 = s.t1.filter fun c => c.identity != id := (finishAll_ev ..).frame .t1 (by decide)
  rw [t1Find, h, List.find?_filter, List.find?_eq_none]
  simp

theorem mem_roomT0 {n : Nat} {fs : List Nat} {need more : Nat} {keep : Bytes}
    (h : roomT0 n s k fs need more keep = some t) (hy : y ∈ (t.part k).t0) : y ∈ (s.part k).t0 := by
  fun_induction roomT0 n s k fs need more keep
  case case1 => exact Option.some.inj h ▸ hy
  case case4 ih => exact mem_evictNowT0 (ih h hy)
  all_goals exact absurd h nofun

/-- A placement brings a copy of its own identity alone. -/
theorem mem_beginPlace {ws : List Nat} (h : beginPlace s k id ws = some t) (hy : y ∈ (t.part k).t0) :
    y ∈ (s.part k).t0 ∨ y.identity = id := by
  unfold beginPlace at h
  dsimp only at h
  split at h
  · exact absurd h nofun
  · next hroom =>
    cases h
    rw [State.part_modPart] at hy
    rcases List.mem_append.1 hy with hy | hy
    · exact .inl (mem_roomT0 hroom hy)
    · exact .inr (List.mem_singleton.1 hy ▸ rfl)

/-- Where dead copies have gone, each copy was there before or replaces a dead one. -/
theorem mem_freeDead (h : y ∈ ((freeDead s k).part k).t0) :
    y ∈ (s.part k).t0 ∨ ∃ c ∈ (s.part k).t0, c.dead = true ∧ c.identity = y.identity := by
  refine List.foldlRecOn (motive := fun t : State => y ∈ (t.part k).t0 →
    y ∈ (s.part k).t0 ∨ ∃ c ∈ (s.part k).t0, c.dead = true ∧ c.identity = y.identity) _ _ .inl
    (fun t ih c hc hy => ?_) h
  obtain ⟨hmem, hdead⟩ := List.mem_filter.1 hc
  dsimp only at hy
  split at hy
  · cases hp : beginPlace (evictNowT0 t k c.identity) k c.identity [] with
    | none => exact ih (mem_evictNowT0 (by rwa [hp] at hy))
    | some u =>
      rw [hp] at hy
      rcases mem_beginPlace hp hy with hy | hid
      · exact ih (mem_evictNowT0 hy)
      · exact .inr ⟨c, hmem, (Bool.and_eq_true_iff.1 hdead).1, hid.symm⟩
  · exact ih (mem_evictNowT0 hy)

theorem mem_evictForced (h : y ∈ ((evictForced s k).part k).t0) :
    y ∈ (s.part k).t0 ∨ ∃ c ∈ (s.part k).t0, c.dead = true ∧ c.identity = y.identity :=
  List.foldlRecOn (motive := fun t : State => y ∈ (t.part k).t0 → _) _ _ mem_freeDead
    (fun _ ih _ _ hy => ih (mem_evictNowT0 hy)) h

/-! ### These moves admit no command -/

theorem evictNowT0_withdraws (s : State) (k : Nat) (id : Bytes) : Withdraws s (evictNowT0 s k id) :=
  (Withdraws.of (dropT0_ev s k id)).trans (finishAll_withdraws ..)

theorem roomT0_withdraws {n : Nat} {fs : List Nat} {need more : Nat} {keep : Bytes}
    (h : roomT0 n s k fs need more keep = some t) : Withdraws s t := by
  fun_induction roomT0 n s k fs need more keep
  case case1 => exact Option.some.inj h ▸ .refl _
  case case4 ih => exact (evictNowT0_withdraws ..).trans (ih h)
  all_goals exact absurd h nofun

theorem beginPlace_withdraws {ws : List Nat} (h : beginPlace s k id ws = some t) : Withdraws s t := by
  unfold beginPlace at h
  dsimp only at h
  split at h
  · exact absurd h nofun
  · next hroom =>
    cases h
    exact ((roomT0_withdraws hroom).trans (.of (upd_cache_ev ..))).trans (.of (State.modPart_ev ..))

theorem freeDead_withdraws (s : State) (k : Nat) : Withdraws s (freeDead s k) := by
  refine List.foldlRecOn _ _ (.refl s) fun t ih c _ => ih.trans ?_
  have h := evictNowT0_withdraws t k c.identity
  dsimp only
  split
  · cases hp : beginPlace (evictNowT0 t k c.identity) k c.identity [] with
    | none => exact h
    | some u => exact h.trans (beginPlace_withdraws hp)
  · exact h

theorem evictForced_withdraws (s : State) (k : Nat) : Withdraws s (evictForced s k) :=
  List.foldlRecOn _ _ (freeDead_withdraws s k) fun _ ih _ _ => ih.trans (evictNowT0_withdraws ..)

end

/-! ### The ends of placements and copies (R239, R241, R244, R245) -/

section
variable {s : State} {k i : Nat} {id : Bytes}

/-- A placement of an identity in a partition is under way and may end. -/
def placementDue (s : State) (k : Nat) (id : Bytes) : Bool :=
  s.live && !id.isEmpty &&
    ((s.part k).resetting.isNone || decide ((s.part k).resetSince + Config.zeroingCycles ≤ s.now)) &&
    (s.part k).t0.any fun c => c.identity == id && !c.placed && !c.dead

theorem placementDue_iff : placementDue s k id = true ↔ s.live = true ∧ id ≠ [] ∧
    ((s.part k).resetting = none ∨ (s.part k).resetSince + 6144 ≤ s.now) ∧
    ∃ x ∈ (s.part k).t0, x.identity = id ∧ x.placed = false ∧ x.dead = false := by
  simp only [placementDue, Bool.and_eq_true, Bool.or_eq_true, Bool.not_eq_true',
    Option.isNone_iff_eq_none, decide_eq_true_eq, List.any_eq_true, beq_iff_eq, List.isEmpty_eq_false_iff, and_assoc]
  rfl

theorem exec_modelPlacementDone (hk : k < 128) (hi : i < 65536) : exec (.modelPlacementDone k i) s =
    doneIf (placementDue s k (s.model i).identity) s (placementEff s k (s.model i).identity) :=
  if_pos (decide_eq_true ⟨hk, hi⟩)

/-- The copies that the end of a placement leaves, before any that must go: those that there were, with those of the
identity placed. -/
theorem placementEff_t0 (s : State) (k : Nat) (id : Bytes) : ∃ u, placementEff s k id = evictForced u k ∧
    ∀ y ∈ (u.part k).t0, ∃ x ∈ (s.part k).t0, x.identity = y.identity ∧ x.dead = y.dead ∧
      (x.identity = id → y.placed = true) := by
  refine ⟨_, rfl, fun y hy => ?_⟩
  rw [(finishAll_ev ..).part] at hy
  simp only [State.part, State.modPart, tabGet_mod_self] at hy
  obtain ⟨x, hx, rfl⟩ := List.mem_map.1 hy
  refine ⟨x, hx, ?_⟩
  split
  · exact ⟨rfl, rfl, fun _ => rfl⟩
  · next hne => exact ⟨rfl, rfl, fun hid => absurd (beq_iff_eq.2 hid) hne⟩

/-- The end of a placement has placed every copy of the identity where none is dead. -/
theorem placementEff_placed (hd : ∀ x ∈ (s.part k).t0, x.identity = id → x.dead = false) :
    ∀ y ∈ ((placementEff s k id).part k).t0, y.identity = id → y.placed = true := by
  intro y hy hid
  obtain ⟨u, hu, hmem⟩ := placementEff_t0 s k id
  rw [hu] at hy
  rcases mem_evictForced hy with hy | ⟨c, hc, hdead, hcid⟩
  · obtain ⟨x, -, hxid, -, hplaced⟩ := hmem y hy
    exact hplaced (hxid.trans hid)
  · obtain ⟨x, hx, hxid, hxdead, -⟩ := hmem c hc
    exact absurd ((hd x hx (hxid.trans (hcid.trans hid))).symm.trans (hxdead.trans hdead)) Bool.false_ne_true

/-- It completes the commands that wait for a copy of the identity. -/
theorem placementEff_completes {x : T0Copy} (hx : x ∈ (s.part k).t0) (hid : x.identity = id) {w : Nat}
    (hw : w ∈ x.waiters) : (placementEff s k id).cmd w = none :=
  (evictForced_withdraws ..).cmds w <| cmd_finishAll _ <|
    List.mem_flatMap.2 ⟨x, List.mem_filter.2 ⟨hx, beq_iff_eq.2 hid⟩, hw⟩

theorem modelPlacementDone_ends (hk : k < 128) (hi : i < 65536)
    (h : placementDue s k (s.model i).identity = true) : ∃ t, exec (.modelPlacementDone k i) s = .next t ∧
      ((∀ x ∈ (s.part k).t0, x.identity = (s.model i).identity → x.dead = false) →
        ∀ y ∈ (t.part k).t0, y.identity = (s.model i).identity → y.placed = true) ∧
      ∀ x ∈ (s.part k).t0, x.identity = (s.model i).identity → ∀ w ∈ x.waiters, t.cmd w = none := by
  refine ⟨_, (exec_modelPlacementDone hk hi).trans (doneIf_true h ..), fun hd => ?_, fun x hx hid w hw => ?_⟩
  · rw [State.part_settle]
    exact placementEff_placed hd
  · rw [State.cmd_settle]
    exact placementEff_completes hx hid hw

/-- A copy of an identity into T1 is under way. -/
def t1CopyDue (s : State) (id : Bytes) : Bool :=
  s.live && !id.isEmpty && s.t1.any fun c => c.identity == id && c.copying

theorem t1CopyDue_iff : t1CopyDue s id = true ↔
    s.live = true ∧ id ≠ [] ∧ ∃ x ∈ s.t1, x.identity = id ∧ x.copying = true := by
  simp [t1CopyDue, and_assoc]

theorem exec_modelT1CopyDone (hi : i < 65536) : exec (.modelT1CopyDone i) s =
    doneIf (t1CopyDue s (s.model i).identity) s (t1CopyEff s (s.model i).identity) :=
  if_pos (decide_eq_true hi)

theorem t1CopyEff_present : ∀ y ∈ (t1CopyEff s id).t1, y.identity = id → y.copying = false := by
  intro y hy hid
  rw [show (t1CopyEff s id).t1 = _ from (finishAll_ev ..).frame .t1 (by decide)] at hy
  obtain ⟨x, -, rfl⟩ := List.mem_map.1 hy
  split at hid
  · next hx => simp [hx]
  · next hx => exact absurd (beq_iff_eq.2 hid) hx

theorem t1CopyEff_completes {x : T1Copy} (hx : x ∈ s.t1) (hid : x.identity = id) {w : Nat} (hw : w ∈ x.waiters) :
    (t1CopyEff s id).cmd w = none :=
  cmd_finishAll _ (List.mem_flatMap.2 ⟨x, List.mem_filter.2 ⟨hx, beq_iff_eq.2 hid⟩, hw⟩)

theorem modelT1CopyDone_ends (hi : i < 65536) (h : t1CopyDue s (s.model i).identity = true) :
    ∃ t, exec (.modelT1CopyDone i) s = .next t ∧
      (∀ y ∈ t.t1, y.identity = (s.model i).identity → y.copying = false) ∧
      ∀ x ∈ s.t1, x.identity = (s.model i).identity → ∀ w ∈ x.waiters, t.cmd w = none := by
  refine ⟨_, (exec_modelT1CopyDone hi).trans (doneIf_true h ..), ?_, fun x hx hid w hw => ?_⟩
  · rw [settle_t1]
    exact t1CopyEff_present
  · rw [State.cmd_settle]
    exact t1CopyEff_completes hx hid hw

end

end Sys2Proof.Machine
end

section
/-! Models move between the tiers (O49). -/

-- These proofs wait on the same definitions: they are elaborated in order.
set_option Elab.async false

namespace Sys2Proof.Machine

section
variable {s : State} {cid : Nat} {c : Cmd}

/-! ### MODEL_PREFETCH -/

/-- A prefetch of a copy that is under way or begins waits for it. -/
theorem modelPrefetch_waits {u : State} (h : Ready s cid 0x21 c)
    (hm : checkModel s c.fn c.partition c.object = none) (ho : c.only [] = true)
    (hp : t1Present s (namedId s c) = false) (hb : beginT1 (begin' s cid) (namedId s c) [cid] = some u) :
    ∃ t, exec (.modelPrefetch cid) s = .next t ∧ t.t1 = u.t1 ∧ t.cmds = u.cmds ∧
      ∃ x ∈ t.t1, x.identity = namedId s c ∧ cid ∈ x.waiters := by
  obtain rfl : c.cid = cid := State.cmd_cid h.1
  obtain ⟨x, hx, hid, hw⟩ := beginT1_mem hb
  exact ⟨_, onCmd_acts h (Eq.trans (modelPrefetchEff_valid hm ho) (ensureT1_begins hp hb)), rfl, rfl, x, hx, hid,
    hw List.mem_cons_self⟩

theorem modelPrefetch_noRoom (h : Ready s cid 0x21 c) (hm : checkModel s c.fn c.partition c.object = none)
    (ho : c.only [] = true) (hp : t1Present s (namedId s c) = false)
    (hb : beginT1 (begin' s cid) (namedId s c) [cid] = none) :
    EndsLeaving s (exec (.modelPrefetch cid) s) c stNoResource 0 := by
  obtain rfl : c.cid = cid := State.cmd_cid h.1
  exact h.endsLeaving (Eq.trans (modelPrefetchEff_valid hm ho) (ensureT1_noRoom hp hb))

/-! ### MODEL_PIN -/

section
variable (h : Ready s cid 0x22 c) (hm : checkModel s c.fn c.partition c.object = none)
  (ho : c.only [(16, 1)] = true)
include h hm ho

section
variable (ht : c.f 16 1 = 0) (hb : (imageOfId s (namedId s c)).adapter = false ∨
  basePinned s c.partition (imageOfId s (namedId s c)) = true)
include ht hb

theorem modelPin_placed (hp : t0Placed (s.part c.partition) (namedId s c) = true) :
    ∃ t, exec (.modelPin cid) s = .next t ∧
      t.model (modelIndex c.object) = { s.model (modelIndex c.object) with pinT0 := true } ∧
      Completed s t c 0x00 0 0 := by
  refine ⟨_, onCmd_acts h (Eq.trans (modelPinEff_t0 hm ho ht) (pinT0Now_placed hb hp)), ?_,
    h.completedBy (State.modModel_ev ..) stOk⟩
  exact (State.model_of_models (fail_models ..) _).trans (pinT0_model ..)

theorem modelPin_awaits (hp : t0Placed (s.part c.partition) (namedId s c) = false)
    (hf : t0Find (s.part c.partition) (namedId s c) ≠ none) :
    ∃ t, exec (.modelPin cid) s = .next t ∧
      t.model (modelIndex c.object) = { s.model (modelIndex c.object) with pinT0 := true } ∧ t.cmd cid ≠ none ∧
      ∀ x ∈ (t.part c.partition).t0, x.identity = namedId s c → cid ∈ x.waiters := by
  obtain rfl : c.cid = cid := State.cmd_cid h.1
  exact ⟨_, onCmd_acts h (Eq.trans (modelPinEff_t0 hm ho ht) (pinT0Now_awaits hb hp hf)),
    pinT0_model (begin' s c.cid) _, h.cmd_ne_none rfl, fun x hx hid => mem_awaitT0 hx hid⟩

theorem modelPin_begins {u : State} (hf : t0Find (s.part c.partition) (namedId s c) = none)
    (hu : beginPlace (begin' s cid) c.partition (namedId s c) [cid] = some u) :
    ∃ t, exec (.modelPin cid) s = .next t ∧
      t.model (modelIndex c.object) = { s.model (modelIndex c.object) with pinT0 := true } ∧ t.cmds = u.cmds ∧
      t.parts = u.parts ∧ ∃ x ∈ (t.part c.partition).t0, x.identity = namedId s c ∧ x.waiters = [cid] := by
  obtain rfl : c.cid = cid := State.cmd_cid h.1
  refine ⟨_, onCmd_acts h (Eq.trans (modelPinEff_t0 hm ho ht) (pinT0Now_begins hb hf hu)), ?_, rfl, rfl,
    (beginPlace_mem hu :)⟩
  exact (pinT0_model u _).trans (State.model_of_models (beginPlace_models hu) _ ▸ rfl)

theorem modelPin_noRoomT0 (hf : t0Find (s.part c.partition) (namedId s c) = none)
    (hu : beginPlace (begin' s cid) c.partition (namedId s c) [cid] = none) :
    EndsLeaving s (exec (.modelPin cid) s) c stNoResource 0 := by
  obtain rfl : c.cid = cid := State.cmd_cid h.1
  exact h.endsLeaving (Eq.trans (modelPinEff_t0 hm ho ht) (pinT0Now_noRoom hb hf hu))

end

section
variable (ht : c.f 16 1 = 1)
include ht

theorem modelPin_overLimit (hl : Config.t1PinLimit < t1PinnedWith s (namedId s c)) :
    EndsLeaving s (exec (.modelPin cid) s) c stNoResource 0 :=
  h.endsLeaving (Eq.trans (modelPinEff_t1 hm ho ht) (pinT1Now_overLimit hl))

theorem modelPin_present (hl : t1PinnedWith s (namedId s c) ≤ Config.t1PinLimit)
    (hp : t1Present s (namedId s c) = true) :
    ∃ t, exec (.modelPin cid) s = .next t ∧
      t.model (modelIndex c.object) = { s.model (modelIndex c.object) with pinT1 := true } ∧ t.t1 = s.t1 ∧
      Completed s t c 0x00 0 0 := by
  have hf : (t1Find (fail (pinT1 (begin' s cid) (modelIndex c.object)) c.cid stOk) (namedId s c)).isSome = true := by
    rw [t1Find, fail, finish_t1]
    exact t1Find_of_present hp
  refine ⟨_, onCmd_acts h (Eq.trans (modelPinEff_t1 hm ho ht) (pinT1Now_stays hl (ensureT1_present hp) hf)), ?_,
    finish_t1 .., h.completedBy (State.modModel_ev ..) stOk⟩
  exact (State.model_of_models (fail_models ..) _).trans (pinT1_model ..)

theorem modelPin_copies {v : State} (hl : t1PinnedWith s (namedId s c) ≤ Config.t1PinLimit)
    (hp : t1Present s (namedId s c) = false)
    (hv : beginT1 (pinT1 (begin' s cid) (modelIndex c.object)) (namedId s c) [cid] = some v) :
    ∃ t, exec (.modelPin cid) s = .next t ∧
      t.model (modelIndex c.object) = { s.model (modelIndex c.object) with pinT1 := true } ∧ t.t1 = v.t1 ∧
      t.cmds = v.cmds := by
  obtain rfl : c.cid = cid := State.cmd_cid h.1
  obtain ⟨x, hx, hid, -⟩ := beginT1_mem hv
  refine ⟨_, onCmd_acts h (Eq.trans (modelPinEff_t1 hm ho ht) (pinT1Now_stays hl (ensureT1_begins hp hv)
    (t1Find_isSome hx hid))), ?_, rfl, rfl⟩
  exact (State.model_of_models (beginT1_models hv) _).trans (pinT1_model ..)

/-- Without room for the copy the pin goes again, whether or not the limit of pins would have allowed it. -/
theorem modelPin_noRoomT1 (hp : t1Present s (namedId s c) = false)
    (hv : beginT1 (pinT1 (begin' s cid) (modelIndex c.object)) (namedId s c) [cid] = none) :
    ∃ t, exec (.modelPin cid) s = .next t ∧ t.model (modelIndex c.object) = s.model (modelIndex c.object) ∧
      Completed s t c stNoResource 0 0 := by
  rcases Nat.lt_or_ge Config.t1PinLimit (t1PinnedWith s (namedId s c)) with hl | hl
  · obtain ⟨t, ht, hmodels, -, -, hc⟩ := modelPin_overLimit h hm ho ht hl
    exact ⟨t, ht, State.model_of_models hmodels _, hc⟩
  · obtain rfl : c.cid = cid := State.cmd_cid h.1
    have hf : t1Find (fail (pinT1 (begin' s c.cid) (modelIndex c.object)) c.cid stNoResource) (namedId s c) = none := by
      rw [t1Find, fail, finish_t1]
      exact beginT1_none hv
    refine ⟨_, onCmd_acts h (Eq.trans (modelPinEff_t1 hm ho ht) (pinT1Now_undone hl (ensureT1_noRoom hp hv) hf)),
      ?_, h.completedBy (u := pinT1 (begin' s c.cid) (modelIndex c.object)) (State.modModel_ev ..) stNoResource⟩
    rw [State.model_settle, State.model_modModel, State.model_of_models (fail_models ..), pinT1_model]
    rfl

end

end

/-! ### MODEL_UNPIN -/

theorem modelUnpin_unpins (h : Ready s cid 0x23 c) (hm : checkModel s c.fn c.partition c.object = none)
    (ho : c.only [(16, 1)] = true) (ht : c.f 16 1 ≤ 1) :
    ∃ t, exec (.modelUnpin cid) s = .next t ∧ Completed s t c 0x00 0 0 ∧
      t.model (modelIndex c.object) = (if c.f 16 1 = 0 then { s.model (modelIndex c.object) with pinT0 := false }
        else { s.model (modelIndex c.object) with pinT1 := false }) ∧
      ∀ j, j ≠ modelIndex c.object → t.model j = s.model j := by
  have hmodel (j : Nat) : (settle (fail (unpin (begin' s cid) c (modelIndex c.object)) c.cid stOk)).model j =
      (unpin (begin' s cid) c (modelIndex c.object)).model j := State.model_of_models (fail_models ..) j
  have hev : Evolves 67108864 (begin' s cid) (unpin (begin' s cid) c (modelIndex c.object)) := by
    unfold unpin
    split <;> exact State.modModel_ev ..
  exact ⟨_, onCmd_acts h (modelUnpinEff_valid hm ho ht), h.completedBy hev stOk, (hmodel _).trans (unpin_model ..),
    fun j hj => (hmodel j).trans (unpin_model_other hj)⟩

/-! ### MODEL_EVICT -/

section
variable (h : Ready s cid 0x24 c) (hm : checkModel s c.fn c.partition c.object = none)
  (ho : c.only [(16, 1)] = true)
include h hm ho

section
variable {x : T0Copy} (ht : c.f 16 1 = 0) (hx : t0Find (s.part c.partition) (namedId s c) = some x)
  (hp : t0Pinned s c.partition (namedId s c) = false)
include ht hx hp

theorem modelEvict_dropsT0 (hu : t0InUse s c.partition (namedId s c) = false) (hd : x.dead = false) :
    ∃ t, exec (.modelEvict cid) s = .next t ∧ t0Find (t.part c.partition) (namedId s c) = none ∧
      t.models = s.models ∧ Completed s t c 0x00 0 0 := by
  refine ⟨_, onCmd_acts h (Eq.trans (modelEvictEff_t0 hm ho ht) (evictT0_idle hx hp hu hd)), ?_,
    (fail_models ..).trans ((evictNowT0_ev ..).frame .models (by decide)), ?_⟩
  · rw [State.part_settle, (fail_ev ..).part]
    exact t0Find_evictNowT0 ..
  · rw [evictNowT0, fail_finishAll]
    exact h.completedAll (dropT0_ev ..) (List.mem_append_right _ List.mem_cons_self) stOk

theorem modelEvict_waits (hu : t0InUse s c.partition (namedId s c) = true ∨ x.dead = true)
    (hf : c.force = true) :
    ∃ t, exec (.modelEvict cid) s = .next t ∧ t.cmd cid ≠ none ∧
      ∀ y ∈ (t.part c.partition).t0, y.identity = namedId s c → cid ∈ y.forced := by
  obtain rfl : c.cid = cid := State.cmd_cid h.1
  exact ⟨_, onCmd_acts h (Eq.trans (modelEvictEff_t0 hm ho ht) (evictT0_forced hx hp hu hf)), h.cmd_ne_none rfl,
    fun y hy hid => mem_awaitEviction hy hid⟩

end

theorem modelEvict_dropsT1 {x : T1Copy} (ht : c.f 16 1 = 1) (hx : t1Find s (namedId s c) = some x)
    (hp : t1Pinned s (namedId s c) = false) :
    ∃ t, exec (.modelEvict cid) s = .next t ∧ t1Find t (namedId s c) = none ∧
      t.models = s.models ∧ (∀ w ∈ x.waiters, t.cmd w = none) ∧ Completed s t c 0x00 0 0 := by
  refine ⟨_, onCmd_acts h (Eq.trans (modelEvictEff_t1 hm ho ht) (evictT1_unpinned hx hp)), ?_,
    (fail_models ..).trans ((evictNowT1_ev ..).frame .models (by decide)), fun w hw => ?_, ?_⟩
  · rw [t1Find, settle_t1, fail, finish_t1]
    exact t1Find_evictNowT1 ..
  · have hid := List.find?_some (p := fun y : T1Copy => y.identity == namedId s c) hx
    exact cmd_finish_of_none <| cmd_finishAll _ <|
      List.mem_flatMap.2 ⟨x, List.mem_filter.2 ⟨List.mem_of_find?_eq_some hx, hid⟩, hw⟩
  · rw [evictNowT1, fail_finishAll]
    exact h.completedAll (dropT1_ev ..) (List.mem_append_right _ List.mem_cons_self) stOk

theorem modelEvict_unregisters (ht : c.f 16 1 = 0xFF) (hu : modelUsers s (modelIndex c.object) = 0)
    (hb : namedAsBase s c.partition (namedId s c) = false) :
    ∃ t, exec (.modelEvict cid) s = .next t ∧ t.model (modelIndex c.object) = {} ∧
      (∀ j, j ≠ modelIndex c.object → t.model j = s.model j) ∧ Completed s t c 0x00 0 0 := by
  have hmodel (j : Nat) : (settle (fail (unregister (begin' s cid) (modelIndex c.object)) c.cid stOk)).model j =
      (unregister (begin' s cid) (modelIndex c.object)).model j := State.model_of_models (fail_models ..) j
  have hev := unregister_ev (begin' s cid) (modelIndex c.object)
  exact ⟨_, onCmd_acts h (modelEvictEff_unregisters hm ho ht hu hb), (hmodel _).trans (unregister_model ..),
    fun j hj => (hmodel j).trans (unregister_model_other hj), h.completedBy hev stOk⟩

end

end

/-- Settles O49: a copy in T0 or T1 that is present answers at once, one that is under way or begins notes the command,
and the end of the copy completes what it notes; an eviction takes what is neither pinned nor in use. -/
theorem modelsMoveBetweenTiers : Obligations.ModelsMoveBetweenTiers := by
  rintro s cid c _ _ _ - rfl rfl rfl _ rfl
  refine ⟨fun p hp st h hm => ?_, fun h hm => ⟨?_, ?_, ?_, modelPrefetch_noRoom h hm⟩,
    fun h hm => ⟨?_, fun ho ht => ⟨?_, fun hb => ⟨modelPin_placed h hm ho ht hb, modelPin_awaits h hm ho ht hb,
      fun u => modelPin_begins h hm ho ht hb, modelPin_noRoomT0 h hm ho ht hb⟩⟩, ?_⟩,
    fun h hm => ⟨?_, modelUnpin_unpins h hm⟩,
    fun h hm => ⟨?_, fun ho ht => ⟨?_, fun x hx => ⟨?_, modelEvict_dropsT0 h hm ho ht hx, ?_,
      modelEvict_waits h hm ho ht hx⟩⟩, fun ho ht => ⟨?_, fun x hx => ⟨?_, modelEvict_dropsT1 h hm ho ht hx⟩⟩,
      fun ho ht => ⟨?_, modelEvict_unregisters h hm ho ht⟩⟩,
    fun q due hq hi hdue => ?_, fun due hi hdue => ?_⟩
  · simp only [List.mem_cons, List.not_mem_nil, or_false] at hp
    rcases hp with rfl | rfl | rfl | rfl <;> exact h.endsLeaving (withModel_refused hm)
  · exact fun ho => h.endsLeaving (modelPrefetchEff_invalid hm ho)
  · exact fun ho hp => h.endsLeaving (Eq.trans (modelPrefetchEff_valid hm ho) (ensureT1_present hp))
  · exact fun u ho hp hu => modelPrefetch_waits h hm ho hp hu
  · exact fun hbad => h.endsLeaving (modelPinEff_invalid hm hbad)
  · exact fun ha hb => h.endsLeaving (Eq.trans (modelPinEff_t0 hm ho ht) (pinT0Now_baseNotPinned ha hb))
  · rintro _ ho ht rfl
    exact ⟨fun hp hl => modelPin_present h hm ho ht hl hp, fun v hp hl => modelPin_copies h hm ho ht hl hp,
      modelPin_noRoomT1 h hm ho ht, modelPin_overLimit h hm ho ht⟩
  · exact fun hbad => h.endsLeaving (modelUnpinEff_invalid hm hbad)
  · exact fun hbad => h.endsLeaving (modelEvictEff_invalid hm hbad)
  · exact fun hx => h.endsLeaving (Eq.trans (modelEvictEff_t0 hm ho ht) (evictT0_absent hx))
  · exact fun hp => h.endsLeaving (Eq.trans (modelEvictEff_t0 hm ho ht) (evictT0_pinned hx hp))
  · exact fun hp hu hf => h.endsLeaving (Eq.trans (modelEvictEff_t0 hm ho ht) (evictT0_kept hx hp hu hf))
  · exact fun hx => h.endsLeaving (Eq.trans (modelEvictEff_t1 hm ho ht) (evictT1_absent hx))
  · exact fun hp => h.endsLeaving (Eq.trans (modelEvictEff_t1 hm ho ht) (evictT1_pinned hx hp))
  · exact fun hu => h.endsLeaving (modelEvictEff_named hm ho ht hu)
  · rw [← placementDue_iff] at hdue
    exact ⟨fun hd => modelPlacementDone_ends hq hi (hdue.1 hd), fun hd => (exec_modelPlacementDone hq hi).trans
      (doneIf_false (Bool.eq_false_iff.2 (hd ∘ hdue.2)) ..)⟩
  · rw [← t1CopyDue_iff] at hdue
    exact ⟨fun hd => modelT1CopyDone_ends hi (hdue.1 hd), fun hd => (exec_modelT1CopyDone hi).trans
      (doneIf_false (Bool.eq_false_iff.2 (hd ∘ hdue.2)) ..)⟩

end Sys2Proof.Machine
end

section
/-! Every command answers a next state, and one that names nothing, or whose packet may not act, changes nothing but the
interrupts that are due (O7, O8). -/

-- These proofs wait on the same definitions: they are elaborated in order.
set_option Elab.async false

namespace Sys2Proof.Machine

/-- A next state is answered, and where a command is not well formed it is the present one with what is due sent. -/
def AnswersNext (wf : Bool) (s : State) (o : Host.Outcome State Fault Refusal) : Prop :=
  (∃ t, o = .next t) ∧ (wf = false → o = .next (settle s))

namespace AnswersNext

variable {s u : State} {b c : Bool} {o o' : Host.Outcome State Fault Refusal}

theorem done : AnswersNext true s (done u) := ⟨⟨_, rfl⟩, fun h => nomatch h⟩

theorem ite {p : Prop} [Decidable p] (h : AnswersNext true s o) (k : AnswersNext true s o') :
    AnswersNext true s (if p then o else o') := by
  split
  · exact h
  · exact k

theorem doneIf : AnswersNext true s (doneIf c s u) := ite done done

/-- A command that is not well formed does nothing (log 25). -/
theorem guarded (h : AnswersNext true s o) : AnswersNext b s (if b then o else Machine.done s) := by
  cases b with
  | true => exact h
  | false => exact ⟨⟨_, rfl⟩, fun _ => rfl⟩

theorem onCmd {cid op : Nat} {act : Cmd → State → State} : AnswersNext true s (onCmd s cid op act) := by
  unfold Machine.onCmd
  split
  · exact done
  · exact ite done done

end AnswersNext

/-- Every command answers, whatever its operands and the state. -/
theorem exec_answersNext (i : Instr) (s : State) : AnswersNext i.wf s (exec i s) := by
  cases i with
  | nop | fence | deviceQuery | countersRead | partitionCreate | partitionDestroy | partitionYield | partitionReset
  | latticeLoad | latticeSwitch | shareTableLoad | modelRegister | modelPrefetch | modelPin | modelUnpin | modelEvict
  | modelQuery | streamOpen | streamClose | streamSeed | streamReset | stateSave | stateRestore | stateEvict
  | streamMigrate | checkpointSet | portConfig | portBind | portArm | portStop | alignGroupSet | windowExport
  | windowImport | copy | fabricStatus | powerCapSet | powerQuery | attest | fwStage | fwActivate | keyProvision
  | linkPattern | memoryTest | loopback => exact .onCmd
  | sqTailWrite | cqHeadWrite | sqEnable | cqEnable | abort | ringReset | abortDone | completionBurstWrite
  | coalesceTimeExpiry | dropPacket | regLowWordRead | intArm | msixUnmask | acctClear | localRangeWrite
  | unreachableClear | inject | teardownComplete | partitionFault | partitionResetDone | deviceFatalFault
  | latticeTick | latticeSwitchInstant | fill | modelPlacementDone | modelT1CopyDone | stagedFetchLand
  | prismZeroingDone | checkpointWrite | arbitrationRound | portArmAction | prerollEnd | portArmTimeout
  | startInEdge | portStopAction | postrollEnd | portCommit | clockLost | clockReturned | linkDown
  | linkTrainAttempt | linkUp | versionAnnounce | flitArrival | functionLevelReset | d3hotToD0 | d3hotEntry
  | vfEnableSet | pmuControlStep | bar2Access | prismGate | prismWake => exact .guarded .doneIf
  | globalLock | numberValid | resetControlWarm | go | scrubPass | read | write | message | fetchObject | register
  | deregister | probe | response | probeTimer | l1Entry | l1Exit | linkWidthChange | vfEnableClear | spdmRequest
  | mctpWarmReset | perstNRelease | porNRelease | rootPllLock | firstStageVerified | lpddrTrainingDone | bootReady
  | refclkReturn | railSample | debugChallenge | debugUnlock => exact .doneIf
  | porNAssert | refclkLoss | pmbAlert | pmbAlertRelease | jtagInstruction => exact .done
  | packetAccept => exact .guarded .done
  | thermtrip | queueTailTimeout => exact .guarded (.ite .doneIf .doneIf)
  | portFrameBoundary => exact .guarded (.ite .done .doneIf)
  | perstN => exact .ite .done .done
  | fabricForward => exact .ite .doneIf .doneIf
  | deferredCommandStart | runComplete | fabricRequestTimeout | pcieCompletionTimeout | pcieReadCompletion
  | fwActivateTimeout | linkPatternEnd | checkerLockTimeout | memoryTestDone | stageDone =>
    dsimp only [exec, Instr.wf, execDeferredCommandStart, execRunComplete, execFabricRequestTimeout,
      execPcieCompletionTimeout, execPcieReadCompletion, execFwActivateTimeout, execLinkPatternEnd,
      execCheckerLockTimeout, execMemoryTestDone, execStageDone]
    split
    · exact .done
    · exact .doneIf
  | imageCopyDone | activateDone =>
    dsimp only [exec, Instr.wf, execImageCopyDone, execActivateDone]
    split
    · exact .doneIf
    · exact .done
  | kernelStart | kernelEnd | kernelPoisonFault | watchdog | jumpPrepare | sinkWriteTx | checkerLock | lostLock =>
    refine .guarded ?_
    split
    · exact .done
    · exact .doneIf
  | queueItemWrite | stateFetchBackDone | stateCopyOutDone =>
    refine .guarded ?_
    split
    · exact .doneIf
    · exact .done
  | registerWrite f target =>
    refine .guarded ?_
    cases target
    · exact .doneIf
    · exact .doneIf
  | migrateAck | migrateAckTimeout =>
    refine .guarded ?_
    split
    · split
      · exact .doneIf
      · exact .done
    · exact .done
  | run =>
    dsimp only [exec, Instr.wf, execRun]
    split
    · exact .done
    · exact .ite .done .done

/-- Settles O7: by the form of each command's meaning. -/
theorem everyCommandAnswers : Obligations.EveryCommandAnswers := exec_answersNext

/-! ### Packet rows that wait (R258 to R261, log 15) -/

section
variable {s : State} {cid op : Nat}

theorem onCmd_waits {act : Cmd → State → State} (h : ∀ c, ¬ Ready s cid op c) :
    onCmd s cid op act = .next (settle s) := by
  unfold onCmd
  split
  · rfl
  · next c hc => rw [if_neg fun hr => h c ⟨hc, hr⟩]; rfl

/-- RUN has a row of its own: it also waits while its tables are read. -/
theorem run_waits (h : ∀ c, ¬ Ready s cid 0x34 c) : exec (.run cid) s = .next (settle s) := by
  change execRun cid s = _
  unfold execRun
  split
  · rfl
  · next c hc =>
    rw [if_neg fun hr => h c ⟨hc, (Bool.and_eq_true_iff.1 hr).1⟩]
    rfl

end

/-- Settles O8: every row of R279 looks up its command first, and acts only when that may. -/
theorem packetRowWaitsForItsCommand : Obligations.PacketRowWaitsForItsCommand := by
  intro s cid p hp h
  simp only [List.mem_cons, List.not_mem_nil, or_false] at hp
  rcases hp with rfl | rfl | rfl | rfl | rfl | rfl | rfl | rfl | rfl | rfl | rfl | rfl | rfl | rfl | rfl | rfl | rfl | rfl |
    rfl | rfl | rfl | rfl | rfl | rfl | rfl | rfl | rfl | rfl | rfl | rfl | rfl | rfl | rfl | rfl | rfl | rfl | rfl | rfl |
    rfl | rfl | rfl | rfl | rfl | rfl | rfl
  pick_goal 22
  · exact run_waits h
  all_goals exact onCmd_waits h

end Sys2Proof.Machine
end

section
/-! What a ring pair reads back, what leaves it as it was, and when a command of a ring acts: the rules that the
statements about rings share. -/

-- These proofs wait on the same definitions: they are elaborated in order.
set_option Elab.async false

namespace Sys2Proof.Machine

@[simp] theorem State.ring_settle (s : State) (f r : Nat) : (settle s).ring f r = s.ring f r := rfl

@[simp] theorem State.ring_linkUsed (s : State) (f r : Nat) : s.linkUsed.ring f r = s.ring f r := rfl

@[simp] theorem State.rings_linkUsed (s : State) : s.linkUsed.rings = s.rings := rfl

@[simp] theorem State.cmds_linkUsed (s : State) : s.linkUsed.cmds = s.cmds := rfl

@[simp] theorem State.cmd_linkUsed (s : State) (cid : Nat) : s.linkUsed.cmd cid = s.cmd cid := rfl

theorem Evolves.ring {A : Nat} {s t : State} (h : Evolves A s t) (hA : A.testBit 13 = false := by decide) (f r : Nat) :
    t.ring f r = s.ring f r := congrArg (tabGet ({} : Ring) · (16 * f + r)) (h.frame .rings hA)

theorem Evolves.ringRegs {A : Nat} {s t : State} (h : Evolves A s t) (hA : A.testBit 46 = false := by decide)
    (f r : Nat) : (t.ring f r).regs = (s.ring f r).regs := h.frame .ringRegs hA f r

/-- Sixteen ring pairs to a function: no two pairs share a key. -/
theorem State.ring_modRing_pair {s : State} {f r g q : Nat} {h : Ring → Ring} (hq : q < 16) (hr : r < 16)
    (hne : (g, q) ≠ (f, r)) : (s.modRing f r h).ring g q = s.ring g q := by
  refine State.ring_modRing_other fun hk => hne ?_
  rw [Prod.mk.injEq]
  omega

theorem bits_low (v hi : Nat) : bits v hi 0 = v % 2 ^ (hi + 1) := by simp [bits]

theorem toNat_ofNat_of_lt {w n : Nat} (h : n < 2 ^ w) : (BitVec.ofNat w n).toNat = n := by
  rw [BitVec.toNat_ofNat, Nat.mod_eq_of_lt h]

/-- A command whose operands name something, and whose condition holds, acts. -/
theorem guarded_acts {wf c : Bool} {s t : State} (hw : wf = true) (hc : c = true) :
    (if wf then doneIf c s t else done s) = .next (settle t) := by
  subst hw hc
  rfl

theorem guarded_idle {wf c : Bool} {s t : State} (hc : c = false) :
    (if wf then doneIf c s t else done s) = .next (settle s) := by
  subst hc
  cases wf <;> rfl

/-- A ring pair is named by a function below 64 and a pair below 16. -/
theorem pair_wf {f r : Nat} (hf : f < 64) (hr : r < 16) : decide (f < 64 ∧ r < 16) = true := decide_eq_true ⟨hf, hr⟩

/-- A ring pair with an error recorded (R257, R273). -/
def Ring.failed (code unit : Nat) (q : Ring) : Ring :=
  { q with error := true, errorCode := BitVec.ofNat 8 code, errorHead := BitVec.ofNat 20 unit,
           cause := setBit q.cause 1, stopped := true }

theorem ringError_eq (s : State) (f r code unit : Nat) :
    ringError s f r code unit = s.modRing f r (Ring.failed code unit) := rfl

theorem Ring.failed_cause (code unit : Nat) (q : Ring) : (q.failed code unit).cause.getLsbD 1 = true :=
  getLsbD_setBit_self _ (by decide)

theorem Ring.units_le (q : Ring) : q.units ≤ 2 ^ 20 := Nat.pow_le_pow_right (by decide) (by omega)

theorem Ring.entries_le (q : Ring) : q.entries ≤ 2 ^ 19 := Nat.pow_le_pow_right (by decide) (by omega)

theorem Ring.units_pos (q : Ring) : 0 < q.units := Nat.two_pow_pos _

theorem Ring.entries_pos (q : Ring) : 0 < q.entries := Nat.two_pow_pos _

end Sys2Proof.Machine
end

section
/-! Doorbells and CQ_HEAD (O22). -/

-- These proofs wait on the same definitions: they are elaborated in order.
set_option Elab.async false

namespace Sys2Proof.Machine

section
variable {s : State} {f r : Nat} {v : Word32}

/-! ### SQ_TAIL (R253) -/

/-- The pair after a doorbell at unit `t`. -/
def Ring.rung (t now : Nat) (q : Ring) : Ring :=
  { q with sqTail := BitVec.ofNat 20 t, bells := if q.sqEnable then q.bells ++ [(t, now)] else q.bells }

theorem sqTailEff_moves (h : v.toNat % 2 ^ 20 < (s.ring f r).units) :
    sqTailEff s f r v = askUnits (s.modRing f r (Ring.rung (v.toNat % 2 ^ 20) s.now)) f r := by
  unfold sqTailEff
  simp only [bits_low]
  rw [if_neg (Nat.not_le.2 h)]
  rfl

theorem sqTailEff_refused (h : (s.ring f r).units ≤ v.toNat % 2 ^ 20) :
    sqTailEff s f r v = ringError s f r 6 (s.ring f r).sqHead.toNat := by
  unfold sqTailEff
  simp only [bits_low]
  rw [if_pos h]

theorem exec_sqTailWrite (hf : f < 64) (hr : r < 16) (hs : s.serves f = true) :
    exec (.sqTailWrite f r v) s = .next (settle (sqTailEff s f r v).linkUsed) := guarded_acts (pair_wf hf hr) hs

/-! ### CQ_HEAD (R266) -/

/-- Entries from CQ_HEAD to an entry of the completion ring. -/
def Ring.ahead (q : Ring) (e : Nat) : Nat := (e + q.entries - q.cqHead.toNat) % q.entries

theorem cqHeadEff_moves (h : v.toNat % 2 ^ 19 < (s.ring f r).entries)
    (ha : (s.ring f r).ahead (v.toNat % 2 ^ 19) ≤ (s.ring f r).ahead (s.ring f r).cqTail.toNat) :
    cqHeadEff s f r v = s.modRing f r fun q => { q with cqHead := BitVec.ofNat 19 (v.toNat % 2 ^ 19) } := by
  unfold cqHeadEff
  simp only [bits_low]
  rw [if_neg]
  rw [Bool.or_eq_true, decide_eq_true_eq, decide_eq_true_eq, not_or, Nat.not_le, Nat.not_lt]
  exact ⟨h, ha⟩

theorem cqHeadEff_refused (h : (s.ring f r).entries ≤ v.toNat % 2 ^ 19 ∨
      (s.ring f r).ahead (s.ring f r).cqTail.toNat < (s.ring f r).ahead (v.toNat % 2 ^ 19)) :
    cqHeadEff s f r v = (ringError s f r 7 (s.ring f r).sqHead.toNat).modRing f r
      fun q => { q with cqStopped := true } := by
  unfold cqHeadEff
  simp only [bits_low]
  rw [if_pos]
  rw [Bool.or_eq_true, decide_eq_true_eq, decide_eq_true_eq]
  exact h

theorem exec_cqHeadWrite (hf : f < 64) (hr : r < 16) (hs : s.serves f = true) :
    exec (.cqHeadWrite f r v) s = .next (settle (cqHeadEff s f r v).linkUsed) := guarded_acts (pair_wf hf hr) hs

end

/-- Settles O22: each doorbell changes its own pair, as a move or as a ring error. -/
theorem doorbellsMoveTheirRing : Obligations.DoorbellsMoveTheirRing := by
  intro s f r v _ hf hr
  refine ⟨fun hs hv => ?_, fun hs hv => ?_, fun hs hv ha => ?_, fun hs hv => ?_,
    fun hs => ⟨guarded_idle hs, guarded_idle hs⟩⟩
  · have hring (g q : Nat) : (sqTailEff s f r v).ring g q =
        (s.modRing f r (Ring.rung (v.toNat % 2 ^ 20) s.now)).ring g q := by
      rw [sqTailEff_moves hv, (askUnits_ev ..).ring]
    refine ⟨_, exec_sqTailWrite hf hr hs, ?_⟩
    simp only [State.ring_settle, State.ring_linkUsed, hring, State.ring_modRing]
    exact ⟨toNat_ofNat_of_lt (Nat.mod_lt _ (by decide)), rfl, rfl, fun g q hq => State.ring_modRing_pair hq hr⟩
  · refine ⟨_, exec_sqTailWrite hf hr hs, ?_⟩
    simp only [State.ring_settle, State.ring_linkUsed, sqTailEff_refused hv, ringError_eq, State.ring_modRing]
    exact ⟨rfl, rfl, rfl, rfl, Ring.failed_cause .., fun g q hq => State.ring_modRing_pair hq hr⟩
  · refine ⟨_, exec_cqHeadWrite hf hr hs, ?_⟩
    simp only [State.ring_settle, State.ring_linkUsed, cqHeadEff_moves hv ha, State.ring_modRing]
    exact ⟨toNat_ofNat_of_lt (Nat.mod_lt _ (by decide)), trivial, trivial, fun g q hq => State.ring_modRing_pair hq hr⟩
  · refine ⟨_, exec_cqHeadWrite hf hr hs, ?_⟩
    simp only [State.ring_settle, State.ring_linkUsed, cqHeadEff_refused hv, ringError_eq, State.ring_modRing]
    refine ⟨rfl, rfl, rfl, trivial, Ring.failed_cause .., fun g q hq hne => ?_⟩
    rw [State.ring_modRing_pair hq hr hne, State.ring_modRing_pair hq hr hne]

end Sys2Proof.Machine
end

section
/-! Ring pairs are enabled and disabled (O23). -/

-- These proofs wait on the same definitions: they are elaborated in order.
set_option Elab.async false

namespace Sys2Proof.Machine

section
variable {s : State} {f r : Nat}

/-! ### The completion ring (R265, R269) -/

theorem cqEnableEff_empties (h : (s.ring f r).cqEnable = false) :
    cqEnableEff s f r true = s.modRing f r fun q =>
      { q with cqEnable := true, cqTail := 0, cqHead := 0, phase := true, coalescer := [], burst := none } := by
  simp [cqEnableEff, h]

theorem cqEnableEff_enabled (h : (s.ring f r).cqEnable = true) : cqEnableEff s f r true = s := by
  simp [cqEnableEff, h]

theorem cqEnableEff_selected (h : cqSelected s f r = true) : cqEnableEff s f r false = s := by
  simp [cqEnableEff, h]

theorem cqEnableEff_disables (h : cqSelected s f r = false) :
    cqEnableEff s f r false = s.modRing f r fun q => { q with cqEnable := false, coalescer := [], burst := none } := by
  simp [cqEnableEff, h]

theorem cqSelected_iff : cqSelected s f r = true ↔
    ∃ k < 16, (s.ring f k).sqEnable = true ∧ (s.ring f k).cqSelect.toNat = r := by
  simp [cqSelected, upTo]

theorem exec_cqEnable {on : Bool} (hf : f < 64) (hr : r < 16) (hs : s.serves f = true) :
    exec (.cqEnable f r on) s = .next (settle (cqEnableEff s f r on).linkUsed) := guarded_acts (pair_wf hf hr) hs

/-! ### The submission ring (R269) -/

theorem sqEnableEff_enabled (h : (s.ring f r).sqEnable = true) : sqEnableEff s f r true = s := by
  simp [sqEnableEff, h]

theorem sqEnableEff_enables (h : (s.ring f r).sqEnable = false)
    (hq : (s.ring f (s.ring f r).cqSelect.toNat).cqEnable = true) :
    sqEnableEff s f r true = s.modRing f r fun q =>
      { q with sqEnable := true, sqHead := 0, sqTail := 0, bells := [], unitsIn := 0 } := by
  simp [sqEnableEff, h, hq]

theorem sqEnableEff_refused (h : (s.ring f r).sqEnable = false)
    (hq : (s.ring f (s.ring f r).cqSelect.toNat).cqEnable = false) :
    sqEnableEff s f r true = s.modRing f r fun q =>
      { q with error := true, errorCode := 4, cause := setBit q.cause 1 } := by
  simp [sqEnableEff, h, hq]

theorem sqEnableEff_disables :
    sqEnableEff s f r false = staleReads (s.modRing f r fun q => { q with sqEnable := false }) f r := rfl

theorem exec_sqEnable {on : Bool} (hf : f < 64) (hr : r < 16) (hs : s.serves f = true) :
    exec (.sqEnable f r on) s = .next (settle (sqEnableEff s f r on).linkUsed) := guarded_acts (pair_wf hf hr) hs

end

/-- Settles O23: by the order in which the two rings of a pair may be enabled. -/
theorem ringsEnableInOrder : Obligations.RingsEnableInOrder := by
  intro s f r _ hf hr
  refine ⟨fun hs on => ⟨guarded_idle hs, guarded_idle hs⟩, fun hs => ⟨fun h => ?_, fun h => ?_, fun h hq => ?_,
    fun h hq => ?_, fun h => ?_, ?_, ?_⟩⟩
  · refine ⟨_, exec_cqEnable hf hr hs, ?_⟩
    simp [cqEnableEff_empties h]
  · exact ⟨_, exec_cqEnable hf hr hs, by simp [cqEnableEff_enabled h]⟩
  · refine ⟨_, exec_sqEnable hf hr hs, ?_⟩
    simp [sqEnableEff_enables h hq]
  · refine ⟨_, exec_sqEnable hf hr hs, ?_⟩
    simp only [State.ring_settle, State.ring_linkUsed, sqEnableEff_refused h hq, State.ring_modRing]
    exact ⟨h, trivial, trivial, getLsbD_setBit_self _ (by decide)⟩
  · exact ⟨_, exec_sqEnable hf hr hs, by simp [sqEnableEff_enabled h]⟩
  · refine ⟨_, exec_sqEnable hf hr hs, ?_⟩
    simp [sqEnableEff_disables, (staleReads_ev ..).ring]
  · refine ⟨_, exec_cqEnable hf hr hs, ?_⟩
    rw [← cqSelected_iff, State.ring_settle, State.ring_linkUsed]
    cases hsel : cqSelected s f r with
    | true => simp [cqEnableEff_selected hsel]
    | false => simp [cqEnableEff_disables hsel]

end Sys2Proof.Machine
end

section
/-! An abort and a reset of a ring pair, and their end (O24). -/

-- These proofs wait on the same definitions: they are elaborated in order.
set_option Elab.async false

namespace Sys2Proof.Machine

/-! ### Completions of other commands -/

/-- A command that is not on the list stays accepted while the list completes. -/
theorem mem_cmds_finishAll {s : State} {c : Cmd} {l : List Nat} (st : Nat) (h : c ∈ s.cmds) (hl : c.cid ∉ l) :
    c ∈ (finishAll s st l).cmds := by
  induction l generalizing s with
  | nil => exact h
  | cons x l ih =>
    rw [List.mem_cons, not_or] at hl
    refine ih ?_ hl.2
    rw [fail, finish_cmds]
    exact List.mem_filter.2 ⟨h, decide_eq_true hl.1⟩

namespace Completed

variable {s u t v : State} {c : Cmd} {st d r : Nat}

/-- Of the state before, a completion reads CQ_ENABLE of its ring only. -/
theorem ofRing (h : Completed u t c st d r) (hq : (s.ring c.fn c.cq).cqEnable = (u.ring c.fn c.cq).cqEnable) :
    Completed s t c st d r := by
  obtain ⟨hc, hr, he⟩ := h
  exact ⟨hc, hr, fun h1 h2 h3 => he h1 h2 (hq ▸ h3)⟩

/-- What adds no command and no run, and drops no entry of the command's ring, keeps a completion. -/
theorem thenKeeps (h : Completed s t c st d r) (hc : t.cmd c.cid = none → v.cmd c.cid = none)
    (hr : t.runOf c.cid = none → v.runOf c.cid = none)
    (he : ∀ e ∈ (t.ring c.fn c.cq).coalescer, e ∈ (v.ring c.fn c.cq).coalescer) : Completed s v c st d r := by
  obtain ⟨h1, h2, h3⟩ := h
  refine ⟨hc h1, hr h2, fun ha hb hq => ?_⟩
  obtain ⟨e, hmem, hval⟩ := h3 ha hb hq
  exact ⟨e, he e hmem, hval⟩

end Completed

/-- A change of a pair's registers reads back as the change of one function of them, on every pair. -/
theorem ring_modRing_field {α : Type} (π : Ring → α) {g : Ring → Ring} (hg : ∀ q, π (g q) = π q) (s : State)
    (f r h k : Nat) : π ((s.modRing f r g).ring h k) = π (s.ring h k) := by
  by_cases hk : 16 * h + k = 16 * f + r
  · have hsame (t : State) : t.ring h k = t.ring f r := congrArg (tabGet ({} : Ring) t.rings) hk
    rw [hsame, hsame, State.ring_modRing, hg]
  · rw [State.ring_modRing_other hk]

/-! ### The abort (R270) -/

section
variable {s : State} {f r : Nat}

/-- A pair whose abort is in progress, and one whose reset waits for the abort (R270, R271). -/
def Ring.aborting (q : Ring) : Ring := { q with abort := true }
def Ring.resetting (q : Ring) : Ring := { q with reset := true }

/-- The abort is noted, and reads of units that are outstanding bring nothing. -/
def abortNoted (s : State) (f r : Nat) : State := staleReads (s.modRing f r Ring.aborting) f r

/-- The kernels of the unstarted commands are withdrawn too. -/
def abortBegun (s : State) (f r : Nat) : State :=
  dropKernels (abortNoted s f r) fun k => (unstarted s f r).contains k.cid

theorem abortEff_begins (h : (s.ring f r).abort = false) :
    abortEff s f r = finishAll (abortBegun s f r) stAborted (unstarted s f r) := by
  unfold abortEff
  rw [if_neg (by simp [h])]
  rfl

theorem abortEff_goesOn (h : (s.ring f r).abort = true) : abortEff s f r = s := if_pos h

theorem mem_unstarted (w : s.Canon) {c : Cmd} (h : c ∈ s.cmds) :
    c.cid ∈ unstarted s f r ↔ c.fn = f ∧ c.ring = r ∧ c.started = none := by
  have hsame : ∀ e ∈ s.cmds, e.cid = c.cid → e = c := fun e he hid =>
    Option.some.inj ((w.cmd_of_mem he).symm.trans (hid ▸ w.cmd_of_mem h))
  simp only [unstarted, List.mem_map, List.mem_filter, Bool.and_eq_true, beq_iff_eq, Option.isNone_iff_eq_none]
  constructor
  · rintro ⟨e, ⟨he, ⟨hf, hr⟩, hs⟩, hid⟩
    exact hsame e he hid ▸ ⟨hf, hr, hs⟩
  · rintro ⟨hf, hr, hs⟩
    exact ⟨c, ⟨h, ⟨hf, hr⟩, hs⟩, rfl⟩

theorem abortBegun_cmds : (abortBegun s f r).cmds = s.cmds := rfl

theorem abortBegun_ring (h k : Nat) : (abortBegun s f r).ring h k = (s.modRing f r Ring.aborting).ring h k :=
  ((dropKernels_ev ..).ring (hA := by decide) h k).trans ((staleReads_ev ..).ring (hA := by decide) h k)

/-- Completions leave a pair's registers: the abort sets ABORT only. -/
theorem abortEff_regs (h : (s.ring f r).abort = false) :
    ((abortEff s f r).ring f r).regs = (s.ring f r).aborting.regs := by
  rw [abortEff_begins h, (finishAll_ev ..).ringRegs, abortBegun_ring, State.ring_modRing]

theorem abortEff_completes (h : (s.ring f r).abort = false) (w : s.Canon) {c : Cmd} (hc : s.cmd c.cid = some c)
    (hf : c.fn = f) (hr : c.ring = r) (hs : c.started = none) : Completed s (abortEff s f r) c stAborted 0 0 := by
  have hl : c.cid ∈ unstarted s f r := (mem_unstarted w (List.mem_of_find?_eq_some hc)).2 ⟨hf, hr, hs⟩
  have hc' : (abortBegun s f r).cmd c.cid = some c := by rwa [State.cmd, abortBegun_cmds]
  rw [abortEff_begins h]
  refine (finishAll_completed stAborted hc' hl).ofRing ?_
  rw [abortBegun_ring, ring_modRing_field (g := Ring.aborting) Ring.cqEnable fun _ => rfl]

theorem abortEff_leaves (h : (s.ring f r).abort = false) (w : s.Canon) {c : Cmd} (hc : c ∈ s.cmds)
    (hne : (c.fn, c.ring) ≠ (f, r) ∨ c.started ≠ none) : c ∈ (abortEff s f r).cmds := by
  rw [abortEff_begins h]
  refine mem_cmds_finishAll _ (by rwa [abortBegun_cmds]) fun hl => ?_
  obtain ⟨hf, hr, hs⟩ := (mem_unstarted w hc).1 hl
  exact hne.elim (fun hn => hn (by rw [hf, hr])) fun hn => hn hs

theorem exec_abort (hf : f < 64) (hr : r < 16) (hs : s.serves f = true) :
    exec (.abort f r) s = .next (settle (abortEff s f r).linkUsed) := guarded_acts (pair_wf hf hr) hs

theorem exec_ringReset (hf : f < 64) (hr : r < 16) (hs : s.serves f = true) :
    exec (.ringReset f r) s = .next (settle (ringResetEff s f r).linkUsed) := guarded_acts (pair_wf hf hr) hs

theorem ringResetEff_eq : ringResetEff s f r = (abortEff s f r).modRing f r Ring.resetting := rfl

/-- The note of a reset leaves what the abort has completed. -/
theorem ringResetEff_completes {c : Cmd} {st d x : Nat} (h : Completed s (abortEff s f r) c st d x) :
    Completed s (ringResetEff s f r) c st d x :=
  h.thenKeeps id id fun e he => by
    rw [ringResetEff_eq, ring_modRing_field (g := Ring.resetting) Ring.coalescer fun _ => rfl]
    exact he

/-! ### Its end (R270, R271) -/

/-- Commands of the pair are accepted whose entries no reset has discarded. -/
def ringBusy (s : State) (f r : Nat) : Bool := s.cmds.any fun c => c.fn == f && c.ring == r && !c.orphaned

theorem ringBusy_iff : ringBusy s f r = true ↔ ∃ c ∈ s.cmds, (c.fn, c.ring) = (f, r) ∧ c.orphaned = false := by
  simp [ringBusy, and_assoc]

theorem exec_abortDone (hf : f < 64) (hr : r < 16) (hl : s.live = true) (ha : (s.ring f r).abort = true)
    (hb : ringBusy s f r = false) : exec (.abortDone f r) s = .next (settle (abortDoneEff s f r)) := by
  refine guarded_acts (pair_wf hf hr) ?_
  rw [hl, ha, Bool.true_and, Bool.true_and]
  exact (congrArg (!·) hb :)

theorem exec_abortDone_idle (h : s.live = false ∨ (s.ring f r).abort = false ∨ ringBusy s f r = true) :
    exec (.abortDone f r) s = .next (settle s) := by
  refine guarded_idle ?_
  change (s.live && (s.ring f r).abort && !ringBusy s f r) = false
  rcases h with h | h | h <;> simp [h]

theorem abortDoneEff_ring_abort (h : (s.ring f r).reset = false) : (abortDoneEff s f r).ring f r =
    { s.ring f r with sqEnable := false, abort := false, cause := setBit (s.ring f r).cause 2 } := by
  simp [abortDoneEff, h]

theorem abortDoneEff_ring_reset (h : (s.ring f r).reset = true) : (abortDoneEff s f r).ring f r =
    { s.ring f r with
      sqEnable := false, abort := false, cqEnable := false, coalescer := [], burst := none, cqStopped := false
      error := false, errorCode := 0, stopped := false, reset := false
      cause := setBit (setBit (s.ring f r).cause 2) 3 } := by
  simp [abortDoneEff, h]

end

/-- Settles O24: an abort completes the unstarted commands by their numbers, which are all different. -/
theorem abortsEndTheirRing : Obligations.AbortsEndTheirRing := by
  intro s f r w hf hr
  refine ⟨fun hs ha => ⟨⟨_, exec_abort hf hr hs, ?_⟩, ⟨_, exec_ringReset hf hr hs, ?_⟩⟩,
    fun hs ha => ⟨⟨_, exec_abort hf hr hs, ?_⟩, ⟨_, exec_ringReset hf hr hs, ?_⟩⟩,
    fun hl ha hc => ⟨_, exec_abortDone hf hr hl ha ?_, ?_⟩, fun h => exec_abortDone_idle ?_,
    fun hs => ⟨guarded_idle hs, guarded_idle hs⟩⟩
  · have hregs := abortEff_regs ha
    simp only [State.ring_settle, State.ring_linkUsed, settle_cmds, State.cmds_linkUsed]
    exact ⟨(congrArg Ring.abort hregs :), (congrArg Ring.reset hregs :),
      fun c hc h1 h2 h3 => (abortEff_completes ha w hc h1 h2 h3).mono (State.linkUsed_ev _) |>.mono (settle_ev _),
      fun c hc hne => abortEff_leaves ha w hc hne⟩
  · have hring : (ringResetEff s f r).ring f r = ((abortEff s f r).ring f r).resetting := by
      rw [ringResetEff_eq, State.ring_modRing]
    simp only [State.ring_settle, State.ring_linkUsed, settle_cmds, State.cmds_linkUsed, hring]
    exact ⟨(congrArg Ring.abort (abortEff_regs ha) :), rfl,
      fun c hc h1 h2 h3 => (ringResetEff_completes (abortEff_completes ha w hc h1 h2 h3)).mono (State.linkUsed_ev _)
        |>.mono (settle_ev _),
      fun c hc hne => abortEff_leaves ha w hc hne⟩
  · rw [abortEff_goesOn ha]
    exact ⟨rfl, rfl⟩
  · rw [State.ring_settle, State.ring_linkUsed, ringResetEff_eq, abortEff_goesOn ha, State.ring_modRing]
    exact ⟨ha, rfl, rfl⟩
  · rw [Bool.eq_false_iff, Ne, ringBusy_iff]
    rintro ⟨c, hmem, hk, ho⟩
    exact absurd (hc c hmem hk) (by simp [ho])
  · rw [State.ring_settle]
    cases hq : (s.ring f r).reset with
    | false =>
      rw [abortDoneEff_ring_abort hq]
      exact ⟨rfl, rfl, getLsbD_setBit_self _ (by decide), fun _ => ⟨rfl, rfl⟩, fun h => nomatch h⟩
    | true =>
      rw [abortDoneEff_ring_reset hq]
      exact ⟨rfl, rfl, getLsbD_setBit_of _ (getLsbD_setBit_self _ (by decide)), fun h => (nomatch h),
        fun _ => ⟨rfl, rfl, rfl, rfl, getLsbD_setBit_self _ (by decide)⟩⟩
  · rw [ringBusy_iff]
    exact h

end Sys2Proof.Machine
end

section
/-! What the acceptance of a packet leaves of the accepted commands: the new command, and the requests for the tables of
a RUN (O25). -/

-- These proofs wait on the same definitions: they are elaborated in order.
set_option Elab.async false

namespace Sys2Proof.Machine

/-! ### Commands that wait for tables (R276, R299) -/

/-- From `s` to `t` one command may have asked for bytes: what it wants, and how its reads stand, may differ. -/
def AsksFor (cid : Nat) (s t : State) : Prop :=
  ∃ g : Cmd → Cmd, t.cmds = s.cmds.map g ∧
    ∀ e, (e.cid ≠ cid → g e = e) ∧ ∃ w st l, g e = { e with wanting := w, readStatus := st, listing := l }

namespace AsksFor

variable {cid j : Nat} {s t u : State} {e : Cmd}

theorem ofCmds (h : t.cmds = s.cmds) : AsksFor cid s t :=
  ⟨id, by rw [List.map_id, h], fun _ => ⟨fun _ => rfl, _, _, _, rfl⟩⟩

theorem trans (h : AsksFor cid s t) (k : AsksFor cid t u) : AsksFor cid s u := by
  obtain ⟨g, hg, hs⟩ := h
  obtain ⟨g', hg', hs'⟩ := k
  refine ⟨g' ∘ g, by rw [hg', hg, List.map_map], fun e => ⟨fun hne => ?_, ?_⟩⟩
  · rw [Function.comp, (hs e).1 hne, (hs' e).1 hne]
  · obtain ⟨w, st, l, he⟩ := (hs e).2
    obtain ⟨w', st', l', he'⟩ := (hs' (g e)).2
    exact ⟨w', st', l', by rw [Function.comp, he', he]⟩

/-- A change of what the command wants is such a step. -/
theorem modCmd {g : Cmd → Cmd} (h : ∀ e, ∃ w st l, g e = { e with wanting := w, readStatus := st, listing := l }) :
    AsksFor cid s (s.modCmd cid g) := by
  refine ⟨fun e => if e.cid = cid then g e else e, rfl, fun e => ⟨fun hne => if_neg hne, ?_⟩⟩
  dsimp only
  split
  · exact h e
  · exact ⟨_, _, _, rfl⟩

theorem cmd (h : AsksFor cid s t) (hc : s.cmd j = some e) :
    ∃ w st l, t.cmd j = some { e with wanting := w, readStatus := st, listing := l } := by
  obtain ⟨g, hg, hs⟩ := h
  obtain ⟨w, st, l, he⟩ := (hs e).2
  refine ⟨w, st, l, ?_⟩
  rw [State.cmd_map (fun e => ?_) hg, hc, Option.map_some, he]
  obtain ⟨_, _, _, he⟩ := (hs e).2
  rw [he]

theorem mem (h : AsksFor cid s t) (he : e ∈ s.cmds) (hne : e.cid ≠ cid) : e ∈ t.cmds := by
  obtain ⟨g, hg, hs⟩ := h
  rw [hg]
  exact (hs e).1 hne ▸ List.mem_map_of_mem he

end AsksFor

theorem askTable_asks (s : State) (cid v n : Nat) : AsksFor cid s (askTable s cid v n) := by
  unfold askTable
  split
  · exact .ofCmds rfl
  · refine (AsksFor.ofCmds ((issueReads_ev ..).frame .cmds (by decide))).trans (.modCmd fun e => ?_)
    split
    · exact ⟨_, _, _, rfl⟩
    · exact ⟨_, _, _, rfl⟩

theorem askTables_asks (s : State) (c : Cmd) : AsksFor c.cid s (askTables s c) := by
  unfold askTables
  split
  · exact .ofCmds rfl
  · exact (askTable_asks ..).trans ((askTable_asks ..).trans ((askTable_asks ..).trans (.modCmd fun e => ⟨_, _, _, rfl⟩)))

/-- A command that is gone asks for nothing. -/
theorem askTables_gone {s : State} {c : Cmd} (h : s.cmd c.cid = none) : askTables s c = s :=
  if_pos (by simp [h])

/-! ### The checks of acceptance in states that agree (R258, R259) -/

section
variable {s t : State} {c : Cmd}

theorem packetCheck_congr (hp : t.parts = s.parts) (hq : t.ports = s.ports) : packetCheck t c = packetCheck s c := by
  have hpart : t.part = s.part := by funext k; rw [State.part, hp, State.part]
  have hport : t.port = s.port := by funext k; rw [State.port, hq, State.port]
  have hown : ownsPart t = ownsPart s := by funext f k; rw [ownsPart, hpart, ownsPart]
  have hfield : partFieldOk t c = partFieldOk s c := by funext q; rw [partFieldOk, hown, hpart, hport, partFieldOk]
  rw [packetCheck, hfield, packetCheck]

theorem admitStatus_congr (hp : t.parts = s.parts) (hq : t.ports = s.ports) (hm : t.mode = s.mode) :
    admitStatus t c = admitStatus s c := by
  rw [admitStatus, packetCheck_congr hp hq, State.part, hp, hm, ← State.part, admitStatus]

theorem not_before_self (c : Cmd) : c.before c = false := by simp [Cmd.before]

/-- What holds a command are the earlier ones, so its own acceptance does not. -/
theorem blocked_admitted (hc : t.cmds = s.cmds ++ [c]) (hr : t.runs = s.runs) : blocked t c = blocked s c := by
  have hh : holds t = holds s := by
    funext e x
    simp only [holds, effected, acted, State.runOf, hr]
  simp only [blocked, hc, hh, List.filter_append, List.filter_cons, not_before_self, List.filter_nil, List.append_nil,
    Bool.false_eq_true, if_false]

/-! ### The command joins the accepted ones (R258, R259) -/

/-- A command that failed a check and waits for its turn, and one that waits where an earlier one holds it. -/
def Cmd.refusedWith (st : Nat) (e : Cmd) : Cmd := { e with held := true, refused := some st }
def Cmd.heldIf (b : Bool) (e : Cmd) : Cmd := { e with held := b }

/-- The accepted commands with a new one. -/
def admitted (s : State) (c : Cmd) : State := { s with cmds := s.cmds ++ [c], nextCid := s.nextCid + 1 }

theorem cmd_admitted (h : s.cmd c.cid = none) : (admitted s c).cmd c.cid = some c := by
  unfold State.cmd at h ⊢
  rw [admitted, List.find?_append, h]
  simp

theorem blocked_admitted_self (s : State) (c : Cmd) : blocked (admitted s c) c = blocked s c := blocked_admitted rfl rfl

theorem admitCmd_fails {st : Nat} (h : admitStatus s c = some st) (hb : blocked s c = false) :
    admitCmd s c = fail (admitted s c) c.cid st := by
  have hb' := (blocked_admitted_self s c).trans hb
  unfold admitted at *
  simp only [admitCmd, h, hb', if_false, Bool.false_eq_true]

theorem admitCmd_refused {st : Nat} (h : admitStatus s c = some st) (hb : blocked s c = true) :
    admitCmd s c = (admitted s c).modCmd c.cid (Cmd.refusedWith st) := by
  have hb' := (blocked_admitted_self s c).trans hb
  unfold admitted at *
  simp only [admitCmd, h, hb', if_true]
  rfl

theorem admitCmd_joins (h : admitStatus s c = none) :
    admitCmd s c = (admitted s c).modCmd c.cid (Cmd.heldIf (blocked s c)) := by
  have hb' := blocked_admitted_self s c
  unfold admitted at *
  simp only [admitCmd, h, hb']
  rfl

theorem mem_modCmd {e : Cmd} {cid : Nat} {g : Cmd → Cmd} (h : e ∈ s.cmds) (hne : e.cid ≠ cid) :
    e ∈ (s.modCmd cid g).cmds := List.mem_map.2 ⟨e, h, if_neg hne⟩

theorem mem_admitCmd {e : Cmd} (h : e ∈ s.cmds) (hne : e.cid ≠ c.cid) : e ∈ (admitCmd s c).cmds := by
  have hmem : e ∈ (admitted s c).cmds := List.mem_append_left _ h
  cases ha : admitStatus s c with
  | none => exact admitCmd_joins ha ▸ mem_modCmd hmem hne
  | some st =>
    cases hb : blocked s c with
    | true => exact admitCmd_refused ha hb ▸ mem_modCmd hmem hne
    | false =>
      rw [admitCmd_fails ha hb, fail, finish_cmds]
      exact List.mem_filter.2 ⟨hmem, decide_eq_true hne⟩

theorem admitCmd_nextCid (s : State) (c : Cmd) : (admitCmd s c).nextCid = s.nextCid + 1 := by
  cases ha : admitStatus s c with
  | none => rw [admitCmd_joins ha]; rfl
  | some st =>
    cases hb : blocked s c with
    | true => rw [admitCmd_refused ha hb]; rfl
    | false => rw [admitCmd_fails ha hb, fail, finish_nextCid]; rfl

end

end Sys2Proof.Machine
end

section
/-! Packets are accepted, held, started, or are ring errors (O25). -/

-- These proofs wait on the same definitions: they are elaborated in order.
set_option Elab.async false

namespace Sys2Proof.Machine

/-! ### What PACKET_ACCEPT finds at SQ_HEAD (R255, R257) -/

section
variable {s : State} {f r len : Nat} {h b : Bytes} {p : Bool}

theorem exec_packetAccept (hf : f < 64) (hr : r < 16) :
    exec (.packetAccept f r) s = .next (settle (packetAcceptEff s f r)) := if_pos (pair_wf hf hr)

theorem packetAcceptEff_notAccepting (ha : accepting s f r = false) : packetAcceptEff s f r = s := by
  simp [packetAcceptEff, ha]

theorem packetAcceptEff_empty (ha : accepting s f r = true) (hh : (s.ring f r).here = 0) :
    packetAcceptEff s f r = askUnits s f r := by
  simp [packetAcceptEff, ha, hh]

variable (ha : accepting s f r = true) (hh : (s.ring f r).here ≠ 0)
include ha hh

theorem packetAcceptEff_poisoned (hu : readUnits s f (s.ring f r) (s.ring f r).sqHead.toNat 1 = (h, true)) :
    packetAcceptEff s f r = ringError s f r 2 (s.ring f r).sqHead.toNat := by
  simp [packetAcceptEff, ha, hh, hu]

variable (hu : readUnits s f (s.ring f r) (s.ring f r).sqHead.toNat 1 = (h, false)) (hl : rd h 2 2 = len)
include hu hl

theorem packetAcceptEff_badLength (hlen : len = 0 ∨ 64 < len) :
    packetAcceptEff s f r = ringError s f r 1 (s.ring f r).sqHead.toNat := by
  simp [packetAcceptEff, ha, hh, hu, hl, hlen]

variable (h1 : 1 ≤ len) (h64 : len ≤ 64)
include h1 h64

theorem packetAcceptEff_waits (hw : (s.ring f r).here < len ∨ cqRoom s f (s.ring f r).cqSelect.toNat = false) :
    packetAcceptEff s f r = s := by
  have hlen : ¬ (len = 0 ∨ 64 < len) := by omega
  simp [packetAcceptEff, ha, hh, hu, hl, hlen, hw]

theorem packetAcceptEff_accepts (hin : len ≤ (s.ring f r).here)
    (hroom : cqRoom s f (s.ring f r).cqSelect.toNat = true) : packetAcceptEff s f r = acceptPacket s f r len := by
  have hlen : ¬ (len = 0 ∨ 64 < len) := by omega
  simp [packetAcceptEff, ha, hh, hu, hl, hlen, hroom, Nat.not_lt.2 hin]

end

/-! ### The accepted packet (R253, R255, R259) -/

/-- The pair once SQ_HEAD has passed a packet of `len` units. -/
def Ring.passed (len : Nat) (q : Ring) : Ring :=
  { q with
    sqHead := BitVec.ofNat 20 ((q.sqHead.toNat + len) % q.units)
    bells := q.bells.filter fun b => decide (len < (b.1 + q.units - q.sqHead.toNat) % q.units)
    unitsIn := q.unitsIn - len }

/-- SQ_HEAD has passed the packet, and the reads of the packet and of a RUN's structures have had their effects. -/
def packetRead (s : State) (f r len : Nat) (c : Cmd) : State :=
  let q := s.ring f r
  let s1 := s.modRing f r (Ring.passed len)
  let s2 := if c.opcode = 0x34 && runFieldsOk c then snapEff s1 c else s1
  if baseLocal q.sqBase then localReadEff s2 (baseAddr q.sqBase + 16 * q.sqHead.toNat) (16 * len) else s2

section
variable {s : State} {f r len : Nat} {b : Bytes} {c : Cmd}

theorem acceptPacket_poisoned (hu : readUnits s f (s.ring f r) (s.ring f r).sqHead.toNat len = (b, true)) :
    acceptPacket s f r len = ringError s f r 2 (s.ring f r).sqHead.toNat := by
  simp [acceptPacket, hu]

theorem acceptPacket_accepts (hu : readUnits s f (s.ring f r) (s.ring f r).sqHead.toNat len = (b, false))
    (hc : c = acceptedCmd s f r len b) :
    acceptPacket s f r len = askUnits (askTables (admitCmd (packetRead s f r len c) c) c) f r := by
  subst hc
  unfold acceptPacket
  dsimp only
  rw [hu]
  rfl

theorem packetRead_ev (s : State) (f r len : Nat) (c : Cmd) :
    Evolves 26388279066816 (s.modRing f r (Ring.passed len)) (packetRead s f r len c) := by
  unfold packetRead
  extract_lets q s1 s2
  have h2 : Evolves 26388279066816 s1 s2 := by
    unfold s2
    split
    · exact snapEff_ev ..
    · exact .refl ..
  split
  · exact (localReadEff_ev ..).step h2
  · exact h2

/-- The packet's bytes and place, of which the structures of a RUN are no part. -/
theorem acceptedCmd_fields (hc : c = acceptedCmd s f r len b) :
    c.cid = s.nextCid ∧ c.packet = b ∧ c.fn = f ∧ c.ring = r ∧ c.cq = (s.ring f r).cqSelect.toNat ∧
      c.started = none ∧ c.accepted = s.now := by
  subst hc
  unfold acceptedCmd
  extract_lets q c0
  split
  · exact ⟨rfl, rfl, rfl, rfl, rfl, rfl, rfl⟩
  · exact ⟨rfl, rfl, rfl, rfl, rfl, rfl, rfl⟩

/-- What the reads leave of all that acceptance looks at. -/
theorem packetRead_keeps (s : State) (f r len : Nat) (c : Cmd) :
    (packetRead s f r len c).cmds = s.cmds ∧ (packetRead s f r len c).nextCid = s.nextCid ∧
      admitStatus (packetRead s f r len c) c = admitStatus s c ∧ blocked (packetRead s f r len c) c = blocked s c := by
  have h := packetRead_ev s f r len c
  have hcmds : (packetRead s f r len c).cmds = s.cmds := h.frame .cmds (by decide)
  have hruns : (packetRead s f r len c).runs = s.runs := h.frame .runs (by decide)
  refine ⟨hcmds, h.frame .nextCid (by decide), admitStatus_congr (h.frame .parts (by decide))
    (h.frame .ports (by decide)) (h.frame .mode (by decide)), ?_⟩
  simp only [blocked, holds, effected, acted, State.runOf, hcmds, hruns]

theorem packetRead_cqEnable (s : State) (f r len : Nat) (c : Cmd) (h k : Nat) :
    ((packetRead s f r len c).ring h k).cqEnable = (s.ring h k).cqEnable := by
  rw [(packetRead_ev ..).ring, ring_modRing_field (g := Ring.passed len) Ring.cqEnable fun _ => rfl]

end

/-! ### The outcomes of an acceptance -/

section
variable {s u : State} {f r len : Nat} {b : Bytes} {c : Cmd}

theorem accepted_cmd_fresh (w : s.Canon) (hc : c = acceptedCmd s f r len b) :
    (packetRead s f r len c).cmd c.cid = none := by
  rw [State.cmd, (packetRead_keeps s f r len c).1, (acceptedCmd_fields hc).1]
  exact w.cmd_nextCid

variable (hu : u = askUnits (askTables (admitCmd (packetRead s f r len c) c) c) f r)
include hu

theorem accepted_nextCid : u.nextCid = s.nextCid + 1 := by
  have h1 : u.nextCid = _ := hu ▸ (askUnits_ev ..).frame .nextCid (by decide)
  have h2 : (askTables (admitCmd (packetRead s f r len c) c) c).nextCid = _ := (askTables_ev ..).frame .nextCid (by decide)
  rw [h1, h2, admitCmd_nextCid, (packetRead_keeps s f r len c).2.1]

variable (hc : c = acceptedCmd s f r len b)
include hc

theorem accepted_sqHead : (u.ring f r).sqHead.toNat = ((s.ring f r).sqHead.toNat + len) % (s.ring f r).units := by
  obtain ⟨-, hnext, -, -⟩ := packetRead_keeps s f r len c
  have hcid : c.cid = (packetRead s f r len c).nextCid := (acceptedCmd_fields hc).1.trans hnext.symm
  have hregs : (u.ring f r).regs = ((s.ring f r).passed len).regs := by
    rw [hu, (askUnits_ev ..).ring, (askTables_ev ..).ring, (admitCmd_ev _ c hcid).ringRegs, (packetRead_ev ..).ring,
      State.ring_modRing]
  have hhead : (u.ring f r).sqHead = ((s.ring f r).passed len).sqHead := (congrArg Ring.sqHead hregs :)
  rw [hhead]
  exact toNat_ofNat_of_lt (lt_of_lt_of_le (Nat.mod_lt _ (Ring.units_pos _)) (Ring.units_le _))

variable (w : s.Canon)
include w

theorem accepted_mem : ∀ e ∈ s.cmds, e ∈ u.cmds := by
  intro e he
  have hne : e.cid ≠ c.cid := (acceptedCmd_fields hc).1 ▸ (w.cids.2 e he).ne
  have hcmds : u.cmds = _ := hu ▸ (askUnits_ev ..).frame .cmds (by decide)
  rw [hcmds]
  exact (askTables_asks ..).mem (mem_admitCmd ((packetRead_keeps s f r len c).1 ▸ he) hne) hne

theorem accepted_completes {st : Nat} (h : admitStatus s c = some st) (hb : blocked s c = false) :
    Completed s u c st 0 0 := by
  obtain ⟨-, -, hst, hbl⟩ := packetRead_keeps s f r len c
  have hdone := finish_completed (cmd_admitted (accepted_cmd_fresh w hc)) st 0 0
  have heff : admitCmd (packetRead s f r len c) c = finish (admitted (packetRead s f r len c) c) c.cid st 0 0 :=
    admitCmd_fails (hst.trans h) (hbl.trans hb)
  rw [hu, heff, askTables_gone hdone.1]
  exact (hdone.ofRing (packetRead_cqEnable s f r len c c.fn c.cq).symm).mono (askUnits_ev ..)

/-- A command that joins the accepted ones is found with what its acceptance noted. -/
theorem accepted_cmd {g : Cmd → Cmd} (hg : ∀ e, (g e).cid = e.cid)
    (heff : admitCmd (packetRead s f r len c) c = (admitted (packetRead s f r len c) c).modCmd c.cid g) :
    ∃ n st l, u.cmd s.nextCid = some { g c with wanting := n, readStatus := st, listing := l } := by
  have hjoin : (admitCmd (packetRead s f r len c) c).cmd c.cid = some (g c) := by
    rw [heff, State.cmd_modCmd _ _ _ hg, cmd_admitted (accepted_cmd_fresh w hc), Option.map_some]
  rw [hu, (askUnits_ev ..).cmd, ← (acceptedCmd_fields hc).1]
  exact (askTables_asks ..).cmd hjoin

theorem accepted_refused {st : Nat} (h : admitStatus s c = some st) (hb : blocked s c = true) :
    ∃ e, u.cmd s.nextCid = some e ∧ e.held = true ∧ e.refused = some st ∧ e.started = none := by
  obtain ⟨-, -, hst, hbl⟩ := packetRead_keeps s f r len c
  obtain ⟨n, x, l, he⟩ := accepted_cmd hu hc w (g := Cmd.refusedWith st) (fun _ => rfl)
    (admitCmd_refused (hst.trans h) (hbl.trans hb))
  obtain ⟨-, -, -, -, -, hs, -⟩ := acceptedCmd_fields hc
  exact ⟨_, he, rfl, rfl, hs⟩

theorem accepted_joins (h : admitStatus s c = none) :
    ∃ e, u.cmd s.nextCid = some e ∧ e.packet = b ∧ e.fn = f ∧ e.ring = r ∧ e.cq = (s.ring f r).cqSelect.toNat ∧
      e.started = none ∧ e.accepted = s.now ∧ (e.held = true ↔ blocked s c = true) := by
  obtain ⟨-, -, hst, hbl⟩ := packetRead_keeps s f r len c
  obtain ⟨n, x, l, he⟩ := accepted_cmd hu hc w (g := Cmd.heldIf (blocked s c)) (fun _ => rfl)
    (hbl ▸ admitCmd_joins (hst.trans h))
  obtain ⟨-, hp, hf, hr, hq, hs, ha⟩ := acceptedCmd_fields hc
  exact ⟨_, he, hp, hf, hr, hq, hs, ha, Iff.rfl⟩

end

/-! ### The checks in their order (R258, R393) -/

section
variable {s : State} {c : Cmd}

theorem admitStatus_of_check {st : Nat} (h : packetCheck s c = some st) : admitStatus s c = some st := by
  simp [admitStatus, h]

theorem admitStatus_resetting (h : packetCheck s c = none) (hm : s.mode = .ready) (hk : c.partition < 128)
    (ho : c.opcode ≠ 0x13) (hr : (s.part c.partition).resetting ≠ none) : admitStatus s c = some stPartitionReset := by
  simp [admitStatus, h, hm, hk, ho, Option.isSome_iff_ne_none, hr]

theorem admitStatus_none (h : packetCheck s c = none) (hm : s.mode = .ready)
    (hk : c.partition < 128 → c.opcode = 0x13 ∨ (s.part c.partition).resetting = none) : admitStatus s c = none := by
  have hnot : ¬ ((c.partition < 128 ∧ (s.part c.partition).resetting.isSome = true) ∧ c.opcode ≠ 0x13) := by
    rintro ⟨⟨hlt, hs⟩, ho⟩
    rcases hk hlt with h13 | hn
    · exact ho h13
    · simp [hn] at hs
  simp [admitStatus, h, hm]
  tauto

end

/-! ### Held commands (R258 to R261) -/

section
variable {s : State} {cid : Nat} {c : Cmd} (hc : s.cmd cid = some c)
include hc

theorem exec_deferredCommandStart : exec (.deferredCommandStart cid) s =
    doneIf (s.live && c.held && !blocked s c) s
      (c.refused.elim (s.modCmd cid (Cmd.heldIf false)) (fail s cid)) := by
  change execDeferredCommandStart cid s = _
  simp only [execDeferredCommandStart, hc]
  cases c.refused <;> rfl

theorem deferred_idle (h : s.live = false ∨ c.held = false ∨ blocked s c = true) :
    exec (.deferredCommandStart cid) s = .next (settle s) := by
  rw [exec_deferredCommandStart hc, doneIf_false]
  rcases h with h | h | h <;> simp [h]

variable (hl : s.live = true) (hh : c.held = true) (hb : blocked s c = false)
include hl hh hb

theorem deferred_starts (h : c.refused = none) :
    ∃ t, exec (.deferredCommandStart cid) s = .next t ∧ t.cmd cid = some { c with held := false } := by
  have heff : c.refused.elim (s.modCmd cid (Cmd.heldIf false)) (fail s cid) = s.modCmd cid (Cmd.heldIf false) := by
    rw [h, Option.elim_none]
  refine ⟨_, (exec_deferredCommandStart hc).trans (doneIf_true (by simp [hl, hh, hb]) ..), ?_⟩
  rw [heff, State.cmd_settle, State.cmd_modCmd s cid (Cmd.heldIf false) fun _ => rfl, hc]
  rfl

theorem deferred_completes {st : Nat} (h : c.refused = some st) :
    ∃ t, exec (.deferredCommandStart cid) s = .next t ∧ Completed s t c st 0 0 := by
  refine ⟨_, (exec_deferredCommandStart hc).trans (doneIf_true (by simp [hl, hh, hb]) ..), ?_⟩
  rw [h]
  exact (finish_completed hc st 0 0).mono (settle_ev _)

end

/-- A unit or packet that is a ring error leaves SQ_HEAD and the accepted commands. -/
theorem packetAccept_errs {s : State} {f r code : Nat} (hf : f < 64) (hr : r < 16)
    (h : packetAcceptEff s f r = ringError s f r code (s.ring f r).sqHead.toNat) :
    ∃ t, exec (.packetAccept f r) s = .next t ∧ (t.ring f r).error = true ∧ (t.ring f r).errorCode = BitVec.ofNat 8 code ∧
      (t.ring f r).sqHead = (s.ring f r).sqHead ∧ t.cmds = s.cmds := by
  refine ⟨_, exec_packetAccept hf hr, ?_⟩
  simp only [State.ring_settle, settle_cmds, h, ringError_eq, State.ring_modRing]
  exact ⟨rfl, rfl, rfl, rfl⟩

/-- Settles O25: by what stands at SQ_HEAD, then by the check that the packet passes or fails. -/
theorem packetsAreAccepted : Obligations.PacketsAreAccepted := by
  refine ⟨fun s f r len h b p w hf hr ha hh hu hl => ⟨?_, ?_, ?_⟩, fun s f r hf hr => ⟨fun ha => ?_, fun ha hh => ?_⟩,
    fun s cid c hc => ⟨fun hl hh hb => ⟨deferred_starts hc hl hh hb, fun st => deferred_completes hc hl hh hb⟩,
      deferred_idle hc⟩⟩
  · rintro rfl
    exact packetAccept_errs hf hr (packetAcceptEff_poisoned ha hh hu)
  · rintro rfl hlen
    exact packetAccept_errs hf hr (packetAcceptEff_badLength ha hh hu hl hlen)
  · rintro rfl h1 h64
    refine ⟨fun hw => ?_, fun hin hroom => ⟨fun hb => ?_, fun c hb hc => ?_⟩⟩
    · rw [exec_packetAccept hf hr, packetAcceptEff_waits ha hh hu hl h1 h64 hw]
    · refine packetAccept_errs hf hr ?_
      rw [packetAcceptEff_accepts ha hh hu hl h1 h64 hin hroom, acceptPacket_poisoned hb]
    · have heff : packetAcceptEff s f r = _ :=
        (packetAcceptEff_accepts ha hh hu hl h1 h64 hin hroom).trans (acceptPacket_accepts hb hc)
      refine ⟨_, exec_packetAccept hf hr, ?_⟩
      simp only [State.ring_settle, settle_cmds, settle_nextCid, State.cmd_settle]
      exact ⟨accepted_nextCid heff, accepted_sqHead heff hc, accepted_mem heff hc w,
        fun st hst hbl => (accepted_completes heff hc w hst hbl).mono (settle_ev _),
        fun st hst hbl => accepted_refused heff hc w hst hbl, accepted_joins heff hc w,
        fun st => admitStatus_of_check, admitStatus_resetting, admitStatus_none⟩
  · rw [exec_packetAccept hf hr, packetAcceptEff_notAccepting ha]
  · refine ⟨_, exec_packetAccept hf hr, ?_⟩
    have hev := askUnits_ev s f r
    rw [packetAcceptEff_empty ha hh]
    exact ⟨hev.frame .rings (by decide), hev.frame .cmds (by decide), hev.frame .nextCid (by decide)⟩

end Sys2Proof.Machine
end

section
/-! The coalescer writes its entries in bursts (O26). -/

-- These proofs wait on the same definitions: they are elaborated in order.
set_option Elab.async false

namespace Sys2Proof.Machine

/-! ### When a burst has been read (R267, R384) -/

theorem burstCycle_cons (n t : Nat) (e : CplEntry) (es : List CplEntry) :
    burstCycle n t (e :: es) = burstCycle n (max (t + 2) (e.since + 2 * n + 2)) es := rfl

/-- Each entry takes a control cycle of 2 ns to read. -/
theorem le_burstCycle (n : Nat) (es : List CplEntry) : ∀ t, t + 2 * es.length ≤ burstCycle n t es := by
  induction es with
  | nil => exact fun t => le_rfl
  | cons e es ih =>
    intro t
    have h := ih (max (t + 2) (e.since + 2 * n + 2))
    rw [burstCycle_cons, List.length_cons]
    omega

/-- The write waits for every entry to fall through the stages. -/
theorem since_le_burstCycle (n : Nat) {x : CplEntry} (es : List CplEntry) :
    ∀ t, x ∈ es → x.since + 2 * n + 2 ≤ burstCycle n t es := by
  induction es with
  | nil => exact fun t hx => absurd hx List.not_mem_nil
  | cons e es ih =>
    intro t hx
    rw [burstCycle_cons]
    rcases List.mem_cons.1 hx with rfl | hx
    · have h := le_burstCycle n es (max (t + 2) (x.since + 2 * n + 2))
      omega
    · exact ih _ hx

section
variable {s : State} {f r n d : Nat} {b : Nat × Nat}

theorem burstNext_flushing (h : (s.ring f r).burst = some b) : burstNext s f r = some b := by
  simp [burstNext, h]

theorem burstNext_none (hb : (s.ring f r).burst = none) (hn : (s.ring f r).coalescer.length < fullBurst (s.ring f r)) :
    burstNext s f r = none := by
  simp [burstNext, hb, hn]

theorem burstNext_full (hb : (s.ring f r).burst = none) (hn : fullBurst (s.ring f r) ≤ (s.ring f r).coalescer.length) :
    ∃ d, burstNext s f r = some (fullBurst (s.ring f r), d) ∧
      ∀ e ∈ (s.ring f r).coalescer.take (fullBurst (s.ring f r)), e.since + 2 * depthOf 3 (16 * f + r) + 2 ≤ d := by
  let t := ((s.ring f r).coalescer.getD (fullBurst (s.ring f r) - 1) {}).since
  refine ⟨_, ?_, fun e he => since_le_burstCycle _ _ t he⟩
  simp only [burstNext, hb, if_neg (Nat.not_lt.2 hn), t]

/-! ### The write of a burst (R251, R265) -/

/-- The state that the write of `n` entries leaves, and whether it succeeded. -/
def burstWrite (s : State) (f r n : Nat) : State × Bool :=
  let q := s.ring f r
  let b := burstBytes q n
  let a := baseAddr q.cqBase + 32 * q.cqTail.toNat
  if !baseLocal q.cqBase then
    (if hostFails s a b.length then (s, false) else (hostStore s f a b false, true))
  else if inOwnRange s f a b.length || inOwnWindow f a b.length then localWrite s a b false
  else (s, false)

/-- The pair once `n` entries, `k` of them signalled, are in the completion ring and the next one would stand at `t`. -/
def Ring.burstLeft (t n k now : Nat) (q : Ring) : Ring :=
  signal { q with
    cqTail := BitVec.ofNat 19 (t % q.entries)
    phase := if q.entries ≤ t then !q.phase else q.phase
    coalescer := q.coalescer.drop n
    burst := none
    coTimer := now } k now

/-- The pair once a write of its entries has ended in an error (R272). -/
def Ring.cqHalted (q : Ring) : Ring := { q with cqStopped := true }

theorem writeBurst_eq (s : State) (f r n : Nat) (written : Bool) : writeBurst s f r n written =
    if written && (burstWrite s f r n).2 then
      (burstWrite s f r n).1.modRing f r (Ring.burstLeft ((s.ring f r).cqTail.toNat + n) n
        (((s.ring f r).coalescer.take n).filter (·.signalled)).length s.now)
    else (s.modRing f r (Ring.failed 3 (s.ring f r).sqHead.toNat)).modRing f r Ring.cqHalted := rfl

theorem burstLands_iff {w : State} : BurstLands s f r n w ↔ burstWrite s f r n = (w, true) := by
  unfold BurstLands burstWrite
  dsimp only
  generalize baseAddr (s.ring f r).cqBase + 32 * (s.ring f r).cqTail.toNat = a
  generalize burstBytes (s.ring f r) n = b
  cases baseLocal (s.ring f r).cqBase with
  | false => cases hostFails s a b.length <;> simp [eq_comm (a := w)]
  | true => cases inOwnRange s f a b.length || inOwnWindow f a b.length <;> simp

theorem burstWrite_ring {w : State} (h : BurstLands s f r n w) : w.ring f r = s.ring f r := by
  rcases h with ⟨-, -, rfl⟩ | ⟨-, -, hw⟩
  · exact (hostStore_ev ..).ring ..
  · exact (congrArg (·.1.ring f r) hw).symm.trans ((localWrite_ev ..).ring ..)

theorem writeBurst_lands {w : State} (h : BurstLands s f r n w) :
    ∃ k, writeBurst s f r n true = w.modRing f r (Ring.burstLeft ((s.ring f r).cqTail.toNat + n) n k s.now) :=
  ⟨_, by rw [writeBurst_eq, burstLands_iff.1 h]; rfl⟩

theorem writeBurst_fails {written : Bool} (h : written = false ∨ ∀ w, ¬ BurstLands s f r n w) :
    writeBurst s f r n written =
      (s.modRing f r (Ring.failed 3 (s.ring f r).sqHead.toNat)).modRing f r Ring.cqHalted := by
  refine (writeBurst_eq ..).trans (if_neg fun hw => ?_)
  rw [Bool.and_eq_true] at hw
  obtain ⟨hw, hl⟩ := hw
  rcases h with h | h
  · exact Bool.false_ne_true (h.symm.trans hw)
  · exact h _ (burstLands_iff.2 (Prod.ext rfl hl))

/-! ### COMPLETION_BURST_WRITE and COALESCE_TIME_EXPIRY (R267, R268, R272) -/

variable {written : Bool}

theorem burstEff_idle (h : burstNext s f r = none ∨ ∃ n d, burstNext s f r = some (n, d) ∧ s.now < d) :
    burstEff s f r written = s := by
  rcases h with h | ⟨n, d, h, hd⟩
  · simp [burstEff, h]
  · simp [burstEff, h, hd]

theorem burstEff_writes (h : burstNext s f r = some (n, d)) (hd : d ≤ s.now) :
    burstEff s f r written = writeBurst s f r n written := by
  simp [burstEff, h, hd]

theorem coalesceTimeExpiry_idle (h : s.live = false ∨ (s.ring f r).coTime = 0 ∨
      ∀ c, (s.ring f r).firstSignalled = some c → s.now < c + 1000 * (s.ring f r).coTime.toNat) :
    exec (.coalesceTimeExpiry f r) s = .next (settle s) := by
  refine guarded_idle ?_
  cases hc : (s.ring f r).firstSignalled with
  | none => simp
  | some c => rcases h with h | h | h <;> simp [h, hc]

variable (hf : f < 64) (hr : r < 16)
include hf hr

theorem exec_completionBurstWrite (hc : cqFlows s f r = true) :
    exec (.completionBurstWrite f r written) s = .next (settle (burstEff s f r written)) :=
  guarded_acts (pair_wf hf hr) hc

theorem completionBurstWrite_idle
    (h : cqFlows s f r = false ∨ burstNext s f r = none ∨ ∃ n d, burstNext s f r = some (n, d) ∧ s.now < d) :
    exec (.completionBurstWrite f r written) s = .next (settle s) := by
  cases hc : cqFlows s f r with
  | false => exact guarded_idle hc
  | true => rw [exec_completionBurstWrite hf hr hc, burstEff_idle (h.resolve_left (by simp [hc]))]

theorem coalesceTimeExpiry_sets {c : Nat} (hl : s.live = true) (hc : (s.ring f r).firstSignalled = some c)
    (ht : (s.ring f r).coTime ≠ 0) (hd : c + 1000 * (s.ring f r).coTime.toNat ≤ s.now) :
    exec (.coalesceTimeExpiry f r) s = .next (settle (s.setRingCause f r 0)) :=
  guarded_acts (pair_wf hf hr) (by simpa [hl, hc, hd] using ht)

end

/-- Settles O26: the write of the burst that is due succeeds or fails, and an interval has passed or has not. -/
theorem completionEntriesAreWritten : Obligations.CompletionEntriesAreWritten := by
  rintro s f r q - hf hr rfl
  refine ⟨fun b => burstNext_flushing, burstNext_none, burstNext_full,
    fun n d hc hn hd => ⟨fun w hw => ?_, fun written hw => ?_⟩,
    fun written => completionBurstWrite_idle hf hr, fun c hl hc ht hd => ?_, coalesceTimeExpiry_idle⟩
  · obtain ⟨k, hk⟩ := writeBurst_lands hw
    refine ⟨_, exec_completionBurstWrite hf hr hc, ?_⟩
    rw [burstEff_writes hn hd, hk]
    simp only [State.ring_settle, settle_hostMem, settle_mem, State.ring_modRing, burstWrite_ring hw]
    exact ⟨rfl, rfl, rfl, rfl, toNat_ofNat_of_lt ((Nat.mod_lt _ (Ring.entries_pos _)).trans_le (Ring.entries_le _)), rfl⟩
  · refine ⟨_, exec_completionBurstWrite hf hr hc, ?_⟩
    rw [burstEff_writes hn hd, writeBurst_fails hw]
    simp only [State.ring_settle, settle_hostMem, settle_mem, State.ring_modRing]
    exact ⟨rfl, rfl, rfl, rfl, rfl, Ring.failed_cause 3 (s.ring f r).sqHead.toNat _, rfl, rfl⟩
  · refine ⟨_, coalesceTimeExpiry_sets hf hr hl hc ht hd, ?_⟩
    rw [State.ring_settle, State.setRingCause, State.ring_modRing]

end Sys2Proof.Machine
end

section
/-! What a fall-through queue and its class read back, and what a queue's input end, its consumer and its tail timer do:
the rules of the queues (O27). -/

-- These proofs wait on the same definitions: they are elaborated in order.
set_option Elab.async false

namespace Sys2Proof.Machine

/-! ### Read back -/

@[simp] theorem State.ftq_settle (s : State) (c i : Nat) : (settle s).ftq c i = s.ftq c i := rfl

@[simp] theorem State.qclass_settle (s : State) (c : Nat) : (settle s).qclass c = s.qclass c := rfl

@[simp] theorem State.ftq_modQclass (s : State) (c k i : Nat) (g : QClass → QClass) :
    (s.modQclass k g).ftq c i = s.ftq c i := rfl

@[simp] theorem State.qclass_setFtq (s : State) (c k i : Nat) (q : FtQueue) : (s.setFtq k i q).qclass c = s.qclass c := rfl

@[simp] theorem State.qclass_modQclass (s : State) (c : Nat) (g : QClass → QClass) :
    (s.modQclass c g).qclass c = g (s.qclass c) := tabGet_mod_self ..

@[simp] theorem State.ftq_setFtq (s : State) (c i : Nat) (q : FtQueue) : (s.setFtq c i q).ftq c i = q.norm :=
  tabGet_set_self ..

@[simp] theorem State.qclass_setQueueCause (s : State) (c k : Nat) : (s.setQueueCause k).qclass c = s.qclass c := rfl

theorem State.ftq_of {s t : State} {c i : Nat} (h : t.ftqs = s.ftqs) : t.ftq c i = s.ftq c i :=
  congrArg (tabGet ({} : FtQueue) · (qKey c i)) h

theorem State.qclass_of {s t : State} {c : Nat} (h : t.classes = s.classes) : t.qclass c = s.qclass c :=
  congrArg (tabGet ({} : QClass) · c) h

namespace FtQueue

variable {q : FtQueue} {c : Nat}

@[simp] theorem norm_dropping (q : FtQueue) : q.norm.dropping = q.dropping := by unfold norm; split <;> rfl

@[simp] theorem norm_flushing (q : FtQueue) : q.norm.flushing = q.flushing := by unfold norm; split <;> rfl

@[simp] theorem norm_read (q : FtQueue) : q.norm.read = q.read := by unfold norm; split <;> rfl

theorem norm_of_item (h : noItem q.stages = false) : q.norm = q := if_neg (by simp [h])

theorem begins_of_direct (h : coalesces c = false) : q.begins c = q := if_neg (by simp [h])

theorem begins_of_flushing (h : q.flushing ≠ 0) : q.begins c = q := if_neg (by simp [h])

theorem begins_of_dropping (h : q.dropping ≠ 0) : q.begins c = q := if_neg (by simp [h])

theorem begins_reads (hc : coalesces c = true) (hf : q.flushing = 0) (hd : q.dropping = 0) :
    q.begins c = { q with flushing := packetItems (itemsOf q) } := if_pos (by simp [hc, hf, hd])

end FtQueue

/-! ### The input end (R381, R382, R459) -/

section
variable {n : Nat} {st : List (Option QItem)} {x : QItem}

theorem length_putInput (hn : 2 ≤ n) : (putInput n st x).length = if st = [] then n else st.length := by
  cases st with
  | nil =>
    simp [putInput]
    omega
  | cons a l => simp [putInput]

theorem dropLast_putInput (h : st ≠ []) : (putInput n st x).dropLast = st.dropLast := by
  rw [putInput, List.dropLast_concat, if_neg (by simpa using h)]

theorem getLast?_putInput : (putInput n st x).getLast? = some (some x) := by
  rw [putInput, List.getLast?_concat]

theorem noItem_putInput : noItem (putInput n st x) = false := by
  simp [noItem, putInput]

end

/-- A queue is named by a class below 10 and a number below 65,536. -/
theorem queue_wf {c i : Nat} (hc : c < 10) (hi : i < 65536) : decide (c < 10 ∧ i < 65536) = true := decide_eq_true ⟨hc, hi⟩

theorem two_le_depthOf (c i : Nat) : 2 ≤ depthOf c i := Nat.le_add_right ..

section
variable {s : State} {c i : Nat} {x : QItem}

/-- The item as it stands in a queue: altered where INJECT acts on it. -/
def itemWritten (s : State) (c : Nat) (x : QItem) : QItem :=
  { x with
    fault := if injects s (tabGet {} s.test.inject c) x then kindFault (tabGet {} s.test.inject c).kind.toNat else x.fault }

theorem itemWritten_of_not (h : injects s (tabGet {} s.test.inject c) x = false) : itemWritten s c x = x := by
  rw [itemWritten, if_neg (by simp only [h, Bool.false_eq_true, not_false_iff])]

theorem itemWritten_of_injects (h : injects s (tabGet {} s.test.inject c) x = true) :
    itemWritten s c x = { x with fault := kindFault (tabGet {} s.test.inject c).kind.toNat } := by
  rw [itemWritten, if_pos h]

/-- The queue with a new item at its input end. -/
def FtQueue.filled (n : Nat) (y : QItem) (q : FtQueue) : FtQueue :=
  { q with stages := putInput n q.stages y, timer := if noItem q.stages then 0 else q.timer }

theorem itemEff_eq (s : State) (c i : Nat) (x : QItem) : itemEff s c i x =
    (if injects s (tabGet {} s.test.inject c) x then injectCount s c else s).setFtq c i
      ((s.ftq c i).filled (depthOf c i) (itemWritten s c x)) := rfl

theorem itemEff_stages (s : State) (c i : Nat) (x : QItem) :
    ((itemEff s c i x).ftq c i).stages = putInput (depthOf c i) (s.ftq c i).stages (itemWritten s c x) := by
  rw [itemEff_eq, State.ftq_setFtq, FtQueue.norm_of_item noItem_putInput]
  rfl

theorem itemEff_test_of_not (h : injects s (tabGet {} s.test.inject c) x = false) : (itemEff s c i x).test = s.test := by
  rw [itemEff_eq, h]
  rfl

theorem itemEff_test_of_injects (h : injects s (tabGet {} s.test.inject c) x = true) :
    (itemEff s c i x).test = (injectCount s c).test := by
  rw [itemEff_eq, h]
  rfl

theorem sub_one_eq_zero_iff (b : BitVec 8) : b - 1 = 0 ↔ b = 1 := by bv_omega

theorem injectCount_inject (s : State) (c : Nat) : tabGet {} (injectCount s c).test.inject c =
    { kind := if (tabGet {} s.test.inject c).count = 1 then 0 else (tabGet {} s.test.inject c).kind
      header := (tabGet {} s.test.inject c).header, count := (tabGet {} s.test.inject c).count - 1 } := by
  unfold injectCount
  simp only [sub_one_eq_zero_iff]
  split
  · exact tabGet_set_self ..
  · exact tabGet_set_self ..

theorem injectCount_done (h : (tabGet {} s.test.inject c).count = 1) :
    (injectCount s c).test.cause.getLsbD 4 = true := by
  unfold injectCount
  simp only [sub_one_eq_zero_iff, if_pos h]
  exact getLsbD_setBit_self _ (by decide)

theorem takesItem_free (h : inputFree (s.ftq c i).stages = true) : takesItem s c i = some s := if_pos h

/-- A class with one cycle, or none, of its clock in a FACET_CLK cycle. -/
theorem clocksIn_ne_two {now : Nat} (h : c = 3 ∨ 7 ≤ c) (hc : c < 10) : clocksIn now c ≠ 2 := by
  unfold clocksIn
  have hcase : c = 3 ∨ c = 7 ∨ c = 8 ∨ c = 9 := by omega
  rcases hcase with rfl | rfl | rfl | rfl <;> simp <;> split <;> decide

theorem takesItem_full (hc : c < 10) (h : inputFree (s.ftq c i).stages = false)
    (ha : c = 3 ∨ 7 ≤ c ∨ (s.ftq c i).ahead ≠ 0) : takesItem s c i = none := by
  unfold takesItem
  simp only [h, Bool.false_eq_true, if_false]
  refine if_neg fun ⟨h2, h0, _⟩ => ?_
  rcases ha with ha | ha | ha
  · exact clocksIn_ne_two (.inl ha) hc h2
  · exact clocksIn_ne_two (.inr ha) hc h2
  · exact ha h0

variable (hc : c < 10) (hi : i < 65536)
include hc hi

theorem queueItemWrite_takes {u : State} (hl : s.live = true) (h : takesItem s c i = some u) :
    exec (.queueItemWrite c i x) s = .next (settle (itemEff u c i x)) := by
  refine (if_pos (queue_wf hc hi)).trans ?_
  simp only [h]
  exact doneIf_true hl ..

theorem queueItemWrite_idle (h : s.live = false ∨ takesItem s c i = none) :
    exec (.queueItemWrite c i x) s = .next (settle s) := by
  refine (if_pos (queue_wf hc hi)).trans ?_
  cases ht : takesItem s c i with
  | none => rfl
  | some u => exact doneIf_false (h.resolve_right (by simp [ht])) ..

end

/-! ### The consumer (R383, R386 to R389) -/

/-- A packet more to drop, and its class with one more dropped. -/
def FtQueue.dropped (q : FtQueue) : FtQueue := { q with dropping := q.dropping + 1 }
def QClass.dropped (k : QClass) : QClass := { k with drops := addSat k.drops 1 }

theorem dropEff_eq (s : State) (c i : Nat) :
    dropEff s c i = (s.setFtq c i (s.ftq c i).dropped).modQclass c QClass.dropped := rfl

section
variable {s : State} {c i : Nat} {x : QItem}

theorem countWord_sent (s : State) (c : Nat) (x : QItem) : (countWord s c x).sent = s.sent :=
  (countWord_ev ..).frame .sent (by decide)

theorem countWord_ftq (s : State) (c i : Nat) (x : QItem) : (countWord s c x).ftq c i = s.ftq c i :=
  State.ftq_of ((countWord_ev ..).frame .ftqs (by decide))

theorem countWord_ring (s : State) (c f r : Nat) (x : QItem) : (countWord s c x).ring f r = s.ring f r :=
  (countWord_ev ..).ring ..

theorem countWord_drops (s : State) (c : Nat) (x : QItem) : ((countWord s c x).qclass c).drops = (s.qclass c).drops := by
  unfold countWord
  split
  · rfl
  · rw [State.qclass_setQueueCause, State.qclass_modQclass]
  · rw [State.qclass_setQueueCause, State.qclass_modQclass]
  · split
    · rw [State.qclass_setQueueCause, State.qclass_modQclass]
    · rfl

theorem countWord_single (h : x.fault = .single) :
    ((countWord s c x).qclass c).ceCount = addWrap (s.qclass c).ceCount 1 := by
  simp only [countWord, h]
  rw [State.qclass_setQueueCause, State.qclass_modQclass]

theorem countWord_double (h : x.fault = .double) :
    ((countWord s c x).qclass c).ueCount = addSat (s.qclass c).ueCount 1 := by
  simp only [countWord, h]
  rw [State.qclass_setQueueCause, State.qclass_modQclass]

theorem countWord_parity (h : x.fault = .parity) (hc : c ≤ 2) :
    ((countWord s c x).qclass c).parityErrors = addSat (s.qclass c).parityErrors 1 := by
  simp only [countWord, h, hasParity, hc, decide_true, if_true]
  rw [State.qclass_setQueueCause, State.qclass_modQclass]

/-! #### A bad header (R388) -/

theorem badHeader_fatal (h : c < 2) : (badHeader s c i x).mode = .fatal := by
  unfold badHeader
  split
  · rfl
  · rw [if_pos (by omega)]
    rfl

theorem badHeader_drops (h : 2 ≤ c) : badHeader s c i x =
    if x.eop then (s.emit (.poisonedRead c i)).modQclass c QClass.dropped
    else dropEff (s.emit (.poisonedRead c i)) c i := by
  unfold badHeader
  rw [if_neg (by omega), if_neg (by omega)]
  rfl

theorem badHeader_sent (h : 2 ≤ c) : (badHeader s c i x).sent = s.sent ++ [.poisonedRead c i] := by
  rw [badHeader_drops h]
  split <;> rfl

theorem badHeader_sends : ∃ rest, (badHeader s c i x).sent = s.sent ++ rest := by
  by_cases h : 2 ≤ c
  · exact ⟨_, badHeader_sent h⟩
  · unfold badHeader
    split
    · exact ⟨_, rfl⟩
    · rw [if_pos (by omega)]
      exact ⟨_, rfl⟩

theorem badHeader_dropping (h : 2 ≤ c) : ((badHeader s c i x).ftq c i).dropping =
    if x.eop then (s.ftq c i).dropping else (s.ftq c i).dropping + 1 := by
  rw [badHeader_drops h]
  split
  · rfl
  · rw [dropEff_eq, State.ftq_modQclass, State.ftq_setFtq, FtQueue.norm_dropping]
    rfl

theorem badHeader_counts (h : 2 ≤ c) : (badHeader s c i x).qclass c = (s.qclass c).dropped := by
  rw [badHeader_drops h]
  split
  · exact State.qclass_modQclass ..
  · rw [dropEff_eq, State.qclass_modQclass]
    rfl

/-- Of the counters of its class, a bad header moves DROPS alone. -/
theorem badHeader_qclass : ∃ d, (badHeader s c i x).qclass c = { s.qclass c with drops := d } := by
  by_cases h : 2 ≤ c
  · exact ⟨_, badHeader_counts h⟩
  · unfold badHeader
    split
    · exact ⟨_, rfl⟩
    · rw [if_pos (by omega)]
      exact ⟨_, rfl⟩

/-! #### An item that is read -/

variable {keep : Bool}

/-- The state once the completion writer has taken note of a word with a poison tag (R272, R389). -/
def poisonNoted (s : State) (c i : Nat) (y : QItem) : State :=
  if c = 3 && y.poison && decide (i < 1024) then badEntry s i else s

/-- The queue that keeps another word of the unit it reads. -/
def FtQueue.keeps (y : QItem) (q : FtQueue) : FtQueue := { q with read := q.read ++ [y] }

theorem readItem_bad (h : (x.header && isBad c x) = true) :
    readItem s c i x keep = badHeader (countWord s c x) c i x := if_pos h

theorem readItem_keeps (h : (x.header && isBad c x) = false) : readItem s c i x true =
    (poisonNoted (countWord s c x) c i (delivered c x)).setFtq c i
      (((poisonNoted (countWord s c x) c i (delivered c x)).ftq c i).keeps (delivered c x)) := if_neg (by simp [h])

theorem readItem_sends (h : (x.header && isBad c x) = false) : readItem s c i x false =
    (poisonNoted (countWord s c x) c i (delivered c x)).emit (.queueOut c i [delivered c x]) := if_neg (by simp [h])

theorem poisonNoted_ev (s : State) (c i : Nat) (y : QItem) : Evolves 70368744185856 s (poisonNoted s c i y) := by
  unfold poisonNoted
  split
  · exact badEntry_ev ..
  · exact .refl ..

theorem poisonNoted_sent (s : State) (c i : Nat) (y : QItem) : (poisonNoted s c i y).sent = s.sent :=
  (poisonNoted_ev ..).frame .sent (by decide)

theorem poisonNoted_ftq (s : State) (c i : Nat) (y : QItem) : (poisonNoted s c i y).ftq c i = s.ftq c i :=
  State.ftq_of ((poisonNoted_ev ..).frame .ftqs (by decide))

theorem poisonNoted_qclass (s : State) (c i : Nat) (y : QItem) : (poisonNoted s c i y).qclass c = s.qclass c :=
  State.qclass_of ((poisonNoted_ev ..).frame .classes (by decide))

theorem poisonNoted_halts {y : QItem} (hi : i < 1024) (hp : y.poison = true) :
    (poisonNoted s 3 i y).ring (i / 16) (i % 16) =
      ((s.ring (i / 16) (i % 16)).failed 3 (s.ring (i / 16) (i % 16)).sqHead.toNat).cqHalted := by
  rw [poisonNoted, if_pos (by simp [hi, hp]), badEntry, State.ring_modRing, ringError_eq, State.ring_modRing]
  rfl

theorem readItem_sent_keeps (h : (x.header && isBad c x) = false) : (readItem s c i x true).sent = s.sent := by
  rw [readItem_keeps h]
  exact (poisonNoted_sent ..).trans (countWord_sent ..)

theorem readItem_sent_sends (h : (x.header && isBad c x) = false) :
    (readItem s c i x false).sent = s.sent ++ [.queueOut c i [delivered c x]] := by
  rw [readItem_sends h]
  exact congrArg (· ++ _) ((poisonNoted_sent ..).trans (countWord_sent ..))

theorem readItem_sent (s : State) (c i : Nat) (x : QItem) (keep : Bool) :
    ∃ rest, (readItem s c i x keep).sent = s.sent ++ rest := by
  cases h : x.header && isBad c x with
  | true =>
    obtain ⟨rest, hr⟩ := badHeader_sends (s := countWord s c x) (c := c) (i := i) (x := x)
    exact ⟨rest, by rw [readItem_bad h, hr, countWord_sent]⟩
  | false =>
    cases keep with
    | true => exact ⟨[], by rw [readItem_sent_keeps h, List.append_nil]⟩
    | false => exact ⟨_, readItem_sent_sends h⟩

theorem readItem_read (h : (x.header && isBad c x) = false) :
    ((readItem s c i x true).ftq c i).read = (s.ftq c i).read ++ [delivered c x] := by
  rw [readItem_keeps h, State.ftq_setFtq, FtQueue.norm_read, poisonNoted_ftq, countWord_ftq]
  rfl

/-- Beside DROPS, the counters of the class move as the word alone tells. -/
theorem readItem_qclass (s : State) (c i : Nat) (x : QItem) (keep : Bool) :
    ∃ d, (readItem s c i x keep).qclass c = { (countWord s c x).qclass c with drops := d } := by
  cases h : x.header && isBad c x with
  | true =>
    rw [readItem_bad h]
    exact badHeader_qclass
  | false =>
    have hq := poisonNoted_qclass (countWord s c x) c i (delivered c x)
    cases keep with
    | true => exact ⟨_, by rw [readItem_keeps h, State.qclass_setFtq, hq]⟩
    | false => exact ⟨_, by rw [readItem_sends h]; exact hq⟩

end

end Sys2Proof.Machine
end

section
/-! Tail timeouts, one cycle of a queue, and INJECT (O27). -/

-- These proofs wait on the same definitions: they are elaborated in order.
set_option Elab.async false

namespace Sys2Proof.Machine

/-! ### The tail timeout (R384, R385) -/

section
variable {s : State} {c i f r : Nat}

/-- What a flush counts, and the pair whose entries it begins to read. -/
def QClass.flushed (k : QClass) : QClass := { k with flushes := addSat k.flushes 1 }
def Ring.flushing (n now : Nat) (q : Ring) : Ring :=
  { q with burst := some (q.coalescer.length, burstCycle n now q.coalescer), coTimer := now }

/-- The queue that begins to read `n` items. -/
def FtQueue.reads (n : Nat) (q : FtQueue) : FtQueue := { q with flushing := n, timer := 0 }

theorem coFlush_full (h : fullBurst (s.ring f r) ≤ (s.ring f r).coalescer.length) : coFlush s f r = burstEff s f r true :=
  if_pos h

theorem coFlush_partial (h : (s.ring f r).coalescer.length < fullBurst (s.ring f r)) : coFlush s f r =
    (s.modRing f r (Ring.flushing (depthOf 3 (16 * f + r)) s.now)).modQclass 3 QClass.flushed := if_neg (Nat.not_le.2 h)

/-- A queue whose tail is due holds items of a class that has a coalescer, which reads none and drops none. -/
theorem tailDue_iff : tailDue s c i = true → coalesces c = true ∧ noItem (s.ftq c i).stages = false ∧
    (s.ftq c i).dropping = 0 ∧ (s.ftq c i).flushing = 0 := by
  intro h
  simp only [tailDue, Bool.and_eq_true, decide_eq_true_eq, Bool.not_eq_true', beq_iff_eq] at h
  obtain ⟨⟨⟨⟨ht, hn⟩, hd⟩, hf⟩, -⟩ := h
  refine ⟨?_, hn, hd, hf⟩
  by_contra hc
  simp only [coalesces, Bool.not_eq_true, Bool.or_eq_false_iff, beq_eq_false_iff_ne] at hc
  obtain ⟨⟨h2, h3⟩, h4⟩ := hc
  exact ht (by simp [tailTimeout, h2, h3, h4])

theorem tailFlush_packet (h : tailDue s c i = true) (hp : packetItems (itemsOf (s.ftq c i)) ≠ 0) :
    tailFlush s c i = s.setFtq c i ((s.ftq c i).reads (packetItems (itemsOf (s.ftq c i)))) := by
  obtain ⟨hc, -, hd, hf⟩ := tailDue_iff h
  refine (if_pos hp).trans ?_
  rw [FtQueue.begins_reads hc hf hd]
  rfl

theorem tailFlush_partial (hp : packetItems (itemsOf (s.ftq c i)) = 0) : tailFlush s c i =
    (s.setFtq c i ((s.ftq c i).reads (itemsOf (s.ftq c i)).length)).modQclass c QClass.flushed := if_neg (by simp [hp])

variable (hc : c < 10) (hi : i < 65536)
include hc hi

theorem exec_queueTailTimeout_ring (h : c = 3 ∧ i < 1024 ∧ coTailDue s (i / 16) (i % 16) = true) :
    exec (.queueTailTimeout c i) s = doneIf (cqFlows s (i / 16) (i % 16)) s (coFlush s (i / 16) (i % 16)) := by
  obtain ⟨h3, h1, hd⟩ := h
  exact (if_pos (queue_wf hc hi)).trans (if_pos (by simp [h3, h1, hd]))

theorem exec_queueTailTimeout_queue (h : ¬ (c = 3 ∧ i < 1024 ∧ coTailDue s (i / 16) (i % 16) = true)) :
    exec (.queueTailTimeout c i) s = doneIf (s.live && tailDue s c i) s (tailFlush s c i) :=
  (if_pos (queue_wf hc hi)).trans (if_neg (by simpa [and_assoc] using h))

/-- A full burst that is present when the tail time is over is written at once. -/
theorem queueTailTimeout_full (h : c = 3 ∧ i < 1024 ∧ coTailDue s (i / 16) (i % 16) = true)
    (hq : cqFlows s (i / 16) (i % 16) = true)
    (hn : fullBurst (s.ring (i / 16) (i % 16)) ≤ (s.ring (i / 16) (i % 16)).coalescer.length) :
    exec (.queueTailTimeout c i) s = exec (.completionBurstWrite (i / 16) (i % 16) true) s := by
  rw [exec_queueTailTimeout_ring hc hi h, exec_completionBurstWrite (by omega) (by omega) hq, coFlush_full hn,
    doneIf_true hq]

theorem queueTailTimeout_partial (h : c = 3 ∧ i < 1024 ∧ coTailDue s (i / 16) (i % 16) = true)
    (hq : cqFlows s (i / 16) (i % 16) = true)
    (hn : (s.ring (i / 16) (i % 16)).coalescer.length < fullBurst (s.ring (i / 16) (i % 16))) :
    ∃ t d, exec (.queueTailTimeout c i) s = .next t ∧ t.mem = s.mem ∧ t.hostMem = s.hostMem ∧
      (t.ring (i / 16) (i % 16)).coalescer = (s.ring (i / 16) (i % 16)).coalescer ∧
      (t.ring (i / 16) (i % 16)).burst = some ((s.ring (i / 16) (i % 16)).coalescer.length, d) ∧
      s.now + 2 * (s.ring (i / 16) (i % 16)).coalescer.length ≤ d ∧
      (∀ e ∈ (s.ring (i / 16) (i % 16)).coalescer, e.since + 2 * depthOf 3 i + 2 ≤ d) ∧
      (t.qclass 3).flushes = addSat (s.qclass 3).flushes 1 := by
  refine ⟨_, burstCycle (depthOf 3 i) s.now (s.ring (i / 16) (i % 16)).coalescer,
    (exec_queueTailTimeout_ring hc hi h).trans (doneIf_true hq ..), ?_⟩
  rw [coFlush_partial hn, Nat.div_add_mod]
  have hring (g : QClass → QClass) (h : Ring → Ring) :
      ((s.modRing (i / 16) (i % 16) h).modQclass 3 g).ring (i / 16) (i % 16) = h (s.ring (i / 16) (i % 16)) := State.ring_modRing ..
  simp only [settle_mem, settle_hostMem, State.ring_settle, State.qclass_settle, State.qclass_modQclass, hring]
  exact ⟨rfl, rfl, rfl, rfl, le_burstCycle .., fun e => since_le_burstCycle _ _ _, rfl⟩

theorem queueTailTimeout_begins (h : ¬ (c = 3 ∧ i < 1024 ∧ coTailDue s (i / 16) (i % 16) = true))
    (hl : s.live = true) (hd : tailDue s c i = true) :
    ∃ t, exec (.queueTailTimeout c i) s = .next t ∧ (t.ftq c i).stages = (s.ftq c i).stages ∧
      (packetItems (itemsOf (s.ftq c i)) ≠ 0 →
        (t.ftq c i).flushing = packetItems (itemsOf (s.ftq c i)) ∧ (t.qclass c).flushes = (s.qclass c).flushes) ∧
      (packetItems (itemsOf (s.ftq c i)) = 0 → (t.ftq c i).flushing = (itemsOf (s.ftq c i)).length ∧
        (t.qclass c).flushes = addSat (s.qclass c).flushes 1) := by
  obtain ⟨-, hn, -, -⟩ := tailDue_iff hd
  have hnorm (n : Nat) : ((s.ftq c i).reads n).norm = (s.ftq c i).reads n := FtQueue.norm_of_item hn
  refine ⟨_, (exec_queueTailTimeout_queue hc hi h).trans (doneIf_true (by simp [hl, hd]) ..), ?_⟩
  by_cases hp : packetItems (itemsOf (s.ftq c i)) = 0
  · rw [tailFlush_partial hp]
    simp only [State.ftq_settle, State.qclass_settle, State.ftq_modQclass, State.qclass_modQclass, State.ftq_setFtq,
      State.qclass_setFtq, hnorm]
    exact ⟨rfl, fun hne => absurd hp hne, fun _ => ⟨rfl, rfl⟩⟩
  · rw [tailFlush_packet hd hp]
    simp only [State.ftq_settle, State.qclass_settle, State.ftq_setFtq, State.qclass_setFtq, hnorm]
    exact ⟨rfl, fun _ => ⟨rfl, trivial⟩, fun h0 => absurd h0 hp⟩

end

/-! ### One cycle of a queue (R381, R383, R384) -/

section
variable {s : State} {c i : Nat} {y : QItem} {rest : List (Option QItem)}

theorem unitLeaves_idle (h : (s.ftq c i).flushing ≠ 0 ∨ (s.ftq c i).read = []) : unitLeaves s c i = s := by
  refine if_neg ?_
  rcases h with h | h <;> simp [h]

theorem unitLeaves_sent (hf : (s.ftq c i).flushing = 0) (hr : (s.ftq c i).read ≠ []) :
    (unitLeaves s c i).sent = s.sent ++ [.queueOut c i (s.ftq c i).read] := by
  rw [unitLeaves, if_pos (by simp [hf, hr])]
  rfl

/-- What moves in the cycle, once a unit that was read whole has left. -/
def queueMoves (s : State) (c i : Nat) : State :=
  let q := (s.ftq c i).begins c
  match q.stages with
  | some x :: r =>
    let out : FtQueue := { q with stages := shiftDown (none :: r), timer := 0, flushing := q.flushing - 1 }
    if q.dropping ≠ 0 then
      (countWord s c x).setFtq c i { out with dropping := if x.eop then q.dropping - 1 else q.dropping }
    else if !coalesces c || q.flushing ≠ 0 then readItem (s.setFtq c i out) c i x (coalesces c)
    else s.setFtq c i { q with stages := shiftDown (some x :: r), timer := q.timer + 1 }
  | st => s.setFtq c i { q with stages := shiftDown st, timer := q.timer + 1 }

theorem queueCycle_eq (s : State) (c i : Nat) : queueCycle s c i = queueMoves (unitLeaves s c i) c i := rfl

/-- The queue whose lowest item has been read. -/
def FtQueue.readOut (r : List (Option QItem)) (q : FtQueue) : FtQueue :=
  { q with stages := shiftDown (none :: r), timer := 0, flushing := q.flushing - 1 }

/-- The queue after an item of a packet that is dropped. -/
def FtQueue.dropsItem (y : QItem) (q : FtQueue) : FtQueue :=
  { q with dropping := if y.eop then q.dropping - 1 else q.dropping }

theorem queueMoves_drops (hst : (s.ftq c i).stages = some y :: rest) (hd : (s.ftq c i).dropping ≠ 0) :
    queueMoves s c i = (countWord s c y).setFtq c i (((s.ftq c i).readOut rest).dropsItem y) := by
  rw [queueMoves, FtQueue.begins_of_dropping hd]
  simp only [hst, if_pos hd]
  rfl

theorem queueMoves_reads (hst : (s.ftq c i).stages = some y :: rest) (hd : (s.ftq c i).dropping = 0)
    (hr : coalesces c = false ∨ (s.ftq c i).flushing ≠ 0) :
    queueMoves s c i = readItem (s.setFtq c i ((s.ftq c i).readOut rest)) c i y (coalesces c) := by
  have hb : (s.ftq c i).begins c = s.ftq c i := hr.elim FtQueue.begins_of_direct FtQueue.begins_of_flushing
  rw [queueMoves, hb]
  simp only [hst]
  rw [if_neg (not_not.2 hd)]
  refine if_pos ?_
  rcases hr with hr | hr <;> simp [hr]

theorem queueMoves_sent (s : State) (c i : Nat) : ∃ rest, (queueMoves s c i).sent = s.sent ++ rest := by
  unfold queueMoves
  extract_lets q
  split
  · split
    · exact ⟨[], by rw [List.append_nil]; exact countWord_sent ..⟩
    · split
      · exact readItem_sent ..
      · exact ⟨[], (List.append_nil _).symm⟩
  · exact ⟨[], (List.append_nil _).symm⟩

/-- What a coalescer has read whole leaves before anything else that the cycle sends. -/
theorem queueCycle_unit (hf : (s.ftq c i).flushing = 0) (hr : (s.ftq c i).read ≠ []) :
    ∃ rest, (queueCycle s c i).sent = s.sent ++ .queueOut c i (s.ftq c i).read :: rest := by
  obtain ⟨rest, h⟩ := queueMoves_sent (unitLeaves s c i) c i
  refine ⟨rest, ?_⟩
  rw [queueCycle_eq, h, unitLeaves_sent hf hr, List.append_assoc, List.singleton_append]

theorem queueCycle_drops (hst : (s.ftq c i).stages = some y :: rest) (hd : (s.ftq c i).dropping ≠ 0)
    (hr : (s.ftq c i).read = []) : (queueCycle s c i).sent = s.sent ∧
      ((queueCycle s c i).ftq c i).dropping = if y.eop then (s.ftq c i).dropping - 1 else (s.ftq c i).dropping := by
  rw [queueCycle_eq, unitLeaves_idle (.inr hr), queueMoves_drops hst hd, State.ftq_setFtq, FtQueue.norm_dropping]
  exact ⟨countWord_sent .., rfl⟩

/-- The state in which the lowest item of a queue is out of its stage. -/
def itemOut (s : State) (c i : Nat) (r : List (Option QItem)) : State := s.setFtq c i ((s.ftq c i).readOut r)

theorem queueCycle_reads (hst : (s.ftq c i).stages = some y :: rest) (hd : (s.ftq c i).dropping = 0)
    (hr : coalesces c = false ∧ (s.ftq c i).read = [] ∨ coalesces c = true ∧ (s.ftq c i).flushing ≠ 0) :
    queueCycle s c i = readItem (itemOut s c i rest) c i y (coalesces c) := by
  rw [queueCycle_eq, unitLeaves_idle (hr.symm.imp And.right And.right), queueMoves_reads hst hd (hr.imp And.left And.right),
    itemOut]

theorem itemOut_qclass (s : State) (c i : Nat) (r : List (Option QItem)) : (itemOut s c i r).qclass c = s.qclass c := rfl

theorem itemOut_read (s : State) (c i : Nat) (r : List (Option QItem)) :
    ((itemOut s c i r).ftq c i).read = (s.ftq c i).read := by
  rw [itemOut, State.ftq_setFtq, FtQueue.norm_read]
  rfl

theorem itemOut_dropping (s : State) (c i : Nat) (r : List (Option QItem)) :
    ((itemOut s c i r).ftq c i).dropping = (s.ftq c i).dropping := by
  rw [itemOut, State.ftq_setFtq, FtQueue.norm_dropping]
  rfl

end

/-! #### An item that is read, by its fault and its kind (R386 to R389) -/

section
variable {s : State} {c i : Nat} {y : QItem}

/-- The counters of the class after a word, whatever becomes of it. -/
theorem readItem_counts (s : State) (c i : Nat) (y : QItem) (keep : Bool) :
    (y.fault = .single → ((readItem s c i y keep).qclass c).ceCount = addWrap (s.qclass c).ceCount 1) ∧
    (y.fault = .double → ((readItem s c i y keep).qclass c).ueCount = addSat (s.qclass c).ueCount 1) ∧
    (y.fault = .parity → c ≤ 2 →
      ((readItem s c i y keep).qclass c).parityErrors = addSat (s.qclass c).parityErrors 1) := by
  obtain ⟨d, h⟩ := readItem_qclass s c i y keep
  rw [h]
  exact ⟨countWord_single, countWord_double, countWord_parity⟩

/-- A poisoned word for the completion writer ends the ring's writes. -/
theorem readItem_halts (hb : (y.header && isBad 3 y) = false) (hi : i < 1024) (hp : (delivered 3 y).poison = true) :
    ((readItem s 3 i y true).ring (i / 16) (i % 16)).error = true ∧
      ((readItem s 3 i y true).ring (i / 16) (i % 16)).errorCode = 3 ∧
      ((readItem s 3 i y true).ring (i / 16) (i % 16)).cqStopped = true := by
  have h : (readItem s 3 i y true).ring (i / 16) (i % 16) =
      (poisonNoted (countWord s 3 y) 3 i (delivered 3 y)).ring (i / 16) (i % 16) := by
    rw [readItem_keeps hb]
    rfl
  rw [h, poisonNoted_halts hi hp]
  exact ⟨rfl, rfl, rfl⟩

/-- A bad header outside classes 0 and 1 is answered as a poisoned read, and the rest of its packet is dropped. -/
theorem readItem_badHeader {keep : Bool} (hb : (y.header && isBad c y) = true) (h2 : 2 ≤ c) :
    (readItem s c i y keep).sent = s.sent ++ [.poisonedRead c i] ∧
      ((readItem s c i y keep).qclass c).drops = addSat (s.qclass c).drops 1 ∧
      ((readItem s c i y keep).ftq c i).dropping = if y.eop then (s.ftq c i).dropping else (s.ftq c i).dropping + 1 := by
  rw [readItem_bad hb, badHeader_sent h2, badHeader_counts h2, badHeader_dropping h2, countWord_sent, countWord_ftq,
    QClass.dropped, countWord_drops]
  exact ⟨rfl, rfl, rfl⟩

end

/-! ### INJECT (R459) -/

section
variable {s : State} {c : Nat} {v : Word32}

theorem bits_eq_mod (v hi lo : Nat) : bits v hi lo = v / 2 ^ lo % 2 ^ (hi + 1 - lo) := rfl

theorem exec_inject (hc : c < 10) (ha : s.answers 0 = true) (hb : s.barUp = true) :
    exec (.inject c v) s = .next (settle (injectEff s c v.toNat).linkUsed) :=
  guarded_acts (decide_eq_true hc) (by simp [ha, hb])

theorem inject_idle (h : s.answers 0 = false ∨ s.barUp = false) : exec (.inject c v) s = .next (settle s) :=
  guarded_idle (Bool.and_eq_false_iff.2 h)

theorem mayInject_iff (n : Nat) : mayInject s c n = true ↔
    (s.test.testState = true ∨ s.sec.debugLevel ≠ 0) ∧ (n % 4 = 3 → c ≤ 2) := by
  simp only [mayInject, bits_low, Bool.and_eq_true, Bool.or_eq_true, bne_iff_ne, decide_eq_true_eq, ne_eq, imp_iff_not_or]
  norm_num

theorem injectEff_refused {n : Nat} (h : mayInject s c n = false) : injectEff s c n = s := if_neg (by simp [h])

theorem injectEff_inject {n : Nat} (h : mayInject s c n = true) :
    tabGet {} (injectEff s c n).test.inject c = injectOf n := by
  unfold injectEff
  rw [if_pos h]
  split
  · exact tabGet_set_self ..
  · exact tabGet_set_self ..

theorem injectEff_done {n : Nat} (h : mayInject s c n = true) (h0 : n / 2 ^ 8 % 2 ^ 8 = 0) (hk : n % 4 ≠ 0) :
    (injectEff s c n).test.cause.getLsbD 4 = true := by
  have hcond : (decide (bits n 15 8 = 0) && decide (bits n 1 0 ≠ 0)) = true := by
    simp only [Bool.and_eq_true, decide_eq_true_eq, bits_low]
    exact ⟨h0, hk⟩
  unfold injectEff
  rw [if_pos h]
  simp only [hcond, if_true]
  exact getLsbD_setBit_self _ (by decide)

theorem injectOf_kind (n : Nat) : (injectOf n).kind.toNat = if n / 2 ^ 8 % 2 ^ 8 = 0 then 0 else n % 4 := by
  have hb : bits n 15 8 = n / 2 ^ 8 % 2 ^ 8 := rfl
  rw [injectOf, hb]
  split
  · rfl
  · exact BitVec.toNat_ofNat ..

theorem injectOf_count (n : Nat) : (injectOf n).count.toNat = n / 2 ^ 8 % 2 ^ 8 := by
  simp [injectOf, bits_eq_mod]

end

/-- Settles O27: the input end, the consumer, the tail timers and INJECT, each by the rule of its operation. -/
theorem queuesMoveTheirItems : Obligations.QueuesMoveTheirItems := by
  rintro s c i x q - hc hi rfl
  refine ⟨fun u p j hl hu hp hj => ?_, takesItem_free, takesItem_full hc, queueItemWrite_idle hc hi, fun hl => ?_,
    fun hl => guarded_idle hl, fun h f r hf hr => ?_, fun h => ⟨queueTailTimeout_begins hc hi h, fun hd => ?_⟩,
    fun y rest u hst hu => ?_, queueCycle_unit, fun v ha hb hm hk => ?_, fun v ha hb hm => ?_, fun v => inject_idle⟩
  · subst hp hj
    refine ⟨_, queueItemWrite_takes hc hi hl hu, ?_⟩
    simp only [State.ftq_settle, settle_test, itemEff_stages, getLast?_putInput]
    exact ⟨length_putInput (two_le_depthOf ..), dropLast_putInput,
      fun h => ⟨by rw [itemWritten_of_not h], itemEff_test_of_not h⟩,
      fun h => ⟨by rw [itemWritten_of_injects h], itemEff_test_of_injects h ▸ injectCount_inject ..,
        fun h1 => itemEff_test_of_injects h ▸ injectCount_done h1⟩⟩
  · refine ⟨_, guarded_acts (queue_wf hc hi) hl, ?_⟩
    rw [State.ftq_settle, State.qclass_settle, dropEff_eq, State.ftq_modQclass, State.qclass_modQclass, State.ftq_setFtq,
      FtQueue.norm_dropping]
    exact ⟨rfl, rfl⟩
  · subst hf hr
    exact ⟨queueTailTimeout_full hc hi h, queueTailTimeout_partial hc hi h,
      fun hq => (exec_queueTailTimeout_ring hc hi h).trans (doneIf_false hq ..)⟩
  · rw [exec_queueTailTimeout_queue hc hi h, doneIf_false (Bool.and_eq_false_iff.2 hd)]
  · subst hu
    refine ⟨queueCycle_drops hst, fun hd hr => ?_⟩
    obtain ⟨h1, h2, hp⟩ := readItem_counts (itemOut s c i rest) c i y (coalesces c)
    rw [queueCycle_reads hst hd hr]
    refine ⟨h1, h2, hp, fun hb => ?_, fun hh hbad => ?_⟩
    · have hb' : (y.header && isBad c y) = false := Bool.and_eq_false_iff.2 hb
      refine ⟨fun hco => ?_, fun hco => ?_⟩
      · rw [hco]
        exact readItem_sent_sends hb'
      · rw [hco]
        refine ⟨readItem_sent_keeps hb', ?_, ?_⟩
        · rw [readItem_read hb', itemOut_read]
        · rintro rfl
          exact readItem_halts hb'
    · have hb' : (y.header && isBad c y) = true := by simp [hh, hbad]
      refine ⟨fun hc2 => ?_, fun hc2 => ?_⟩
      · rw [readItem_bad hb']
        exact badHeader_fatal hc2
      · obtain ⟨hs, hdr, hdp⟩ := readItem_badHeader (s := itemOut s c i rest) (i := i) (keep := coalesces c) hb' hc2
        rw [itemOut_dropping, hd] at hdp
        exact ⟨hs, hdr, hdp⟩
  · have hmay : mayInject s c v.toNat = true := (mayInject_iff _).2 ⟨hm, hk⟩
    refine ⟨_, exec_inject hc ha hb, ?_⟩
    have ht : (settle (injectEff s c v.toNat).linkUsed).test = (injectEff s c v.toNat).test := rfl
    rw [ht, injectEff_inject hmay]
    exact ⟨injectOf_kind _, rfl, injectOf_count _, injectEff_done hmay⟩
  · refine ⟨_, exec_inject hc ha hb, ?_⟩
    have hno : mayInject s c v.toNat = false := by
      rw [Bool.eq_false_iff, Ne, mayInject_iff]
      rintro ⟨h1, h2⟩
      rcases hm with ⟨ht, hd⟩ | ⟨h3, hlt⟩
      · exact h1.elim (by simp [ht]) fun h => h hd
      · exact absurd (h2 h3) (Nat.not_le.2 hlt)
    rw [injectEff_refused hno]
    rfl

end Sys2Proof.Machine
end

section
/-! Writes into the memory of this device, and BAR2 (O38). -/

-- These proofs wait on the same definitions: they are elaborated in order.
set_option Elab.async false

namespace Sys2Proof.Machine

/-! ### Writes into LPDDR5X and to local addresses (R352, R353, R355) -/

section
variable {s : State} {a n f v : Nat} {b : Bytes} {p : Bool}

theorem partialReads_mem (s : State) (a n : Nat) : (partialReads s a n).mem = s.mem :=
  (partialReads_ev ..).frame .mem (by decide)

theorem partialReads_inlineEcc (s : State) (a n : Nat) : (partialReads s a n).memc.inlineEcc = s.memc.inlineEcc :=
  (congrArg MemRegs.inlineEcc ((partialReads_ev s a n).frame .memRegs (by decide)) :)

/-- Without flipped bits in the sectors, nothing is corrected and nothing is lost. -/
theorem partialReads_poison (h : flipsIn s a n = []) : (partialReads s a n).poison = s.poison := by
  rw [partialReads, h]
  rfl

theorem flipsIn_of_noEcc (h : s.memc.inlineEcc = false) : flipsIn s a n = [] := if_neg (by simp [h])

theorem lpWrite_mem (s : State) (a : Nat) (b : Bytes) (p : Bool) : (lpWrite s a b p).mem = writeBytes s.mem a b := by
  rw [← partialReads_mem s a b.length]
  unfold lpWrite
  extract_lets u u1
  split
  · rfl
  · split <;> rfl

theorem lpWrite_hostMem (s : State) (a : Nat) (b : Bytes) (p : Bool) : (lpWrite s a b p).hostMem = s.hostMem :=
  (lpWrite_ev ..).frame .hostMem (by decide)

theorem lpWrite_poison (he : s.memc.inlineEcc = true) (hf : flipsIn s a b.length = []) :
    (lpWrite s a b p).poison = poisonAfter s.poison a b.length p := by
  rw [lpWrite, if_pos ((partialReads_inlineEcc ..).trans he)]
  exact congrArg (poisonAfter · a b.length p) (partialReads_poison hf)

/-- Without inline ECC there is no tag to write: a poisoned write is reported. -/
theorem lpWrite_noEcc (he : s.memc.inlineEcc = false) : (lpWrite s a b p).poison = s.poison ∧
    (p = true → (lpWrite s a b p).memc.cause.getLsbD 6 = true) := by
  have hp : (partialReads s a b.length).poison = s.poison := partialReads_poison (flipsIn_of_noEcc he)
  rw [lpWrite, if_neg (by simp [partialReads_inlineEcc, he])]
  cases p with
  | false => exact ⟨hp, fun h => absurd h Bool.false_ne_true⟩
  | true => exact ⟨hp, fun _ => getLsbD_setBit_self _ (by decide)⟩

theorem localWrite_mem (s : State) (a : Nat) (b : Bytes) (p : Bool) : (localWrite s a b p).1.mem =
    if regionOf s a = .lpddr ∧ a + b.length ≤ usable s then writeBytes s.mem a b else s.mem := by
  unfold localWrite
  cases regionOf s a with
  | lpddr =>
    by_cases h : a + b.length ≤ usable s
    · simp [h, lpWrite_mem]
    · simp [h, State.setMemCause]
  | host g off => by_cases h : hostFails s (busAddr s g off) b.length = true <;> simp [h, hostStore]
  | geode => rfl
  | registers => rfl
  | absent => rfl

/-- Only a write to the host may end in an error. -/
theorem localWrite_ok (s : State) (a : Nat) (b : Bytes) (p : Bool) : (localWrite s a b p).2 = true ↔
    ∀ g off, regionOf s a = .host g off → hostFails s (busAddr s g off) b.length = false := by
  unfold localWrite
  cases regionOf s a with
  | lpddr => by_cases h : a + b.length ≤ usable s <;> simp [h]
  | host g off => by_cases h : hostFails s (busAddr s g off) b.length = true <;> simp [h]
  | geode => simp
  | registers => simp
  | absent => simp

theorem addrWrite_mem (s : State) (f v : Nat) (b : Bytes) (p : Bool) : (addrWrite s f v b p).1.mem =
    if addrSpace v = 0 then s.mem else (localWrite s (v % 2 ^ 42) b p).1.mem := by
  unfold addrWrite
  split
  · split <;> rfl
  · rfl

theorem addrWrite_ok (s : State) (f v : Nat) (b : Bytes) (p : Bool) : (addrWrite s f v b p).2 = true ↔
    if addrSpace v = 0 then hostFails s (addrBits v) b.length = false else (localWrite s (v % 2 ^ 42) b p).2 = true := by
  unfold addrWrite
  split
  · cases hostFails s (addrBits v) b.length <;> simp
  · rfl

end

/-! ### BAR2 (R443, R446) -/

section
variable {s : State} {off n : Nat} {w ep : Bool} {data : Bytes}

theorem exec_bar2Access (hw : w = true → data.length = n) (ha : s.answers 0 = true)
    (hl : memLooped s (2 ^ 62 + bar2Addr s off) n = false) :
    exec (.bar2Access off w n data ep) s = .next (settle (bar2Eff s off w n data ep).linkUsed) := by
  refine guarded_acts (show (!w || data.length == n) = true from ?_) (by rw [ha, hl]; rfl)
  cases w with
  | false => rfl
  | true => simpa using hw

theorem bar2Access_idle (h : s.answers 0 = false ∨ memLooped s (2 ^ 62 + bar2Addr s off) n = true) :
    exec (.bar2Access off w n data ep) s = .next (settle s) :=
  guarded_idle (Bool.and_eq_false_iff.2 (h.imp_right fun h => congrArg not h))

/-- The access lies outside BAR2 or outside the memory that PF0 holds. -/
def bar2Outside (s : State) (off n : Nat) : Bool :=
  (decide (n ≠ 0) && !inOwnRange s 0 (bar2Addr s off) n) || decide (s.pcie.bar2Size.toNat * 2 ^ 30 < off + n)

theorem bar2Outside_iff : bar2Outside s off n = true ↔
    n ≠ 0 ∧ inOwnRange s 0 (bar2Addr s off) n = false ∨ s.pcie.bar2Size.toNat * 2 ^ 30 < off + n := by
  simp [bar2Outside]

theorem bar2Inside (hr : n = 0 ∨ inOwnRange s 0 (bar2Addr s off) n = true)
    (hs : off + n ≤ s.pcie.bar2Size.toNat * 2 ^ 30) : bar2Outside s off n = false := by
  rw [Bool.eq_false_iff, Ne, bar2Outside_iff]
  rintro (⟨h0, hf⟩ | h)
  · exact hr.elim h0 (by simp [hf])
  · omega

theorem bar2Eff_outside (h : bar2Outside s off n = true) :
    bar2Eff s off w n data ep = if w then outsideWrite s else outsideRead s := if_pos h

/-- A write through BAR2 into memory, and the note of a poisoned packet. -/
def bar2Write (s : State) (off : Nat) (data : Bytes) (ep : Bool) : State :=
  if ep then
    { lpWrite s (bar2Addr s off) data ep with
      pcie := { (lpWrite s (bar2Addr s off) data ep).pcie with aerPoisonedTlp := true } }
  else lpWrite s (bar2Addr s off) data ep

theorem bar2Eff_write (h : bar2Outside s off n = false) : bar2Eff s off true n data ep = bar2Write s off data ep :=
  if_neg (Bool.eq_false_iff.1 h)

theorem bar2Eff_read (h : bar2Outside s off n = false) : bar2Eff s off false n data ep =
    (lpReadEff s (bar2Addr s off) n).emit (.bar2Data (lpBytes s (bar2Addr s off) n) (lpPoison s (bar2Addr s off) n)) :=
  if_neg (Bool.eq_false_iff.1 h)

/-- Beside the error bit, a write through BAR2 is a write into memory. -/
theorem bar2Write_eq (s : State) (off : Nat) (data : Bytes) (ep : Bool) :
    (bar2Write s off data ep).mem = (lpWrite s (bar2Addr s off) data ep).mem ∧
    (bar2Write s off data ep).poison = (lpWrite s (bar2Addr s off) data ep).poison ∧
    (bar2Write s off data ep).memc = (lpWrite s (bar2Addr s off) data ep).memc ∧
    (bar2Write s off data ep).hostMem = (lpWrite s (bar2Addr s off) data ep).hostMem ∧
    (ep = true → (bar2Write s off data ep).pcie.aerPoisonedTlp = true) := by
  cases ep with
  | false => exact ⟨rfl, rfl, rfl, rfl, fun h => absurd h Bool.false_ne_true⟩
  | true => exact ⟨rfl, rfl, rfl, rfl, fun _ => rfl⟩

theorem bar2Access_outside (hw : w = true → data.length = n) (ha : s.answers 0 = true)
    (hl : memLooped s (2 ^ 62 + bar2Addr s off) n = false) (h : bar2Outside s off n = true) :
    ∃ t, exec (.bar2Access off w n data ep) s = .next t ∧ t.mem = s.mem ∧ t.pcie.aerUnsupported = true ∧
      (w = false → ∃ rest, t.sent = s.sent ++ .unsupported :: rest) := by
  refine ⟨_, exec_bar2Access hw ha hl, ?_⟩
  rw [bar2Eff_outside h]
  cases w with
  | true => exact ⟨rfl, rfl, fun h => absurd h.symm Bool.false_ne_true⟩
  | false => exact ⟨rfl, rfl, fun _ => settled_emit_sent (outsideWrite s) .unsupported⟩

theorem bar2Access_writes (hw : data.length = n) (ha : s.answers 0 = true)
    (hl : memLooped s (2 ^ 62 + bar2Addr s off) n = false) (h : bar2Outside s off n = false) :
    ∃ t, exec (.bar2Access off true n data ep) s = .next t ∧ t.mem = writeBytes s.mem (bar2Addr s off) data ∧
      (s.memc.inlineEcc = true → flipsIn s (bar2Addr s off) n = [] →
        t.poison = poisonAfter s.poison (bar2Addr s off) n ep) ∧
      (s.memc.inlineEcc = false → t.poison = s.poison ∧ (ep = true → t.memc.cause.getLsbD 6 = true)) ∧
      t.hostMem = s.hostMem ∧ (ep = true → t.pcie.aerPoisonedTlp = true) := by
  obtain ⟨hmem, hpoison, hmemc, hhost, hep⟩ := bar2Write_eq s off data ep
  have hused : (bar2Write s off data ep).linkUsed.pcie.aerPoisonedTlp = (bar2Write s off data ep).pcie.aerPoisonedTlp := rfl
  refine ⟨_, exec_bar2Access (fun _ => hw) ha hl, ?_⟩
  rw [bar2Eff_write h, settle_pcie, hused]
  refine ⟨hmem.trans (lpWrite_mem ..), fun he hf => hpoison.trans ?_, fun he => ?_, hhost.trans (lpWrite_hostMem ..), hep⟩
  · subst hw
    exact lpWrite_poison he hf
  · obtain ⟨hp, hc⟩ := lpWrite_noEcc (a := bar2Addr s off) (b := data) (p := ep) he
    exact ⟨hpoison.trans hp, fun h => (congrArg (·.cause.getLsbD 6) hmemc).trans (hc h)⟩

theorem bar2Access_reads (ha : s.answers 0 = true) (hl : memLooped s (2 ^ 62 + bar2Addr s off) n = false)
    (h : bar2Outside s off n = false) :
    ∃ t rest, exec (.bar2Access off false n data ep) s = .next t ∧ t.mem = s.mem ∧ t.sent =
      s.sent ++ .bar2Data (lpBytes s (bar2Addr s off) n) (lpPoison s (bar2Addr s off) n) :: rest := by
  have hev := lpReadEff_ev s (bar2Addr s off) n
  have hsent : (lpReadEff s (bar2Addr s off) n).sent = s.sent := hev.frame .sent (by decide)
  obtain ⟨rest, hrest⟩ := settled_emit_sent (lpReadEff s (bar2Addr s off) n)
    (.bar2Data (lpBytes s (bar2Addr s off) n) (lpPoison s (bar2Addr s off) n))
  refine ⟨_, rest, exec_bar2Access (fun h => absurd h Bool.false_ne_true) ha hl, ?_⟩
  rw [bar2Eff_read h, hrest, hsent]
  exact ⟨hev.frame .mem (by decide), rfl⟩

end

end Sys2Proof.Machine
end

section
/-! The completions of the device's reads, and their timeouts (O38). -/

-- These proofs wait on the same definitions: they are elaborated in order.
set_option Elab.async false

namespace Sys2Proof.Machine

/-! ### What waits for a tag (R441) -/

section
variable {s : State} {c : Cmd} {cid : Nat} {ps : List (Nat × Nat)} {x : PcieRead}

/-- A change of one command is none of another. -/
theorem cmd_modCmd_other {g : Cmd → Cmd} {j : Nat} (hg : ∀ e, (g e).cid = e.cid) (h : cid ≠ j) :
    (s.modCmd j g).cmd cid = s.cmd cid := by
  have hcid (e : Cmd) : (if e.cid = j then g e else e).cid = e.cid := by
    split
    · exact hg e
    · rfl
  rw [State.cmd_map hcid (t := s.modCmd j g) rfl]
  cases hc : s.cmd cid with
  | none => rfl
  | some e => rw [Option.map_some, if_neg (State.cmd_cid hc ▸ h)]

theorem askCopy_cmd (s : State) (c : Cmd) (ps : List (Nat × Nat)) (h : cid ≠ c.cid) :
    (askCopy s c ps).cmd cid = s.cmd cid := by
  fun_induction askCopy s c ps with
  | case1 s => exact cmd_modCmd_other (fun _ => rfl) h
  | case2 s => exact cmd_modCmd_other (fun _ => rfl) h
  | case3 s a n r t ht ih => exact ih

theorem askCopy_reads (s : State) (c : Cmd) (ps : List (Nat × Nat)) (h : x ∈ s.pcieReads) :
    x ∈ (askCopy s c ps).pcieReads := by
  fun_induction askCopy s c ps with
  | case1 s => exact h
  | case2 s => exact h
  | case3 s a n r t ht ih => exact ih (List.mem_append_left _ h)

/-- No copy waits. -/
theorem askWaiting_idle (h : ∀ c ∈ s.cmds, c.rest = []) : askWaiting s = s := by
  rw [askWaiting, List.filter_eq_nil_iff.2 fun c hc => by simp [h c hc]]
  rfl

theorem foldl_askCopy_cmd (l : List Cmd) : ∀ s : State, (∀ c ∈ l, c.cid ≠ cid) →
    (l.foldl (fun s c => askCopy s c c.rest) s).cmd cid = s.cmd cid := by
  induction l with
  | nil => exact fun s _ => rfl
  | cons c l ih =>
    intro s h
    rw [List.foldl_cons, ih _ fun e he => h e (List.mem_cons_of_mem _ he)]
    exact askCopy_cmd _ _ _ (h c List.mem_cons_self).symm

/-- A command of which nothing waits stays as it was. -/
theorem askWaiting_cmd (h : ∀ c ∈ s.cmds, c.cid = cid → c.rest = []) : (askWaiting s).cmd cid = s.cmd cid := by
  refine foldl_askCopy_cmd _ s fun c hc hcid => ?_
  obtain ⟨hmem, hrest⟩ := List.mem_filter.1 hc
  simp [h c hmem hcid] at hrest

theorem askWaiting_reads (h : x ∈ s.pcieReads) : x ∈ (askWaiting s).pcieReads := by
  unfold askWaiting
  generalize s.cmds.filter _ = l
  induction l generalizing s with
  | nil => exact h
  | cons c l ih => exact ih (askCopy_reads _ _ _ h)

theorem askUnits_reads {f r : Nat} (h : x ∈ s.pcieReads) : x ∈ (askUnits s f r).pcieReads := by
  unfold askUnits
  extract_lets q
  split
  · exact h
  · split
    · exact h
    · exact List.mem_append_left _ h

theorem askWaiting_ring (s : State) (f r : Nat) : (askWaiting s).ring f r = s.ring f r := (askWaiting_ev s).ring ..

/-- Copies that ask again leave a completion. -/
theorem Completed.askWaiting {t : State} {st d r : Nat} (h : Completed s t c st d r) :
    Completed s (askWaiting t) c st d r := by
  obtain ⟨hc, hr, he⟩ := h
  refine ⟨(askWaiting_cmd fun e hm hcid => absurd hcid (State.cmd_eq_none.1 hc e hm)).trans hc, ?_, fun hs ho hq => ?_⟩
  · have hruns : (Machine.askWaiting t).runs = t.runs := (askWaiting_ev t).frame .runs (by decide)
    rw [State.runOf, hruns]
    exact hr
  · rw [askWaiting_ring]
    exact he hs ho hq

end

/-! ### How a read ends (R359, R442, R443) -/

section
variable {s u : State} {r : PcieRead} {st : CplStatus} {data : Bytes} {f k cid x y z n : Nat} {c : Cmd}

theorem completion_unknown {tag : Nat} (h : readOf s tag = none) :
    exec (.pcieReadCompletion tag st data) s = .next (settle s) := by
  change execPcieReadCompletion tag st data s = _
  simp only [execPcieReadCompletion, h]
  rfl

theorem timeout_unknown {tag : Nat} (h : readOf s tag = none) :
    exec (.pcieCompletionTimeout tag) s = .next (settle s) := by
  change execPcieCompletionTimeout tag s = _
  simp only [execPcieCompletionTimeout, h]
  rfl

/-- The state whose read a completion timeout has ended. -/
def timedOut (s : State) (r : PcieRead) : State :=
  { dropRead s r.tag with pcie := { (dropRead s r.tag).pcie with aerCompletionTimeout := true } }

/-- The state whose read a completion without good data has ended. -/
def readEnded (s : State) (r : PcieRead) (st : CplStatus) : State :=
  if st = .poisoned then
    { dropRead s r.tag with pcie := { (dropRead s r.tag).pcie with aerPoisonedTlp := true } }
  else dropRead s r.tag

/-- The state in whose host memory the bytes of a read stand. -/
def bytesHere (s : State) (r : PcieRead) (b : Bytes) : State :=
  { s with
    hostMem := writeBytes s.hostMem r.addr b, hostPoison := poisonAfter s.hostPoison r.addr b.length false }

section
variable (h : readOf s r.tag = some r)
include h

theorem exec_completion : exec (.pcieReadCompletion r.tag st data) s =
    doneIf (s.live && (st != .ok || data.length == r.len)) s (askWaiting (completionEff s r st data)).linkUsed := by
  change execPcieReadCompletion r.tag st data s = _
  simp only [execPcieReadCompletion, h]

theorem exec_timeout : exec (.pcieCompletionTimeout r.tag) s =
    doneIf (s.live && readLate s r) s (askWaiting (readFails (timedOut s r) r)) := by
  change execPcieCompletionTimeout r.tag s = _
  simp only [execPcieCompletionTimeout, h]
  rfl

theorem completion_arrives (hl : s.live = true) (hd : data.length = r.len) :
    exec (.pcieReadCompletion r.tag .ok data) s =
      .next (settle (askWaiting (readArrives (dropRead s r.tag) r data)).linkUsed) :=
  (exec_completion h).trans (doneIf_true (by simp [hl, hd]) ..)

theorem completion_fails (hl : s.live = true) (hst : st ≠ .ok) : exec (.pcieReadCompletion r.tag st data) s =
    .next (settle (askWaiting (readFails (readEnded s r st) r)).linkUsed) := by
  have heff : completionEff s r st data = readFails (readEnded s r st) r := by
    cases st with
    | ok => exact absurd rfl hst
    | poisoned => rfl
    | unsupported => rfl
    | aborted => rfl
  rw [exec_completion h, heff]
  exact doneIf_true (by simp [hl, hst]) ..

theorem completion_idle (hl : s.live = false ∨ st = .ok ∧ data.length ≠ r.len) :
    exec (.pcieReadCompletion r.tag st data) s = .next (settle s) := by
  refine (exec_completion h).trans (doneIf_false ?_ ..)
  rcases hl with hl | ⟨rfl, hl⟩ <;> simp [hl]

theorem timeout_ends (hl : s.live = true) (hd : readLate s r = true) :
    exec (.pcieCompletionTimeout r.tag) s = .next (settle (askWaiting (readFails (timedOut s r) r))) :=
  (exec_timeout h).trans (doneIf_true (by simp [hl, hd]) ..)

theorem timeout_idle (hl : s.live = false ∨ readLate s r = false) :
    exec (.pcieCompletionTimeout r.tag) s = .next (settle s) :=
  (exec_timeout h).trans (doneIf_false (Bool.and_eq_false_iff.2 hl) ..)

end

/-! ### A read that failed (R272, R309) -/

/-- In `u`, a read of `s` is over, and nothing else has changed but what the error reporting holds. -/
structure ReadOver (s u : State) (tag : Nat) : Prop where
  reads : u.pcieReads = (dropRead s tag).pcieReads
  cmds : u.cmds = s.cmds
  rings : u.rings = s.rings
  mem : u.mem = s.mem

theorem ReadOver.timedOut : ReadOver s (timedOut s r) r.tag := ⟨rfl, rfl, rfl, rfl⟩

theorem ReadOver.readEnded : ReadOver s (readEnded s r st) r.tag := by
  unfold Machine.readEnded
  split <;> exact ⟨rfl, rfl, rfl, rfl⟩

theorem readEnded_poisoned (h : st = .poisoned) : (readEnded s r st).pcie.aerPoisonedTlp = true := by
  rw [readEnded, if_pos h]

theorem readOf_dropRead (s : State) (tag : Nat) : readOf (dropRead s tag) tag = none := by
  simp [readOf, dropRead]

theorem readFails_units (hp : r.purpose = .units f k) :
    readFails u r = ringError u f k 2 ((r.addr - baseAddr (u.ring f k).sqBase) / 16) := by
  simp only [readFails, hp]

theorem readFails_copy (hp : r.purpose = .copy cid) (hc : u.cmd cid = some c) (ho : c.opcode = 0x52)
    (hf : c.final = some (x, y, z)) : readFails u r = finish u cid stPoisonedData 0 z := by
  simp only [readFails, hp, failCopy, hc, ho, hf, if_true, Option.getD_some]

/-- A failed read of submission units is a ring error 2, and the tag is free where no copy waits for one. -/
theorem readFails_units_ends (ho : ReadOver s u r.tag) (hp : r.purpose = .units f k) :
    ((∀ c ∈ s.cmds, c.rest = []) → readOf (askWaiting (readFails u r)) r.tag = none) ∧
      ((askWaiting (readFails u r)).ring f k).error = true ∧ ((askWaiting (readFails u r)).ring f k).errorCode = 2 ∧
      (askWaiting (readFails u r)).pcie = u.pcie := by
  rw [readFails_units hp, askWaiting_ring, ringError_eq, State.ring_modRing]
  refine ⟨fun hr => ?_, rfl, rfl, (askWaiting_ev _).frame .pcie (by decide)⟩
  rw [askWaiting_idle (ho.cmds.symm ▸ hr)]
  refine Eq.trans ?_ (readOf_dropRead s r.tag)
  exact congrArg (List.find? fun r' => r'.tag == r.tag) ho.reads

/-- A failed read of a COPY completes it with the bytes that it has copied. -/
theorem readFails_copy_ends (ho : ReadOver s u r.tag) (hp : r.purpose = .copy cid) (hc : s.cmd cid = some c)
    (h52 : c.opcode = 0x52) (hf : c.final = some (x, y, z)) : (askWaiting (readFails u r)).mem = s.mem ∧
      Completed s (askWaiting (readFails u r)) c stPoisonedData 0 z ∧ (askWaiting (readFails u r)).pcie = u.pcie := by
  have huc : u.cmd cid = some c := (congrArg (List.find? fun e : Cmd => e.cid == cid) ho.cmds).trans hc
  have hring : u.ring c.fn c.cq = s.ring c.fn c.cq := congrArg (tabGet ({} : Ring) · (16 * c.fn + c.cq)) ho.rings
  rw [readFails_copy hp huc h52 hf]
  have hev := askWaiting_ev (finish u cid stPoisonedData 0 z)
  have hmem : (askWaiting (finish u cid stPoisonedData 0 z)).mem = _ := hev.frame .mem (by decide)
  have hpcie : (askWaiting (finish u cid stPoisonedData 0 z)).pcie = _ := hev.frame .pcie (by decide)
  refine ⟨hmem.trans ((finish_mem ..).trans ho.mem), ?_, hpcie.trans (finish_pcie ..)⟩
  exact ((finish_completed huc stPoisonedData 0 z).ofRing (congrArg Ring.cqEnable hring.symm)).askWaiting

/-! ### A read that brings its bytes (R253, R255, R309) -/

theorem bytesHere_ev (s : State) (r : PcieRead) (b : Bytes) : Evolves 103079215104 s (bytesHere s r b) :=
  upd_host_ev _ _ _ fun h => ⟨writeBytes_wf _ _ h.hostMem, poisonAfter_wf _ _ _ h.hostPoison⟩

theorem readArrives_units (hp : r.purpose = .units f k) (hd : data.length = r.len) :
    readArrives s r data = unitsArrive (bytesHere s r data) f k r.addr r.len := by
  simp only [readArrives, hp, ← hd, List.take_length, bytesHere]

theorem readArrives_stale (hp : r.purpose = .stale) (hd : data.length = r.len) :
    readArrives s r data = bytesHere s r data := by
  simp only [readArrives, hp, ← hd, List.take_length, bytesHere]

theorem readArrives_copy (hp : r.purpose = .copy cid) (hc : s.cmd cid = some c) (hd : data.length = r.len) :
    readArrives s r data = copyWritePiece (bytesHere s r data) c (r.addr - (place s c.fn (c.f 16 8)).2) data := by
  have hc' : (bytesHere s r data).cmd cid = some c := hc
  unfold bytesHere at *
  simp only [readArrives, hp, ← hd, List.take_length, hc']
  rfl

/-- A pair to which `n` more units have come. -/
def Ring.unitsHere (n : Nat) (q : Ring) : Ring := { q with unitsIn := q.unitsIn + n }

theorem unitsArrive_ring (s : State) (f k a n : Nat) : (unitsArrive s f k a n).ring f k =
    if (s.ring f k).sqEnable = true ∧ a = baseAddr (s.ring f k).sqBase + 16 * (s.ring f k).nextUnit then
      (s.ring f k).unitsHere (n / 16)
    else s.ring f k := by
  have hask (u : State) : (askUnits u f k).ring f k = u.ring f k := (askUnits_ev ..).ring ..
  unfold unitsArrive
  simp only [Bool.and_eq_true, beq_iff_eq]
  split
  · exact (hask _).trans (State.ring_modRing ..)
  · exact hask _

theorem unitsArrive_sqHead (s : State) (f k a n : Nat) :
    ((unitsArrive s f k a n).ring f k).sqHead = (s.ring f k).sqHead := by
  rw [unitsArrive_ring]
  split <;> rfl

theorem unitsArrive_unitsIn (s : State) (f k a n : Nat) : ((unitsArrive s f k a n).ring f k).unitsIn =
    (s.ring f k).unitsIn +
      if (s.ring f k).sqEnable = true ∧ a = baseAddr (s.ring f k).sqBase + 16 * (s.ring f k).nextUnit then n / 16
      else 0 := by
  rw [unitsArrive_ring]
  split <;> rfl

theorem unitsArrive_hostMem (s : State) (f k a n : Nat) : (unitsArrive s f k a n).hostMem = s.hostMem :=
  (unitsArrive_ev ..).frame .hostMem (by decide)

theorem unitsArrive_reads {q : PcieRead} {a : Nat} (h : q ∈ s.pcieReads) : q ∈ (unitsArrive s f k a n).pcieReads := by
  unfold unitsArrive
  extract_lets p
  split
  · exact askUnits_reads h
  · exact askUnits_reads h

theorem mem_dropRead {q : PcieRead} {tag : Nat} (h : q ∈ s.pcieReads) (hne : q.tag ≠ tag) :
    q ∈ (dropRead s tag).pcieReads := List.mem_filter.2 ⟨h, by simpa using hne⟩

/-! #### A piece of a COPY (R309) -/

/-- The command once another `n` bytes are copied. -/
def Cmd.pieceDone (n : Nat) (c : Cmd) : Cmd :=
  { c with wanting := c.wanting - 1, final := c.final.map fun q => (q.1, q.2.1, q.2.2 + n) }

theorem cmd_pieceDone (h : s.cmd cid = some c) : (s.modCmd cid (Cmd.pieceDone n)).cmd cid = some (c.pieceDone n) := by
  rw [State.cmd_modCmd s cid (Cmd.pieceDone n) fun _ => rfl, h]
  rfl

theorem copied_last (h : s.cmd cid = some c) (hw : c.wanting ≤ 1) (hf : c.final = some (x, y, z)) :
    copied s cid n = finish (s.modCmd cid (Cmd.pieceDone n)) cid stOk 0 (z + n) := by
  have hc := cmd_pieceDone (n := n) h
  unfold Cmd.pieceDone at *
  simp only [copied, hc, hf, Nat.sub_eq_zero_of_le hw, if_true, Option.map_some, Option.getD_some]

theorem copied_more (h : s.cmd cid = some c) (hw : 1 < c.wanting) :
    copied s cid n = s.modCmd cid (Cmd.pieceDone n) := by
  have hc := cmd_pieceDone (n := n) h
  have hne : c.wanting - 1 ≠ 0 := by omega
  unfold Cmd.pieceDone at *
  simp only [copied, hc, if_neg hne]

theorem copied_completes (h : s.cmd cid = some c) (hw : c.wanting ≤ 1) (hf : c.final = some (x, y, z)) :
    Completed s (copied s cid n) c stOk 0 (z + n) := by
  rw [copied_last h hw hf]
  exact (finish_completed (cmd_pieceDone h) stOk 0 (z + n)).ofRing rfl

theorem copied_mem (s : State) (cid n : Nat) : (copied s cid n).mem = s.mem := (copied_ev ..).frame .mem (by decide)

theorem copyWritePiece_writes {off d : Nat} (hd : d = c.f 24 8 + off) (hr : addrRemote s (c.f 24 8) = false)
    (hm : mayName s c.fn d data.length false = true) (hw : (addrWrite s c.fn d data false).2 = true) :
    copyWritePiece s c off data = copied (addrWrite s c.fn d data false).1 c.cid data.length := by
  subst hd
  simp [copyWritePiece, hr, hm, hw]

/-- What a read brings to host memory does not matter to what the piece writes into memory here. -/
theorem bytesHere_addrWrite (s : State) (r : PcieRead) (b : Bytes) (g v : Nat) :
    (addrWrite (bytesHere (dropRead s r.tag) r b) g v data false).1.mem = (addrWrite s g v data false).1.mem ∧
      ((addrWrite (bytesHere (dropRead s r.tag) r b) g v data false).2 = true ↔ (addrWrite s g v data false).2 = true) := by
  refine ⟨?_, ?_⟩
  · simp only [addrWrite_mem, localWrite_mem]
    rfl
  · simp only [addrWrite_ok, localWrite_ok]
    rfl

/-- A whole piece of a COPY from the host is written as it would be without the bytes' record in host memory. -/
theorem copyPiece_arrives {d : Nat} (hp : r.purpose = .copy cid) (hc : s.cmd cid = some c) (hl : data.length = r.len)
    (hd : d = c.f 24 8 + (r.addr - (place s c.fn (c.f 16 8)).2)) (hr : addrRemote s (c.f 24 8) = false)
    (hm : mayName s c.fn d r.len false = true) (hw : (addrWrite s c.fn d data false).2 = true) :
    ∃ w, readArrives (dropRead s r.tag) r data = copied w cid r.len ∧ w.mem = (addrWrite s c.fn d data false).1.mem ∧
      Evolves 9199819948160 s w := by
  obtain ⟨hmem, hok⟩ := bytesHere_addrWrite (data := data) s r data c.fn d
  refine ⟨_, ?_, hmem, .step (addrWrite_ev ..) <| .step (bytesHere_ev ..) <| .step (dropRead_ev ..) <| .refl ..⟩
  have heff := copyWritePiece_writes (s := bytesHere (dropRead s r.tag) r data) hd hr (hl.symm ▸ hm) (hok.2 hw)
  rw [readArrives_copy hp (show (dropRead s r.tag).cmd cid = some c from hc) hl]
  rw [State.cmd_cid hc, hl] at heff
  exact heff

/-- What is copied waits for nothing: the commands that ask again are others. -/
theorem askWaiting_cmd_done (w : s.Canon) (h : s.cmd cid = some c) (hr : c.rest = []) :
    (askWaiting s).cmd cid = some c := by
  refine (askWaiting_cmd fun e he hcid => ?_).trans h
  have hfound : s.cmd cid = some e := hcid ▸ w.cmd_of_mem he
  rw [Option.some.inj (hfound.symm.trans h)]
  exact hr

end

/-- Settles O38: an access of BAR2 lies inside or outside, and a read brings its bytes or fails, by what it was for. -/
theorem bar2AndDeviceReads : Obligations.Bar2AndDeviceReads := by
  intro s w
  refine ⟨fun off n wr data ep hw => ⟨fun ha hl => ⟨fun hr hs => ⟨?_, ?_⟩, fun h => ?_⟩, bar2Access_idle⟩,
    fun tag st data h => ⟨completion_unknown h, timeout_unknown h⟩,
    fun r data h => ⟨fun hl => ⟨fun f k hp => ⟨fun hd => ?_, fun st hst => ?_, fun hd => ?_⟩, fun hp hd => ?_,
      fun cid c x y z hp hc ho hf => ⟨fun d hd hlen hr hm hok => ?_, fun st hst => ?_, fun hd => ?_⟩⟩,
      fun hl => completion_idle h (hl.imp_right fun hl => ⟨rfl, hl⟩), fun hl st => completion_idle h (.inl hl),
      timeout_idle h⟩⟩
  · rintro rfl
    exact bar2Access_writes (hw rfl) ha hl (bar2Inside hr hs)
  · rintro rfl
    exact bar2Access_reads ha hl (bar2Inside hr hs)
  · exact bar2Access_outside hw ha hl (bar2Outside_iff.2 h)
  · refine ⟨_, completion_arrives h hl hd, ?_⟩
    rw [readArrives_units hp hd]
    have hhost : (askWaiting (unitsArrive (bytesHere (dropRead s r.tag) r data) f k r.addr r.len)).hostMem = _ :=
      (askWaiting_ev _).frame .hostMem (by decide)
    simp only [settle_hostMem, settle_pcieReads, State.ring_settle, State.ring_linkUsed, askWaiting_ring,
      unitsArrive_sqHead, unitsArrive_unitsIn]
    exact ⟨hhost.trans (unitsArrive_hostMem ..), rfl, rfl,
      fun q hq hne => askWaiting_reads (unitsArrive_reads (mem_dropRead hq hne))⟩
  · obtain ⟨hread, herr, hcode, hpcie⟩ := readFails_units_ends (u := readEnded s r st) .readEnded hp
    exact ⟨_, completion_fails h hl hst, hread, herr, hcode,
      fun hst => (congrArg PcieRegs.aerPoisonedTlp hpcie).trans (readEnded_poisoned hst)⟩
  · obtain ⟨hread, herr, hcode, hpcie⟩ := readFails_units_ends (u := timedOut s r) .timedOut hp
    exact ⟨_, timeout_ends h hl hd, hread, congrArg PcieRegs.aerCompletionTimeout hpcie, herr, hcode⟩
  · refine ⟨_, completion_arrives h hl hd, ?_⟩
    rw [readArrives_stale hp hd]
    have hev := askWaiting_ev (bytesHere (dropRead s r.tag) r data)
    exact ⟨hev.frame .rings (by decide), hev.frame .mem (by decide)⟩
  · obtain ⟨u, heff, hmem, hev⟩ := copyPiece_arrives hp hc hlen hd hr hm hok
    have huc : u.cmd cid = some c := (hev.cmd (hA := by decide) cid).trans hc
    have hmem' : (askWaiting (copied u cid r.len)).mem = _ := (askWaiting_ev _).frame .mem (by decide)
    refine ⟨_, completion_arrives h hl hlen, ?_⟩
    rw [heff, settle_mem, State.cmd_settle, State.cmd_linkUsed]
    refine ⟨hmem'.trans ((copied_mem ..).trans hmem), fun hw => ?_, fun hw hrest => ?_⟩
    · have hdone : Completed u (copied u cid r.len) c stOk 0 (z + r.len) := copied_completes huc hw hf
      exact (hdone.after hev).askWaiting
    · have hnew : (copied u cid r.len).cmd cid = some (c.pieceDone r.len) := copied_more huc hw ▸ cmd_pieceDone huc
      refine (askWaiting_cmd_done ((copied_ev ..).form (hev.form w)) hnew hrest).trans ?_
      rw [Cmd.pieceDone, hf]
      rfl
  · obtain ⟨hmem, hdone, -⟩ := readFails_copy_ends (u := readEnded s r st) .readEnded hp hc ho hf
    exact ⟨_, completion_fails h hl hst, hmem, hdone⟩
  · obtain ⟨-, hdone, hpcie⟩ := readFails_copy_ends (u := timedOut s r) .timedOut hp hc ho hf
    exact ⟨_, timeout_ends h hl hd, congrArg PcieRegs.aerCompletionTimeout hpcie, hdone⟩

end Sys2Proof.Machine
end

section
/-! NOP, FENCE, POWER_QUERY, POWER_CAP_SET and KEY_PROVISION (O9, O10, O11, O12, O15). -/

-- These proofs wait on the same definitions: they are elaborated in order.
set_option Elab.async false

namespace Sys2Proof.Machine

/-- A row whose effect is a completion of the command that has begun completes it. -/
theorem Ready.finishes {s u : State} {cid op st d r : Nat} {c : Cmd} {act : Cmd → State → State}
    (h : Ready s cid op c) (hact : act c (begin' s cid) = finish u c.cid st d r)
    (hc : u.cmds = (begin' s cid).cmds := by rfl) (hr : u.rings = s.rings := by rfl) :
    onCmd s cid op act = .next (settle (finish u c.cid st d r)) ∧
      Completed s (settle (finish u c.cid st d r)) c st d r :=
  ⟨onCmd_acts h hact, h.completed hc hr st d r⟩

/-- Settles O9: the effect of NOP is its completion. -/
theorem nopCompletesWithOk : Obligations.NopCompletesWithOk :=
  fun _ _ _ h => ⟨_, h.finishes rfl⟩

/-- A throttling bit of RESULT, written out. -/
theorem b2n_ne (a b : BitVec 7) : b2n (a != b) = if a = b then 0 else 1 := by
  by_cases h : a = b <;> simp [h, b2n]

theorem powerResult_begin' (s : State) (cid k : Nat) : powerResult (begin' s cid) k =
    s.clk.capW.toNat + 2 ^ 16 * (queryFloor s k % 2 ^ 16) + 2 ^ 32 * s.clk.meanW.toNat +
      2 ^ 48 * (if s.clk.fBe = 64 then 0 else 1) + 2 ^ 49 * (if s.clk.fLc = 64 then 0 else 1) +
      2 ^ 50 * (if s.clk.thermal then 1 else 0) := by
  rw [← b2n_ne, ← b2n_ne]
  rfl

/-- Settles O11: POWER_QUERY completes with RESULT of R312. -/
theorem powerQueryReturnsPowerState : Obligations.PowerQueryReturnsPowerState := fun s cid c h => by
  rw [← powerResult_begin' s cid]
  exact ⟨_, h.finishes (act := powerQueryEff) rfl⟩

/-! ### FENCE (R281) -/

section
variable {s : State} {cid : Nat} {c e : Cmd}

theorem fenceEff_ok (ho : c.only [(16, 1)] = true) (hs : c.f 16 1 ≤ 1) : fenceEff c s = fail s c.cid stOk :=
  if_neg (by simp [ho, Nat.not_lt.2 hs])

theorem fenceEff_invalid (h : c.only [(16, 1)] = false ∨ 1 < c.f 16 1) :
    fenceEff c s = fail s c.cid stInvalidParameter :=
  if_pos (by rcases h with h | h <;> simp [h])

/-- A FENCE waits for an earlier command of its ring or, with SCOPE 1, of its function, and holds the later ones of its
ring. -/
theorem holds_of_fence (hf : e.fn = c.fn) (ho : e.orphaned = false)
    (h : c.opcode = 0x01 ∧ (e.ring = c.ring ∨ c.f 16 1 = 1) ∨ e.opcode = 0x01 ∧ e.ring = c.ring) :
    holds s e c = true := by
  unfold holds
  by_cases hr : e.ring = c.ring
  · rcases h with ⟨hc, -⟩ | ⟨he, -⟩ <;> simp [*]
  · obtain ⟨hc, hs⟩ := h.resolve_right fun h => hr h.2
    simp [hf, hr, ho, hc, hs.resolve_left hr]

theorem blocked_of_holds (he : e ∈ s.cmds) (hb : e.before c = true) (h : holds s e c = true) : blocked s c = true :=
  List.any_eq_true.2 ⟨e, List.mem_filter.2 ⟨he, hb⟩, h⟩

end

/-- Settles O10: FENCE by its parameters; a held command stays held while an earlier one blocks it. -/
theorem fenceCompletesAfterItsScope : Obligations.FenceCompletesAfterItsScope := by
  refine ⟨fun s cid c h => ⟨fun ho hs => ⟨_, h.finishes (fenceEff_ok ho hs)⟩, fun hbad =>
    ⟨_, h.finishes (fenceEff_invalid hbad)⟩⟩, fun s cid c e hc hh he hb hf ho hop => ⟨?_, ?_⟩⟩
  · exact deferred_idle hc (.inr (.inr (blocked_of_holds he hb (holds_of_fence hf ho hop))))
  · refine packetRowWaitsForItsCommand s cid (.fence, 0x01) (by simp) fun d hd => ?_
    obtain rfl := Option.some.inj (hc.symm.trans hd.1)
    exact absurd hd.2 (by simp [ready, hh])

/-! ### POWER_CAP_SET (R311) -/

section
variable {s : State} {cid k n : Nat} {c : Cmd}

theorem floorAbove_none (h : ∀ k < 128, partFloor s k ≤ n) : floorAbove s n = none :=
  List.find?_eq_none.2 fun k hk => by simpa using h k (List.mem_range.1 hk)

theorem floorAbove_lowest (hk : k < 128) (h : n < partFloor s k) (hlow : ∀ j < k, partFloor s j ≤ n) :
    floorAbove s n = some k :=
  List.find?_range_eq_some.2 ⟨decide_eq_true h, List.mem_range.2 hk, fun j hj => by simpa using hlow j hj⟩

/-- The state in which a cap waits for the next control step. -/
def withNextCap (s : State) (n : Nat) : State := { s with clk := { s.clk with nextCap := some (BitVec.ofNat 10 n) } }

theorem powerCapEff_inRange (ho : c.only [(16, 2)] = true) (hlo : 200 ≤ c.f 16 2) (hhi : c.f 16 2 ≤ 650) :
    powerCapEff c s = match floorAbove s (c.f 16 2), c.force with
      | some k, false => finish s c.cid stAdmissionRefused k 0
      | _, _ => finish (withNextCap s (c.f 16 2)) c.cid stOk 0 (s.clk.nextCap.getD s.clk.capW).toNat := by
  unfold powerCapEff
  dsimp only
  rw [if_neg (by simp [ho]; omega)]
  rfl

theorem powerCapEff_takes (ho : c.only [(16, 2)] = true) (hlo : 200 ≤ c.f 16 2) (hhi : c.f 16 2 ≤ 650)
    (h : c.force = true ∨ ∀ k < 128, partFloor s k ≤ c.f 16 2) :
    powerCapEff c s =
      finish (withNextCap s (c.f 16 2)) c.cid stOk 0 (s.clk.nextCap.getD s.clk.capW).toNat := by
  rw [powerCapEff_inRange ho hlo hhi]
  rcases h with h | h
  · rw [h]
    cases floorAbove s (c.f 16 2) <;> rfl
  · rw [floorAbove_none h]

theorem powerCapEff_refuses (ho : c.only [(16, 2)] = true) (hlo : 200 ≤ c.f 16 2) (hhi : c.f 16 2 ≤ 650)
    (hf : c.force = false) (h : floorAbove s (c.f 16 2) = some k) :
    powerCapEff c s = finish s c.cid stAdmissionRefused k 0 := by
  rw [powerCapEff_inRange ho hlo hhi, h, hf]

end

/-- Settles O12: the cap waits where it is forced or reaches every floor, and is refused by the lowest floor above it. -/
theorem powerCapSetLeavesTheCap : Obligations.PowerCapSetLeavesTheCap := by
  intro s cid c h ho hlo hhi
  refine ⟨fun hcap => ?_, fun k hk hf hlt hlow => ?_⟩
  · obtain ⟨hex, hdone⟩ := h.finishes (powerCapEff_takes (s := begin' s cid) ho hlo hhi hcap)
    exact ⟨_, hex, by simp [withNextCap], hdone⟩
  · obtain ⟨hex, hdone⟩ := h.finishes
      (powerCapEff_refuses (s := begin' s cid) ho hlo hhi hf (floorAbove_lowest hk hlt hlow))
    exact ⟨_, hex, by simp, hdone⟩

/-! ### KEY_PROVISION (R316, R430) -/

section
variable {s u : State} {cid : Nat} {c : Cmd} {b : Bytes}

/-- Parameters of KEY_PROVISION out of range (R316). -/
def provisionBadForm (c : Cmd) : Prop := c.only [(16, 1), (20, 44)] = false ∨ 1 < c.f 16 1 ∨
  c.f 16 1 = 1 ∧ (4 ≤ c.f 20 4 ∨ allZero (slice c.packet 32 32) = false)

theorem keyProvisionEff_badForm (h : provisionBadForm c) : keyProvisionEff c s = fail s c.cid stInvalidParameter := by
  refine if_pos ?_
  simp only [Bool.or_eq_true, Bool.not_eq_true', Bool.and_eq_true, decide_eq_true_eq]
  simpa [provisionBadForm, or_assoc] using h

theorem keyProvisionEff_form (h : ¬ provisionBadForm c) : keyProvisionEff c s =
    if c.f 16 1 = 1 && !owned s then fail s c.cid stNotPermitted
    else if c.f 16 1 = 0 && decide (4 ≤ s.sec.ownerRows.length) then fail s c.cid stNoResource
    else withStruct s c (c.f 24 8) 192 false (provision c) := by
  refine if_neg ?_
  simp only [Bool.or_eq_true, Bool.not_eq_true', Bool.and_eq_true, decide_eq_true_eq]
  simpa [provisionBadForm, or_assoc] using h

theorem form_of_key (ho : c.only [(16, 1), (20, 44)] = true) (hk : c.f 16 1 = 0) : ¬ provisionBadForm c := by
  simp [provisionBadForm, ho, hk]

theorem form_of_policy (ho : c.only [(16, 1), (20, 44)] = true) (hk : c.f 16 1 = 1) (hp : c.f 20 4 < 4)
    (hz : allZero (slice c.packet 32 32) = true) : ¬ provisionBadForm c := by
  simp [provisionBadForm, ho, hk, hz, hp]

/-- The block is read where a row is free for a key, or the device is owned for a policy. -/
theorem keyProvisionEff_reads (ho : c.only [(16, 1), (20, 44)] = true)
    (h : c.f 16 1 = 0 ∧ s.sec.ownerRows.length < 4 ∨
      c.f 16 1 = 1 ∧ c.f 20 4 < 4 ∧ allZero (slice c.packet 32 32) = true ∧ owned s = true) :
    keyProvisionEff c s = withStruct s c (c.f 24 8) 192 false (provision c) := by
  rcases h with ⟨hk, hrows⟩ | ⟨hk, hp, hz, how⟩
  · rw [keyProvisionEff_form (form_of_key ho hk)]
    simp [hk, Nat.not_le.2 hrows]
  · rw [keyProvisionEff_form (form_of_policy ho hk hp hz)]
    simp [hk, how]

theorem ReadsLeave.authorises (h : ReadsLeave s u) : Machine.authorises u c b = Machine.authorises s c b := by
  obtain ⟨_, _, _, _, rfl⟩ := h
  rfl

/-- The state in which an owner row is programmed or policy bits are burned, and the change is measured (R430). -/
def provisioned (s : State) (rows : List Bytes) (p : BitVec 2) (v : Bytes) : State :=
  (measureMr { s.used 1 with sec := { s.sec with ownerRows := rows, policy := p } } 7 v).setSecCause 4

theorem provision_denied (h : Machine.authorises s c b = false ∨ c.f 16 1 = 0 ∧ rd b 5 1 ≠ s.sec.ownerRows.length) :
    provision c s b = fail (s.used 1) c.cid stSecurityDenied := by
  unfold provision
  dsimp only
  by_cases ha : Machine.authorises s c b = false
  · simp [ha]
  · obtain ⟨hk, hrow⟩ := h.resolve_left ha
    simp [ha, hk, show rd b 5 1 ≠ (s.used 1).sec.ownerRows.length from hrow]

theorem provision_key (ha : Machine.authorises s c b = true) (hk : c.f 16 1 = 0)
    (hrow : rd b 5 1 = s.sec.ownerRows.length) : provision c s b =
      fail (provisioned s (s.sec.ownerRows ++ [slice c.packet 32 32]) s.sec.policy (slice c.packet 32 32)) c.cid stOk := by
  unfold provision
  dsimp only
  rw [if_neg (by simp [ha]), if_pos hk, if_neg (show ¬ rd b 5 1 ≠ (s.used 1).sec.ownerRows.length from not_not.2 hrow)]
  rfl

theorem provision_policy (ha : Machine.authorises s c b = true) (hk : c.f 16 1 = 1) : provision c s b =
    fail (provisioned s s.sec.ownerRows (s.sec.policy ||| BitVec.ofNat 2 (c.f 20 4))
      (toLE 1 (s.sec.policy ||| BitVec.ofNat 2 (c.f 20 4)).toNat)) c.cid stOk := by
  unfold provision
  dsimp only
  rw [if_neg (by simp [ha]), if_neg (by simp [hk])]
  rfl

theorem provisioned_cmds (s : State) (rows : List Bytes) (p : BitVec 2) (v : Bytes) :
    (provisioned s rows p v).cmds = s.cmds := rfl

theorem provisioned_rings (s : State) (rows : List Bytes) (p : BitVec 2) (v : Bytes) :
    (provisioned s rows p v).rings = s.rings := rfl

/-- After the completion of a KEY_PROVISION that acted: its rows, its policy, the measured change and the cause bit. -/
theorem provisioned_sec (hsec : u.sec = s.sec) (rows : List Bytes) (p : BitVec 2) (v : Bytes) (cid : Nat) :
    let t := settle (fail (provisioned u rows p v) cid stOk)
    t.sec.ownerRows = rows ∧ t.sec.policy = p ∧ t.sec.mrs = (measureMr s 7 v).sec.mrs ∧
      t.sec.cause.getLsbD 4 = true := by
  have ht : (settle (fail (provisioned u rows p v) cid stOk)).sec = (provisioned u rows p v).sec := finish_sec ..
  have hmr : mrOf u 7 = mrOf s 7 := by rw [mrOf, hsec]; rfl
  refine ⟨by rw [ht]; rfl, by rw [ht]; rfl, ?_, by rw [ht]; exact getLsbD_setBit_self _ (by decide)⟩
  rw [ht, measureMr, ← hmr, ← hsec]
  rfl

theorem provisioned_ends (h : Ready s cid 0x73 c) (hu : ReadsLeave (begin' s cid) u) (hsec : u.sec = s.sec)
    {rows : List Bytes} {p : BitVec 2} {v : Bytes}
    (hex : exec (.keyProvision cid) s = .next (settle (fail (provisioned u rows p v) c.cid stOk))) :
    ∃ t, exec (.keyProvision cid) s = .next t ∧ t.sec.ownerRows = rows ∧ t.sec.policy = p ∧
      t.sec.mrs = (measureMr s 7 v).sec.mrs ∧ t.sec.cause.getLsbD 4 = true ∧ Completed s t c 0x00 0 0 := by
  obtain ⟨hrows, hpol, hmrs, hcause⟩ := provisioned_sec hsec rows p v c.cid
  have hdone : Completed s (settle (fail (provisioned u rows p v) c.cid stOk)) c 0x00 0 0 :=
    hu.completed h (provisioned_cmds ..) (provisioned_rings ..) stOk 0 0
  exact ⟨_, hex, hrows, hpol, hmrs, hcause, hdone⟩

/-- The block that a KEY_PROVISION reads decides, in the state that the read leaves. -/
theorem keyProvision_decides (h : Ready s cid 0x73 c) (ho : c.only [(16, 1), (20, 44)] = true)
    (hb : PlainRead s c.fn (c.f 24 8) 192 b)
    (hform : c.f 16 1 = 0 ∧ s.sec.ownerRows.length < 4 ∨
      c.f 16 1 = 1 ∧ c.f 20 4 < 4 ∧ allZero (slice c.packet 32 32) = true ∧ owned s = true) :
    ∃ u, ReadsLeave (begin' s cid) u ∧ u.sec = s.sec ∧ Machine.authorises u c b = Machine.authorises s c b ∧
      exec (.keyProvision cid) s = .next (settle (provision c u b)) := by
  obtain ⟨u, hu, hread⟩ := withStruct_plain (s := begin' s cid) hb
  exact ⟨u, hu, hu.evolves.frame .sec (by decide), hu.authorises,
    onCmd_acts h ((keyProvisionEff_reads (s := begin' s cid) ho hform).trans (hread _))⟩

end

/-- Settles O15: the refusals in their order, and what a block that is read decides. -/
theorem keyProvisionNeedsItsBlock : Obligations.KeyProvisionNeedsItsBlock := by
  intro s cid c h
  refine ⟨fun hbad => ?_, fun ho hk hp hz how => ?_, fun ho hk hrows => ?_, fun b ho hb hform => ?_⟩
  · obtain ⟨hex, hdone⟩ := h.finishes (keyProvisionEff_badForm (s := begin' s cid) hbad)
    exact ⟨_, hex, by simp, hdone⟩
  · obtain ⟨hex, hdone⟩ := h.finishes (act := keyProvisionEff) (u := begin' s cid) (st := stNotPermitted) <| by
      rw [keyProvisionEff_form (form_of_policy ho hk hp hz), hk, show owned (begin' s cid) = false from how]
      rfl
    exact ⟨_, hex, by simp, hdone⟩
  · obtain ⟨hex, hdone⟩ := h.finishes (act := keyProvisionEff) (u := begin' s cid) (st := stNoResource) <| by
      rw [keyProvisionEff_form (form_of_key ho hk)]
      simp [hk, hrows]
      rfl
    exact ⟨_, hex, by simp, hdone⟩
  · obtain ⟨u, hu, hsec, hauth, hex⟩ := keyProvision_decides h ho hb hform
    refine ⟨fun hbad => ?_, fun ha hk hrow => ?_, fun ha hk => ?_⟩
    · rw [provision_denied (by rwa [hauth, hsec])] at hex
      exact ⟨_, hex, (finish_sec ..).trans hsec, hu.completed (t := u.used 1) h rfl rfl ..⟩
    · rw [provision_key (hauth.trans ha) hk (by rwa [hsec]), hsec] at hex
      exact provisioned_ends h hu hsec hex
    · rw [provision_policy (hauth.trans ha) hk, hsec] at hex
      obtain ⟨t, ht, hrows, hpol, hmrs, hcause, hdone⟩ := provisioned_ends h hu hsec hex
      exact ⟨t, ht, hpol, hrows, hpol ▸ hmrs, hcause, hdone⟩

end Sys2Proof.Machine
end

section
/-! Writes at an ADDR of this device, and the commands that store a record there (O13). -/

-- These proofs wait on the same definitions: they are elaborated in order.
set_option Elab.async false

namespace Sys2Proof.Machine

/-! ### What a write at an ADDR reads (R352, R353, R355, R358) -/

/-- Two states agree in all that a write at an ADDR of this device reads, and in the memories. -/
structure SameMemory (s t : State) : Prop where
  mem : t.mem = s.mem
  poison : t.poison = s.poison
  hostMem : t.hostMem = s.hostMem
  hostPoison : t.hostPoison = s.hostPoison
  hostBroken : t.hostBroken = s.hostBroken
  hostBase : t.hostBase = s.hostBase
  memc : t.memc = s.memc

namespace SameMemory

variable {s t : State}

theorem foldl {α : Type} {f : State → α → State} (hf : ∀ x s t, SameMemory s t → SameMemory (f s x) (f t x))
    (h : SameMemory s t) (l : List α) : SameMemory (l.foldl f s) (l.foldl f t) := by
  induction l generalizing s t with
  | nil => exact h
  | cons x l ih => exact ih (hf x s t h)

theorem correctSector (h : SameMemory s t) (k : Nat) : SameMemory (correctSector s k) (correctSector t k) where
  mem := h.mem
  poison := h.poison
  hostMem := h.hostMem
  hostPoison := h.hostPoison
  hostBroken := h.hostBroken
  hostBase := h.hostBase
  memc := by simp [Machine.correctSector, State.setMemCause, h.memc]

theorem loseSector (h : SameMemory s t) (k : Nat) : SameMemory (loseSector s k) (loseSector t k) where
  mem := h.mem
  poison := by simp [Machine.loseSector, State.setMemCause, h.poison]
  hostMem := h.hostMem
  hostPoison := h.hostPoison
  hostBroken := h.hostBroken
  hostBase := h.hostBase
  memc := by simp [Machine.loseSector, State.setMemCause, h.memc]

theorem setMemCause (h : SameMemory s t) (i : Nat) : SameMemory (s.setMemCause i) (t.setMemCause i) where
  mem := h.mem
  poison := h.poison
  hostMem := h.hostMem
  hostPoison := h.hostPoison
  hostBroken := h.hostBroken
  hostBase := h.hostBase
  memc := by simp [State.setMemCause, h.memc]

theorem overwritten (h : SameMemory s t) (a n : Nat) : SameMemory (overwritten s a n) (overwritten t a n) where
  mem := h.mem
  poison := h.poison
  hostMem := h.hostMem
  hostPoison := h.hostPoison
  hostBroken := h.hostBroken
  hostBase := h.hostBase
  memc := by simp [Machine.overwritten, h.memc]

theorem partialReads (h : SameMemory s t) (a n : Nat) : SameMemory (partialReads s a n) (partialReads t a n) := by
  have hflips : flipsIn t a n = flipsIn s a n := by simp [flipsIn, h.memc]
  unfold Machine.partialReads
  rw [hflips]
  refine (h.foldl (fun q s t h => ?_) _).overwritten a n
  split
  · exact h.correctSector _
  · exact h.loseSector _

/-- The memory after a write of the same bytes in both states. -/
theorem writeBytes (h : SameMemory s t) (a : Nat) (b : Bytes) :
    SameMemory { s with mem := writeBytes s.mem a b } { t with mem := writeBytes t.mem a b } :=
  { h with mem := congrArg (Machine.writeBytes · a b) h.mem }

theorem poisonAfter (h : SameMemory s t) (a n : Nat) (p : Bool) :
    SameMemory { s with poison := poisonAfter s.poison a n p } { t with poison := poisonAfter t.poison a n p } :=
  { h with poison := congrArg (Machine.poisonAfter · a n p) h.poison }

theorem lpWrite (h : SameMemory s t) (a : Nat) (b : Bytes) (p : Bool) :
    SameMemory (lpWrite s a b p) (lpWrite t a b p) := by
  have hp := h.partialReads a b.length
  have hw := hp.writeBytes a b
  have hecc : (Machine.partialReads t a b.length).memc.inlineEcc = (Machine.partialReads s a b.length).memc.inlineEcc :=
    congrArg MemRegs.inlineEcc hp.memc
  unfold Machine.lpWrite
  dsimp only
  rw [hecc]
  split
  · exact hw.poisonAfter a b.length p
  · split
    · exact hw.setMemCause 6
    · exact hw

theorem hostStore (h : SameMemory s t) (f a : Nat) (b : Bytes) (p : Bool) :
    SameMemory (hostStore s f a b p) (hostStore t f a b p) where
  mem := h.mem
  poison := h.poison
  hostMem := by simp [Machine.hostStore, h.hostMem]
  hostPoison := by simp [Machine.hostStore, h.hostPoison]
  hostBroken := h.hostBroken
  hostBase := h.hostBase
  memc := h.memc

theorem usable (h : SameMemory s t) : usable t = usable s := by simp [Machine.usable, h.memc]

theorem regionOf (h : SameMemory s t) (a : Nat) : regionOf t a = regionOf s a := by
  simp [Machine.regionOf, h.usable]

theorem busAddr (h : SameMemory s t) (f off : Nat) : busAddr t f off = busAddr s f off := by
  simp [Machine.busAddr, h.hostBase]

theorem hostFails (h : SameMemory s t) (a n : Nat) : hostFails t a n = hostFails s a n := by
  simp [Machine.hostFails, h.hostBroken]

/-- The same write leaves the same memories, and ends in an error in both or in neither. -/
theorem localWrite (h : SameMemory s t) (a : Nat) (b : Bytes) (p : Bool) :
    SameMemory (localWrite s a b p).1 (localWrite t a b p).1 ∧ (localWrite t a b p).2 = (localWrite s a b p).2 := by
  unfold Machine.localWrite
  rw [h.regionOf]
  cases Machine.regionOf s a with
  | lpddr =>
    rw [h.usable]
    by_cases hn : a + b.length ≤ Machine.usable s
    · simpa [hn] using h.lpWrite a b p
    · simpa [hn] using h.setMemCause 4
  | host g off =>
    dsimp only
    rw [h.busAddr, h.hostFails]
    cases Machine.hostFails s (Machine.busAddr s g off) b.length with
    | true => exact ⟨h, rfl⟩
    | false => exact ⟨h.hostStore .., rfl⟩
  | geode => exact ⟨h, rfl⟩
  | registers => exact ⟨h.setMemCause 4, rfl⟩
  | absent => exact ⟨h.setMemCause 4, rfl⟩

theorem addrWrite (h : SameMemory s t) (f v : Nat) (b : Bytes) (p : Bool) :
    SameMemory (addrWrite s f v b p).1 (addrWrite t f v b p).1 ∧ (addrWrite t f v b p).2 = (addrWrite s f v b p).2 := by
  unfold Machine.addrWrite
  by_cases hv : addrSpace v = 0
  · rw [if_pos hv, if_pos hv, h.hostFails]
    cases Machine.hostFails s (addrBits v) b.length with
    | true => exact ⟨h, rfl⟩
    | false => exact ⟨h.hostStore .., rfl⟩
  · rw [if_neg hv, if_neg hv]
    exact h.localWrite ..

theorem stored {u : State} {f v : Nat} {b : Bytes} (h : SameMemory s t) (hu : Stored t u f v b) : Stored s u f v b := by
  obtain ⟨hm, hp, hh, hhp⟩ := hu
  have hw := (h.addrWrite f v b false).1
  exact ⟨hm.trans hw.mem, hp.trans hw.poison, hh.trans hw.hostMem, hhp.trans hw.hostPoison⟩

theorem begin' (s : State) (cid : Nat) : SameMemory s (begin' s cid) := ⟨rfl, rfl, rfl, rfl, rfl, rfl, rfl⟩

theorem used (s : State) (n : Nat) : SameMemory s (s.used n) := ⟨rfl, rfl, rfl, rfl, rfl, rfl, rfl⟩

end SameMemory

/-! ### Records at an ADDR of this device (R276) -/

section
variable {s u : State} {cid op : Nat} {c : Cmd} {v n st d r : Nat} {b : Bytes}

theorem writeOut_plain (h : PlainDest s c.fn v n b) :
    writeOut s c v b st d r = finish (addrWrite s c.fn v b false).1 c.cid st d r := by
  obtain ⟨-, -, hl, hr, -, hw⟩ := h
  simp [writeOut, hl, hr, hw]

theorem writeSized_plain (h : PlainDest s c.fn v n b) :
    writeSized s c v n b r = finish (addrWrite s c.fn v b false).1 c.cid stOk 0 r := by
  rw [← writeOut_plain h]
  obtain ⟨hv, hm, -, -, hn, -⟩ := h
  simp [writeSized, hv, hm, Nat.not_lt.2 hn]

theorem PlainDest.begin' (h : PlainDest s c.fn v n b) : PlainDest (begin' s cid) c.fn v n b := by
  obtain ⟨hv, hm, hl, hr, hn, hw⟩ := h
  exact ⟨hv, hm, hl, hr, hn, ((SameMemory.begin' s cid).addrWrite ..).2.trans hw⟩

theorem PlainDest.used (h : PlainDest s c.fn v n b) (k : Nat) : PlainDest (s.used k) c.fn v n b := by
  obtain ⟨hv, hm, hl, hr, hn, hw⟩ := h
  exact ⟨hv, hm, hl, hr, hn, ((SameMemory.used s k).addrWrite ..).2.trans hw⟩

/-- A row whose effect writes a record and completes stores it. -/
theorem Ready.stores {act : Cmd → State → State} (h : Ready s cid op c) (hu : SameMemory s u)
    (hact : act c (Machine.begin' s cid) = finish (addrWrite u c.fn v b false).1 c.cid st d r)
    (hc : u.cmds = (Machine.begin' s cid).cmds := by rfl) (hr : u.rings = s.rings := by rfl) :
    ∃ t, onCmd s cid op act = .next t ∧ Stored s t c.fn v b ∧ Completed s t c st d r := by
  have hw := addrWrite_ev u c.fn v b false
  refine ⟨_, onCmd_acts h hact, hu.stored ⟨?_, ?_, ?_, ?_⟩,
    h.completed ((hw.frame .cmds (by decide)).trans hc) ((hw.frame .rings (by decide)).trans hr) ..⟩ <;> simp

theorem Ready.storesSized {act : Cmd → State → State} (h : Ready s cid op c) (hd : PlainDest s c.fn v n b)
    (hact : act c (Machine.begin' s cid) = writeSized (Machine.begin' s cid) c v n b r) :
    ∃ t, onCmd s cid op act = .next t ∧ Stored s t c.fn v b ∧ Completed s t c stOk 0 r :=
  h.stores (.begin' s cid) (hact.trans (writeSized_plain (PlainDest.begin' hd)))

theorem Ready.storesOut {act : Cmd → State → State} (h : Ready s cid op c) (hd : PlainDest s c.fn v n b)
    (hact : act c (Machine.begin' s cid) = writeOut (Machine.begin' s cid) c v b stOk 0 r) :
    ∃ t, onCmd s cid op act = .next t ∧ Stored s t c.fn v b ∧ Completed s t c stOk 0 r :=
  h.stores (.begin' s cid) (hact.trans (writeOut_plain (PlainDest.begin' hd)))

/-! ### The queries (R282, R283, R291, R310, R428) -/

theorem deviceQueryEff_only (ho : c.only [(16, 12)] = true) :
    deviceQueryEff c s = writeSized s c (c.f 16 8) (c.f 24 4) (deviceRecord s c.fn) 64 :=
  if_neg (by simp [ho])

theorem countersReadEff_inside {off k : Nat} (hoff : c.f 24 4 = off) (hk : c.f 28 4 = k) (h4 : off % 4 = 0) (h1 : 1 ≤ k)
    (hmax : k ≤ 16384) (hend : off + 4 * k ≤ barBytes c.fn) (hd : PlainDest s c.fn (c.f 16 8) (4 * k) b) :
    countersReadEff c s = writeOut s c (c.f 16 8) (counterWords s c.fn off k) stOk 0 (4 * k) := by
  obtain ⟨hv, hm, -⟩ := hd
  subst hoff hk
  unfold countersReadEff
  dsimp only
  rw [if_neg (by simp [hv, h4]; omega), if_neg (by simp [hm]; omega)]

theorem modelQueryEff_only (hm : checkModel s c.fn c.partition c.object = none) (ho : c.only [(16, 12)] = true) :
    modelQueryEff c s =
      writeSized s c (c.f 16 8) (c.f 24 4) (modelRecord s c.partition (modelIndex c.object)) 0 :=
  (withModel_passes hm).trans (if_neg (by simp [ho]))

theorem fabricStatusEff_noRecord (ho : c.only [(16, 8)] = true) (h0 : c.f 16 8 = 0) :
    fabricStatusEff c s = finish s c.cid stOk 0 (fabricResult s) := by
  simp [fabricStatusEff, ho, h0, addrValid, addrSpace]

theorem fabricStatusEff_record (ho : c.only [(16, 8)] = true) (h0 : c.f 16 8 ≠ 0)
    (hd : PlainDest s c.fn (c.f 16 8) n b) (hn : n = 128) :
    fabricStatusEff c s = writeOut s c (c.f 16 8) (routeMask s) stOk 0 (fabricResult s) := by
  obtain ⟨hv, hm, -⟩ := hd
  subst hn
  simp [fabricStatusEff, ho, h0, hv, hm]

theorem attestEff_only (ho : c.only [(16, 44)] = true) : attestEff c s =
    writeSized (s.used 1) c (c.f 48 8) (c.f 56 4) (report s (slice c.packet 16 32))
      (report s (slice c.packet 16 32)).length := if_neg (by simp [ho])

end

/-- Settles O13: each query writes its record by a write at an ADDR of this device, and completes. -/
theorem queriesStoreTheirRecords : Obligations.QueriesStoreTheirRecords := by
  intro s cid c
  refine ⟨fun h ho hd => h.storesSized hd (deviceQueryEff_only ho),
    fun h h4 h1 hmax hend hd => h.storesOut hd (countersReadEff_inside rfl rfl h4 h1 hmax hend (PlainDest.begin' hd)),
    fun h ho hm hd => h.storesSized hd (modelQueryEff_only hm ho),
    fun h ho h0 => ⟨_, onCmd_acts h (fabricStatusEff_noRecord ho h0), h.completed rfl rfl ..⟩,
    fun h ho h0 hd => h.storesOut hd (fabricStatusEff_record ho h0 (PlainDest.begin' hd) rfl), fun h ho hd => ?_⟩
  exact h.stores (u := (begin' s cid).used 1) ⟨rfl, rfl, rfl, rfl, rfl, rfl, rfl⟩
    ((attestEff_only ho).trans (writeSized_plain ((PlainDest.begin' hd).used 1)))

end Sys2Proof.Machine
end

section
/-! What the commands of management, of power, security and test, of partitions, models and streams, and of the audio
ports may change (O16, O17, O18). -/

-- These proofs wait on the same definitions: they are elaborated in order.
set_option Elab.async false

namespace Sys2Proof.Machine

/-! ### Management, power, security and test (O16) -/

/-- Management commands evolve within what they touch. -/
theorem management_yields {i : Instr} {s : State} (h : family i = .management) :
    Yields (pieces (touches i)) s (exec i s) := by
  cases i with
  | nop cid => exact .onCmd fun _ _ => nopEff_ev ..
  | fence cid => exact .onCmd fun _ _ => fenceEff_ev ..
  | deviceQuery cid => exact .onCmd fun _ _ => deviceQueryEff_ev ..
  | countersRead cid => exact .onCmd fun _ _ => countersReadEff_ev ..
  | fabricStatus cid => exact .onCmd fun _ _ => fabricStatusEff_ev ..
  | powerCapSet cid => exact .onCmd fun _ _ => powerCapEff_ev ..
  | powerQuery cid => exact .onCmd fun _ _ => powerQueryEff_ev ..
  | attest cid => exact .onCmd fun _ _ => attestEff_ev ..
  | fwStage cid => exact .onCmd fun _ _ => fwStageEff_ev ..
  | fwActivate cid => exact .onCmd fun _ _ => fwActivateEff_ev ..
  | keyProvision cid => exact .onCmd fun _ _ => keyProvisionEff_ev ..
  | linkPattern cid => exact .onCmd fun _ _ => linkPatternEff_ev ..
  | memoryTest cid => exact .onCmd fun _ _ => memoryTestEff_ev ..
  | loopback cid => exact .onCmd fun _ _ => loopbackEff_ev ..
  | _ => exact Family.noConfusion h

/-- The events of the power-management unit evolve within what they touch. -/
theorem power_yields {i : Instr} {s : State} (h : family i = .power) : Yields (pieces (touches i)) s (exec i s) := by
  cases i with
  | pmuControlStep ts => exact .guarded (controlStep_ev ..)
  | railSample rs f e => exact .doneIf (railEff_ev ..)
  | pmbAlert =>
    refine .done (A := 12) ?_
    split
    · exact .step (alertEff_ev _) (upd_pins_clk_ev s { s.pins with pmbAlertLow := true } s.clk)
    · exact upd_pins_clk_ev ..
  | pmbAlertRelease => exact .done (upd_pins_clk_ev ..)
  | prismGate p => exact .guarded (State.modPrism_ev ..)
  | prismWake p => exact .guarded (wakeEff_ev ..)
  | _ => exact Family.noConfusion h

/-- The events of the crown and of the test unit evolve within what they touch. -/
theorem security_yields {i : Instr} {s : State} (h : family i = .security) :
    Yields (pieces (touches i)) s (exec i s) := by
  cases i with
  | spdmRequest q => exact .doneIf <| (State.emit_ev ..).union (State.used_ev ..)
  | fwActivateTimeout =>
    change Yields _ s (execFwActivateTimeout s)
    unfold execFwActivateTimeout
    split
    · exact .idle
    · exact .doneIf <| (upd_sec_ev ..).union <| (State.setSecCause_ev ..).union (fail_ev ..)
  | debugChallenge => exact .doneIf (challengeEff_ev ..)
  | debugUnlock l b => exact .doneIf (unlockEff_ev ..)
  | activateDone =>
    change Yields _ s (execActivateDone s)
    unfold execActivateDone
    split
    · exact .doneIf (activated_ev ..)
    · exact .idle
  | stageDone =>
    change Yields _ s (execStageDone s)
    unfold execStageDone
    split
    · exact .idle
    · exact .doneIf (stageEnds_ev ..)
  | linkPatternEnd k =>
    change Yields _ s (execLinkPatternEnd k s)
    unfold execLinkPatternEnd
    split
    · exact .idle
    · exact .doneIf (patternEnds_ev ..)
  | checkerLockTimeout k =>
    change Yields _ s (execCheckerLockTimeout k s)
    unfold execCheckerLockTimeout
    split
    · exact .idle
    · exact .doneIf (patternEnds_ev ..)
  | memoryTestDone r =>
    change Yields _ s (execMemoryTestDone r s)
    unfold execMemoryTestDone
    split
    · exact .idle
    · exact .doneIf (bistEnds_ev ..)
  | checkerLock l bs =>
    refine .cond ?_ .idle
    split
    · exact .idle
    · exact .doneIf (setPattern_ev ..)
  | lostLock l n w =>
    refine .cond ?_ .idle
    split
    · exact .idle
    · exact .doneIf <| (setPattern_ev ..).union (State.setTestCause_ev ..)
  | _ => exact Family.noConfusion h

/-- Settles O16: each command of the three families evolves within the fields that it touches. -/
theorem managementFrame : Obligations.ManagementFrame := by
  intro i s t hf h
  simp only [List.mem_cons, List.not_mem_nil, or_false] at hf
  obtain hf | hf | hf := hf
  · exact (management_yields hf t h).frame
  · exact (power_yields hf t h).frame
  · exact (security_yields hf t h).frame

/-! ### Partitions, lattices, models and streams (O17) -/

/-- Partition commands evolve within what they touch. -/
theorem partitions_yields {i : Instr} {s : State} (h : family i = .partitions) :
    Yields (pieces (touches i)) s (exec i s) := by
  cases i with
  | partitionCreate cid => exact .onCmd fun _ _ => partitionCreateEff_ev ..
  | partitionDestroy cid => exact .onCmd fun _ _ => partitionDestroyEff_ev ..
  | partitionYield cid => exact .onCmd fun _ _ => partitionYieldEff_ev ..
  | partitionReset cid => exact .onCmd fun _ _ => partitionResetEff_ev ..
  | latticeLoad cid => exact .onCmd fun _ _ => latticeLoadEff_ev ..
  | latticeSwitch cid => exact .onCmd fun _ _ => latticeSwitchEff_ev ..
  | shareTableLoad cid => exact .onCmd fun _ _ => shareTableLoadEff_ev ..
  | _ => exact Family.noConfusion h

/-- The events of the lattice evolve within what they touch. -/
theorem lattice_yields {i : Instr} {s : State} (h : family i = .lattice) :
    Yields (pieces (touches i)) s (exec i s) := by
  cases i with
  | latticeTick k => exact .guarded (tickEff_ev ..)
  | latticeSwitchInstant k => exact .guarded (switchNow_ev ..)
  | fill k f =>
    have hfeed : Evolves 26389978244032 s (feed (evictForced s k) k) :=
      .step (feed_ev ..) <| .step (evictForced_ev ..) <| .refl ..
    refine .guarded (A := 26389978244032) ?_
    split
    · exact hfeed.trans (fillFrom_ev ..)
    · exact hfeed
  | stagedFetchLand k i g z => exact .guarded (stageLand_ev ..)
  | prismZeroingDone p => exact .guarded (zeroingEff_ev ..)
  | arbitrationRound rs => exact .guarded (arbitrationEff_ev ..)
  | _ => exact Family.noConfusion h

/-- Model commands and the ends of copies evolve within what they touch. -/
theorem models_yields {i : Instr} {s : State} (h : family i = .models) : Yields (pieces (touches i)) s (exec i s) := by
  cases i with
  | modelRegister cid => exact .onCmd fun _ _ => modelRegisterEff_ev ..
  | modelPrefetch cid => exact .onCmd fun _ _ => modelPrefetchEff_ev ..
  | modelPin cid => exact .onCmd fun _ _ => modelPinEff_ev ..
  | modelUnpin cid => exact .onCmd fun _ _ => modelUnpinEff_ev ..
  | modelEvict cid => exact .onCmd fun _ _ => modelEvictEff_ev ..
  | modelQuery cid => exact .onCmd fun _ _ => modelQueryEff_ev ..
  | modelPlacementDone k m => exact .guarded (placementEff_ev ..)
  | modelT1CopyDone m => exact .guarded (t1CopyEff_ev ..)
  | imageCopyDone cid =>
    change Yields _ s (execImageCopyDone cid s)
    unfold execImageCopyDone
    split
    · exact .doneIf (imageCopyEff_ev ..)
    · exact .idle
  | _ => exact Family.noConfusion h

/-- Stream commands and the events by which they go on evolve within what they touch. -/
theorem streams_yields {i : Instr} {s : State} (h : family i = .streams) : Yields (pieces (touches i)) s (exec i s) := by
  cases i with
  | streamOpen cid => exact .onCmd fun _ _ => streamOpenEff_ev ..
  | streamClose cid => exact .onCmd fun _ _ => streamCloseEff_ev ..
  | streamSeed cid => exact .onCmd fun _ _ => streamSeedEff_ev ..
  | streamReset cid => exact .onCmd fun _ _ => streamResetEff_ev ..
  | run cid =>
    change Yields _ s (execRun cid s)
    unfold execRun
    split
    · exact .idle
    · exact .cond (.done (runEff_ev ..)) .idle
  | stateSave cid => exact .onCmd fun _ _ => stateSaveEff_ev ..
  | stateRestore cid => exact .onCmd fun _ _ => stateRestoreEff_ev ..
  | stateEvict cid => exact .onCmd fun _ _ => stateEvictEff_ev ..
  | streamMigrate cid => exact .onCmd fun _ _ => streamMigrateEff_ev ..
  | checkpointSet cid => exact .onCmd fun _ _ => checkpointSetEff_ev ..
  | runComplete cid =>
    change Yields _ s (execRunComplete cid s)
    unfold execRunComplete
    split
    · exact .idle
    · exact .doneIf (runCompleteEff_ev ..)
  | checkpointWrite i w => exact .guarded (checkpointEff_ev ..)
  | migrateAck i st k r g =>
    refine .cond ?_ .idle
    split
    · split
      · exact .doneIf (migrateAckEff_ev ..)
      · exact .idle
    · exact .idle
  | migrateAckTimeout i =>
    refine .cond ?_ .idle
    split
    · split
      · exact .doneIf (migrateFenced_ev ..)
      · exact .idle
    · exact .idle
  | stateFetchBackDone i =>
    refine .cond ?_ .idle
    split
    · exact .doneIf <| (State.modStream_ev ..).union (resumeWaiting_ev ..)
    · exact .idle
  | stateCopyOutDone i =>
    refine .cond ?_ .idle
    split
    · exact .doneIf (copyOutEff_ev ..)
    · exact .idle
  | _ => exact Family.noConfusion h

/-- Settles O17: each command of the four families evolves within the fields that it touches. -/
theorem partitionAndStreamFrame : Obligations.PartitionAndStreamFrame := by
  intro i s t hf h
  simp only [List.mem_cons, List.not_mem_nil, or_false] at hf
  obtain hf | hf | hf | hf := hf
  · exact (partitions_yields hf t h).frame
  · exact (lattice_yields hf t h).frame
  · exact (models_yields hf t h).frame
  · exact (streams_yields hf t h).frame

/-! ### Audio ports (O18) -/

/-- Port commands and the events of the ports evolve within what they touch. -/
theorem ports_yields {i : Instr} {s : State} (h : family i = .ports) : Yields (pieces (touches i)) s (exec i s) := by
  cases i with
  | portConfig cid => exact .onCmd fun _ _ => portConfigEff_ev ..
  | portBind cid => exact .onCmd fun _ _ => portBindEff_ev ..
  | portArm cid => exact .onCmd fun _ _ => portArmEff_ev ..
  | portStop cid => exact .onCmd fun _ _ => portStopEff_ev ..
  | alignGroupSet cid => exact .onCmd fun _ _ => alignGroupEff_ev ..
  | sinkWriteTx p k x =>
    refine .cond ?_ .idle
    split
    · exact .idle
    · exact .doneIf (txArrives_ev ..)
  | portFrameBoundary p n ps rx =>
    refine .cond ?_ .idle
    split
    · exact .done (fatalFrame_ev ..)
    · exact .doneIf (boundaryEff_ev ..)
  | portArmAction p => exact .guarded (armActs_ev ..)
  | prerollEnd p => exact .guarded (prerollEnds_ev ..)
  | portArmTimeout p => exact .guarded (armTimesOut_ev ..)
  | startInEdge p => exact .guarded (startEdge_ev ..)
  | portStopAction p => exact .guarded (stopActs_ev ..)
  | postrollEnd p => exact .guarded (postrollEnds_ev ..)
  | portCommit p => exact .guarded (commitActs_ev ..)
  | clockLost p => exact .guarded (clockLostEff_ev ..)
  | clockReturned p a b => exact .guarded (.foldl _ (fun _ _ => State.modPort_ev ..) (.refl ..))
  | _ => exact Family.noConfusion h

/-- Settles O18: each command of the family evolves within the fields that it touches. -/
theorem portFrame : Obligations.PortFrame :=
  fun _ _ t hf h => (ports_yields hf t h).frame

end Sys2Proof.Machine
end

section
/-! The end of post-roll stops the ticks of the port, and with them completes the switches that await a tick (O55). -/

-- These proofs wait on the same definitions: they are elaborated in order.
set_option Elab.async false

namespace Sys2Proof.Machine

namespace StopAwaitsSwitch

/-- PORT_STOP of port 0, accepted as command 3, with COMPLETION set. -/
def packet : Cmd :=
  { cid := 3, fn := 0, ring := 0, cq := 0, accepted := 2
    packet := toLE 1 0x43 ++ toLE 1 2 ++ toLE 2 1 ++ toLE 2 7 ++ toLE 2 1 ++ toLE 4 0 ++ toLE 4 9 }

/-- Port 0 has sent its post-roll of four frames, for command 3. Partition 1 takes its ticks from port 0, and among the
switches that await its tick it lists command 3 too. -/
def state : State :=
  { mode := .ready
    ident := { cycleCount := 10000000 }
    rings := [(0, { sqEnable := true, cqEnable := true })]
    parts := [(1, { valid := true, ticking := true, switch := [3]
                    active := some { frameSync := true, port := 0, periodN := 1, entries := [] } })]
    ports := [(0, { configured := true, state := 4, armed := true, nextFrame := 4, postroll := 4
                    stop := some (some 3, 0), stopFrame := some 0 })]
    cmds := [packet]
    nextCid := 4 }

theorem state_canon : state.Canon where
  funcs := rfl
  rings := by decide +kernel
  parts := by decide +kernel
  prisms := rfl
  facets := rfl
  streams := rfl
  streamGens := rfl
  models := rfl
  modelGens := rfl
  ports := by decide +kernel
  ranges := rfl
  hostBase := rfl
  classes := rfl
  ftqs := rfl
  mem := rfl
  poison := rfl
  hostMem := rfl
  hostPoison := rfl
  hostBroken := rfl
  cids := by decide +kernel

/-- Post-roll is over, and its last frame has the number 3. -/
theorem postroll_over : state.live = true ∧ postrollDue state 0 = true ∧
    (state.port 0).stop = some (some 3, 0) ∧ state.cmd 3 = some packet ∧
    (((state.port 0).stopFrame.getD 0 + (state.port 0).postroll.toNat + 2 ^ 64 - 1) % 2 ^ 64) = 3 := by
  decide +kernel

theorem no_commit (x : Nat) : ∀ m ∈ (state.port x).commits, m.cid ≠ 3 := by
  have h : (state.port x).commits = [] := by
    by_cases hx : x = 0
    · rw [hx]
      rfl
    · have hport : state.port x = {} := by simp [State.port, state, tabGet, hx]
      rw [hport]
  simp [h]

/-- The command posts an entry where it completes. -/
theorem packet_posts : packet.completion = true ∧ packet.orphaned = false ∧
    (state.ring packet.fn packet.cq).cqEnable = true := by
  decide +kernel

/-- The only entry that the row leaves in the coalescer has RESULT 0. -/
theorem postroll_ends_switch : ∃ t, exec (.postrollEnd 0) state = .next t ∧
    (t.ring packet.fn packet.cq).coalescer.map (·.result) = [0] := by
  refine ⟨settle (postrollEnds state 0), ?_, ?_⟩
  · obtain ⟨hlive, hdue, -⟩ := postroll_over
    exact guarded_acts (wf := Instr.wf (.postrollEnd 0)) (by decide) (Bool.and_eq_true_iff.mpr ⟨hlive, hdue⟩)
  · decide +kernel

end StopAwaitsSwitch

open StopAwaitsSwitch in
/-- Refutes O55: in a canonical state in which a partition that takes its ticks from the port lists the PORT_STOP among
the switches that await a tick, the end of post-roll stops the ticks and so completes the PORT_STOP with RESULT 0, not
with the number of the last frame. No command sequence is claimed to reach the state: the statement asks only that it
be canonical. -/
theorem not_portsFollowTheirStates : ¬ Obligations.PortsFollowTheirStates := by
  intro h
  obtain ⟨hlive, hdue, hstop, hcmd, hlast⟩ := postroll_over
  obtain ⟨hcompletion, horphaned, henabled⟩ := packet_posts
  obtain ⟨t, ht, hresult⟩ := postroll_ends_switch
  obtain ⟨-, -, -, -, -, -, -, -, -, -, hpostroll, -⟩ := h state 0 state_canon (by decide) _ rfl
  obtain ⟨t', ht', -, -, hcompletes⟩ := hpostroll hlive hdue
  obtain rfl : t = t' := Host.Outcome.next.inj (ht.symm.trans ht')
  obtain ⟨-, -, hentry⟩ := hcompletes 3 0 packet hstop hcmd no_commit
  obtain ⟨e, he, -, -, -, -, -, -, hframe⟩ := hentry (.inl hcompletion) horphaned henabled
  have hmem : e.result ∈ [0] := hresult ▸ List.mem_map_of_mem he
  rw [hlast, List.mem_singleton.mp hmem] at hframe
  exact absurd hframe (by decide)

end Sys2Proof.Machine
end

section
/-! A new protocol major takes the links down, and with them fails what the requests held for a route serve (O59). -/

-- These proofs wait on the same definitions: they are elaborated in order.
set_option Elab.async false

namespace Sys2Proof.Machine

namespace ActivationLosesLink

/-- The vendor's public key: that of the secret key 2. -/
def vendorPublic : Bytes :=
  toBE 64 0x56CEFD60D7C87C000D58EF57FA73BA4D9C0DFA08C08A7331495C2E1DA3F2BD5231B7E7E6CC8189F668535CE0F8EAF1BD6DE84C182F6C8E716F780D3A970A23C3

/-- A firmware image with protocol version 1.0: a kind, a body, the digest of the body, and the vendor's signature of the
header. -/
def image (kind body digest signature : Nat) (n : Nat) : Bytes :=
  toLE 4 0x55465731 ++ toLE 4 (kind + 2 ^ 8) ++ toLE 4 2 ++ [1, 0, 1, 0] ++ toLE 8 n ++ toBE 32 digest ++ zeros 72 ++
  vendorPublic ++ toBE 64 signature ++ toLE n body

/-- The first stage, whose body is a boot configuration with a cap of 600 W. -/
def firstStage : Bytes :=
  image 1 (0x42434647 + 2 ^ 48 * 600) 0xE78BC2FA2C320C769E0EF4272B99BF1E2A19AD8AE9E448D6BC5CBC0AF52931AF
    0x5368B21AFF3BE97E0E7EBCFB684218AC8B5BD56334736DBF6D2318B00AF698771DBA33EDAB2D6456A100D758652944E21E6EBC36E84A63397DD1EB8DB703C734
    64

/-- The crown's image and the culet's, each with a body of one byte. -/
def crownImage : Bytes :=
  image 2 1 0x799B719AC031FC89C6D8925A487DAD07308F837B7AB7BBC7CEBD3A4118FD2F38
    0x183F2D0D2EDDFC555F4DC3E51B6C14EF618F07ECA47CF8B1B8D691E41D24E8D19A808CA13616AD1C6B217D67430D47600AF88FA9A8DB5DA6674396C368D6A759
    1
def culetImage : Bytes :=
  image 3 2 0xC1BE86994AE8741D802CF422CE0BC117680AD2B139857A378F9573A6F9EC35AD
    0x00B22708466F4512F91984951DA8B85ACCF36C0996A1F955BBC9F432FFCC87D5FF893B4ED10B2748AF445247418F85183EB6ECBA12AF5EF22BDFFBE73A58A862
    1

/-- The package: each image at a 4 KiB boundary. -/
def package : Bytes := firstStage ++ zeros (4096 - 320) ++ crownImage ++ zeros (4096 - 257) ++ culetImage

/-- FW_ACTIVATE, accepted as command 3, with COMPLETION set. -/
def packet : Cmd :=
  { cid := 3, fn := 0, ring := 0, cq := 0, accepted := 2
    packet := toLE 1 0x72 ++ toLE 1 2 ++ toLE 2 1 ++ toLE 2 7 ++ toLE 2 0xFFFF ++ toLE 4 0 ++ toLE 4 9 }

/-- The activation of the package, whose protocol major is 1, on a device that runs major 2 with port 7 trained. A
request that names the command of the activation is held for a route to device 9, and there is none. -/
def state : State :=
  { mode := .ready
    ident := { cycleCount := 10000000 }
    sec :=
      { made := { vendorRom := sm3 vendorPublic, vendorFuse := sm3 vendorPublic }
        stagedValid := true, staged := some package, activating := some 3 }
    vertex :=
      { protoMajor := 2, ports := [(7, { trained := true })]
        reqs := [{ tag := 1, type := 7, dest := 9, vc := 0, port := 7, since := 0, purpose := .windowImport 3
                   heldBack := true }] }
    rings := [(0, { sqEnable := true, cqEnable := true })]
    cmds := [packet]
    nextCid := 4 }

theorem state_activates : state.live = true ∧ state.cmd 3 = some packet ∧ state.sec.activating = some 3 ∧
    (∀ e ∈ state.cmds, e.started = none ∨ e.cid = 3) ∧ switching state = true := by
  decide +kernel

theorem state_staged : state.sec.staged = some package := rfl

/-- ACTIVATE_DONE with a package that waits. -/
theorem exec_activateDone {s : State} {cid : Nat} {b : Bytes} (ha : s.sec.activating = some cid)
    (hb : s.sec.staged = some b) :
    exec .activateDone s = doneIf (s.live && switching s && fwCheck s b == .ok) s (activated s cid b) := by
  change execActivateDone s = _
  unfold execActivateDone
  rw [ha, hb]

theorem package_checks : fwCheck state package = .ok := by decide +kernel

/-- The command posts an entry where it completes. -/
theorem packet_posts : packet.completion = true ∧ packet.orphaned = false ∧
    (state.ring packet.fn packet.cq).cqEnable = true := by
  decide +kernel

/-- The only entry that the row leaves in the coalescer has the status FABRIC_UNREACHABLE. -/
theorem activated_unreachable : ∃ t, exec .activateDone state = .next t ∧
    (t.ring packet.fn packet.cq).coalescer.map (·.status) = [stFabricUnreachable] := by
  obtain ⟨hlive, -, hactivating, -, hswitching⟩ := state_activates
  refine ⟨settle (activated state 3 package), ?_, ?_⟩
  · rw [exec_activateDone hactivating state_staged, hlive, hswitching, package_checks]
    rfl
  · decide +kernel

end ActivationLosesLink

open ActivationLosesLink in
/-- Refutes O59: in a state in which a request held for a route names the command of the activation, a firmware of
another protocol major takes the links down, the request fails with them, and the FW_ACTIVATE completes with
FABRIC_UNREACHABLE, not with OK. No command sequence is claimed to reach the state: the statement asks nothing of the
requests. -/
theorem not_firmwareAndDebugFollowTheirRules : ¬ Obligations.FirmwareAndDebugFollowTheirRules := by
  rintro ⟨-, h, -⟩
  obtain ⟨hlive, hcmd, hactivating, hstarted, -⟩ := state_activates
  obtain ⟨hcompletion, horphaned, henabled⟩ := packet_posts
  obtain ⟨t, ht, hstatus⟩ := activated_unreachable
  obtain ⟨hactivate, -⟩ := h state 3 packet package hlive hcmd
  obtain ⟨hdone, -⟩ := hactivate hactivating hstarted
  obtain ⟨t', ht', -, -, -, -, -, -, -, -, -, -, -, -, hentry⟩ := hdone state_staged package_checks
  obtain rfl : t = t' := Host.Outcome.next.inj (ht.symm.trans ht')
  obtain ⟨e, he, -, -, -, -, hok, -⟩ := hentry (.inl hcompletion) horphaned henabled
  have hmem : e.status ∈ [stFabricUnreachable] := hstatus ▸ List.mem_map_of_mem he
  exact absurd ((List.mem_singleton.mp hmem).symm.trans hok) (by decide)

end Sys2Proof.Machine
end

section
/-! Partition resets: their start, what they end, and their end (O41). -/

-- These proofs wait on the same definitions: they are elaborated in order.
set_option Elab.async false

namespace Sys2Proof.Machine

section
variable {s : State} {k kind p q cid : Nat} {c e : Cmd} {cids ps : List Nat}

/-! ### Prisms that a reset halts (R393 steps 2 and 4) -/

/-- A prism is being zeroed, and its facets neither run a kernel nor hold descriptors. -/
def Halted (s : State) (p : Nat) : Prop :=
  (s.prism p).zeroing = true ∧ ∀ i < 16, (s.facet (16 * p + i)).running = none ∧ (s.facet (16 * p + i)).queue = []

theorem Halted.evolves {A : Nat} {t : State} (h : Halted s p) (k : Evolves A s t)
    (h17 : A.testBit 17 = false := by decide) (h18 : A.testBit 18 = false := by decide) : Halted t p := by
  obtain ⟨hz, hf⟩ := h
  refine ⟨by rwa [k.prism h17], fun i hi => ?_⟩
  rw [k.facet h18]
  exact hf i hi

/-- A property that some step of a fold establishes, and that every step keeps. -/
theorem foldl_establishes {α : Type} {P : State → Prop} {A : α → Prop} {f : State → α → State}
    (hf : ∀ s x, A x ∨ P s → P (f s x)) {l : List α} {s : State} (h : (∃ x ∈ l, A x) ∨ P s) : P (l.foldl f s) := by
  induction l generalizing s with
  | nil => exact h.resolve_left (by simp)
  | cons x r ih =>
    refine ih ?_
    rcases h with ⟨y, hy, ha⟩ | hp
    · rcases List.mem_cons.mp hy with rfl | hr
      · exact .inr (hf s y (.inl ha))
      · exact .inl ⟨y, hr, ha⟩
    · exact .inr (hf s x (.inr hp))

/-- The facets of a prism halt one after another. -/
def haltFacets (s : State) (q : Nat) : State := (upTo 16).foldl (fun s i => s.modFacet (16 * q + i) (haltFacet s.now)) s

theorem haltFacets_ev (s : State) (q : Nat) : Evolves 262144 s (haltFacets s q) :=
  .foldl _ (fun _ _ => State.modFacet_ev ..) (.refl ..)

/-- A facet neither runs a kernel nor holds descriptors. -/
def Unloaded (f : Nat) (s : State) : Prop := (s.facet f).running = none ∧ (s.facet f).queue = []

theorem haltFacets_unloaded {i : Nat} (hi : i < 16) (h : p = q ∨ Unloaded (16 * p + i) s) :
    Unloaded (16 * p + i) (haltFacets s q) := by
  refine foldl_establishes (A := fun x => 16 * p + i = 16 * q + x) (fun s x hx => ?_)
    (h.imp_left fun hq => ⟨i, List.mem_range.mpr hi, by rw [hq]⟩)
  by_cases hf : 16 * p + i = 16 * q + x
  · rw [Unloaded, hf, State.facet_modFacet]
    exact ⟨rfl, rfl⟩
  · rw [Unloaded, State.facet_modFacet_other hf]
    exact hx.resolve_left hf

theorem haltPrism_halted (h : q = p ∨ Halted s p) : Halted (haltPrism s q) p := by
  refine ⟨?_, fun i hi => ?_⟩
  · by_cases hp : p = q
    · rw [hp]
      exact (congrArg Prism.zeroing (State.prism_modPrism ..) :)
    · obtain ⟨hz, -⟩ := h.resolve_left (Ne.symm hp)
      have hprism : (haltPrism s q).prism p = (haltFacets s q).prism p := State.prism_modPrism_other hp
      rwa [hprism, (haltFacets_ev ..).prism]
  · have hfacet : (haltPrism s q).facet (16 * p + i) = (haltFacets s q).facet (16 * p + i) := (State.modPrism_ev ..).facet ..
    rw [hfacet]
    exact haltFacets_unloaded hi (h.imp Eq.symm fun ⟨_, hf⟩ => hf i hi)

theorem foldl_haltPrism_ev (s : State) (ps : List Nat) : Evolves 393216 s (ps.foldl haltPrism s) :=
  .foldl _ (fun _ _ => haltPrism_ev ..) (.refl ..)

/-! ### The start of a reset (R393, R394, R403) -/

/-- The partition once its reset has begun. -/
def Partition.resetBegun (p : Partition) (k kind now : Nat) (cids : List Nat) : Partition :=
  { p with
    faultRecord := Machine.faultRecord p (16 * k) kind 0
    faultCause := match resetCauseBit kind with | some i => setBit p.faultCause i | none => p.faultCause
    resetting := some cids, resetSince := now, ticking := false, switch := [], tearing := [], culetQ := []
    stages := [], ckpts := [], ckptNext := [], yielding := none, destroying := none }

/-- The state in which the kernels of the partition have ended. -/
def resetHalted (s : State) (k kind : Nat) (cids : List Nat) : State :=
  (s.part k).prismList.foldl haltPrism (s.modPart k fun p => p.resetBegun k kind s.now cids)

/-- The state in which its commands have completed too. -/
def resetEnded (s : State) (k : Nat) (cids : List Nat) : State :=
  orphanCopies (finishAll s stPartitionReset (partCmds s k (cids ++ resetCmds s k))) stPartitionReset

/-- The rest of the start: the streams are freed, and the pinned models are placed again. -/
def resetFreed (s : State) (k : Nat) : State :=
  let s4 := freeStreams s (streamsOf s k fun _ => true)
  let s5 := { s4 with sinkWrites := s4.sinkWrites.filter fun w => w.part != k }
  replacePinned (s5.modPart k fun p => { p with t0 := [] }) k

theorem beginReset_starts (h : (s.part k).resetting = none) :
    beginReset s k kind cids = resetFreed (resetEnded (resetHalted s k kind cids) k cids) k := by
  unfold beginReset
  dsimp only
  rw [h]
  rfl

theorem beginReset_joins {cs : List Nat} (h : (s.part k).resetting = some cs) :
    beginReset s k kind cids = s.modPart k fun p => { p with resetting := some (cs ++ cids) } := by
  unfold beginReset
  dsimp only
  rw [h]

theorem resetEnded_ev (s : State) (k : Nat) (cids : List Nat) : Evolves 285237248 s (resetEnded s k cids) :=
  .step (orphanCopies_ev ..) <| .step (finishAll_ev ..) <| .refl ..

theorem resetFreed_ev (s : State) (k : Nat) : Evolves 8797229769472 s (resetFreed s k) :=
  .step (replacePinned_ev ..) <| .step (State.modPart_ev ..) <| .step (upd_sinkWrites_ev ..) <|
    .step (freeStreams_ev ..) <| .refl ..

theorem resetStart_ev (s : State) (k : Nat) (cids : List Nat) :
    Evolves 8797498204928 s (resetFreed (resetEnded s k cids) k) :=
  .step (resetFreed_ev ..) <| .step (resetEnded_ev ..) <| .refl ..

theorem replacePinned_standings (s : State) (k : Nat) : Keeps State.standings s (replacePinned s k) := by
  refine .foldl _ (fun s id => ?_) (.refl s)
  split
  · exact .refl s
  · exact .optGetD (fun _ h => beginPlace_standings h) (.refl s)

theorem resetFreed_standings (s : State) (k : Nat) : Keeps State.standings s (resetFreed s k) :=
  .step (replacePinned_standings ..) <| .step (modPart_standings _ _ fun _ => rfl) <|
    .step (upd_sinkWrites_ev ..).standings (freeStreams_ev ..).standings

/-- What the start of a reset leaves of the partition. -/
theorem beginReset_standing (w : s.Canon) (h : (s.part k).resetting = none) :
    ((beginReset s k kind cids).part k).standing = ((s.part k).resetBegun k kind s.now cids).standing := by
  have hmod : (s.modPart k fun p => p.resetBegun k kind s.now cids).Canon := (State.modPart_ev ..).form w
  have hkeep : Keeps State.standings (s.modPart k fun p => p.resetBegun k kind s.now cids) (beginReset s k kind cids) := by
    rw [beginReset_starts h]
    exact .step (resetFreed_standings ..) <| .step (resetEnded_ev ..).standings (foldl_haltPrism_ev ..).standings
  exact (congrFun (hkeep.same hmod) k).trans (congrArg Partition.standing (State.part_modPart ..))

theorem faultRecord_kind (p : Partition) {f kind : Nat} (hf : f < 2 ^ 12) (hk : kind < 2 ^ 4) :
    (faultRecord p f kind 0).toNat / 2 ^ 12 % 2 ^ 4 = kind := by
  rw [faultRecord, BitVec.toNat_ofNat]
  omega

/-- The fields of the partition that tell of a reset. -/
theorem beginReset_part (w : s.Canon) (h : (s.part k).resetting = none) (hk : k < 128) (hkind : kind < 2 ^ 4) :
    ((beginReset s k kind cids).part k).resetting = some cids ∧
    ((beginReset s k kind cids).part k).ticking = false ∧
    ((beginReset s k kind cids).part k).faultRecord.toNat / 2 ^ 12 % 2 ^ 4 = kind ∧
    ∀ b, resetCauseBit kind = some b → b < 5 → ((beginReset s k kind cids).part k).faultCause.getLsbD b = true := by
  have hs := beginReset_standing (kind := kind) (cids := cids) w h
  refine ⟨(congrArg Partition.resetting hs :), (congrArg Partition.ticking hs :), ?_, fun b hb hlt => ?_⟩
  · rw [show ((beginReset s k kind cids).part k).faultRecord = faultRecord (s.part k) (16 * k) kind 0 from
      (congrArg Partition.faultRecord hs :)]
    exact faultRecord_kind _ (by omega) hkind
  · rw [show ((beginReset s k kind cids).part k).faultCause = ((s.part k).resetBegun k kind s.now cids).faultCause from
      (congrArg Partition.faultCause hs :)]
    rw [Partition.resetBegun, hb]
    exact getLsbD_setBit_self _ hlt

theorem beginReset_halts (h : (s.part k).resetting = none) (hp : p < 128) (hin : (s.part k).prisms.getLsbD p = true) :
    Halted (settle (beginReset s k kind cids)) p := by
  refine Halted.evolves ?_ (settle_ev _)
  rw [beginReset_starts h]
  have hhalted : Halted (resetHalted s k kind cids) p :=
    foldl_establishes (P := (Halted · p)) (A := (· = p)) (fun _ _ => haltPrism_halted) (.inl ⟨p, mem_maskBits.mpr ⟨hp, hin⟩, rfl⟩)
  exact hhalted.evolves (resetStart_ev ..)

/-! ### What a reset ends -/

theorem replacePinned_withdraws (s : State) (k : Nat) : Withdraws s (replacePinned s k) := by
  have hone (s : State) (id : Bytes) :
      Withdraws s (if (t0Find (s.part k) id).isSome then s else (beginPlace s k id []).getD s) := by
    refine .ite (fun _ => .refl s) fun _ => ?_
    cases h : beginPlace s k id [] with
    | none => exact .refl s
    | some t => exact beginPlace_withdraws h
  unfold replacePinned
  dsimp only
  generalize ((s.models.filter fun kv => kv.2.used && kv.2.part == k && kv.2.pinT0).map (·.2.identity)).eraseDups = ids
  induction ids generalizing s with
  | nil => exact .refl s
  | cons id r ih => exact (hone s id).trans (ih _)

theorem resetFreed_withdraws (s : State) (k : Nat) : Withdraws s (resetFreed s k) :=
  (((Withdraws.of (freeStreams_ev ..)).trans (Withdraws.of (upd_sinkWrites_ev ..))).trans
    (Withdraws.of (State.modPart_ev ..))).trans (replacePinned_withdraws ..)

/-- A command is a waiting PARTITION_RESET only where its opcode is that. -/
theorem not_mem_resetCmds (w : s.Canon) (he : e ∈ s.cmds) (ho : e.opcode ≠ 0x13) : e.cid ∉ resetCmds s k := by
  intro hmem
  obtain ⟨x, hx, hcid⟩ := List.mem_map.mp hmem
  obtain ⟨hin, hop⟩ := List.mem_filter.mp hx
  obtain rfl : x = e := Option.some.inj ((w.cmd_of_mem hin).symm.trans (hcid ▸ w.cmd_of_mem he))
  exact ho (beq_iff_eq.mp (Bool.and_eq_true_iff.mp hop).2)

/-- Every command of the partition but its resets has completed. -/
theorem beginReset_cmd (w : s.Canon) (h : (s.part k).resetting = none) (he : e ∈ s.cmds) (hk : e.partition = k)
    (ho : e.opcode ≠ 0x13) (hc : e.cid ∉ cids) : (beginReset s k kind cids).cmd e.cid = none := by
  have hcmds : (resetHalted s k kind cids).cmds = s.cmds := (foldl_haltPrism_ev ..).frame .cmds (by decide)
  have hreset : resetCmds (resetHalted s k kind cids) k = resetCmds s k := by simp only [resetCmds, hcmds]
  have hmem : e.cid ∈ partCmds (resetHalted s k kind cids) k (cids ++ resetCmds (resetHalted s k kind cids) k) := by
    rw [partCmds, hcmds, hreset]
    refine List.mem_map.mpr ⟨e, List.mem_filter.mpr ⟨he, ?_⟩, rfl⟩
    simp [hk, hc, not_mem_resetCmds w he ho]
  rw [beginReset_starts h]
  refine (resetFreed_withdraws ..).cmds _ ?_
  exact (finishAll_withdraws ..).cmds _ (cmd_finishAll stPartitionReset hmem)

/-- No stream of the partition is open. -/
theorem beginReset_stream (h : (s.part k).resetting = none) (i : Nat)
    (ho : ((settle (beginReset s k kind cids)).stream i).isOpen = true) :
    ((settle (beginReset s k kind cids)).stream i).part ≠ k := by
  rw [State.stream_settle, beginReset_starts h] at ho ⊢
  generalize resetEnded (resetHalted s k kind cids) k cids = u at ho ⊢
  have hrest : Evolves 50422016 (freeStreams u (streamsOf u k fun _ => true)) (resetFreed u k) :=
    .step (replacePinned_ev ..) <| .step (State.modPart_ev ..) <| .step (upd_sinkWrites_ev ..) <| .refl ..
  rw [hrest.stream, stream_freeStreams] at ho ⊢
  split at ho
  · exact absurd ho (by decide)
  · next hin =>
    rw [if_neg hin]
    exact fun hk => hin (mem_streamsOf ho hk rfl)

/-! ### PARTITION_RESET (R286) -/

theorem exec_partitionReset (h : Ready s cid 0x13 c) (hk : c.partition = k) :
    exec (.partitionReset cid) s = .next (settle (beginReset (begin' s cid) k 7 [cid])) := by
  rw [← hk, ← State.cmd_cid h.1]
  exact onCmd_ready (State.cmd_cid h.1 ▸ h) partitionResetEff

/-- Every other command stands as it was when one begins. -/
theorem mem_begin' (he : e ∈ s.cmds) (hne : e.cid ≠ cid) : e ∈ (begin' s cid).cmds :=
  List.mem_map.mpr ⟨e, he, if_neg hne⟩

theorem partitionReset_begins (w : s.Canon) (hk : k < 128) (h : Ready s cid 0x13 c) (hc : c.partition = k)
    (hr : (s.part k).resetting = none) :
    ∃ t, exec (.partitionReset cid) s = .next t ∧ (t.part k).resetting = some [cid] ∧ (t.part k).ticking = false ∧
      (t.part k).faultRecord.toNat / 2 ^ 12 % 2 ^ 4 = 7 ∧
      (∀ p < 128, (s.part k).prisms.getLsbD p = true → (t.prism p).zeroing = true ∧
        ∀ i < 16, (t.facet (16 * p + i)).running = none ∧ (t.facet (16 * p + i)).queue = []) ∧
      (∀ e ∈ s.cmds, e.partition = k → e.opcode ≠ 0x13 → t.cmd e.cid = none) ∧
      (∀ i, (t.stream i).isOpen = true → (t.stream i).part ≠ k) := by
  have hw : (begin' s cid).Canon := (begin'_ev ..).form w
  have hr' : ((begin' s cid).part k).resetting = none := hr
  obtain ⟨hresetting, hticking, hrecord, -⟩ := beginReset_part (kind := 7) (cids := [cid]) hw hr' hk (by omega)
  have hcmd : ∀ e ∈ s.cmds, e.partition = k → e.opcode ≠ 0x13 → (beginReset (begin' s cid) k 7 [cid]).cmd e.cid = none := by
    intro e he hek ho
    have hne : e.cid ≠ cid := fun heq => by
      obtain rfl : e = c := Option.some.inj ((w.cmd_of_mem he).symm.trans (heq ▸ h.1))
      obtain ⟨-, hready⟩ := h
      simp [ready, ho] at hready
    exact beginReset_cmd hw hr' (mem_begin' he hne) hek ho (by simpa using hne)
  exact ⟨_, exec_partitionReset h hc, hresetting, hticking, hrecord, fun p hp hin => beginReset_halts hr' hp hin, hcmd,
    beginReset_stream hr'⟩

/-! ### The end of a reset (R393 step 6) -/

/-- The zeroing of the prisms of a list ends. -/
def zeroingEnds (s : State) (ps : List Nat) : State :=
  ps.foldl (fun s q => s.modPrism q fun q => { q with zeroing := false }) s

theorem zeroingEnds_ev (s : State) (ps : List Nat) : Evolves 131072 s (zeroingEnds s ps) :=
  .foldl _ (fun _ _ => State.modPrism_ev ..) (.refl ..)

theorem zeroingEnds_zeroing (h : p ∈ ps ∨ (s.prism p).zeroing = false) : ((zeroingEnds s ps).prism p).zeroing = false := by
  refine foldl_establishes (P := fun s => (s.prism p).zeroing = false) (A := (· = p)) (fun s q hq => ?_)
    (h.imp_left fun hp => ⟨p, hp, rfl⟩)
  by_cases hp : p = q
  · rw [hp, State.prism_modPrism]
  · rw [State.prism_modPrism_other hp]
    exact hq.resolve_left (Ne.symm hp)

/-- The partition and its prisms at the end of a reset, before its commands complete. -/
def resetOverAt (s : State) (k : Nat) : State :=
  (zeroingEnds s (s.part k).prismList).modPart k fun p =>
    { p with resetting := none, faultCause := setBit p.faultCause 4, partResets := addSat p.partResets 1 }

theorem endReset_eq (s : State) (k : Nat) : endReset s k = finishAll (resetOverAt s k) stOk (resetCmds s k) := by
  have h : (zeroingEnds s (s.part k).prismList).cmds = s.cmds := (zeroingEnds_ev ..).frame .cmds (by decide)
  rw [show resetCmds s k = resetCmds (resetOverAt s k) k by simp only [resetCmds, resetOverAt, State.modPart, h]]
  rfl

theorem endReset_part (s : State) (k : Nat) : (endReset s k).part k =
    { s.part k with
      resetting := none, faultCause := setBit (s.part k).faultCause 4, partResets := addSat (s.part k).partResets 1 } := by
  rw [endReset_eq, (finishAll_ev ..).part, resetOverAt, State.part_modPart, (zeroingEnds_ev ..).part]

theorem endReset_completes (w : s.Canon) (he : e ∈ s.cmds) (hk : e.partition = k) (ho : e.opcode = 0x13) :
    Completed s (settle (endReset s k)) e 0x00 0 0 := by
  have hev : Evolves 196608 s (resetOverAt s k) := .step (State.modPart_ev ..) <| .step (zeroingEnds_ev ..) <| .refl ..
  have hcmd : (resetOverAt s k).cmd e.cid = some e := (hev.cmd (by decide) _).trans (w.cmd_of_mem he)
  have hmem : e.cid ∈ resetCmds s k :=
    List.mem_map.mpr ⟨e, List.mem_filter.mpr ⟨he, by simp [hk, ho]⟩, rfl⟩
  rw [endReset_eq]
  exact ((finishAll_completed stOk hcmd hmem).mono (settle_ev _)).after hev

end

/-- Settles O41: the start of a reset, the reset that joins one, and the end of a reset. -/
theorem partitionResetsRunTheirSteps : Obligations.PartitionResetsRunTheirSteps := by
  intro s k w hk
  have hwf : decide (k < 128) = true := decide_eq_true hk
  refine ⟨fun cid c h hc hr => partitionReset_begins w hk h hc hr, fun cid c cs h hc hr => ?_, fun u => ⟨?_, ?_, ?_⟩,
    fun hl hover => ?_, fun hno => ?_⟩
  · have hjoins := beginReset_joins (kind := 7) (cids := [cid]) (s := begin' s cid) hr
    refine ⟨_, exec_partitionReset h hc, ?_, ?_⟩
    · rw [State.part_settle, hjoins, State.part_modPart]
    · rw [State.cmd_settle, hjoins]
      exact h.cmd_ne_none rfl
  · intro hl hv hr
    have hkind : unitKind u < 2 ^ 4 := by cases u <;> decide
    obtain ⟨hresetting, -, hrecord, hcause⟩ := beginReset_part (kind := unitKind u) (cids := []) w hr hk hkind
    refine ⟨_, guarded_acts (wf := Instr.wf (.partitionFault k u)) hwf (Bool.and_eq_true_iff.mpr ⟨hl, hv⟩), hresetting,
      hrecord, fun b hb => ?_, fun p hp hin => (beginReset_halts hr hp hin).1,
      fun e he hek ho => beginReset_cmd w hr he hek ho List.not_mem_nil⟩
    simp only [List.mem_cons, Prod.mk.injEq, List.not_mem_nil, or_false] at hb
    rcases hb with ⟨rfl, rfl⟩ | ⟨rfl, rfl⟩ | ⟨rfl, rfl⟩
    all_goals exact hcause _ rfl (by decide)
  · intro cs hl hv hr
    refine ⟨_, guarded_acts (wf := Instr.wf (.partitionFault k u)) hwf (Bool.and_eq_true_iff.mpr ⟨hl, hv⟩), ?_, ?_⟩
    · rw [State.part_settle, beginReset_joins hr, State.part_modPart, List.append_nil]
    · rw [settle_prisms, beginReset_joins hr]
      rfl
  · exact fun hno => guarded_idle (wf := Instr.wf (.partitionFault k u)) (Bool.and_eq_false_iff.mpr hno)
  · refine ⟨_, guarded_acts (wf := Instr.wf (.partitionResetDone k)) hwf (Bool.and_eq_true_iff.mpr ⟨hl, hover⟩), ?_, ?_, ?_,
      fun p hp hin => ?_, fun e he hek ho => endReset_completes w he hek ho⟩
    · rw [State.part_settle, endReset_part]
    · rw [State.part_settle, endReset_part]
      exact getLsbD_setBit_self _ (by decide)
    · rw [State.part_settle, endReset_part]
    · rw [State.prism_settle, endReset_eq, (finishAll_ev ..).prism, resetOverAt, (State.modPart_ev ..).prism]
      exact zeroingEnds_zeroing (.inl (mem_maskBits.mpr ⟨hp, hin⟩))
  · exact guarded_idle (wf := Instr.wf (.partitionResetDone k)) (Bool.and_eq_false_iff.mpr hno)

end Sys2Proof.Machine
end

section
/-! The engines of the test unit: link patterns and their checkers, memory tests, loopback, boundary scan (O60). -/

-- These proofs wait on the same definitions: they are elaborated in order.
set_option Elab.async false

namespace Sys2Proof.Machine

section
variable {s u : State} {cid op lane st d r n : Nat} {c : Cmd} {b : Bist} {p : Pattern} {k : Checker}

/-! ### LINK_PATTERN (R317, R453) -/

/-- The function may have the pattern and its report (R317, R453). -/
def patternMay (s : State) (c : Cmd) : Prop := (c.f 16 1 = 2 → s.test.testState = true) ∧
  (c.f 40 8 = 0 ∨ mayName s c.fn (c.f 40 8) (16 + 24 * popCount 32 (c.f 20 4)) false = true)

/-- The state in which the pattern of a command runs. -/
def withPattern (s : State) (c : Cmd) : State :=
  { s with test := { s.test with patterns := s.test.patterns ++ [patternOf s c], lanes := [] } }

theorem linkPatternEff_badForm (h : patternParamsOk s c = false) : linkPatternEff c s = fail s c.cid stInvalidParameter :=
  if_pos (by rw [h]; rfl)

theorem linkPatternEff_mayNot (h : patternParamsOk s c = true) (hm : ¬ patternMay s c) :
    linkPatternEff c s = fail s c.cid stNotPermitted := by
  unfold linkPatternEff
  dsimp only
  rw [if_neg (by simp [h])]
  by_cases ht : c.f 16 1 = 2 ∧ s.test.testState = false
  · rw [if_pos (by simp [ht])]
  · have hname : ¬ (c.f 40 8 = 0 ∨ mayName s c.fn (c.f 40 8) (reportBytes (popCount 32 (c.f 20 4))) false = true) :=
      fun hn => hm ⟨fun h2 => by simpa using fun hf => ht ⟨h2, hf⟩, hn⟩
    rw [if_neg (by simpa using ht), if_pos (by simpa [not_or] using hname)]

theorem linkPatternEff_may (h : patternParamsOk s c = true) (hm : patternMay s c) :
    linkPatternEff c s =
      if linkBusy s (c.f 16 1) (c.f 17 1) (c.f 20 4) then fail s c.cid stBusy else withPattern s c := by
  obtain ⟨ht, hn⟩ := hm
  unfold linkPatternEff
  dsimp only
  rw [if_neg (by simp [h]), if_neg (by simpa using ht),
    if_neg (by simpa [reportBytes, or_iff_not_imp_left] using hn)]
  rfl

theorem patternOf_checkers : ∀ k ∈ (patternOf s c).checkers, k.locked = false ∧ k.bits = 0 ∧ k.errors = 0 := by
  unfold patternOf
  dsimp only
  split
  · intro k hk
    obtain ⟨j, -, rfl⟩ := List.mem_map.mp hk
    exact ⟨rfl, rfl, rfl⟩
  · exact nofun

/-! ### MEMORY_TEST (R318, R458) -/

/-- What a range is used for does not change when a command begins. -/
theorem rangeInUse_begin' (s : State) (cid a n : Nat) : rangeInUse (begin' s cid) a n = rangeInUse s a n := by
  have hpool : poolUsed (begin' s cid) = poolUsed s := by
    unfold poolUsed
    rw [landingBytes_begin']
    rfl
  have howned : ownedByDevice (begin' s cid) a n = ownedByDevice s a n := by
    unfold ownedByDevice
    rw [hpool]
    rfl
  have hcmds : ((begin' s cid).cmds.any fun c =>
        c.opcode == 0x20 && c.f 16 1 == 0 && addrMeets (begin' s cid) a n (c.f 24 8) (c.f 32 8)) =
      s.cmds.any fun c => c.opcode == 0x20 && c.f 16 1 == 0 && addrMeets s a n (c.f 24 8) (c.f 32 8) := by
    refine (List.any_map ..).trans (congrArg s.cmds.any (funext fun c => ?_))
    dsimp only [Function.comp_apply]
    split <;> rfl
  unfold rangeInUse
  rw [howned, hcmds]
  rfl

theorem bistBusy_begin' (s : State) (cid : Nat) (c : Cmd) : bistBusy (begin' s cid) c = bistBusy s c := by
  unfold bistBusy
  rw [rangeInUse_begin']
  rfl

/-- The state in which the memory test of a command runs. -/
def withBist (s : State) (c : Cmd) : State :=
  { s with test := { s.test with bists := s.test.bists ++
    [{ cid := c.cid, target := c.f 16 1, index := c.f 17 1, base := c.f 24 8 % 2 ^ 42, bytes := c.f 32 8 }] } }

theorem memoryTestEff_badForm (h : ¬ (bistParamsOk c = true ∧ bistRangeOk s c = true)) :
    memoryTestEff c s = fail s c.cid stInvalidParameter := by
  refine if_pos ?_
  rw [← Bool.not_and, Bool.not_eq_true', ← Bool.not_eq_true, Bool.and_eq_true]
  exact h

theorem memoryTestEff_mayNot (h : bistParamsOk c = true ∧ bistRangeOk s c = true) (ht : c.f 16 1 = 0)
    (hm : mayName s c.fn (c.f 24 8) (c.f 32 8) false = false) : memoryTestEff c s = fail s c.cid stNotPermitted := by
  unfold memoryTestEff
  rw [if_neg (by simp [h]), if_pos (by simp [ht, hm])]

theorem memoryTestEff_may (h : bistParamsOk c = true ∧ bistRangeOk s c = true)
    (hm : c.f 16 1 = 0 → mayName s c.fn (c.f 24 8) (c.f 32 8) false = true) : memoryTestEff c s =
      if bistBusy s c || (c.f 16 1 = 0 && memLooped s (c.f 24 8) (c.f 32 8)) then fail s c.cid stBusy
      else withBist s c := by
  unfold memoryTestEff
  rw [if_neg (by simp [h]), if_neg (by simpa using hm)]
  rfl

/-! ### LOOPBACK (R319, R457) -/

/-- The state in which a link is looped back, or is no longer. -/
def withLoops (s : State) (l : List (Nat × Nat)) : State := { s with test := { s.test with loops := l } }

/-- What LOOPBACK leaves looped back. -/
def loopsAfter (s : State) (c : Cmd) : List (Nat × Nat) :=
  (s.test.loops.filter fun l => l != (c.f 16 1, c.f 17 1)) ++ if c.f 18 1 = 0 then [] else [(c.f 16 1, c.f 17 1)]

theorem loopbackEff_badForm (h : ¬ (c.only [(16, 3)] = true ∧ c.f 18 1 ≤ 1 ∧ c.f 17 1 < loopCount (c.f 16 1))) :
    loopbackEff c s = fail s c.cid stInvalidParameter := by
  refine if_pos ?_
  simp only [not_and_or, Nat.not_le, Nat.not_lt] at h
  simpa [or_assoc] using h

theorem loopbackEff_form (h : c.only [(16, 3)] = true ∧ c.f 18 1 ≤ 1 ∧ c.f 17 1 < loopCount (c.f 16 1)) :
    loopbackEff c s =
      if loopBusy s (c.f 16 1) (c.f 17 1) then fail s c.cid stBusy
      else fail (withLoops s (loopsAfter s c)) c.cid stOk := by
  obtain ⟨ho, hf, hi⟩ := h
  unfold loopbackEff
  dsimp only
  rw [if_neg (by simp [ho, Nat.not_lt.2 hf, Nat.not_le.2 hi])]
  refine ite_congr rfl (fun _ => rfl) fun _ => ?_
  by_cases h0 : c.f 18 1 = 0
  · simp [h0, withLoops, loopsAfter]
  · simp [h0, withLoops, loopsAfter]

theorem mem_loopsAfter (hf : c.f 18 1 ≤ 1) (x : Nat × Nat) :
    x ∈ loopsAfter s c ↔ if x = (c.f 16 1, c.f 17 1) then c.f 18 1 = 1 else x ∈ s.test.loops := by
  unfold loopsAfter
  by_cases hx : x = (c.f 16 1, c.f 17 1)
  · by_cases h0 : c.f 18 1 = 0
    · simp [hx, h0]
    · simp [hx, show c.f 18 1 = 1 by omega]
  · by_cases h0 : c.f 18 1 = 0 <;> simp [hx, h0]

/-! ### Checkers (R454) -/

theorem checkerOf_modChecker {f : Checker → Checker} (hf : ∀ k, (f k).lane = k.lane) (h : checkerOf p lane = some k) :
    checkerOf (modChecker p lane f) lane = some (f k) := by
  have hk : k.lane = lane := by simpa using List.find?_some h
  have hmap : checkerOf (modChecker p lane f) lane =
      (checkerOf p lane).map fun c => if c.lane = lane then f c else c := by
    refine List.find?_map.trans (congrArg (Option.map _) (congrArg (List.find? · p.checkers) (funext fun c => ?_)))
    dsimp only [Function.comp_apply]
    split
    · rw [hf]
    · rfl
  rw [hmap, h, Option.map_some, if_pos hk]

theorem patternBy_cid (h : patternBy s cid = some p) : p.cid = cid := by simpa using List.find?_some h

theorem patternBy_setPattern {q : Pattern} (h : patternBy s cid = some p) (hq : q.cid = cid) :
    patternBy (setPattern s q) cid = some q := by
  have hmap : patternBy (setPattern s q) cid = (patternBy s cid).map fun x => if x.cid = q.cid then q else x := by
    refine List.find?_map.trans (congrArg (Option.map _) (congrArg (List.find? · s.test.patterns) (funext fun x => ?_)))
    dsimp only [Function.comp_apply]
    split
    · next hx => rw [hx]
    · rfl
  rw [hmap, h, Option.map_some, if_pos ((patternBy_cid h).trans hq.symm)]

theorem exec_checkerLock (hlane : lane < 32) (h : patternBy s cid = some p) (bs : List Bool) :
    exec (.checkerLock ⟨cid, lane⟩ bs) s = doneIf (s.live && lockDue s p lane bs) s
      (setPattern s (modChecker p lane fun c => { c with locked := true, everLocked := true })) := by
  change execCheckerLock ⟨cid, lane⟩ bs s = _
  have hwf : Instr.wf (.checkerLock ⟨cid, lane⟩ bs) = true := decide_eq_true hlane
  unfold execCheckerLock
  rw [if_pos hwf]
  dsimp only
  rw [h]

theorem exec_lostLock (h : patternBy s cid = some p) (n : LaneCount) (w : List Bool) :
    exec (.lostLock ⟨cid, lane⟩ n w) s = if Instr.wf (.lostLock ⟨cid, lane⟩ n w) then
      doneIf (s.live && lossDue p lane w) s ((setPattern s (modChecker p lane (loseLock n))).setTestCause 1)
    else done s := by
  change execLostLock ⟨cid, lane⟩ n w s = _
  unfold execLostLock
  dsimp only
  rw [h]

theorem checkerLock_unknown (h : patternBy s cid = none) (bs : List Bool) :
    exec (.checkerLock ⟨cid, lane⟩ bs) s = .next (settle s) := by
  change execCheckerLock ⟨cid, lane⟩ bs s = _
  unfold execCheckerLock
  dsimp only
  rw [h]
  exact ite_self _

theorem lostLock_unknown (h : patternBy s cid = none) (n : LaneCount) (w : List Bool) :
    exec (.lostLock ⟨cid, lane⟩ n w) s = .next (settle s) := by
  change execLostLock ⟨cid, lane⟩ n w s = _
  unfold execLostLock
  dsimp only
  rw [h]
  exact ite_self _

theorem lockLate_iff : lockLate s p = true ↔
    (∃ x ∈ p.checkers, x.everLocked = false) ∧ p.since + 10000000 ≤ s.now := by
  simp [lockLate]

theorem lockDue_iff (h : checkerOf p lane = some k) (bs : List Bool) : lockDue s p lane bs = true ↔
    k.locked = false ∧ predicted p bs = true ∧
      ¬ ((∃ x ∈ p.checkers, x.everLocked = false) ∧ p.since + 10000000 ≤ s.now) := by
  unfold lockDue
  rw [h, ← lockLate_iff]
  simp [and_assoc, and_comm]

theorem lossDue_iff (h : checkerOf p lane = some k) (w : List Bool) : lossDue p lane w = true ↔
    k.locked = true ∧ w.length = 64 ∧ 32 ≤ (w.filter id).length := by
  unfold lossDue
  rw [h]
  simp [and_assoc]

/-- The device does not run, or the lane has no checker of a running pattern. -/
def NoChecker (s : State) (cid lane : Nat) : Prop :=
  s.live = false ∨ patternBy s cid = none ∨ ∀ p, patternBy s cid = some p → checkerOf p lane = none

theorem checkerLock_idle (hlane : lane < 32) (h : NoChecker s cid lane) (bs : List Bool) :
    exec (.checkerLock ⟨cid, lane⟩ bs) s = .next (settle s) := by
  cases hp : patternBy s cid with
  | none => exact checkerLock_unknown hp bs
  | some p =>
    rw [exec_checkerLock hlane hp]
    refine doneIf_idle (h.imp_right fun h => ?_)
    unfold lockDue
    rw [(h.resolve_left (by simp [hp])) p hp]
    rfl

theorem lostLock_idle (h : NoChecker s cid lane) (n : LaneCount) (w : List Bool) :
    exec (.lostLock ⟨cid, lane⟩ n w) s = .next (settle s) := by
  cases hp : patternBy s cid with
  | none => exact lostLock_unknown hp n w
  | some p =>
    rw [exec_lostLock hp]
    refine guarded_idle (Bool.and_eq_false_iff.mpr (h.imp_right fun h => ?_))
    unfold lossDue
    rw [(h.resolve_left (by simp [hp])) p hp]
    rfl

/-! ### The end of a pattern (R454, R455) -/

theorem lastCounts_fields (p : Pattern) (ks : List LaneCount) :
    (lastCounts p ks).cid = p.cid ∧ (lastCounts p ks).report = p.report := by
  unfold lastCounts
  induction ks generalizing p with
  | nil => exact ⟨rfl, rfl⟩
  | cons k r ih => exact ih (modChecker p k.lane (addCount k))

/-- The test registers of the lanes of a pattern, in their order. -/
def laneSlots (p : Pattern) : Tab LaneSlot :=
  ((upTo p.checkers.length).zip p.checkers).foldl (fun t q => tabSet {} t q.1 (laneSlot q.2)) []

/-- The state in which the pattern of a command has ended with the last counts of `p`, before its report. -/
def patternOff (s : State) (cid : Nat) (p : Pattern) : State :=
  ({ s with test :=
    { s.test with
      patterns := s.test.patterns.filter (fun q => q.cid != cid), lanes := laneSlots p } }).setTestCause 0

/-- Errors of all lanes of a pattern. -/
def errorSum (p : Pattern) : Nat := sat48 (sumN (p.checkers.map (·.errors)))

theorem patternBy_patternOff (s : State) (cid : Nat) (p : Pattern) : patternBy (patternOff s cid p) cid = none :=
  List.find?_eq_none.mpr fun q hq => by
    obtain ⟨-, hne⟩ := List.mem_filter.mp hq
    simpa using hne

theorem patternEnds_silent {ks : List LaneCount} (h : p.report = 0) :
    patternEnds s p ks st = finish (patternOff s p.cid (lastCounts p ks)) p.cid st 0 (errorSum (lastCounts p ks)) := by
  obtain ⟨hcid, hrep⟩ := lastCounts_fields p ks
  unfold patternEnds
  dsimp only
  rw [if_pos (hrep.trans h), hcid]
  rfl

theorem patternEnds_reports {ks : List LaneCount} (h : p.report ≠ 0) (hc : s.cmd p.cid = some c) :
    patternEnds s p ks st = writeOut (patternOff s p.cid (lastCounts p ks)) c p.report (patternReport (lastCounts p ks))
      st 0 (errorSum (lastCounts p ks)) := by
  obtain ⟨hcid, hrep⟩ := lastCounts_fields p ks
  have hcmd : (patternOff s p.cid (lastCounts p ks)).cmd p.cid = some c := hc
  unfold patternEnds
  dsimp only
  rw [if_neg (fun h0 => h (hrep.symm.trans h0)), hcid, hrep]
  change (match (patternOff s p.cid (lastCounts p ks)).cmd p.cid with
    | none => patternOff s p.cid (lastCounts p ks)
    | some c => writeOut (patternOff s p.cid (lastCounts p ks)) c p.report (patternReport (lastCounts p ks)) st 0
      (errorSum (lastCounts p ks))) = _
  rw [hcmd]

/-- The end of a pattern completes its command, whatever the status. -/
theorem patternEnds_completes {ks : List LaneCount} (hp : patternBy s cid = some p) (hc : s.cmd cid = some c)
    (h0 : p.report = 0) :
    patternBy (settle (patternEnds s p ks st)) cid = none ∧
    (settle (patternEnds s p ks st)).test.cause.getLsbD 0 = true ∧
    Completed s (settle (patternEnds s p ks st)) c st 0 (errorSum (lastCounts p ks)) := by
  obtain rfl := patternBy_cid hp
  have hev : Evolves 1024 s (patternOff s p.cid (lastCounts p ks)) := .step (State.setTestCause_ev ..) (upd_test_ev ..)
  rw [patternEnds_silent h0]
  refine ⟨?_, ?_, finish_settle_completed hev hc (by decide) (by decide)⟩
  · rw [patternBy, settle_test, finish_test]
    exact patternBy_patternOff ..
  · rw [settle_test, finish_test]
    exact getLsbD_setBit_self _ (by decide)

theorem patternEnds_stores {ks : List LaneCount} (hp : patternBy s cid = some p) (hc : s.cmd cid = some c)
    (h0 : p.report ≠ 0) (hd : PlainDest s c.fn p.report n (patternReport (lastCounts p ks))) :
    patternBy (settle (patternEnds s p ks st)) cid = none ∧
    (settle (patternEnds s p ks st)).test.cause.getLsbD 0 = true ∧
    Stored s (settle (patternEnds s p ks st)) c.fn p.report (patternReport (lastCounts p ks)) ∧
    Completed s (settle (patternEnds s p ks st)) c st 0 (errorSum (lastCounts p ks)) := by
  obtain rfl := patternBy_cid hp
  have hsame : SameMemory s (patternOff s p.cid (lastCounts p ks)) := ⟨rfl, rfl, rfl, rfl, rfl, rfl, rfl⟩
  obtain ⟨hv, hm, hl, hr, hn, hw⟩ := hd
  have hdest : PlainDest (patternOff s p.cid (lastCounts p ks)) c.fn p.report n (patternReport (lastCounts p ks)) :=
    ⟨hv, hm, hl, hr, hn, (hsame.addrWrite ..).2.trans hw⟩
  have hwrite := addrWrite_ev (patternOff s p.cid (lastCounts p ks)) c.fn p.report (patternReport (lastCounts p ks)) false
  have hev : Evolves 8924942042240 s
      (addrWrite (patternOff s p.cid (lastCounts p ks)) c.fn p.report (patternReport (lastCounts p ks)) false).1 :=
    .step (addrWrite_ev ..) <| .step (State.setTestCause_ev ..) <| .step (upd_test_ev ..) <| .refl ..
  have htest : (addrWrite (patternOff s p.cid (lastCounts p ks)) c.fn p.report (patternReport (lastCounts p ks)) false).1.test =
      (patternOff s p.cid (lastCounts p ks)).test := hwrite.frame .test (by decide)
  rw [patternEnds_reports h0 hc, writeOut_plain hdest, State.cmd_cid hc]
  refine ⟨?_, ?_, hsame.stored ⟨?_, ?_, ?_, ?_⟩, finish_settle_completed hev hc (by decide) (by decide)⟩
  · rw [patternBy, settle_test, finish_test, htest]
    exact patternBy_patternOff ..
  · rw [settle_test, finish_test, htest]
    exact getLsbD_setBit_self _ (by decide)
  all_goals simp

/-- An outcome of a row that ends a pattern with a status. -/
def PatternEnded (s : State) (cid : Nat) (c : Cmd) (p : Pattern) (ks : List LaneCount) (row : Instr) (st : Nat) : Prop :=
  (p.report = 0 →
    ∃ t, exec row s = .next t ∧ patternBy t cid = none ∧ t.test.cause.getLsbD 0 = true ∧
      Completed s t c st 0 (errorSum (lastCounts p ks))) ∧
  (∀ size, p.report ≠ 0 → PlainDest s c.fn p.report size (patternReport (lastCounts p ks)) →
    ∃ t, exec row s = .next t ∧ patternBy t cid = none ∧ t.test.cause.getLsbD 0 = true ∧
      Stored s t c.fn p.report (patternReport (lastCounts p ks)) ∧
      Completed s t c st 0 (errorSum (lastCounts p ks)))

theorem patternEnded {ks : List LaneCount} {row : Instr} (hp : patternBy s cid = some p) (hc : s.cmd cid = some c)
    (hex : exec row s = .next (settle (patternEnds s p ks st))) : PatternEnded s cid c p ks row st :=
  ⟨fun h0 => ⟨_, hex, patternEnds_completes hp hc h0⟩, fun _ h0 hd => ⟨_, hex, patternEnds_stores hp hc h0 hd⟩⟩

theorem exec_linkPatternEnd (h : patternBy s cid = some p) (ks : List LaneCount) :
    exec (.linkPatternEnd ⟨cid, ks⟩) s = doneIf (s.live && patternOver s p) s (patternEnds s p ks stOk) := by
  change execLinkPatternEnd ⟨cid, ks⟩ s = _
  unfold execLinkPatternEnd
  dsimp only
  rw [h]

theorem exec_checkerLockTimeout (h : patternBy s cid = some p) (ks : List LaneCount) :
    exec (.checkerLockTimeout ⟨cid, ks⟩) s = doneIf (s.live && lockLate s p) s (patternEnds s p ks stTimeout) := by
  change execCheckerLockTimeout ⟨cid, ks⟩ s = _
  unfold execCheckerLockTimeout
  dsimp only
  rw [h]

theorem patternOver_iff : patternOver s p = true ↔
    ((∀ k ∈ p.checkers, k.everLocked = true) ∨ p.durationUs < 10000) ∧ p.since + 1000 * p.durationUs ≤ s.now := by
  simp [patternOver, and_comm]

/-- No pattern of the command runs, or the device does not. -/
theorem patternRows_idle (ks : List LaneCount) (h : s.live = false ∨ patternBy s cid = none) :
    exec (.linkPatternEnd ⟨cid, ks⟩) s = .next (settle s) ∧
    exec (.checkerLockTimeout ⟨cid, ks⟩) s = .next (settle s) := by
  cases hp : patternBy s cid with
  | none =>
    refine ⟨?_, ?_⟩
    · change execLinkPatternEnd ⟨cid, ks⟩ s = _
      unfold execLinkPatternEnd
      dsimp only
      rw [hp]
      rfl
    · change execCheckerLockTimeout ⟨cid, ks⟩ s = _
      unfold execCheckerLockTimeout
      dsimp only
      rw [hp]
      rfl
  | some p =>
    have hl : s.live = false := h.resolve_right (by simp [hp])
    rw [exec_linkPatternEnd hp, exec_checkerLockTimeout hp]
    exact ⟨doneIf_idle (.inl hl), doneIf_idle (.inl hl)⟩

/-! ### The end of a memory test (R458) -/

theorem tabGet_filter_key {α : Type} (x : α) (f : Nat → Bool) (t : Tab α) (i : Nat) :
    tabGet x (t.filter fun q => f q.1) i = if f i then tabGet x t i else x := by
  induction t with
  | nil => exact (ite_self _).symm
  | cons q r ih =>
    obtain ⟨j, v⟩ := q
    by_cases hf : f j = true
    · by_cases hij : i = j <;> simp [tabGet, hij, hf, ih]
    · rw [List.filter_cons_of_neg (by simpa using hf), ih, tabGet]
      by_cases hij : i = j <;> simp [hij, hf]

theorem zeroRange_byte (s : State) (a n x : Nat) :
    byteAt (zeroRange s a n).mem x = if a ≤ x ∧ x < a + n then 0 else byteAt s.mem x := by
  refine (tabGet_filter_key 0 (fun x => decide (x < a ∨ a + n ≤ x)) s.mem x).trans ?_
  by_cases hx : a ≤ x ∧ x < a + n
  · rw [if_neg (by simp; omega), if_pos hx]
  · rw [if_pos (by simp; omega), if_neg hx]
    rfl

/-- The memory that a test leaves: a range is zeroed. -/
def bistZeroed (s : State) (b : Bist) : State := if b.target = 0 then zeroRange s b.base b.bytes else s

/-- The state in which a test is over, with its first failing word. -/
def bistOff (s : State) (b : Bist) (w : Option BistWord) : State :=
  let s2 := ({ s with test := { s.test with bists := s.test.bists.filter fun x => x.cid != b.cid } }).setTestCause 2
  match w with
  | none => s2
  | some w => ({ s2 with test := { s2.test with bistFail := failAddr w } }).setTestCause 3

theorem bistEnds_eq (s : State) (b : Bist) (ws : List BistWord) : bistEnds s b ws =
    finish (bistOff (bistZeroed s b) b ws.head?) b.cid stOk (b2n (ws.any (·.uncorrectable))) ws.length := by
  cases ws <;> rfl

theorem bistZeroed_ev (s : State) (b : Bist) : Evolves 25769803904 s (bistZeroed s b) := by
  unfold bistZeroed
  split
  · exact zeroRange_ev ..
  · exact .refl ..

theorem bistOff_ev (s : State) (b : Bist) (w : Option BistWord) : Evolves 1024 s (bistOff s b w) := by
  cases w with
  | none => exact .step (State.setTestCause_ev ..) <| .step (upd_test_ev ..) <| .refl ..
  | some w =>
    exact .step (State.setTestCause_ev ..) <| .step (upd_test_ev ..) <| .step (State.setTestCause_ev ..) <|
      .step (upd_test_ev ..) <| .refl ..

theorem bistOff_bists (s : State) (b : Bist) (w : Option BistWord) : ∀ x ∈ (bistOff s b w).test.bists, x.cid ≠ b.cid := by
  have h : (bistOff s b w).test.bists = s.test.bists.filter fun x => x.cid != b.cid := by cases w <;> rfl
  intro x hx
  rw [h] at hx
  simpa using (List.mem_filter.mp hx).2

theorem bistOff_over (s : State) (b : Bist) (w : Option BistWord) : (bistOff s b w).test.cause.getLsbD 2 = true := by
  cases w with
  | none => exact getLsbD_setBit_self _ (by decide)
  | some w => exact getLsbD_setBit_of 3 (getLsbD_setBit_self _ (by decide))

theorem memoryTest_ends {ws : List BistWord} (hl : s.live = true)
    (hb : s.test.bists.find? (fun x => x.cid == cid) = some b) (hc : s.cmd cid = some c) :
    ∃ t, exec (.memoryTestDone ⟨cid, ws⟩) s = .next t ∧ (∀ x ∈ t.test.bists, x.cid ≠ cid) ∧
      t.test.cause.getLsbD 2 = true ∧
      (∀ x, byteAt t.mem x = if b.target = 0 ∧ b.base ≤ x ∧ x < b.base + b.bytes then 0 else byteAt s.mem x) ∧
      (∀ w, ws.head? = some w → t.test.bistFail = failAddr w ∧ t.test.cause.getLsbD 3 = true) ∧
      Completed s t c 0x00 (if ws.any (·.uncorrectable) then 1 else 0) ws.length := by
  obtain rfl : b.cid = cid := by simpa using List.find?_some hb
  have hex : exec (.memoryTestDone ⟨b.cid, ws⟩) s = .next (settle (bistEnds s b ws)) := by
    change execMemoryTestDone ⟨b.cid, ws⟩ s = _
    unfold execMemoryTestDone
    dsimp only
    rw [hb]
    exact doneIf_true hl ..
  have hev : Evolves 25769804928 s (bistOff (bistZeroed s b) b ws.head?) :=
    .step (bistOff_ev ..) <| .step (bistZeroed_ev ..) <| .refl ..
  have hmem : (bistOff (bistZeroed s b) b ws.head?).mem = (bistZeroed s b).mem :=
    (bistOff_ev ..).frame .mem (by decide)
  rw [bistEnds_eq] at hex
  refine ⟨_, hex, ?_, ?_, fun x => ?_, fun w hw => ?_, finish_settle_completed hev hc (by decide) (by decide)⟩
  · rw [settle_test, finish_test]
    exact bistOff_bists _ b _
  · rw [settle_test, finish_test]
    exact bistOff_over ..
  · rw [settle_mem, finish_mem, hmem, bistZeroed]
    by_cases ht : b.target = 0
    · rw [if_pos ht, zeroRange_byte]
      simp [ht]
    · rw [if_neg ht, if_neg fun h => ht h.1]
  · rw [settle_test, finish_test, hw]
    exact ⟨rfl, getLsbD_setBit_self _ (by decide)⟩

theorem memoryTestDone_idle {ws : List BistWord}
    (h : s.live = false ∨ s.test.bists.find? (fun x => x.cid == cid) = none) :
    exec (.memoryTestDone ⟨cid, ws⟩) s = .next (settle s) := by
  change execMemoryTestDone ⟨cid, ws⟩ s = _
  unfold execMemoryTestDone
  dsimp only
  split
  · rfl
  · next hb => exact doneIf_false (h.resolve_right (by simp [hb])) ..

/-! ### Boundary scan (R460) -/

/-- What a TAP instruction does beside IDCODE's answer. -/
def tapLoaded (s : State) (i : TapInstr) : State :=
  let s1 := { s with pins := { s.pins with tap := i } }
  if s.mode = .porLow then s1
  else if tapExtest i then (if s.mode = .scan then s1 else scanBegins s1)
  else if s.mode = .scan then scanEnds s1 else s1

theorem afterReset_not_scan (s : State) : afterReset s ≠ .scan := by
  unfold afterReset
  split
  · exact nofun
  · split
    · exact nofun
    · split <;> exact nofun

theorem scanEnds_mode (s : State) : (scanEnds s).mode ≠ .scan := by
  unfold scanEnds
  split
  · exact nofun
  · unfold romStarts
    split
    · exact nofun
    · have hmode : (measureRom { s with mode := afterReset s, sec := { s.sec with idKeySet := true } }).mode = afterReset s :=
        (measureRom_ev _).frame .mode (by decide)
      rw [hmode]
      exact afterReset_not_scan s

theorem tapLoaded_tap (s : State) (i : TapInstr) : (tapLoaded s i).pins.tap = i := by
  unfold tapLoaded
  dsimp only
  split
  · rfl
  · split
    · split <;> rfl
    · split
      · exact (congrArg Pins.tap ((scanEnds_ev _).frame .pins (by decide)) :)
      · rfl

theorem tapLoaded_porLow (i : TapInstr) (h : s.mode = .porLow) : (tapLoaded s i).mode = .porLow := by
  unfold tapLoaded
  rw [if_pos h]
  exact h

/-- Outside power-on reset, the device scans exactly while an EXTEST-class instruction is loaded. -/
theorem tapLoaded_scan (i : TapInstr) (h : s.mode ≠ .porLow) : (tapLoaded s i).mode = .scan ↔ tapExtest i = true := by
  unfold tapLoaded
  dsimp only
  rw [if_neg h]
  by_cases hi : tapExtest i = true
  · rw [if_pos hi]
    refine iff_of_true ?_ hi
    split
    · assumption
    · rfl
  · rw [if_neg hi]
    refine iff_of_false ?_ hi
    split
    · exact scanEnds_mode _
    · assumption

theorem tapLoaded_idcode (s : State) : (tapLoaded s .idcode).sent = s.sent := by
  unfold tapLoaded
  dsimp only
  split
  · rfl
  · rw [if_neg (by decide)]
    split
    · exact (scanEnds_ev _).frame .sent (by decide)
    · rfl

theorem jtagEff_eq (s : State) (i : TapInstr) : jtagEff s i =
    if i = .idcode then (tapLoaded s i).emit (.jtag (toLE 4 idcode)) else tapLoaded s i := rfl

/-- The answer to IDCODE leaves the pins and the mode. -/
theorem jtagEff_pins_mode (s : State) (i : TapInstr) :
    (jtagEff s i).pins = (tapLoaded s i).pins ∧ (jtagEff s i).mode = (tapLoaded s i).mode := by
  rw [jtagEff_eq]
  split <;> exact ⟨rfl, rfl⟩

theorem jtagEff_sends (s : State) : Sends s (settle (jtagEff s .idcode)) (.jtag (toLE 4 idcode)) := by
  obtain ⟨r, hr, -⟩ := settle_sent (jtagEff s .idcode)
  refine ⟨[], r, ?_⟩
  rw [hr, jtagEff_eq, if_pos rfl]
  change (tapLoaded s .idcode).sent ++ [_] ++ r = _
  rw [tapLoaded_idcode]
  simp

end

/-! ### The obligation -/

section
variable {s : State} {cid : Nat} {c : Cmd}

/-- A row that is refused leaves the test unit. -/
theorem Ready.endsTest {op st : Nat} {act : Cmd → State → State} (h : Ready s cid op c)
    (hact : act c (begin' s cid) = fail (begin' s cid) c.cid st) :
    ∃ t, onCmd s cid op act = .next t ∧ t.test = s.test ∧ Completed s t c st 0 0 :=
  ⟨_, onCmd_acts h hact, finish_test .., h.completed rfl rfl st 0 0⟩

theorem linkPattern_starts (h : Ready s cid 0x80 c) (hform : patternParamsOk s c = true) (hm : patternMay s c)
    (hb : linkBusy s (c.f 16 1) (c.f 17 1) (c.f 20 4) = false) :
    ∃ t p, exec (.linkPattern cid) s = .next t ∧ t.test.patterns = s.test.patterns ++ [p] ∧ p.cid = cid ∧
      p.target = c.f 16 1 ∧ p.index = c.f 17 1 ∧ p.pattern = c.f 18 1 ∧ p.lanes = maskBits 32 (c.f 20 4) ∧
      p.durationUs = c.f 24 4 ∧ p.since = s.now ∧
      (∀ k ∈ p.checkers, k.locked = false ∧ k.bits = 0 ∧ k.errors = 0) ∧ t.cmd cid ≠ none := by
  have hact : linkPatternEff c (begin' s cid) = withPattern (begin' s cid) c := by
    rw [linkPatternEff_may (s := begin' s cid) hform hm]
    exact if_neg (ne_true_of_eq_false hb)
  exact ⟨_, patternOf s c, onCmd_acts h hact, rfl, State.cmd_cid h.1, rfl, rfl, rfl, rfl, rfl, rfl, patternOf_checkers,
    h.cmd_ne_none (u := withPattern (begin' s cid) c) rfl⟩

theorem memoryTest_starts (h : Ready s cid 0x81 c) (hok : bistParamsOk c = true ∧ bistRangeOk s c = true)
    (hm : c.f 16 1 = 0 → mayName s c.fn (c.f 24 8) (c.f 32 8) false = true) (hb : bistBusy s c = false)
    (hl : c.f 16 1 = 0 → memLooped s (c.f 24 8) (c.f 32 8) = false) :
    ∃ t b, exec (.memoryTest cid) s = .next t ∧ t.test.bists = s.test.bists ++ [b] ∧ b.cid = cid ∧
      b.target = c.f 16 1 ∧ b.index = c.f 17 1 ∧ b.base = c.f 24 8 % 2 ^ 42 ∧ b.bytes = c.f 32 8 ∧
      t.cmd cid ≠ none := by
  have hl' : c.f 16 1 = 0 → memLooped (begin' s cid) (c.f 24 8) (c.f 32 8) = false := hl
  have hact : memoryTestEff c (begin' s cid) = withBist (begin' s cid) c := by
    rw [memoryTestEff_may (s := begin' s cid) hok hm, bistBusy_begin', hb]
    exact if_neg (by simpa using hl')
  exact ⟨_, _, onCmd_acts h hact, rfl, State.cmd_cid h.1, rfl, rfl, rfl, rfl,
    h.cmd_ne_none (u := withBist (begin' s cid) c) rfl⟩

theorem loopback_loops (h : Ready s cid 0x82 c)
    (hok : c.only [(16, 3)] = true ∧ c.f 18 1 ≤ 1 ∧ c.f 17 1 < loopCount (c.f 16 1))
    (hb : loopBusy s (c.f 16 1) (c.f 17 1) = false) :
    ∃ t, exec (.loopback cid) s = .next t ∧ Completed s t c 0x00 0 0 ∧
      ((c.f 16 1, c.f 17 1) ∈ t.test.loops ↔ c.f 18 1 = 1) ∧
      ∀ x, x ≠ (c.f 16 1, c.f 17 1) → (x ∈ t.test.loops ↔ x ∈ s.test.loops) := by
  have hact : loopbackEff c (begin' s cid) = fail (withLoops (begin' s cid) (loopsAfter s c)) c.cid stOk := by
    rw [loopbackEff_form hok]
    exact if_neg (ne_true_of_eq_false hb)
  have htest : (settle (fail (withLoops (begin' s cid) (loopsAfter s c)) c.cid stOk)).test.loops = loopsAfter s c := by
    rw [settle_test, fail, finish_test]
    rfl
  obtain ⟨-, hf, -⟩ := hok
  refine ⟨_, onCmd_acts h hact, h.completed (u := withLoops (begin' s cid) (loopsAfter s c)) rfl rfl stOk 0 0, ?_,
    fun x hx => ?_⟩
  · rw [htest, mem_loopsAfter hf, if_pos rfl]
  · rw [htest, mem_loopsAfter hf, if_neg hx]

end

/-- Settles O60: the three commands that start engines, the checkers, the ends of patterns and of memory tests, and the
TAP's instructions. -/
theorem testEnginesFollowTheirRules : Obligations.TestEnginesFollowTheirRules := by
  refine ⟨fun s cid c ends hends => ⟨fun h may hmay => ?_, fun h ok hok => ?_, fun h ok hok => ?_⟩,
    fun s cid lane hlane => ⟨fun p k hl hp hk => ⟨fun bs hlock hpred hlate => ?_, fun bs hno => ?_, fun n w hn =>
      ⟨fun hlock hw hm => ?_, fun hno => ?_⟩⟩, fun hno => ⟨fun bs => ?_, fun n w => ?_⟩⟩,
    fun s cid ks => ⟨fun p c sum ended late hl hp hc hsum hended hlate => ⟨?_, fun hno => ?_, fun hno => ?_⟩,
      patternRows_idle ks⟩, fun s cid ws _ => ⟨fun b c hl hb hc => memoryTest_ends hl hb hc, memoryTestDone_idle⟩,
    fun s i => ?_⟩
  · subst hends
    refine ⟨fun hf => h.endsTest (linkPatternEff_badForm hf),
      fun hf hm => h.endsTest (linkPatternEff_mayNot hf fun hmm => hm (hmay.mpr hmm)), fun hf hm hb => h.endsTest ?_,
      fun hf hm hb => linkPattern_starts h hf (hmay.mp hm) hb⟩
    rw [linkPatternEff_may (s := begin' s cid) hf (hmay.mp hm)]
    exact if_pos hb
  · subst hends
    refine ⟨fun hno => h.endsTest (memoryTestEff_badForm fun hf => hno (hok.mpr hf)),
      fun hy ht hm => h.endsTest (memoryTestEff_mayNot (hok.mp hy) ht hm), fun hy hm => ⟨fun hb => h.endsTest ?_,
        fun hb hl => memoryTest_starts h (hok.mp hy) hm hb hl⟩⟩
    rw [memoryTestEff_may (s := begin' s cid) (hok.mp hy) hm, bistBusy_begin']
    refine if_pos ?_
    rw [Bool.or_eq_true, Bool.and_eq_true, decide_eq_true_eq]
    exact hb
  · subst hends
    refine ⟨fun hno => h.endsTest (loopbackEff_badForm fun hf => hno (hok.mpr hf)), fun hy hb => h.endsTest ?_,
      fun hy hb => loopback_loops h (hok.mp hy) hb⟩
    rw [loopbackEff_form (hok.mp hy)]
    exact if_pos hb
  · have hdue : lockDue s p lane bs = true := (lockDue_iff hk bs).mpr ⟨hlock, hpred, fun ⟨⟨x, hx, hf⟩, hpast⟩ =>
      hlate.elim (fun hall => absurd (hall x hx) (by simp [hf])) fun hin => by omega⟩
    refine ⟨_, _, (exec_checkerLock hlane hp bs).trans (doneIf_both hl hdue), patternBy_setPattern hp (show p.cid = cid from patternBy_cid hp),
      checkerOf_modChecker (fun _ => rfl) hk⟩
  · rw [exec_checkerLock hlane hp]
    refine doneIf_idle (.inr (Bool.eq_false_iff.mpr fun hdue => ?_))
    obtain ⟨hlock, hpred, hin⟩ := (lockDue_iff hk bs).mp hdue
    rcases hno with hno | hno | hno
    · simp [hlock] at hno
    · simp [hpred] at hno
    · exact hin hno
  · have hwf : Instr.wf (.lostLock ⟨cid, lane⟩ n w) = true := decide_eq_true ⟨hlane, hn⟩
    have hdue : lossDue p lane w = true := (lossDue_iff hk w).mpr ⟨hlock, hw, hm⟩
    have hlane' (x : Checker) : (loseLock n x).lane = x.lane := by
      unfold loseLock addCount
      split <;> rfl
    refine ⟨_, _, _, (exec_lostLock hp n w).trans (guarded_acts hwf (Bool.and_eq_true_iff.mpr ⟨hl, hdue⟩)),
      patternBy_setPattern hp (show p.cid = cid from patternBy_cid hp), checkerOf_modChecker hlane' hk, rfl, rfl, ?_, ?_, ?_,
      getLsbD_setBit_self _ (by decide)⟩
    all_goals simp [loseLock, addCount, hlock, sat48]
  · rw [exec_lostLock hp]
    refine guarded_idle (Bool.and_eq_false_iff.mpr (.inr (Bool.eq_false_iff.mpr fun hdue => ?_)))
    obtain ⟨hlock, hw, hm⟩ := (lossDue_iff hk w).mp hdue
    rcases hno with hno | hno | hno
    · simp [hlock] at hno
    · exact hno hw
    · omega
  · exact checkerLock_idle hlane hno bs
  · exact lostLock_idle hno n w
  · subst hsum
    rintro row st (⟨rfl, rfl, he⟩ | ⟨rfl, rfl, he⟩)
    · exact patternEnded hp hc
        ((exec_linkPatternEnd hp ks).trans (doneIf_both hl (patternOver_iff.mpr (hended.mp he))))
    · exact patternEnded hp hc
        ((exec_checkerLockTimeout hp ks).trans (doneIf_both hl (lockLate_iff.mpr (hlate.mp he))))
  · rw [exec_linkPatternEnd hp]
    exact doneIf_idle (.inr (Bool.eq_false_iff.mpr fun hover => hno (hended.mpr (patternOver_iff.mp hover))))
  · rw [exec_checkerLockTimeout hp]
    exact doneIf_idle (.inr (Bool.eq_false_iff.mpr fun hover => hno (hlate.mpr (lockLate_iff.mp hover))))
  · obtain ⟨hpins, hmode⟩ := jtagEff_pins_mode s i
    refine ⟨settle (jtagEff s i), rfl, ?_, fun h => ?_, fun h => ?_, ?_⟩
    · rw [settle_pins, hpins, tapLoaded_tap]
    · rw [settle_mode, hmode, tapLoaded_scan i h, tapExtest_iff]
    · rw [settle_mode, hmode, tapLoaded_porLow i h]
    · rintro rfl
      exact jtagEff_sends s

end Sys2Proof.Machine
end

section
/-! Requests of other devices, responses, timeouts and probes (O58). -/

-- These proofs wait on the same definitions: they are elaborated in order.
set_option Elab.async false

namespace Sys2Proof.Machine

/-! ### Answers (R365, R370) -/

/-- Routing and packet headers are as before, and what had been sent stands before what is sent since. -/
structure RoutesAs (s u : State) : Prop where
  ident : u.ident = s.ident
  config : u.vertex.config = s.vertex.config
  sent : s.sent <+: u.sent

namespace RoutesAs

variable {s u v : State}

theorem refl (s : State) : RoutesAs s s := ⟨rfl, rfl, List.prefix_rfl⟩

theorem trans (h : RoutesAs s u) (k : RoutesAs u v) : RoutesAs s v :=
  ⟨k.ident.trans h.ident, k.config.trans h.config, h.sent.trans k.sent⟩

theorem of {A : Nat} (k : Evolves A s u) (hs : s.sent <+: u.sent) (h1 : A.testBit 1 = false := by decide)
    (h50 : A.testBit 50 = false := by decide) : RoutesAs s u :=
  ⟨k.frame .ident h1, k.frame .vertexRegs h50, hs⟩

theorem routePort (h : RoutesAs s u) (d : Nat) : routePort u d = routePort s d := by
  have hr : u.vertex.routes = s.vertex.routes := congrArg (·.routes) h.config
  have hp : u.vertex.ports = s.vertex.ports := congrArg (·.ports) h.config
  unfold Machine.routePort State.fabPort
  rw [hr, hp, h.ident]

theorem reqHdr (h : RoutesAs s u) (vc d tag : Nat) (b : ReqBody) : reqHdr u vc d tag b = reqHdr s vc d tag b := by
  have hl : u.vertex.hopLimit = s.vertex.hopLimit := congrArg (·.hopLimit) h.config
  have hm : u.vertex.protoMinor = s.vertex.protoMinor := congrArg (·.protoMinor) h.config
  simp only [Machine.reqHdr, hopLimit, hl, hm, h.ident]

/-- What is sent next has been sent when the command ends. -/
theorem sends (h : RoutesAs s u) (x : Sent) {v : State} (hv : (u.emit x).sent <+: v.sent) : Sends s (settle v) x := by
  obtain ⟨l, hl⟩ := h.sent
  obtain ⟨m, hm⟩ := hv
  obtain ⟨rest, hrest, -⟩ := settle_sent v
  exact ⟨l, m ++ rest, by simp [hrest, ← hm, State.emit, ← hl]⟩

theorem answers (h : RoutesAs s u) {v : State} (hdr : FabHdr) (st : Nat) (d : Bytes) (p : Bool)
    (hv : (reply u hdr st d p).sent <+: v.sent) : Answers s (settle v) hdr st d p := by
  intro hr
  obtain ⟨port, hp⟩ := Option.isSome_iff_exists.mp hr
  unfold reply at hv
  rw [h.routePort, hp, h.reqHdr] at hv
  exact h.sends _ hv

theorem replied (h : RoutesAs s u) (hdr : FabHdr) (st : Nat) (d : Bytes) (p : Bool) :
    Answers s (settle (reply u hdr st d p)) hdr st d p := h.answers hdr st d p List.prefix_rfl

theorem noteMinor (s : State) (h : FabHdr) : RoutesAs s (noteMinor s h) := ⟨rfl, rfl, List.prefix_rfl⟩

end RoutesAs

section
variable {s u : State} {h : FabHdr} {d : Bytes}

/-- A request that is addressed to this device acts. -/
theorem forMe_acts (hl : s.live = true) (hd : h.dest = s.ident.number.toNat) :
    doneIf (s.live && forMe s h) s u = .next (settle u) := doneIf_both hl (by simp [forMe, hd])

theorem forMe_idle (hn : s.live = false ∨ h.dest ≠ s.ident.number.toNat) :
    doneIf (s.live && forMe s h) s u = .next (settle s) := doneIf_idle (hn.imp_right fun hd => by simp [forMe, hd])

/-- A request that changes nothing but is answered. -/
theorem replied_noted (h : FabHdr) (st : Nat) (d : Bytes) (p : Bool) :
    Answers s (settle (reply (noteMinor s h) h st d p)) h st d p := (RoutesAs.noteMinor s h).replied _ _ _ _

theorem reply_mem (s : State) (h : FabHdr) (st : Nat) (d : Bytes) (p : Bool) : (reply s h st d p).mem = s.mem :=
  (reply_ev ..).frame .mem (by decide)

theorem reply_hostMem (s : State) (h : FabHdr) (st : Nat) (d : Bytes) (p : Bool) :
    (reply s h st d p).hostMem = s.hostMem := (reply_ev ..).frame .hostMem (by decide)

theorem reply_vertex (s : State) (h : FabHdr) (st : Nat) (d : Bytes) (p : Bool) :
    (reply s h st d p).vertex = s.vertex := (reply_ev ..).frame .vertex (by decide)

/-! ### READ and WRITE (R371, R372) -/

theorem localReadEff_sent (s : State) (a n : Nat) : s.sent <+: (localReadEff s a n).sent := by
  unfold localReadEff
  split
  · split
    · rw [(lpReadEff_ev ..).frame .sent (by decide)]
    · exact List.prefix_rfl
  · unfold hostReadEff
    dsimp only
    split <;> exact List.prefix_append ..
  · exact List.prefix_rfl
  · exact List.prefix_rfl

theorem localReadEff_routes (s : State) (a n : Nat) : RoutesAs s (localReadEff s a n) :=
  .of (localReadEff_ev ..) (localReadEff_sent ..)

theorem localWrite_sent (s : State) (a : Nat) (b : Bytes) (p : Bool) : s.sent <+: (localWrite s a b p).1.sent := by
  unfold localWrite
  split
  · split
    · rw [(lpWrite_ev ..).frame .sent (by decide)]
    · exact List.prefix_rfl
  · split
    · exact List.prefix_rfl
    · exact List.prefix_append ..
  · exact List.prefix_rfl
  · exact List.prefix_rfl

theorem localWrite_routes (s : State) (a : Nat) (b : Bytes) (p : Bool) : RoutesAs s (localWrite s a b p).1 :=
  .of (localWrite_ev ..) (localWrite_sent ..)

theorem SameMemory.noteMinor (s : State) (h : FabHdr) : SameMemory s (noteMinor s h) := ⟨rfl, rfl, rfl, rfl, rfl, rfl, rfl⟩

theorem read_answers (hl : s.live = true) (hd : h.dest = s.ident.number.toNat) :
    ∃ t, exec (.read h) s = .next t ∧ t.mem = s.mem ∧
      if blockOk4k h = true ∧ (windowFor s h h.length fun _ => true).isSome = true then
        Answers s t h 0 (localRead s (h.address % 2 ^ 42) h.length).1 (localRead s (h.address % 2 ^ 42) h.length).2
      else Answers s t h 1 [] false := by
  have hw : windowFor (noteMinor s h) h h.length (fun _ => true) = windowFor s h h.length fun _ => true := rfl
  refine ⟨_, forMe_acts hl hd, ?_⟩
  unfold readEff
  rw [hw]
  cases hb : blockOk4k h with
  | false => exact ⟨reply_mem .., by rw [if_neg (by simp)]; exact replied_noted _ _ _ _⟩
  | true =>
    cases windowFor s h h.length fun _ => true with
    | none => exact ⟨reply_mem .., by rw [if_neg (by simp)]; exact replied_noted _ _ _ _⟩
    | some w =>
      refine ⟨(reply_mem ..).trans ((localReadEff_ev ..).frame .mem (by decide)), ?_⟩
      rw [if_pos ⟨rfl, rfl⟩]
      exact ((RoutesAs.noteMinor s h).trans (localReadEff_routes ..)).replied _ _ _ _

theorem staleDrop_routes (s : State) (k : Nat) : RoutesAs s (staleDrop s k) := by
  have hs : (staleDrop s k).sent = s.sent := (staleDrop_ev ..).frame .sent (by decide)
  exact .of (staleDrop_ev ..) (hs ▸ List.prefix_rfl)

theorem jobWindow_none (s : State) (h : FabHdr) (n : Nat) (allows : Nat × Window → Bool) :
    jobWindow s h n allows = none ↔ addrDevice h.address ≠ s.ident.number.toNat ∨
      ∀ w ∈ s.vertex.windows, w.2.readable h.source = false ∨ w.2.writable = false ∨ allows w = false ∨
        h.address % 2 ^ 42 < w.2.base ∨ w.2.base + w.2.bytes < h.address % 2 ^ 42 + n := by
  unfold jobWindow windowFor
  by_cases hd : addrDevice h.address ≠ s.ident.number.toNat
  · simp [hd]
  · rw [if_neg hd, List.find?_eq_none]
    simp only [hd, false_or]
    refine forall₂_congr fun w _ => ?_
    cases w.2.readable h.source <;> cases w.2.writable <;> cases allows w <;> simp
    omega

theorem writeCurrent_iff (s : State) (h : FabHdr) (w : Nat × Window) : writeCurrent s h w = true ↔
    h.sink = false ∨ regFind s (w.1, h.sinkId) = some (BitVec.ofNat 16 h.generation) := by
  simp [writeCurrent]

/-- Where no job window takes the bytes, none takes them for a reason of its own. -/
theorem jobWindow_none_of {allows : Nat × Window → Bool} {n : Nat} (hn : jobWindow s h n (fun _ => true) = none) :
    jobWindow s h n allows = none := by
  rw [jobWindow_none] at hn ⊢
  refine hn.imp_right fun hw w hm => ?_
  rcases hw w hm with h1 | h1 | h1 | h1
  · exact .inl h1
  · exact .inr (.inl h1)
  · exact nomatch h1
  · exact .inr (.inr (.inr h1))

theorem writeEff_refused (hb : blockOk4k h = false ∨ d.length ≠ h.length ∨
    jobWindow s h h.length (fun _ => true) = none) : writeEff s h d = reply s h 1 [] false := by
  unfold writeEff
  split
  · rfl
  · next hform =>
    have hnone : jobWindow s h h.length (fun _ => true) = none := by simp_all
    rw [jobWindow_none_of hnone, hnone]
    rfl

theorem writeEff_formed (hb : blockOk4k h = true) (hn : d.length = h.length) : writeEff s h d =
    match jobWindow s h h.length (writeCurrent s h), jobWindow s h h.length fun _ => true with
    | some _, _ => reply (localWrite s (h.address % 2 ^ 42) d h.poison).1 h
        (if (localWrite s (h.address % 2 ^ 42) d h.poison).2 then 0 else 5) [] false
    | none, some w => staleWrite s h w.2
    | none, none => reply s h 1 [] false :=
  if_neg (by simp [hb, hn])

theorem write_refused (hl : s.live = true) (hd : h.dest = s.ident.number.toNat)
    (hb : blockOk4k h = false ∨ d.length ≠ h.length ∨ jobWindow s h h.length (fun _ => true) = none) :
    ∃ t, exec (.write h d) s = .next t ∧ t.mem = s.mem ∧ t.hostMem = s.hostMem ∧ Answers s t h 1 [] false := by
  refine ⟨_, forMe_acts hl hd, ?_⟩
  rw [writeEff_refused (s := noteMinor s h) hb]
  exact ⟨reply_mem .., reply_hostMem .., replied_noted _ _ _ _⟩

theorem write_taken (hl : s.live = true) (hd : h.dest = s.ident.number.toNat) (hb : blockOk4k h = true)
    (hn : d.length = h.length) (hw : jobWindow s h h.length (writeCurrent s h) ≠ none) :
    ∃ t, exec (.write h d) s = .next t ∧ t.mem = (localWrite s (h.address % 2 ^ 42) d h.poison).1.mem ∧
      t.hostMem = (localWrite s (h.address % 2 ^ 42) d h.poison).1.hostMem ∧
      Answers s t h (if (localWrite s (h.address % 2 ^ 42) d h.poison).2 then 0 else 5) [] false := by
  obtain ⟨w, hw⟩ := Option.ne_none_iff_exists'.mp hw
  have hw' : jobWindow (noteMinor s h) h h.length (writeCurrent (noteMinor s h) h) = some w := hw
  obtain ⟨hsame, hok⟩ := (SameMemory.noteMinor s h).localWrite (h.address % 2 ^ 42) d h.poison
  refine ⟨_, forMe_acts hl hd, ?_⟩
  rw [writeEff_formed hb hn, hw', ← hok]
  exact ⟨(reply_mem ..).trans hsame.mem, (reply_hostMem ..).trans hsame.hostMem,
    ((RoutesAs.noteMinor s h).trans (localWrite_routes ..)).replied _ _ _ _⟩

theorem write_stale (hl : s.live = true) (hd : h.dest = s.ident.number.toNat) (hb : blockOk4k h = true)
    (hn : d.length = h.length) (hc : jobWindow s h h.length (writeCurrent s h) = none)
    (hw : jobWindow s h h.length (fun _ => true) ≠ none) :
    ∃ t, exec (.write h d) s = .next t ∧ t.mem = s.mem ∧ t.hostMem = s.hostMem ∧
      t.vertex.staleDrops = addWrap s.vertex.staleDrops 1 ∧ t.vertex.cause.getLsbD 6 = true ∧
      Answers s t h 4 [] false := by
  obtain ⟨w, hw⟩ := Option.ne_none_iff_exists'.mp hw
  have hc' : jobWindow (noteMinor s h) h h.length (writeCurrent (noteMinor s h) h) = none := hc
  have hw' : jobWindow (noteMinor s h) h h.length (fun _ => true) = some w := hw
  refine ⟨_, forMe_acts hl hd, ?_⟩
  rw [writeEff_formed hb hn, hc', hw']
  have hdrop := staleDrop_ev (({ noteMinor s h with vertex := { (noteMinor s h).vertex with
    staleDrops := addWrap s.vertex.staleDrops 1 } }).setVertexCause 6) w.2.owner
  have hvertex := (reply_vertex _ h 4 [] false).trans (hdrop.frame .vertex (by decide))
  refine ⟨(reply_mem ..).trans (hdrop.frame .mem (by decide)), (reply_hostMem ..).trans (hdrop.frame .hostMem (by decide)),
    congrArg (·.staleDrops) hvertex, (congrArg (·.cause.getLsbD 6) hvertex).trans (getLsbD_setBit_self _ (by decide)), ?_⟩
  refine RoutesAs.replied (RoutesAs.trans ?_ (staleDrop_routes ..)) _ _ _ _
  exact ⟨rfl, rfl, List.prefix_rfl⟩

/-! ### Registrations (R372) -/

theorem regFind_append {key : Nat × Nat} {g : BitVec 16} (hn : regFind s key = none) :
    regFind { s with vertex := { s.vertex with regs := s.vertex.regs ++ [(key, g)] } } key = some g := by
  simp only [regFind, Option.map_eq_none_iff] at hn
  simp [regFind, List.find?_append, hn]

theorem regFind_replaced {key : Nat × Nat} {g old : BitVec 16} (ho : regFind s key = some old) :
    regFind { s with vertex := { s.vertex with regs := s.vertex.regs.map fun q => if q.1 = key then (key, g) else q } }
      key = some g := by
  obtain ⟨q, hq, rfl⟩ := Option.map_eq_some_iff.mp ho
  have hkey : q.1 = key := by simpa using List.find?_some hq
  have hp : ((fun q : (Nat × Nat) × BitVec 16 => q.1 == key) ∘ fun q => if q.1 = key then (key, g) else q) =
      fun q => q.1 == key := by
    funext q
    by_cases hq : q.1 = key <;> simp [hq]
  rw [regFind, List.find?_map, hp, hq]
  simp [hkey]

/-- A registration puts a new generation, keeps a newer one, or finds no room. -/
theorem regPut_new {key : Nat × Nat} (g : BitVec 16) (hn : regFind s key = none) (hl : s.vertex.regs.length < 65536) :
    (regPut s key g).2 = true ∧ regFind (regPut s key g).1 key = some g := by
  unfold regPut
  rw [hn]
  dsimp only
  rw [if_pos hl]
  exact ⟨rfl, regFind_append hn⟩

theorem regPut_known {key : Nat × Nat} (g : BitVec 16) {old : BitVec 16} (ho : regFind s key = some old) :
    (regPut s key g).2 = true ∧ regFind (regPut s key g).1 key = some (if newer g old then g else old) := by
  unfold regPut
  rw [ho]
  dsimp only
  split
  · exact ⟨rfl, regFind_replaced ho⟩
  · exact ⟨rfl, ho⟩

theorem regPut_full {key : Nat × Nat} (g : BitVec 16) (hn : regFind s key = none) (hl : 65536 ≤ s.vertex.regs.length) :
    regPut s key g = (s.setVertexCause 9, false) := by
  unfold regPut
  rw [hn]
  exact if_neg (Nat.not_lt.2 hl)

theorem regPut_routes (s : State) (key : Nat × Nat) (g : BitVec 16) : RoutesAs s (regPut s key g).1 := by
  have hs : (regPut s key g).1.sent = s.sent := (regPut_ev ..).frame .sent (by decide)
  exact .of (regPut_ev ..) (hs ▸ List.prefix_rfl)

theorem registerEff_window {w : Nat × Window} (hw : jobWindow s h 1 (fun _ => true) = some w) : registerEff s h =
    reply (regPut s (w.1, h.sinkId) (BitVec.ofNat 16 h.generation)).1 h
      (if (regPut s (w.1, h.sinkId) (BitVec.ofNat 16 h.generation)).2 then 0 else 6) [] false := by
  unfold registerEff
  rw [hw]
  rfl

/-- A REGISTER that finds its window: what the registration table then holds, and the answer. -/
theorem register_put {w : Nat × Window} (hl : s.live = true) (hd : h.dest = s.ident.number.toNat)
    (hw : jobWindow s h 1 (fun _ => true) = some w) :
    ∃ t, exec (.register h) s = .next t ∧
      t.vertex = (regPut (noteMinor s h) (w.1, h.sinkId) (BitVec.ofNat 16 h.generation)).1.vertex ∧
      Answers s t h (if (regPut (noteMinor s h) (w.1, h.sinkId) (BitVec.ofNat 16 h.generation)).2 then 0 else 6)
        [] false := by
  refine ⟨_, forMe_acts hl hd, ?_⟩
  rw [registerEff_window (s := noteMinor s h) hw]
  exact ⟨reply_vertex .., ((RoutesAs.noteMinor s h).trans (regPut_routes ..)).replied _ _ _ _⟩

theorem register_stored {w : Nat × Window} {g : BitVec 16} (hl : s.live = true) (hd : h.dest = s.ident.number.toNat)
    (hw : jobWindow s h 1 (fun _ => true) = some w)
    (hp : (regPut (noteMinor s h) (w.1, h.sinkId) (BitVec.ofNat 16 h.generation)).2 = true ∧
      regFind (regPut (noteMinor s h) (w.1, h.sinkId) (BitVec.ofNat 16 h.generation)).1 (w.1, h.sinkId) = some g) :
    ∃ t, exec (.register h) s = .next t ∧ regFind t (w.1, h.sinkId) = some g ∧ Answers s t h 0 [] false := by
  obtain ⟨t, hex, hv, ha⟩ := register_put hl hd hw
  rw [if_pos hp.1] at ha
  exact ⟨t, hex, by rw [← hp.2, regFind, regFind, hv], ha⟩

theorem register_full {w : Nat × Window} (hl : s.live = true) (hd : h.dest = s.ident.number.toNat)
    (hw : jobWindow s h 1 (fun _ => true) = some w) (hn : regFind s (w.1, h.sinkId) = none)
    (hfull : 65536 ≤ s.vertex.regs.length) :
    ∃ t, exec (.register h) s = .next t ∧ t.vertex.regs = s.vertex.regs ∧ t.vertex.cause.getLsbD 9 = true ∧
      Answers s t h 6 [] false := by
  obtain ⟨t, hex, hv, ha⟩ := register_put hl hd hw
  rw [regPut_full (s := noteMinor s h) _ hn hfull] at hv ha
  exact ⟨t, hex, congrArg (·.regs) hv, (congrArg (·.cause.getLsbD 9) hv).trans (getLsbD_setBit_self _ (by decide)), ha⟩

theorem registration_refused (hl : s.live = true) (hd : h.dest = s.ident.number.toNat)
    (hn : jobWindow s h 1 (fun _ => true) = none) :
    (∃ t, exec (.register h) s = .next t ∧ t.vertex.regs = s.vertex.regs ∧ Answers s t h 1 [] false) ∧
      ∃ t, exec (.deregister h) s = .next t ∧ t.vertex.regs = s.vertex.regs ∧ Answers s t h 1 [] false := by
  have hn' : jobWindow (noteMinor s h) h 1 (fun _ => true) = none := hn
  have hr : registerEff (noteMinor s h) h = reply (noteMinor s h) h 1 [] false := by
    unfold registerEff
    rw [hn']
    rfl
  have hdr : deregisterEff (noteMinor s h) h = reply (noteMinor s h) h 1 [] false := by
    unfold deregisterEff
    rw [hn']
    rfl
  refine ⟨⟨_, forMe_acts hl hd, ?_⟩, _, forMe_acts hl hd, ?_⟩
  · rw [hr]
    exact ⟨congrArg (·.regs) (reply_vertex ..), replied_noted _ _ _ _⟩
  · rw [hdr]
    exact ⟨congrArg (·.regs) (reply_vertex ..), replied_noted _ _ _ _⟩

theorem deregister_drops {w : Nat × Window} (hl : s.live = true) (hd : h.dest = s.ident.number.toNat)
    (hw : jobWindow s h 1 (fun _ => true) = some w) :
    ∃ t, exec (.deregister h) s = .next t ∧ Answers s t h 0 [] false ∧
      ∀ x, x ∈ t.vertex.regs ↔ x ∈ s.vertex.regs ∧ x ≠ ((w.1, h.sinkId), BitVec.ofNat 16 h.generation) := by
  have hw' : jobWindow (noteMinor s h) h 1 (fun _ => true) = some w := hw
  have he : deregisterEff (noteMinor s h) h =
      reply (regDrop (noteMinor s h) (w.1, h.sinkId) (BitVec.ofNat 16 h.generation)) h 0 [] false := by
    unfold deregisterEff
    rw [hw']
    rfl
  have hroutes : RoutesAs s (regDrop (noteMinor s h) (w.1, h.sinkId) (BitVec.ofNat 16 h.generation)) :=
    ⟨rfl, rfl, List.prefix_rfl⟩
  refine ⟨_, forMe_acts hl hd, ?_⟩
  rw [he]
  refine ⟨hroutes.replied _ _ _ _, fun x => ?_⟩
  change x ∈ (reply _ _ _ _ _).vertex.regs ↔ _
  rw [reply_vertex, regDrop, List.mem_filter]
  refine and_congr_right' ?_
  obtain ⟨k, g⟩ := x
  simp [imp_iff_not_or]

/-! ### FETCH_OBJECT and PROBE (R308, R371) -/

theorem fetch_refused {id : Bytes} (hl : s.live = true) (hd : h.dest = s.ident.number.toNat)
    (hb : h.address % 2 ^ 20 ≠ 0 ∨ h.length = 0 ∨ 2 ^ 20 < h.length) :
    ∃ t, exec (.fetchObject h id) s = .next t ∧ Answers s t h 1 [] false := by
  have he : fetchEff (noteMinor s h) h id = reply (noteMinor s h) h 1 [] false := if_pos (by simpa [or_assoc] using hb)
  refine ⟨_, forMe_acts hl hd, ?_⟩
  rw [he]
  exact replied_noted _ _ _ _

theorem fetchEff_formed {id : Bytes} (h1 : h.address % 2 ^ 20 = 0) (h2 : h.length ≠ 0) (h3 : h.length ≤ 2 ^ 20) :
    fetchEff s h id = match findObject s h.source id with
      | none => reply s h 2 [] false
      | some (a, n) => reply (localReadEff s (a + h.address) (min h.length (n - h.address))) h 0
          (localRead s (a + h.address) (min h.length (n - h.address))).1
          (localRead s (a + h.address) (min h.length (n - h.address))).2 :=
  if_neg (by simp [h2]; omega)

theorem fetch_absent {id : Bytes} (hl : s.live = true) (hd : h.dest = s.ident.number.toNat)
    (h1 : h.address % 2 ^ 20 = 0) (h2 : h.length ≠ 0) (h3 : h.length ≤ 2 ^ 20) (hn : findObject s h.source id = none) :
    ∃ t, exec (.fetchObject h id) s = .next t ∧ Answers s t h 2 [] false := by
  have hn' : findObject (noteMinor s h) h.source id = none := hn
  refine ⟨_, forMe_acts hl hd, ?_⟩
  rw [fetchEff_formed h1 h2 h3, hn']
  exact replied_noted _ _ _ _

theorem fetch_found {id : Bytes} {a n : Nat} (hl : s.live = true) (hd : h.dest = s.ident.number.toNat)
    (h1 : h.address % 2 ^ 20 = 0) (h2 : h.length ≠ 0) (h3 : h.length ≤ 2 ^ 20)
    (hn : findObject s h.source id = some (a, n)) :
    ∃ t b, exec (.fetchObject h id) s = .next t ∧
      b = localRead s (a + h.address) (min h.length (n - h.address)) ∧ Answers s t h 0 b.1 b.2 := by
  have hn' : findObject (noteMinor s h) h.source id = some (a, n) := hn
  refine ⟨_, _, forMe_acts hl hd, rfl, ?_⟩
  rw [fetchEff_formed h1 h2 h3, hn']
  exact ((RoutesAs.noteMinor s h).trans (localReadEff_routes ..)).replied _ _ _ _

theorem probe_answered (hl : s.live = true) (hd : h.dest = s.ident.number.toNat) (h0 : h.address = 0) :
    ∃ t, exec (.probe h) s = .next t ∧ Answers s t h 0 [] false := by
  have he : probeEff (noteMinor s h) h = reply (noteMinor s h) h 0 [] false := if_pos h0
  refine ⟨_, forMe_acts hl hd, ?_⟩
  rw [he]
  exact replied_noted _ _ _ _

theorem windowInfo_none {x w : Nat} (hn : s.vertex.windows.find? (fun q => q.1 == w) = none) :
    windowInfo s x w = .error 2 := by
  unfold windowInfo
  rw [hn]
  rfl

theorem windowInfo_some {x w : Nat} {q : Nat × Window} (hq : s.vertex.windows.find? (fun q => q.1 == w) = some q) :
    windowInfo s x w = if q.2.readable x then .ok (s.ident.number.toNat * 2 ^ 42 + q.2.base, q.2.writable)
      else .error 1 := by
  unfold windowInfo
  rw [hq]
  rfl

theorem probe_refused {st : Nat} (hl : s.live = true) (hd : h.dest = s.ident.number.toNat) (h0 : h.address ≠ 0)
    (hi : windowInfo s h.source (h.address - 1) = .error st) :
    ∃ t, exec (.probe h) s = .next t ∧ Answers s t h st [] false := by
  have hi' : windowInfo (noteMinor s h) h.source (h.address - 1) = .error st := hi
  have he : probeEff (noteMinor s h) h = reply (noteMinor s h) h st [] false := by
    unfold probeEff
    rw [if_neg h0, hi']
  refine ⟨_, forMe_acts hl hd, ?_⟩
  rw [he]
  exact replied_noted _ _ _ _

theorem probe_window {a : Nat} {wr : Bool} (hl : s.live = true) (hd : h.dest = s.ident.number.toNat)
    (h0 : h.address ≠ 0) (hi : windowInfo s h.source (h.address - 1) = .ok (a, wr))
    (hr : (routePort s h.source).isSome = true) :
    ∃ t, exec (.probe h) s = .next t ∧ Sends s t (.fabric 8
      { reqHdr s h.vc h.source h.tag { address := a, sink := wr } with status := 0 } []) := by
  obtain ⟨p, hp⟩ := Option.isSome_iff_exists.mp hr
  have hi' : windowInfo (noteMinor s h) h.source (h.address - 1) = .ok (a, wr) := hi
  have hp' : routePort (noteMinor s h) h.source = some p := hp
  have he : probeEff (noteMinor s h) h = (noteMinor s h).emit (.fabric 8
      { reqHdr s h.vc h.source h.tag { address := a, sink := wr } with status := 0 } []) := by
    unfold probeEff
    rw [if_neg h0, hi']
    dsimp only
    rw [hp']
    rfl
  refine ⟨_, forMe_acts hl hd, ?_⟩
  rw [he]
  exact (RoutesAs.noteMinor s h).sends _ List.prefix_rfl

end

end Sys2Proof.Machine
end

section
/-! A MESSAGE to the inbox of a stream (O58). -/

-- These proofs wait on the same definitions: they are elaborated in order.
set_option Elab.async false

namespace Sys2Proof.Machine

section
variable {s u : State} {h : FabHdr} {d : Bytes} {i : Nat}

/-! ### MESSAGE (R181, R371) -/

/-- The context is in the inbox of its stream. -/
def inboxed (s : State) (i : Nat) (h : FabHdr) (d : Bytes) : State :=
  { noteMinor s h with vertex := { (noteMinor s h).vertex with
    inbox := s.vertex.inbox ++ [(s.streamHandle i, d, h.source, h.tag)] } }

theorem reply_sent (s : State) (h : FabHdr) (st : Nat) (d : Bytes) (p : Bool) :
    ∃ l, reply s h st d p = { s with sent := l } := by
  unfold reply
  split
  · exact ⟨_, rfl⟩
  · exact ⟨_, rfl⟩

theorem messageEff_none (hn : messageStream s h = none) : messageEff s h d = reply s h 2 [] false := by
  unfold messageEff
  rw [hn]
  rfl

/-- What a MESSAGE to a stream meets, in the order of its checks. -/
theorem messageEff_some (hi : messageStream s h = some i) : messageEff (noteMinor s h) h d =
    if h.length = 0 || d.length ≠ h.length || 2 ^ 32 ≤ h.length then reply (noteMinor s h) h 1 [] false
    else if h.poison then reply (noteMinor s h) h 5 [] false
    else if !inboxRoom s i d.length then reply (noteMinor s h) h 3 [] false
    else inboxTake (reply (inboxed s i h d) h 0 [] false) i := by
  have hi' : messageStream (noteMinor s h) h = some i := hi
  unfold messageEff
  rw [hi']
  rfl

theorem streamHandle_inboxed (l : List Sent) :
    { inboxed s i h d with sent := l }.streamHandle i = s.streamHandle i := by
  unfold State.streamHandle State.stream State.streamGenOf
  rfl

/-- The first context of a stream's inbox is the one that has just come. -/
theorem inboxOf_inboxed (hroom : inboxRoom s i d.length = true) (l : List Sent) :
    inboxOf { inboxed s i h d with sent := l } i = some (s.streamHandle i, d, h.source, h.tag) := by
  have hempty : inboxOf s i = none := by
    rw [inboxRoom, Bool.and_eq_true] at hroom
    exact Option.isNone_iff_eq_none.mp hroom.1
  have hinbox : { inboxed s i h d with sent := l }.vertex.inbox =
      s.vertex.inbox ++ [(s.streamHandle i, d, h.source, h.tag)] := rfl
  unfold inboxOf at hempty ⊢
  rw [streamHandle_inboxed, hinbox, List.find?_append, hempty]
  generalize s.streamHandle i = n
  simp

theorem inboxEnd_sent (s : State) (i st : Nat) : s.sent <+: (inboxEnd s i st).sent := by
  unfold inboxEnd
  split
  · exact List.prefix_rfl
  · unfold sendAck
    dsimp only
    split <;> exact List.prefix_append ..

theorem stream_inboxEnd (s : State) (i st j : Nat) : (inboxEnd s i st).stream j = s.stream j :=
  congrArg (tabGet ({} : Stream) · j) ((inboxEnd_ev ..).frame .streams (by decide))

/-- The stream declines a context that it has taken, does not await, or that fails its first check. -/
theorem inboxTake_declined {b : Bytes} {src tag n : Nat} (hq : inboxOf s i = some (n, b, src, tag))
    (hc : (s.stream i).restoredFrom = some (ctxHead b).gen ∨ (s.stream i).awaitContext = false ∨ ctxCheck1 b = false) :
    ∃ st, inboxTake s i = inboxEnd s i st := by
  unfold inboxTake
  rw [hq]
  dsimp only
  split
  · exact ⟨_, rfl⟩
  · next hgen =>
    split
    · exact ⟨_, rfl⟩
    · next hwait =>
      have h1 : ctxCheck1 b = false := by
        rcases hc with h1 | h1 | h1
        · exact absurd (beq_iff_eq.mpr h1) hgen
        · exact absurd h1 (by simpa using hwait)
        · exact h1
      have hr : tryRestore s i b true (s.stream i).sourceKey = .failed 1 stInvalidParameter := if_pos (by rw [h1]; rfl)
      rw [hr]
      exact ⟨_, rfl⟩

/-- A stream that takes a context holds what `restoreStream` leaves. -/
def restoredBy (s : State) (i : Nat) (b : Bytes) (cs : List Carried) : State :=
  (s.modStream i fun t => restoreStream t (ctxHead b) (continued s (voiceOf s (s.stream i).voice) b cs).1
    (continued s (voiceOf s (s.stream i).voice) b cs).2.1 (restoredSeats s i)).used
      (continued s (voiceOf s (s.stream i).voice) b cs).2.2

theorem stream_restoredBy (s : State) (i : Nat) (b : Bytes) (cs : List Carried) : (restoredBy s i b cs).stream i =
    restoreStream (s.stream i) (ctxHead b) (continued s (voiceOf s (s.stream i).voice) b cs).1
      (continued s (voiceOf s (s.stream i).voice) b cs).2.1 (restoredSeats s i) :=
  State.stream_modStream s i fun t => restoreStream t (ctxHead b) (continued s (voiceOf s (s.stream i).voice) b cs).1
    (continued s (voiceOf s (s.stream i).voice) b cs).2.1 (restoredSeats s i)

theorem restoredBy_sent {b : Bytes} {cs : List Carried} : (restoredBy s i b cs).sent = s.sent := rfl

theorem tryRestore_restores {b key : Bytes} {x : Bool} {cs : List Carried} (hr : Restores s i b x key cs) :
    tryRestore s i b x key = .ok (restoredBy s i b cs) := by
  obtain ⟨h1, h2, h3, h4, h5, h6⟩ := hr
  have hroom (n : Nat) : roomState n s (s.stream i).part (s.stream i).voice
      (if (s.stream i).resid.onFacets then 0 else voiceStateBytes (voiceOf s (s.stream i).voice)) = some s := by
    cases n <;> exact if_pos h6
  unfold tryRestore
  dsimp only
  rw [if_neg (by simp [h1]), if_neg (by simp [h2]), if_neg (by simp [h3]),
    if_neg (by cases x <;> simp_all), h5]
  dsimp only
  rw [hroom]
  unfold restoredBy restoredSeats
  dsimp only
  cases (s.stream i).resid.onFacets <;> rfl

/-- A stream without a sink goes on with the context and acknowledges it. -/
theorem inboxTake_restores {b : Bytes} {src tag n : Nat} {cs : List Carried} (hq : inboxOf s i = some (n, b, src, tag))
    (hg : (s.stream i).restoredFrom ≠ some (ctxHead b).gen) (hw : (s.stream i).awaitContext = true)
    (hr : Restores s i b true (s.stream i).sourceKey cs) (hsink : (s.stream i).sink = none) :
    inboxTake s i = inboxEnd (restoredBy s i b cs) i stOk := by
  have hnone : remoteSink s i = none := by
    unfold remoteSink
    rw [hsink]
  have hput : registerSink (restoredBy s i b cs) s.nextCid i = some (restoredBy s i b cs, false) := by
    have : ((restoredBy s i b cs).stream i).sink = none := by
      rw [stream_restoredBy]
      exact hsink
    unfold registerSink
    dsimp only
    rw [this]
  unfold inboxTake
  rw [hq]
  dsimp only
  rw [if_neg (by simpa using hg), if_neg (by simp [hw]), tryRestore_restores hr]
  dsimp only
  rw [hnone]
  dsimp only
  rw [hput]

theorem inboxed_sent (l : List Sent) :
    { inboxed s i h d with sent := l } = { s with vertex := (inboxed s i h d).vertex, sent := l } := rfl

/-- A restore reads nothing of the vertex but the captures, and nothing of what was sent. -/
theorem restores_vertex {v : Vertex} {l : List Sent} {b key : Bytes} {x : Bool} {cs : List Carried}
    (hr : Restores s i b x key cs) : Restores { s with vertex := v, sent := l } i b x key cs := hr

theorem continued_vertex {v : Vertex} (hv : v.captures = s.vertex.captures) (l : List Sent) (x : Voice) (b : Bytes)
    (cs : List Carried) : continued { s with vertex := v, sent := l } x b cs = continued s x b cs := by
  unfold continued
  rw [← hv]

theorem stream_restoredBy_vertex {v : Vertex} (hv : v.captures = s.vertex.captures) (l : List Sent) (b : Bytes)
    (cs : List Carried) : (restoredBy { s with vertex := v, sent := l } i b cs).stream i =
    restoreStream (s.stream i) (ctxHead b) (continued s (voiceOf s (s.stream i).voice) b cs).1
      (continued s (voiceOf s (s.stream i).voice) b cs).2.1 (restoredSeats s i) := by
  have hstream := stream_restoredBy { s with vertex := v, sent := l } i b cs
  rw [continued_vertex hv] at hstream
  exact hstream

theorem inboxed_routes (s : State) (i : Nat) (h : FabHdr) (d : Bytes) : RoutesAs s (inboxed s i h d) :=
  ⟨rfl, rfl, List.prefix_rfl⟩

/-- The turns of a MESSAGE that its stream does not take. -/
theorem message_turned {st : Nat} (hl : s.live = true) (hd : h.dest = s.ident.number.toNat)
    (he : messageEff (noteMinor s h) h d = reply (noteMinor s h) h st [] false) :
    ∃ t, exec (.message h d) s = .next t ∧ t.streams = s.streams ∧ Answers s t h st [] false := by
  refine ⟨_, forMe_acts hl hd, ?_⟩
  rw [he]
  exact ⟨(reply_ev ..).frame .streams (by decide), replied_noted _ _ _ _⟩

theorem messageEff_inboxed (hi : messageStream s h = some i) (h0 : h.length ≠ 0) (hn : d.length = h.length)
    (hb : h.length < 2 ^ 32) (hp : h.poison = false) (hroom : inboxRoom s i d.length = true) :
    messageEff (noteMinor s h) h d = inboxTake (reply (inboxed s i h d) h 0 [] false) i := by
  rw [messageEff_some hi, if_neg (by simp [h0, hn]; omega), if_neg (by simp [hp]), if_neg (by simp [hroom])]

theorem message_declined (hl : s.live = true) (hd : h.dest = s.ident.number.toNat) (hroom : inboxRoom s i d.length = true)
    (he : messageEff (noteMinor s h) h d = inboxTake (reply (inboxed s i h d) h 0 [] false) i)
    (hc : (s.stream i).restoredFrom = some (ctxHead d).gen ∨ (s.stream i).awaitContext = false ∨ ctxCheck1 d = false) :
    ∃ t, exec (.message h d) s = .next t ∧ t.streams = s.streams ∧ Answers s t h 0 [] false := by
  obtain ⟨l, hl'⟩ := reply_sent (inboxed s i h d) h 0 [] false
  obtain ⟨st, hst⟩ := inboxTake_declined (inboxOf_inboxed (h := h) hroom l) hc
  have hend : inboxTake (reply (inboxed s i h d) h 0 [] false) i =
      inboxEnd (reply (inboxed s i h d) h 0 [] false) i st := hl' ▸ hst
  refine ⟨_, forMe_acts hl hd, ?_⟩
  rw [he, hend]
  exact ⟨((inboxEnd_ev ..).frame .streams (by decide)).trans ((reply_ev ..).frame .streams (by decide)),
    (inboxed_routes s i h d).answers _ _ _ _ (inboxEnd_sent ..)⟩

theorem message_restored {cs : List Carried} (hl : s.live = true) (hd : h.dest = s.ident.number.toNat)
    (hroom : inboxRoom s i d.length = true)
    (he : messageEff (noteMinor s h) h d = inboxTake (reply (inboxed s i h d) h 0 [] false) i)
    (hw : (s.stream i).awaitContext = true) (hg : (s.stream i).restoredFrom ≠ some (ctxHead d).gen)
    (hr : Restores s i d true (s.stream i).sourceKey cs) (hsink : (s.stream i).sink = none) :
    ∃ t, exec (.message h d) s = .next t ∧
      t.stream i = restoreStream (s.stream i) (ctxHead d) (continued s (voiceOf s (s.stream i).voice) d cs).1
        (continued s (voiceOf s (s.stream i).voice) d cs).2.1 (restoredSeats s i) ∧
      Answers s t h 0 [] false := by
  obtain ⟨l, hl'⟩ := reply_sent (inboxed s i h d) h 0 [] false
  have hvertex : reply (inboxed s i h d) h 0 [] false = { s with vertex := (inboxed s i h d).vertex, sent := l } :=
    hl'.trans (inboxed_sent l)
  have hq := inboxOf_inboxed (h := h) hroom l
  have hroutes := inboxed_routes s i h d
  have hsent : (inboxed s i h d).vertex.captures = s.vertex.captures := rfl
  refine ⟨_, forMe_acts hl hd, ?_⟩
  rw [he]
  have hanswer (v : State) := hroutes.answers (v := v) h 0 [] false
  rw [inboxed_sent] at hq
  rw [hvertex] at hanswer ⊢
  generalize (inboxed s i h d).vertex = v at *
  rw [inboxTake_restores hq hg hw (restores_vertex hr) hsink]
  refine ⟨?_, hanswer _ ?_⟩
  · rw [State.stream_settle, stream_inboxEnd]
    exact stream_restoredBy_vertex hsent l d cs
  · rw [← restoredBy_sent (i := i) (b := d) (cs := cs)]
    exact inboxEnd_sent ..

end

end Sys2Proof.Machine
end

section
/-! Responses, timeouts, packets in transit and the 1 ms timer (O58). -/

-- These proofs wait on the same definitions: they are elaborated in order.
set_option Elab.async false

namespace Sys2Proof.Machine

section
variable {s u : State} {h : FabHdr} {d : Bytes} {q : FabReq} {cid : Nat} {c : Cmd} {st detail r : Nat}

/-! ### RESPONSE and the lack of one (R373, R374) -/

/-- Where no request is held back, none is released. -/
theorem settleHeld_noneHeld (hn : NoneHeld s) : settleHeld s = s := by
  have hnil : s.vertex.reqs.filter (·.heldBack) = [] :=
    List.filter_eq_nil_iff.mpr fun q hq => by simp [hn q hq]
  unfold settleHeld
  rw [hnil]
  rfl

/-- Which unanswered request a tag names, where none is held back. -/
theorem find?_notHeld {l : List FabReq} (hn : ∀ q ∈ l, q.heldBack = false) (tag : Nat) :
    l.find? (fun q => q.tag == tag && !q.heldBack) = l.find? fun q => q.tag == tag :=
  List.find?_congr fun q hq => by simp [hn q hq]

theorem NoneHeld.of (hn : NoneHeld s) (hu : u.vertex.reqs = s.vertex.reqs.filter fun x => x.tag != q.tag) :
    NoneHeld u := fun x hx => hn x (List.mem_of_mem_filter (hu ▸ hx))

theorem response_late (hl : s.live = true) (hd : h.dest = s.ident.number.toNat)
    (hn : ∀ q ∈ s.vertex.reqs, q.tag = h.tag → q.heldBack = true) :
    ∃ t, exec (.response h d) s = .next t ∧ t.vertex.lateResponses = addSat s.vertex.lateResponses 1 ∧
      t.vertex.cause.getLsbD 8 = true ∧ t.mem = s.mem := by
  have hnone : (noteMinor s h).vertex.reqs.find? (fun q => q.tag == h.tag && !q.heldBack) = none :=
    List.find?_eq_none.mpr fun q hq => by simpa using hn q hq
  have he : responseEff s h d = ({ noteMinor s h with vertex := { (noteMinor s h).vertex with
      lateResponses := addSat s.vertex.lateResponses 1 } }).setVertexCause 8 := by
    unfold responseEff
    dsimp only
    rw [hnone]
    rfl
  refine ⟨_, forMe_acts hl hd, ?_⟩
  rw [he]
  exact ⟨rfl, getLsbD_setBit_self _ (by decide), rfl⟩

/-- The effect of a response without poison to the request that its tag names. -/
theorem responseEff_answered (hn : NoneHeld s) (hq : s.vertex.reqs.find? (fun x => x.tag == h.tag) = some q)
    (hp : h.poison = false) :
    responseEff s h d = settleHeld (answered (dropReq (noteMinor s h) q.tag) q h d) := by
  have hfind : (noteMinor s h).vertex.reqs.find? (fun x => x.tag == h.tag && !x.heldBack) = some q :=
    (find?_notHeld hn h.tag).trans hq
  unfold responseEff
  dsimp only
  rw [hfind, hp]
  rfl

theorem noneHeld_dropReq (hn : NoneHeld s) (h : FabHdr) (tag : Nat) : NoneHeld (dropReq (noteMinor s h) tag) :=
  fun x hx => hn x (List.mem_of_mem_filter hx)

/-- A command completes on the response of its request, which no longer waits. -/
theorem response_completes (hl : s.live = true) (hd : h.dest = s.ident.number.toNat) (hn : NoneHeld s)
    (hq : s.vertex.reqs.find? (fun x => x.tag == h.tag) = some q) (hp : h.poison = false) (hc : s.cmd cid = some c)
    (ha : answered (dropReq (noteMinor s h) q.tag) q h d = finish (dropReq (noteMinor s h) q.tag) cid st detail r) :
    ∃ t, exec (.response h d) s = .next t ∧ (∀ x ∈ t.vertex.reqs, x.tag ≠ h.tag) ∧ Completed s t c st detail r := by
  have htag : q.tag = h.tag := by simpa using List.find?_some hq
  have hvertex : (finish (dropReq (noteMinor s h) q.tag) cid st detail r).vertex = (dropReq (noteMinor s h) q.tag).vertex :=
    (finish_ev ..).frame .vertex (by decide)
  have hnone : NoneHeld (finish (dropReq (noteMinor s h) q.tag) cid st detail r) := by
    unfold NoneHeld
    rw [hvertex]
    exact noneHeld_dropReq hn h q.tag
  have hev : Evolves 512 s (dropReq (noteMinor s h) q.tag) := .step (dropReq_ev ..) <| noteMinor_ev ..
  refine ⟨_, forMe_acts hl hd, ?_⟩
  rw [responseEff_answered hn hq hp, ha, settleHeld_noneHeld hnone]
  refine ⟨fun x hx => ?_, finish_settle_completed hev hc (by decide) (by decide)⟩
  have hmem : x ∈ (dropReq (noteMinor s h) q.tag).vertex.reqs := hvertex ▸ hx
  rw [← htag]
  exact bne_iff_ne.mp (List.mem_filter.mp hmem).2

theorem answered_window_ok (hp : q.purpose = .windowImport cid) (hs : h.status = 0) (hn : h.poison = false) :
    answered s q h d = finish s cid 0 (if h.sink then 1 else 0) (h.address % 2 ^ 52) := by
  unfold answered
  rw [hp, hs, hn, reqDone, hp]
  rfl

theorem answered_window_notFound (hp : q.purpose = .windowImport cid) (hs : h.status = 2) :
    answered s q h d = finish s cid stNotFound 0 0 := by
  unfold answered
  rw [hp, hs]
  change reqFails s q stNotFound = _
  rw [reqFails, hp]
  rfl

theorem response_probe (hl : s.live = true) (hd : h.dest = s.ident.number.toNat) (hn : NoneHeld s)
    (hq : s.vertex.reqs.find? (fun x => x.tag == h.tag) = some q) (hp : h.poison = false) (hpur : q.purpose = .probe)
    (hs : h.status = 0) :
    ∃ t, exec (.response h d) s = .next t ∧ t.vertex.unreachable =
      tabMod 0 s.vertex.unreachable (q.dest / 32) fun m => clearBit m (q.dest % 32) := by
  have ha : answered (dropReq (noteMinor s h) q.tag) q h d = clearMark (dropReq (noteMinor s h) q.tag) q.dest := by
    unfold answered
    rw [hpur, hs, hp, reqDone, hpur]
    rfl
  have hnone : NoneHeld (clearMark (dropReq (noteMinor s h) q.tag) q.dest) := noneHeld_dropReq hn h q.tag
  refine ⟨_, forMe_acts hl hd, ?_⟩
  rw [responseEff_answered hn hq hp, ha, settleHeld_noneHeld hnone]
  rfl

theorem unreachable_setMark (s : State) (d : Nat) : unreachable (setMark s d) d = true := by
  unfold unreachable setMark
  dsimp only
  rw [tabGet_mod_self]
  exact getLsbD_setBit_self _ (Nat.mod_lt _ (by decide))

/-- The state in which a request that has timed out fails. -/
def unanswered (s : State) (q : FabReq) : State :=
  setMark { (dropReq s q.tag).setVertexCause 4 with vertex := { ((dropReq s q.tag).setVertexCause 4).vertex with
    timeouts := addWrap s.vertex.timeouts 1 } } q.dest

theorem unanswered_ev (s : State) (q : FabReq) : Evolves 512 s (unanswered s q) := by
  unfold unanswered setMark
  exact .step (upd_vertexQ_ev ..) <| .step (upd_vertexQ_ev ..) <| .step (State.setVertexCause_ev ..) <| .step (dropReq_ev ..) <| .refl ..

theorem request_timesOut {tag : Nat} (hl : s.live = true) (hn : NoneHeld s)
    (hq : s.vertex.reqs.find? (fun x => x.tag == tag) = some q) (hdue : q.since + 1000 * fabricTimeoutUs s ≤ s.now)
    (hp : q.purpose = .windowImport cid) (hc : s.cmd cid = some c) :
    ∃ t, exec (.fabricRequestTimeout tag) s = .next t ∧ t.vertex.timeouts = addWrap s.vertex.timeouts 1 ∧
      unreachable t q.dest = true ∧ t.vertex.cause.getLsbD 4 = true ∧ (∀ x ∈ t.vertex.reqs, x.tag ≠ tag) ∧
      Completed s t c stFabricUnreachable 0 0 := by
  have htag : q.tag = tag := by simpa using List.find?_some hq
  have hfind := (find?_notHeld hn tag).trans hq
  have hvertex : (finish (unanswered s q) cid stFabricUnreachable 0 0).vertex = (unanswered s q).vertex :=
    (finish_ev ..).frame .vertex (by decide)
  have hnone : NoneHeld (finish (unanswered s q) cid stFabricUnreachable 0 0) := by
    unfold NoneHeld
    rw [hvertex]
    exact fun x hx => hn x (List.mem_of_mem_filter hx)
  have hfails : reqFails (unanswered s q) q stFabricUnreachable = finish (unanswered s q) cid stFabricUnreachable 0 0 := by
    rw [reqFails, hp]
    rfl
  have heff : timeoutEff s q = finish (unanswered s q) cid stFabricUnreachable 0 0 :=
    (congrArg settleHeld hfails).trans (settleHeld_noneHeld hnone)
  have hexec : exec (.fabricRequestTimeout tag) s = .next (settle (timeoutEff s q)) := by
    change execFabricRequestTimeout tag s = _
    unfold execFabricRequestTimeout
    rw [hfind]
    exact doneIf_both hl (decide_eq_true hdue)
  refine ⟨_, heff ▸ hexec, congrArg (·.timeouts) hvertex, ?_, ?_, fun x hx => ?_,
    finish_settle_completed (unanswered_ev s q) hc (by decide) (by decide)⟩
  · have hmark := unreachable_setMark { (dropReq s q.tag).setVertexCause 4 with vertex := {
      ((dropReq s q.tag).setVertexCause 4).vertex with timeouts := addWrap s.vertex.timeouts 1 } } q.dest
    exact (congrArg (fun v : Vertex => (tabGet 0 v.unreachable (q.dest / 32)).getLsbD (q.dest % 32)) hvertex).trans hmark
  · exact (congrArg (·.cause.getLsbD 4) hvertex).trans (getLsbD_setBit_self _ (by decide))
  · have hmem : x ∈ (unanswered s q).vertex.reqs := hvertex ▸ hx
    rw [← htag]
    exact bne_iff_ne.mp (List.mem_filter.mp hmem).2

theorem timeout_stays {tag : Nat} (hn : s.live = false ∨ ∀ q ∈ s.vertex.reqs, q.tag = tag →
    q.heldBack = true ∨ s.now < q.since + 1000 * fabricTimeoutUs s) :
    exec (.fabricRequestTimeout tag) s = .next (settle s) := by
  change execFabricRequestTimeout tag s = _
  unfold execFabricRequestTimeout
  cases hq : s.vertex.reqs.find? fun q => q.tag == tag && !q.heldBack with
  | none => rfl
  | some q =>
    refine doneIf_idle (hn.imp_right fun hw => ?_)
    have hfound := List.find?_some hq
    simp only [Bool.and_eq_true, beq_iff_eq, Bool.not_eq_eq_eq_not, Bool.not_true] at hfound
    have hlate := (hw q (List.mem_of_find?_eq_some hq) hfound.1).resolve_left (by simp [hfound.2])
    simpa using hlate

/-! ### Packets in transit (R365) -/

theorem forward_sends {p type : Nat} (hl : s.live = true) (hd : h.dest ≠ s.ident.number.toNat) (hh : 1 < h.hops)
    (hp : routePort s h.dest = some p) :
    ∃ t, exec (.fabricForward h type d) s = .next t ∧
      Sends s t (.forwarded type p { h with hops := h.hops - 1 } d) := by
  have he : forwardEff s h type d = s.emit (.forwarded type p { h with hops := h.hops - 1 } d) := by
    unfold forwardEff
    rw [hp, decide_eq_false (by omega)]
  have hexec : exec (.fabricForward h type d) s = .next (settle (forwardEff s h type d)) :=
    (if_neg (by simp [forMe, hd])).trans (doneIf_true hl ..)
  exact ⟨_, hexec, he ▸ (RoutesAs.refl s).sends _ List.prefix_rfl⟩

theorem forward_drops {type : Nat} (hl : s.live = true) (hd : h.dest ≠ s.ident.number.toNat)
    (hn : h.hops ≤ 1 ∨ routePort s h.dest = none) :
    ∃ t, exec (.fabricForward h type d) s = .next t ∧ t.vertex.hopDrops = addSat s.vertex.hopDrops 1 ∧
      t.vertex.cause.getLsbD 7 = true := by
  have he : forwardEff s h type d =
      ({ s with vertex := { s.vertex with hopDrops := addSat s.vertex.hopDrops 1 } }).setVertexCause 7 := by
    unfold forwardEff
    rcases hn with hh | hr
    · rw [decide_eq_true hh]
    · rw [hr]
      cases decide (h.hops ≤ 1) <;> rfl
  have hexec : exec (.fabricForward h type d) s = .next (settle (forwardEff s h type d)) :=
    (if_neg (by simp [forMe, hd])).trans (doneIf_true hl ..)
  refine ⟨_, hexec, ?_⟩
  rw [he]
  exact ⟨rfl, getLsbD_setBit_self _ (by decide)⟩

theorem forward_stays {type : Nat} (hn : s.live = false ∨ h.dest = s.ident.number.toNat ∧ 1 ≤ type ∧ type ≤ 8) :
    exec (.fabricForward h type d) s = .next (settle s) := by
  change execFabricForward h type d s = _
  unfold execFabricForward
  rcases hn with hl | ⟨hd, hk⟩
  · rw [hl]
    cases forMe s h <;> rfl
  · rw [if_pos (by simp [forMe, hd])]
    exact doneIf_idle (.inr (by simp [typeKnown, hk]))

theorem forward_unknown {type : Nat} (hl : s.live = true) (hd : h.dest = s.ident.number.toNat)
    (ht : type = 0 ∨ 8 < type) :
    ∃ t, exec (.fabricForward h type d) s = .next t ∧ t.mem = s.mem ∧ Answers s t h 7 [] false := by
  have hexec : exec (.fabricForward h type d) s = .next (settle (reply (noteMinor s h) h 7 [] false)) :=
    (if_pos (by simp [forMe, hd])).trans (doneIf_both hl (by simp [typeKnown]; omega))
  exact ⟨_, hexec, reply_mem .., replied_noted _ _ _ _⟩

end

/-! ### The 1 ms timer (R375) -/

section
variable {s u : State} {d : Nat}

theorem mem_markedDevices (hd : unreachable s d = true) : d ∈ markedDevices s := by
  have hne : tabGet 0 s.vertex.unreachable (d / 32) ≠ 0 := by
    intro h0
    rw [unreachable, h0] at hd
    exact absurd hd (by simp)
  refine List.mem_flatMap.mpr ⟨_, mem_of_tabGet_ne hne, List.mem_map.mpr ⟨d % 32, mem_maskBits.mpr ⟨?_, hd⟩, ?_⟩⟩
  · exact Nat.mod_lt _ (by decide)
  · exact Nat.div_add_mod ..

/-- The requests of a state still wait in another, of the same cycle and with the same routes. -/
structure StillAsks (s u : State) : Prop where
  now : u.now = s.now
  route : ∀ d, routePort u d = routePort s d
  reqs : ∀ q ∈ s.vertex.reqs, q ∈ u.vertex.reqs

/-- The device asks a destination whether it answers. -/
def Probes (s u : State) (d : Nat) : Prop :=
  ∃ q ∈ u.vertex.reqs, q.dest = d ∧ q.type = 7 ∧ q.purpose = .probe ∧ q.since = s.now

theorem sendProbe_asks (s : State) (d : Nat) : StillAsks s (sendProbe s d) := by
  unfold sendProbe
  split
  · exact ⟨rfl, fun _ => rfl, fun _ => id⟩
  · dsimp only
    split <;> exact ⟨rfl, fun _ => rfl, fun q hq => List.mem_append_left _ hq⟩

theorem sendProbe_probes (hr : (routePort s d).isSome = true) : Probes s (sendProbe s d) d := by
  obtain ⟨p, hp⟩ := Option.isSome_iff_exists.mp hr
  unfold sendProbe
  rw [hp]
  dsimp only
  split <;> exact ⟨_, List.mem_append_right _ (List.mem_singleton_self _), rfl, rfl, rfl, rfl⟩

theorem StillAsks.step (h : StillAsks s u) (d : Nat) : StillAsks s (sendProbe u d) :=
  have k := sendProbe_asks u d
  ⟨k.now.trans h.now, fun d => (k.route d).trans (h.route d), fun q hq => k.reqs q (h.reqs q hq)⟩

theorem probes_ask (l : List Nat) (h : StillAsks s u) : StillAsks s (l.foldl sendProbe u) := by
  induction l generalizing u with
  | nil => exact h
  | cons d l ih => exact ih (h.step d)

theorem probes_reach {l : List Nat} (h : StillAsks s u) (hr : (routePort s d).isSome = true) (hd : d ∈ l) :
    Probes s (l.foldl sendProbe u) d := by
  induction l generalizing u with
  | nil => exact absurd hd List.not_mem_nil
  | cons e l ih =>
    rcases List.mem_cons.mp hd with rfl | hl
    · obtain ⟨q, hq, hdest, htype, hpur, hsince⟩ := sendProbe_probes (s := u) (d := d) (by rwa [h.route])
      exact ⟨q, (probes_ask l ⟨rfl, fun _ => rfl, fun _ => id⟩).reqs q hq, hdest, htype, hpur, hsince.trans h.now⟩
    · exact ih (h.step e) hl

theorem probeTimer_probes (hl : s.live = true) (hdue : s.vertex.probeAt ≤ s.now) :
    ∃ t, exec .probeTimer s = .next t ∧ t.vertex.probeAt = s.now + 1000000 ∧
      (∀ q ∈ s.vertex.reqs, q ∈ t.vertex.reqs) ∧
      ∀ d, unreachable s d = true → (routePort s d).isSome = true →
        ∃ q ∈ t.vertex.reqs, q.dest = d ∧ q.type = 7 ∧ q.purpose = .probe ∧ q.since = s.now := by
  have hs : StillAsks s s := ⟨rfl, fun _ => rfl, fun _ => id⟩
  exact ⟨_, doneIf_both hl (decide_eq_true hdue), rfl, (probes_ask _ hs).reqs,
    fun d hd hr => probes_reach hs hr (mem_markedDevices hd)⟩

end

/-- Settles O58: every request is answered from the state that it leaves, a response or timeout ends its request, and
the 1 ms timer asks every marked device that has a route. -/
theorem requestsAreServedAndAnswered : Obligations.RequestsAreServedAndAnswered := by
  rintro s h _ rfl
  refine ⟨fun hl hd => ⟨read_answers hl hd, fun d => ⟨write_refused hl hd, fun hb hn =>
      ⟨write_taken hl hd hb hn, write_stale hl hd hb hn⟩⟩, jobWindow_none s h, writeCurrent_iff s h, ?message, fun id =>
      ⟨fetch_refused hl hd, fun h1 h2 h3 => ⟨fetch_absent hl hd h1 h2 h3, fun a n => fetch_found hl hd h1 h2 h3⟩⟩,
      registration_refused hl hd, ?register, probe_answered hl hd, ?probe, fun d => response_late hl hd, ?response⟩,
    fun hl hd type d => ⟨fun p => forward_sends hl hd, forward_drops hl hd⟩,
    fun hn => ⟨forMe_idle hn, forMe_idle hn, forMe_idle hn, forMe_idle hn, fun d =>
      ⟨forMe_idle hn, forMe_idle hn, forMe_idle hn, forMe_idle hn⟩⟩,
    fun type d => ⟨forward_stays, forward_unknown⟩,
    fun tag q cid c hl hn hq => request_timesOut hl hn hq, fun tag => timeout_stays, probeTimer_probes,
    fun hn => doneIf_idle (hn.imp_right fun hw => by simpa using hw)⟩
  case message =>
    rintro d _ rfl
    refine ⟨fun hn => message_turned hl hd (messageEff_none hn), fun i hi => ⟨fun hb => ?_, fun h0 hn h32 => ?_⟩⟩
    · refine message_turned hl hd ((messageEff_some hi).trans (if_pos ?_))
      simpa [or_assoc] using hb
    · refine ⟨fun hp => message_turned hl hd ((messageEff_some hi).trans ?_),
        fun hp hroom => message_turned hl hd ((messageEff_some hi).trans ?_), fun hp hroom => ?_⟩
      · rw [if_neg (by simp [h0, hn]; omega), if_pos hp]
      · rw [if_neg (by simp [h0, hn]; omega), if_neg (by simp [hp]), if_pos (by simp [hroom])]
      · have he := messageEff_inboxed (d := d) hi h0 hn h32 hp hroom
        refine ⟨message_declined hl hd hroom he, ?_⟩
        rintro cs _ - rfl hw hg hr hsink
        exact message_restored hl hd hroom he hw hg hr hsink
  case register =>
    rintro w _ rfl hw
    exact ⟨fun hn hlen => register_stored hl hd hw (regPut_new (s := noteMinor s h) _ hn hlen),
      fun old ho => register_stored hl hd hw (regPut_known (s := noteMinor s h) _ ho), register_full hl hd hw,
      deregister_drops hl hd hw⟩
  case probe =>
    refine fun h0 => ⟨fun hn => probe_refused hl hd h0 (windowInfo_none hn), fun q hq => ⟨fun hr => ?_, fun hr => ?_⟩⟩
    · exact probe_refused hl hd h0 ((windowInfo_some hq).trans (if_neg (by simp [hr])))
    · exact probe_window hl hd h0 ((windowInfo_some hq).trans (if_pos hr))
  case response =>
    refine fun d q c hn hq hp => ⟨fun cid hpur hc => ⟨fun hs => ?_, fun hs => ?_⟩, response_probe hl hd hn hq hp⟩
    · exact response_completes hl hd hn hq hp hc (answered_window_ok hpur hs hp)
    · exact response_completes hl hd hn hq hp hc (answered_window_notFound hpur hs)

end Sys2Proof.Machine
end

section
/-! Windows that are exported, withdrawn and imported (O56). -/

-- These proofs wait on the same definitions: they are elaborated in order.
set_option Elab.async false

namespace Sys2Proof.Machine

/-! ### The lowest free number -/

theorem mem_insertNat {x y : Nat} {l : List Nat} : y ∈ insertNat x l ↔ y = x ∨ y ∈ l := by
  induction l with
  | nil => simp [insertNat]
  | cons z r ih =>
    unfold insertNat
    split
    · exact List.mem_cons
    · rw [List.mem_cons, ih, List.mem_cons]
      tauto

theorem mem_sortNat {y : Nat} {l : List Nat} : y ∈ sortNat l ↔ y ∈ l := by
  induction l with
  | nil => rfl
  | cons x r ih => rw [sortNat, mem_insertNat, ih, List.mem_cons]

theorem insertNat_pairwise {x : Nat} {l : List Nat} (h : l.Pairwise (· < ·)) (hx : x ∉ l) :
    (insertNat x l).Pairwise (· < ·) := by
  induction l with
  | nil => simp [insertNat]
  | cons y r ih =>
    obtain ⟨hy, hr⟩ := List.pairwise_cons.mp h
    obtain ⟨hne, hnr⟩ := not_or.mp (List.mem_cons.not.mp hx)
    unfold insertNat
    split
    · next hle =>
      refine List.pairwise_cons.mpr ⟨fun z hz => ?_, h⟩
      rcases List.mem_cons.mp hz with rfl | hz
      · omega
      · have := hy z hz
        omega
    · next hgt =>
      refine List.pairwise_cons.mpr ⟨fun z hz => ?_, ih hr hnr⟩
      rcases mem_insertNat.mp hz with rfl | hz
      · omega
      · exact hy z hz

theorem sortNat_pairwise {l : List Nat} (h : l.Nodup) : (sortNat l).Pairwise (· < ·) := by
  induction l with
  | nil => exact List.Pairwise.nil
  | cons x r ih =>
    obtain ⟨hx, hr⟩ := List.nodup_cons.mp h
    exact insertNat_pairwise (ih hr) (mem_sortNat.not.mpr hx)

theorem le_gapFrom (k : Nat) (l : List Nat) : k ≤ gapFrom k l := by
  induction l generalizing k with
  | nil => exact Nat.le_refl k
  | cons x r ih =>
    unfold gapFrom
    split
    · exact Nat.le_of_succ_le (ih (k + 1))
    · exact Nat.le_refl k

theorem gapFrom_notMem {k : Nat} {l : List Nat} (h : l.Pairwise (· < ·)) (hk : ∀ x ∈ l, k ≤ x) : gapFrom k l ∉ l := by
  induction l generalizing k with
  | nil => exact List.not_mem_nil
  | cons y r ih =>
    obtain ⟨hy, hr⟩ := List.pairwise_cons.mp h
    unfold gapFrom
    split
    · next he =>
      subst he
      have hnot := ih hr hy
      have hne : gapFrom (y + 1) r ≠ y := (Nat.lt_of_succ_le (le_gapFrom (y + 1) r)).ne'
      exact List.mem_cons.not.mpr (not_or.mpr ⟨hne, hnot⟩)
    · next hne =>
      intro hm
      rcases List.mem_cons.mp hm with he | hm
      · exact hne he.symm
      · have h1 := hk y List.mem_cons_self
        have h2 := hy k hm
        omega

/-- The lowest number that no entry has. -/
theorem gap_notMem {l : List Nat} (h : l.Nodup) : gapFrom 0 (sortNat l) ∉ l := fun hm =>
  gapFrom_notMem (sortNat_pairwise h) (fun _ _ => Nat.zero_le _) (mem_sortNat.mpr hm)

section
variable {s u : State} {cid : Nat} {c : Cmd} {readers : Option Nat}

/-! ### WINDOW_EXPORT (R307, R368, R369) -/

/-- A window may be exported over these bytes. -/
def exportFits (c : Cmd) : Prop := addrSpace (c.f 24 8) = 1 ∧ addrValid (c.f 24 8) = true ∧ c.f 24 8 % 4096 = 0 ∧
  c.f 32 8 % 4096 = 0

theorem windowExportEff_badForm (h : c.only [(16, 1), (24, 24)] = false ∨ 1 < c.f 16 1) :
    windowExportEff c s = fail s c.cid stInvalidParameter := if_pos (by simpa using h)

theorem windowExportEff_withdraw (ho : c.only [(16, 1), (24, 24)] = true) (h1 : c.f 16 1 ≤ 1) (hobj : c.object ≠ 0) :
    windowExportEff c s =
      if c.f 32 8 ≠ 0 then fail s c.cid stInvalidParameter
      else if s.vertex.windows.any fun q => q.1 + 1 == c.object && q.2.owner == c.partition then
        fail (withdraw s (c.object - 1)) c.cid stOk
      else fail s c.cid stNotFound := by
  unfold windowExportEff
  rw [if_neg (by simpa [ho] using h1), if_pos hobj]

theorem windowExportEff_noFit (ho : c.only [(16, 1), (24, 24)] = true) (h1 : c.f 16 1 ≤ 1) (hobj : c.object = 0)
    (hf : ¬ exportFits c) : windowExportEff c s = fail s c.cid stInvalidParameter := by
  unfold windowExportEff
  rw [if_neg (by simpa [ho] using h1), if_neg (by simpa using hobj), if_pos]
  by_contra hn
  exact hf (by simpa [exportFits, not_or, and_assoc] using hn)

theorem windowExportEff_fits (ho : c.only [(16, 1), (24, 24)] = true) (h1 : c.f 16 1 ≤ 1) (hobj : c.object = 0)
    (hf : exportFits c) : windowExportEff c s =
      if !mayName s c.fn (c.f 24 8) (c.f 32 8) false then fail s c.cid stNotPermitted
      else if c.f 40 8 = 0 then exportNow s c none
      else withStruct s c (c.f 40 8) 128 false fun s b => exportNow s c (some (leNat b)) := by
  obtain ⟨hs, hv, ha, hb⟩ := hf
  unfold windowExportEff
  rw [if_neg (by simpa [ho] using h1), if_neg (by simpa using hobj), if_neg (by simp [hs, hv, ha, hb])]

/-- The command goes on with its readers once they are known. -/
theorem windowExportEff_reads (ho : c.only [(16, 1), (24, 24)] = true) (h1 : c.f 16 1 ≤ 1) (hobj : c.object = 0)
    (hf : exportFits c) (hm : mayName s c.fn (c.f 24 8) (c.f 32 8) false = true)
    (hr : c.f 40 8 = 0 ∧ readers = none ∨
      ∃ b, c.f 40 8 ≠ 0 ∧ PlainRead s c.fn (c.f 40 8) 128 b ∧ readers = some (leNat b)) :
    ∃ u, ReadsLeave s u ∧ windowExportEff c s = exportNow u c readers := by
  rw [windowExportEff_fits ho h1 hobj hf, if_neg (by simp [hm])]
  rcases hr with ⟨h0, rfl⟩ | ⟨b, h0, hb, rfl⟩
  · exact ⟨s, .refl s, if_pos h0⟩
  · obtain ⟨u, hu, hk⟩ := withStruct_plain hb
    exact ⟨u, hu, (if_neg h0).trans (hk _)⟩

/-- The window that a command exports. -/
def exportedWindow (s : State) (c : Cmd) (readers : Option Nat) : Window where
  owner := c.partition
  writable := c.f 16 1 == 1
  base := c.f 24 8 % 2 ^ 42
  bytes := c.f 32 8
  readers := readers
  images := if c.f 16 1 == 1 then [] else indexImages s (c.f 24 8 % 2 ^ 42) (c.f 32 8) (c.f 32 8 / 4096 + 1) 0

theorem exportNow_eq {w : Nat} (hw : w = gapFrom 0 (sortNat (s.vertex.windows.map (·.1)))) :
    exportNow s c readers =
      if 4096 ≤ w then fail s c.cid stNoResource
      else finish { s with vertex := { s.vertex with windows := s.vertex.windows ++ [(w, exportedWindow s c readers)] } }
        c.cid stOk (min 0xFFFF (exportedWindow s c readers).images.length) w := by
  subst hw
  rfl

/-- The end of a WINDOW_EXPORT that leaves the windows. -/
theorem windowExport_ends {st : Nat} (h : Ready s cid 0x50 c)
    (hact : windowExportEff c (begin' s cid) = finish (begin' s cid) c.cid st 0 0) :
    ∃ t, exec (.windowExport cid) s = .next t ∧ t.vertex.windows = s.vertex.windows ∧
      t.vertex.regs = s.vertex.regs ∧ Completed s t c st 0 0 := by
  obtain ⟨hex, hc⟩ := h.finishes hact
  exact ⟨_, hex, congrArg (·.windows) (finish_vertex ..), congrArg (·.regs) (finish_vertex ..), hc⟩

theorem windowExport_withdraws {q : Nat × Window} (h : Ready s cid 0x50 c) (ho : c.only [(16, 1), (24, 24)] = true)
    (h1 : c.f 16 1 ≤ 1) (hobj : c.object ≠ 0) (hq : q ∈ s.vertex.windows) (hn : q.1 + 1 = c.object)
    (hown : q.2.owner = c.partition) (h0 : c.f 32 8 = 0) :
    ∃ t, exec (.windowExport cid) s = .next t ∧ (∀ x ∈ t.vertex.windows, x.1 ≠ q.1) ∧
      (∀ x ∈ s.vertex.windows, x.1 ≠ q.1 → x ∈ t.vertex.windows) ∧ (∀ x ∈ t.vertex.regs, x.1.1 ≠ q.1) ∧
      Completed s t c 0x00 0 0 := by
  have hany : ((begin' s cid).vertex.windows.any fun q => q.1 + 1 == c.object && q.2.owner == c.partition) = true :=
    List.any_eq_true.mpr ⟨q, hq, by simp [hn, hown]⟩
  have hact : windowExportEff c (begin' s cid) = finish (withdraw (begin' s cid) q.1) c.cid stOk 0 0 := by
    rw [windowExportEff_withdraw ho h1 hobj, if_neg (by simpa using h0), if_pos hany, ← hn, Nat.add_sub_cancel]
    rfl
  obtain ⟨hex, hc⟩ := h.finishes hact
  have hv := finish_vertex (withdraw (begin' s cid) q.1) c.cid stOk 0 0
  refine ⟨_, hex, fun x hx => ?_, fun x hx hne => ?_, fun x hx => ?_, hc⟩
  · have hmem : x ∈ (withdraw (begin' s cid) q.1).vertex.windows := hv ▸ hx
    exact bne_iff_ne.mp (List.mem_filter.mp hmem).2
  · have hmem : x ∈ (withdraw (begin' s cid) q.1).vertex.windows := List.mem_filter.mpr ⟨hx, bne_iff_ne.mpr hne⟩
    exact hv.symm ▸ hmem
  · have hmem : x ∈ (withdraw (begin' s cid) q.1).vertex.regs := hv ▸ hx
    exact bne_iff_ne.mp (List.mem_filter.mp hmem).2

/-- What the command takes beside its checks: the readers, and a number for the window. -/
theorem windowExport_exports {w : Nat} (h : Ready s cid 0x50 c) (ho : c.only [(16, 1), (24, 24)] = true)
    (h1 : c.f 16 1 ≤ 1) (hobj : c.object = 0) (hf : exportFits c)
    (hm : mayName s c.fn (c.f 24 8) (c.f 32 8) false = true)
    (hr : c.f 40 8 = 0 ∧ readers = none ∨
      ∃ b, c.f 40 8 ≠ 0 ∧ PlainRead s c.fn (c.f 40 8) 128 b ∧ readers = some (leNat b))
    (hw : w = gapFrom 0 (sortNat (s.vertex.windows.map (·.1)))) :
    (4096 ≤ w → ∃ t, exec (.windowExport cid) s = .next t ∧ t.vertex.windows = s.vertex.windows ∧
      t.vertex.regs = s.vertex.regs ∧ Completed s t c stNoResource 0 0) ∧
    (w < 4096 → ∃ t win, exec (.windowExport cid) s = .next t ∧ t.vertex.windows = s.vertex.windows ++ [(w, win)] ∧
      ((s.vertex.windows.map (·.1)).Nodup → ∀ q ∈ s.vertex.windows, q.1 ≠ w) ∧ win.owner = c.partition ∧
      (win.writable = true ↔ c.f 16 1 = 1) ∧ win.base = c.f 24 8 % 2 ^ 42 ∧ win.bytes = c.f 32 8 ∧
      win.readers = readers ∧ Completed s t c 0x00 (min 0xFFFF win.images.length) w) := by
  obtain ⟨u, hu, hact⟩ := windowExportEff_reads (s := begin' s cid) ho h1 hobj hf hm hr
  have huv : u.vertex = s.vertex := hu.evolves.frame .vertex (by decide)
  rw [exportNow_eq (w := w) (by rw [huv, hw])] at hact
  refine ⟨fun hfull => ?_, fun hroom => ?_⟩
  · rw [if_pos hfull] at hact
    have hv : (fail u c.cid stNoResource).vertex = s.vertex := (finish_vertex ..).trans huv
    exact ⟨_, onCmd_acts h hact, congrArg (·.windows) hv, congrArg (·.regs) hv, hu.completed h rfl rfl ..⟩
  · rw [if_neg (Nat.not_le.2 hroom), huv] at hact
    refine ⟨_, exportedWindow u c readers, onCmd_acts h hact, congrArg (·.windows) (finish_vertex ..), fun hnd q hq he => ?_,
      rfl, beq_iff_eq, rfl, rfl, rfl, hu.completed (t := { u with vertex := { s.vertex with
        windows := s.vertex.windows ++ [(w, exportedWindow u c readers)] } }) h rfl rfl ..⟩
    exact gap_notMem hnd (hw ▸ he ▸ List.mem_map_of_mem hq)

/-! ### WINDOW_IMPORT (R308) -/

theorem windowImportEff_badForm (h : c.only [(16, 4)] = false ∨ 1023 < c.f 16 2) :
    windowImportEff c s = fail s c.cid stInvalidParameter := if_pos (by simpa using h)

theorem windowImportEff_here (ho : c.only [(16, 4)] = true) (hd : c.f 16 2 ≤ 1023)
    (he : c.f 16 2 = s.ident.number.toNat) : windowImportEff c s =
      match windowInfo s (c.f 16 2) (c.f 18 2) with
      | .error st => fail s c.cid (respStatus st)
      | .ok (a, wr) => finish s c.cid stOk (b2n wr) a := by
  exact (if_neg (by simpa [ho] using hd)).trans (if_pos he)

theorem windowImportEff_away (ho : c.only [(16, 4)] = true) (hd : c.f 16 2 ≤ 1023)
    (he : c.f 16 2 ≠ s.ident.number.toNat) : windowImportEff c s =
      if (issueReq s 7 (c.f 16 2) false { address := c.f 18 2 + 1 } (.windowImport c.cid)).2 then
        (issueReq s 7 (c.f 16 2) false { address := c.f 18 2 + 1 } (.windowImport c.cid)).1
      else fail (issueReq s 7 (c.f 16 2) false { address := c.f 18 2 + 1 } (.windowImport c.cid)).1 c.cid
        stFabricUnreachable := by
  unfold windowImportEff
  dsimp only
  rw [if_neg (by simpa [ho] using hd), if_neg he]

/-- A request that no route or no answer lets leave. -/
theorem issueReq_fails {type d : Nat} {m : Bool} {b : ReqBody} {why : ReqPurpose}
    (h : unreachable s d = true ∨ routePort s d = none) : issueReq s type d m b why = (s, false) := by
  unfold issueReq
  split
  · rfl
  · next hu => rw [h.resolve_left hu]

/-- The request that a state issues. -/
def newReq (s : State) (type d p : Nat) (m : Bool) (b : ReqBody) (why : ReqPurpose) : FabReq :=
  { tag := s.vertex.nextTag, type := type, dest := d, vc := vcOf type m, port := p, since := s.now, purpose := why,
    heldBack := mustHold s d (vcOf type m) p, hdr := reqHdr s (vcOf type m) d s.vertex.nextTag b, data := b.data }

theorem issueReq_issues {type d p : Nat} {m : Bool} {b : ReqBody} {why : ReqPurpose} (hu : unreachable s d = false)
    (hp : routePort s d = some p) : (issueReq s type d m b why).2 = true ∧
      ∃ l, (issueReq s type d m b why).1 = { s with
        vertex := { s.vertex with reqs := s.vertex.reqs ++ [newReq s type d p m b why],
                                  nextTag := (s.vertex.nextTag + 1) % 2 ^ 32 }, sent := l } := by
  unfold issueReq
  rw [if_neg (by simp [hu]), hp]
  dsimp only
  refine ⟨rfl, ?_⟩
  split <;> exact ⟨_, rfl⟩

theorem windowImport_ends {st d r : Nat} (h : Ready s cid 0x51 c)
    (hact : windowImportEff c (begin' s cid) = finish (begin' s cid) c.cid st d r) :
    ∃ t, exec (.windowImport cid) s = .next t ∧ t.vertex = s.vertex ∧ Completed s t c st d r := by
  obtain ⟨hex, hc⟩ := h.finishes hact
  exact ⟨_, hex, finish_vertex .., hc⟩

theorem windowImport_asks {p : Nat} (h : Ready s cid 0x51 c) (ho : c.only [(16, 4)] = true) (hd : c.f 16 2 ≤ 1023)
    (he : c.f 16 2 ≠ s.ident.number.toNat) (hu : unreachable s (c.f 16 2) = false)
    (hp : routePort s (c.f 16 2) = some p) :
    ∃ t q, exec (.windowImport cid) s = .next t ∧ t.vertex.reqs = s.vertex.reqs ++ [q] ∧ q.type = 7 ∧
      q.dest = c.f 16 2 ∧ q.port = p ∧ q.purpose = .windowImport cid ∧ q.hdr.address = c.f 18 2 + 1 ∧
      t.cmd cid ≠ none := by
  obtain ⟨hok, l, hstate⟩ := issueReq_issues (s := begin' s cid) (type := 7) (m := false)
    (b := { address := c.f 18 2 + 1 }) (why := .windowImport c.cid) hu hp
  have hact := windowImportEff_away (s := begin' s cid) ho hd he
  rw [if_pos hok, hstate] at hact
  exact ⟨_, _, onCmd_acts h hact, rfl, rfl, rfl, rfl, congrArg ReqPurpose.windowImport (State.cmd_cid h.1), rfl,
    h.cmd_ne_none rfl⟩

/-! ### A write at an ADDR (R352, R355) -/

theorem addrWrite_host {f v : Nat} {d : Bytes} (hs : addrSpace v = 0) (hn : hostFails s (addrBits v) d.length = false) :
    (addrWrite s f v d false).1.mem = s.mem ∧ ∀ x, byteAt (addrWrite s f v d false).1.hostMem x =
      if addrBits v ≤ x ∧ x < addrBits v + d.length then d.getD (x - addrBits v) 0 else byteAt s.hostMem x := by
  have he : addrWrite s f v d false = (hostStore s f (addrBits v) d false, true) := by
    unfold addrWrite
    rw [if_pos hs, hn]
    rfl
  rw [he]
  exact ⟨rfl, byteAt_writeBytes s.hostMem (addrBits v) d⟩

/-- Usable memory ends far below the space of an ADDR. -/
theorem usable_lt (s : State) : usable s < 2 ^ 42 := by
  have h := s.memc.installedGib.isLt
  unfold usable
  dsimp only
  split <;> omega

theorem addrWrite_lpddr {f v : Nat} {d : Bytes} {p : Bool} (hs : addrSpace v ≠ 0) (hd : d ≠ [])
    (hv : v % 2 ^ 42 + d.length ≤ usable s) : addrWrite s f v d p = (lpWrite s (v % 2 ^ 42) d p, true) := by
  have hpos := List.length_pos_of_ne_nil hd
  have hr : regionOf s (v % 2 ^ 42) = .lpddr := if_pos (by omega)
  unfold addrWrite localWrite
  rw [if_neg hs, hr]
  exact if_pos hv

theorem addrWrite_local {f v : Nat} {d : Bytes} (hs : addrSpace v ≠ 0) (hd : d ≠ [])
    (hv : v % 2 ^ 42 + d.length ≤ usable s) : (addrWrite s f v d false).1.hostMem = s.hostMem ∧
      ∀ x, byteAt (addrWrite s f v d false).1.mem x =
        if v % 2 ^ 42 ≤ x ∧ x < v % 2 ^ 42 + d.length then d.getD (x - v % 2 ^ 42) 0 else byteAt s.mem x := by
  rw [addrWrite_lpddr hs hd hv, lpWrite_mem]
  exact ⟨lpWrite_hostMem .., byteAt_writeBytes s.mem (v % 2 ^ 42) d⟩

end

end Sys2Proof.Machine
end

section
/-! The pieces of a COPY (O56). -/

-- These proofs wait on the same definitions: they are elaborated in order.
set_option Elab.async false

namespace Sys2Proof.Machine

/-! ### Pieces of a range (R309, R371) -/

/-- Pieces at offsets from `a` cover the offsets from `o` on, `n` of them, in order and without a gap. -/
inductive Tiles (a : Nat) : Nat → Nat → List (Nat × Nat) → Prop
  | nil (o : Nat) : Tiles a o 0 []
  | cons {o n m : Nat} {ps : List (Nat × Nat)} (hm : 0 < m) (h : Tiles a (o + m) n ps) :
    Tiles a o (m + n) ((a + o, m) :: ps)

theorem blocksN_tiles {a k o n : Nat} (h : n ≠ 0 → (a + o) % 4096 + n ≤ 4096 * k) :
    Tiles a o n (blocksN k (a + o) n) := by
  induction k generalizing o n with
  | zero =>
    obtain rfl : n = 0 := by omega
    exact .nil o
  | succ k ih =>
    unfold blocksN
    split
    · next h0 =>
      subst h0
      exact .nil o
    · next hn =>
      dsimp only
      generalize hm : min n (4096 - (a + o) % 4096) = m
      have hrest : Tiles a (o + m) (n - m) (blocksN k (a + (o + m)) (n - m)) := ih fun hmore => by
        have hk := h hn
        have ha : (a + (o + m)) % 4096 = 0 := by omega
        omega
      have htile := Tiles.cons (by omega) hrest
      rw [Nat.add_sub_cancel' (by omega)] at htile
      rwa [Nat.add_assoc]

theorem blocks_tiles (a n : Nat) : Tiles a 0 n (blocks a n) := blocksN_tiles (o := 0) (by omega)

namespace Tiles

variable {a o n : Nat} {ps : List (Nat × Nat)}

/-- Every piece lies among the offsets. -/
theorem inside (h : Tiles a o n ps) : ∀ p ∈ ps, ∃ k, p.1 = a + k ∧ 0 < p.2 ∧ o ≤ k ∧ k + p.2 ≤ o + n := by
  induction h with
  | nil => exact fun p hp => absurd hp List.not_mem_nil
  | @cons o n m ps hm _ ih =>
    intro p hp
    rcases List.mem_cons.mp hp with rfl | hp
    · exact ⟨o, rfl, hm, Nat.le_refl o, by dsimp only; omega⟩
    · obtain ⟨k, hk, hpos, hlo, hhi⟩ := ih p hp
      exact ⟨k, hk, hpos, by omega, by omega⟩

theorem total (h : Tiles a o n ps) : sumN (ps.map (·.2)) = n := by
  induction h with
  | nil => rfl
  | cons hm h ih => exact congrArg (_ + ·) ih

theorem ne_nil (h : Tiles a o n ps) (hn : n ≠ 0) : ps ≠ [] := by
  rintro rfl
  cases h
  exact hn rfl

end Tiles

/-! ### Parts of an ADDR (R275, R367) -/

section
variable {s t : State} {f u v n o m : Nat}

theorem addrSpace_add (h : v % 2 ^ 42 + o < 2 ^ 42) : addrSpace (v + o) = addrSpace v := by
  unfold addrSpace
  omega

theorem addrRemote_add (h : v % 2 ^ 42 + o < 2 ^ 42) : addrRemote s (v + o) = addrRemote s v := by
  have hd : addrDevice (v + o) = addrDevice v := by
    unfold addrDevice bits
    omega
  unfold addrRemote
  rw [addrSpace_add h, hd]

theorem addrBits_add_mod (hv : addrSpace v ≠ 0) : (addrBits v + o) % 2 ^ 42 = (v % 2 ^ 42 + o) % 2 ^ 42 := by
  unfold addrBits
  split
  · next h0 => exact absurd h0 hv
  · exact Nat.mod_add_mod .. ▸ by omega
  · omega

theorem inOwnRange_mono {a b : Nat} (h : inOwnRange s f a n = true) (hlo : a ≤ b) (hhi : b + m ≤ a + n) :
    inOwnRange s f b m = true := by
  unfold inOwnRange at *
  rw [List.any_eq_true] at *
  obtain ⟨i, hi, hr⟩ := h
  refine ⟨i, hi, ?_⟩
  simp only [Bool.and_eq_true, decide_eq_true_eq] at *
  obtain ⟨hvalid, hf, hl, hh⟩ := hr
  exact ⟨hvalid, hf, by omega, by omega⟩

theorem inOwnWindow_mono {a b : Nat} (h : inOwnWindow f a n = true) (hlo : a ≤ b) (hhi : b + m ≤ a + n) :
    inOwnWindow f b m = true := by
  unfold inOwnWindow at *
  simp only [decide_eq_true_eq] at *
  omega

/-- The bytes of this device that a function may name lie in its ranges or its outbound host window. -/
theorem mayName_here (hs : addrSpace v ≠ 0) (hr : addrRemote s v = false) : mayName s f v n false =
    (decide (addrSpace v ≤ 2) && (inOwnRange s f (v % 2 ^ 42) n || inOwnWindow f (v % 2 ^ 42) n)) := by
  unfold mayName
  match h : addrSpace v with
  | 0 => exact absurd h hs
  | 1 => simp [hr]
  | 2 => simp [hr]
  | k + 3 => simp

/-- A function that may name bytes of this device may name a part of them. -/
theorem mayName_part (h : mayName s f v n false = true) (hs : addrSpace v ≠ 0) (hr : addrRemote s v = false)
    (hn : v % 2 ^ 42 + n < 2 ^ 42) (ho : o + m ≤ n) : mayName s f (v + o) m false = true := by
  have hmod : (v + o) % 2 ^ 42 = v % 2 ^ 42 + o := by omega
  have hspace : addrSpace (v + o) = addrSpace v := addrSpace_add (by omega)
  rw [mayName_here hs hr, Bool.and_eq_true, Bool.or_eq_true] at h
  rw [mayName_here (by rwa [hspace]) (by rwa [addrRemote_add (by omega)]), hspace, hmod, Bool.and_eq_true,
    Bool.or_eq_true]
  exact ⟨h.1, h.2.imp (inOwnRange_mono · (by omega) (by omega)) (inOwnWindow_mono · (by omega) (by omega))⟩

end

end Sys2Proof.Machine
end

section
/-! What a COPY within LPDDR5X moves (O56). -/

-- These proofs wait on the same definitions: they are elaborated in order.
set_option Elab.async false

namespace Sys2Proof.Machine

/-! ### Poison of parts (R352) -/

section
variable {s t : State} {a b n m o : Nat}

theorem mem_sectors {k : Nat} : k ∈ sectors a n ↔ n ≠ 0 ∧ a / 32 ≤ k ∧ k ≤ (a + n - 1) / 32 := by
  unfold sectors
  split
  · next h0 => simp [h0]
  · next hn =>
    simp only [upTo, List.mem_map, List.mem_range]
    constructor
    · rintro ⟨i, hi, rfl⟩
      have : a / 32 ≤ (a + n - 1) / 32 := Nat.div_le_div_right (by omega)
      omega
    · rintro ⟨-, hlo, hhi⟩
      exact ⟨k - a / 32, by omega, by omega⟩

/-- What makes a read deliver poison: a sector with the poison code, or an uncorrectable error. -/
theorem lpPoison_iff : lpPoison s a n = true ↔ s.memc.inlineEcc = true ∧ n ≠ 0 ∧
    ∃ k, a / 32 ≤ k ∧ k ≤ (a + n - 1) / 32 ∧ (tabGet false s.poison k = true ∨ ∃ e, (k, e) ∈ s.memc.flips ∧ e ≠ 1) := by
  unfold lpPoison flipsIn anyPoison
  by_cases he : s.memc.inlineEcc = true
  · simp only [he, Bool.true_and, if_true, Bool.or_eq_true, List.any_eq_true, mem_sectors, List.mem_filter, touchesSector,
      decide_eq_true_eq, true_and, bne_iff_ne]
    constructor
    · rintro (⟨k, ⟨hn, hlo, hhi⟩, hk⟩ | ⟨⟨k, e⟩, ⟨hm, hn, hlo, hhi⟩, he⟩)
      · exact ⟨hn, k, hlo, hhi, .inl hk⟩
      · exact ⟨hn, k, hlo, hhi, .inr ⟨e, hm, he⟩⟩
    · rintro ⟨hn, k, hlo, hhi, hk | ⟨e, hm, he⟩⟩
      · exact .inl ⟨k, ⟨hn, hlo, hhi⟩, hk⟩
      · exact .inr ⟨(k, e), ⟨hm, hn, hlo, hhi⟩, he⟩
  · simp [he]

/-- A part of a range without poison has none. -/
theorem lpPoison_part (h : lpPoison s a n = false) (hlo : a ≤ b) (hhi : b + m ≤ a + n) : lpPoison s b m = false := by
  by_contra hb
  rw [Bool.not_eq_false, lpPoison_iff] at hb
  obtain ⟨he, hm, k, h1, h2, hk⟩ := hb
  have hwhole : lpPoison s a n = true := lpPoison_iff.mpr ⟨he, by omega, k, by omega, by omega, hk⟩
  exact absurd hwhole (by simp [h])

/-- Poison lies in one of two neighbouring parts. -/
theorem lpPoison_split (h : lpPoison s a (m + n) = true) : lpPoison s a m = true ∨ lpPoison s (a + m) n = true := by
  rw [lpPoison_iff] at h
  obtain ⟨he, hmn, k, h1, h2, hk⟩ := h
  by_cases hleft : m ≠ 0 ∧ k ≤ (a + m - 1) / 32
  · exact .inl (lpPoison_iff.mpr ⟨he, hleft.1, k, h1, hleft.2, hk⟩)
  · refine .inr (lpPoison_iff.mpr ⟨he, ?_, k, ?_, ?_, hk⟩) <;> omega

/-- A range with poison has a piece with poison. -/
theorem Tiles.poisoned {A : Nat} {ps : List (Nat × Nat)} (hT : Tiles A o n ps) (h : lpPoison s (a + o) n = true) :
    ∃ p ∈ ps, lpPoison s (a + (p.1 - A)) p.2 = true := by
  induction hT with
  | nil => exact absurd (lpPoison_iff.mp h).2.1 (by simp)
  | @cons o n m ps hm hT ih =>
    rcases lpPoison_split h with h | h
    · exact ⟨_, List.mem_cons_self, by simpa using h⟩
    · rw [Nat.add_assoc] at h
      obtain ⟨p, hp, hpp⟩ := ih h
      exact ⟨p, List.mem_cons_of_mem _ hp, hpp⟩

/-! ### The bytes of a piece (R309, R411) -/

/-- A write leaves who held the memory outside of it. -/
theorem mem_heldOutside {h q : Nat × Nat × Nat} : q ∈ heldOutside a n h → ∀ x, (x < a ∨ a + n ≤ x) → q.2.1 ≤ x →
    x < q.2.2 → q.1 = h.1 ∧ h.2.1 ≤ x ∧ x < h.2.2 := by
  unfold heldOutside
  intro hq x hx hlo hhi
  split at hq
  · obtain rfl := List.mem_singleton.mp hq
    exact ⟨rfl, hlo, hhi⟩
  · rcases List.mem_cons.mp (List.mem_of_mem_filter hq) with rfl | hq
    · dsimp only at *
      exact ⟨rfl, hlo, by omega⟩
    · obtain rfl := List.mem_singleton.mp hq
      dsimp only at *
      exact ⟨rfl, by omega, hhi⟩

theorem exists_heldOutside {h : Nat × Nat × Nat} {x : Nat} (hx : x < a ∨ a + n ≤ x) (hlo : h.2.1 ≤ x) (hhi : x < h.2.2) :
    ∃ q ∈ heldOutside a n h, q.1 = h.1 ∧ q.2.1 ≤ x ∧ x < q.2.2 := by
  unfold heldOutside
  split
  · exact ⟨h, List.mem_singleton_self h, rfl, hlo, hhi⟩
  · rcases hx with hx | hx
    · refine ⟨(h.1, h.2.1, min h.2.2 a), List.mem_filter.mpr ⟨List.mem_cons_self, decide_eq_true ?_⟩, rfl, hlo, ?_⟩ <;>
        dsimp only <;> omega
    · refine ⟨(h.1, max h.2.1 (a + n), h.2.2), List.mem_filter.mpr
        ⟨List.mem_cons_of_mem _ List.mem_cons_self, decide_eq_true ?_⟩, rfl, ?_, hhi⟩ <;> dsimp only <;> omega

/-- A write outside of a byte leaves whether it is shown. -/
theorem veiled_outside {x : Nat} (hx : x < b ∨ b + n ≤ x) (hr : t.ranges = s.ranges)
    (hh : t.memc.held = s.memc.held.flatMap (heldOutside b n)) : veiled t x = veiled s x := by
  unfold veiled
  rw [hr, hh, Bool.eq_iff_iff, List.any_eq_true, List.any_eq_true]
  constructor
  · rintro ⟨q, hq, hv⟩
    obtain ⟨h, hm, hq⟩ := List.mem_flatMap.mp hq
    rw [Bool.and_eq_true, decide_eq_true_eq] at hv
    obtain ⟨⟨hlo, hhi⟩, hany⟩ := hv
    obtain ⟨hf, hl, hh⟩ := mem_heldOutside hq x hx hlo hhi
    exact ⟨h, hm, by rw [Bool.and_eq_true, decide_eq_true_eq]; exact ⟨⟨hl, hh⟩, hf ▸ hany⟩⟩
  · rintro ⟨h, hm, hv⟩
    rw [Bool.and_eq_true, decide_eq_true_eq] at hv
    obtain ⟨⟨hlo, hhi⟩, hany⟩ := hv
    obtain ⟨q, hq, hf, hl, hh⟩ := exists_heldOutside hx hlo hhi
    exact ⟨q, List.mem_flatMap.mpr ⟨h, hm, hq⟩, by rw [Bool.and_eq_true, decide_eq_true_eq]; exact ⟨⟨hl, hh⟩, hf ▸ hany⟩⟩

/-- A read leaves who held the memory. -/
theorem foldl_held {f : State → Nat × Nat → State} (hf : ∀ s q, (f s q).memc.held = s.memc.held) (l : List (Nat × Nat))
    (s : State) : (l.foldl f s).memc.held = s.memc.held := by
  induction l generalizing s with
  | nil => rfl
  | cons q l ih => exact (ih _).trans (hf s q)

theorem lpReadEff_held (s : State) (a n : Nat) : (lpReadEff s a n).memc.held = s.memc.held :=
  foldl_held (fun s q => by split <;> rfl) _ s

theorem lpWrite_held (s : State) (a : Nat) (d : Bytes) (p : Bool) :
    (lpWrite s a d p).memc.held = s.memc.held.flatMap (heldOutside a d.length) := by
  have hreads : (partialReads s a d.length).memc.held = s.memc.held.flatMap (heldOutside a d.length) :=
    congrArg (List.flatMap (heldOutside a d.length)) (foldl_held (fun s q => by split <;> rfl) _ s)
  rw [← hreads]
  unfold lpWrite
  dsimp only
  split
  · rfl
  · split <;> rfl

/-- The state after a piece of a COPY has been moved. -/
def pieceMoved (s : State) (a b m : Nat) : State := lpWrite (lpReadEff s a m) b (lpBytes s a m) false

theorem length_lpBytes (s : State) (a n : Nat) : (lpBytes s a n).length = n := by simp [lpBytes, upTo]

theorem pieceMoved_ev (s : State) (a b m : Nat) : Evolves 25769803904 s (pieceMoved s a b m) :=
  .step (lpWrite_ev ..) <| .step (lpReadEff_ev ..) <| .refl ..

theorem pieceMoved_byte (s : State) (a b m x : Nat) : byteAt (pieceMoved s a b m).mem x =
    if b ≤ x ∧ x < b + m then lpByte s (a + (x - b)) else byteAt s.mem x := by
  have hmem : (lpReadEff s a m).mem = s.mem := (lpReadEff_ev ..).frame .mem (by decide)
  rw [pieceMoved, lpWrite_mem, byteAt_writeBytes, length_lpBytes, hmem]
  split
  · next hx =>
    have hlt : x - b < m := by omega
    simp [lpBytes, upTo, hlt]
  · rfl

theorem pieceMoved_inside (s : State) (a b : Nat) {m i : Nat} (hi : i < m) :
    byteAt (pieceMoved s a b m).mem (b + i) = lpByte s (a + i) := by
  rw [pieceMoved_byte, if_pos (by omega), Nat.add_sub_cancel_left]

theorem pieceMoved_outside (s : State) (a : Nat) {b m x : Nat} (hx : x < b ∨ b + m ≤ x) :
    byteAt (pieceMoved s a b m).mem x = byteAt s.mem x :=
  (pieceMoved_byte ..).trans (if_neg (by omega))

theorem pieceMoved_lpByte (s : State) (a : Nat) {b m x : Nat} (hx : x < b ∨ b + m ≤ x) :
    lpByte (pieceMoved s a b m) x = lpByte s x := by
  have hv : veiled (pieceMoved s a b m) x = veiled s x := by
    refine veiled_outside hx ((pieceMoved_ev ..).frame .ranges (by decide)) ?_
    rw [pieceMoved, lpWrite_held, length_lpBytes, lpReadEff_held]
  unfold lpByte
  rw [hv, pieceMoved_outside s a hx]

end

end Sys2Proof.Machine
end

section
/-! A COPY whose source lies in LPDDR5X of this device (O56). -/

-- These proofs wait on the same definitions: they are elaborated in order.
set_option Elab.async false

namespace Sys2Proof.Machine

section
variable {s t : State} {c e : Cmd} {a b n m o w z A : Nat} {ps : List (Nat × Nat)}

/-- The source of a COPY lies in LPDDR5X of this device. -/
structure SourceHere (s : State) (c : Cmd) (a n : Nat) : Prop where
  at_ : c.f 16 8 % 2 ^ 42 = a
  space : addrSpace (c.f 16 8) ≠ 0
  inside : a + n ≤ usable s

/-- The destination of a COPY lies in LPDDR5X of this device, and its function may name it. -/
structure DestHere (s : State) (c : Cmd) (b n : Nat) : Prop where
  at_ : c.f 24 8 % 2 ^ 42 = b
  space : addrSpace (c.f 24 8) ≠ 0
  here : addrRemote s (c.f 24 8) = false
  may : mayName s c.fn (c.f 24 8) n false = true
  inside : b + n ≤ usable s

theorem usable_evolves {T : Nat} (k : Evolves T s t) (h : T.testBit 48 = false := by decide) : usable t = usable s := by
  have hr := k.frame .memRegs h
  have hg : t.memc.installedGib = s.memc.installedGib := congrArg (·.installedGib) hr
  have he : t.memc.inlineEcc = s.memc.inlineEcc := congrArg (·.inlineEcc) hr
  unfold usable
  rw [hg, he]

theorem SourceHere.evolves {T : Nat} (h : SourceHere s c a n) (k : Evolves T s t)
    (h48 : T.testBit 48 = false := by decide) : SourceHere t c a n :=
  ⟨h.at_, h.space, (usable_evolves k h48) ▸ h.inside⟩

theorem addrRemote_evolves {T : Nat} (k : Evolves T s t) (h1 : T.testBit 1 = false := by decide) (v : Nat) :
    addrRemote t v = addrRemote s v := by
  have hi : t.ident = s.ident := k.frame .ident h1
  unfold addrRemote
  rw [hi]

theorem DestHere.evolves {T : Nat} (h : DestHere s c b n) (k : Evolves T s t) (h48 : T.testBit 48 = false := by decide)
    (h1 : T.testBit 1 = false := by decide) (h31 : T.testBit 31 = false := by decide) : DestHere t c b n := by
  have hranges : t.ranges = s.ranges := k.frame .ranges h31
  obtain ⟨hat, hspace, hhere, hmay, hinside⟩ := h
  have hremote : addrRemote t (c.f 24 8) = false := (addrRemote_evolves k h1 _).trans hhere
  refine ⟨hat, hspace, hremote, ?_, (usable_evolves k h48) ▸ hinside⟩
  rw [mayName_here hspace hhere] at hmay
  rw [mayName_here hspace hremote]
  unfold inOwnRange State.rangeOf at *
  rwa [hranges]

/-- A COPY of which `z` bytes have been copied and `w` pieces are due. -/
def Cmd.copying (c : Cmd) (w z : Nat) : Cmd := { c with wanting := w, final := some (0, 0, z) }

theorem addrRead_source (h : SourceHere s c a n) (hm : 0 < m) (ho : o + m ≤ n) :
    addrRead s (c.f 16 8 + o) m = (lpBytes s (a + o) m, lpPoison s (a + o) m) := by
  obtain ⟨rfl, hspace, hin⟩ := h
  have hlt := usable_lt s
  have hmod : (c.f 16 8 + o) % 2 ^ 42 = c.f 16 8 % 2 ^ 42 + o := by omega
  have hr : regionOf s (c.f 16 8 % 2 ^ 42 + o) = .lpddr := if_pos (by omega)
  unfold addrRead localRead
  rw [addrSpace_add (by omega), if_neg hspace, hmod, hr]
  exact if_pos (by omega)

theorem localReadEff_source (h : SourceHere s c a n) (hm : 0 < m) (ho : o + m ≤ n) :
    localReadEff s ((addrBits (c.f 16 8) + o) % 2 ^ 42) m = lpReadEff s (a + o) m := by
  obtain ⟨rfl, hspace, hin⟩ := h
  have hlt := usable_lt s
  have hmod : (c.f 16 8 % 2 ^ 42 + o) % 2 ^ 42 = c.f 16 8 % 2 ^ 42 + o := Nat.mod_eq_of_lt (by omega)
  have hr : regionOf s (c.f 16 8 % 2 ^ 42 + o) = .lpddr := if_pos (by omega)
  unfold localReadEff
  rw [addrBits_add_mod hspace, hmod, hr]
  exact if_pos (by omega)

/-- A piece of a source here is poisoned when its bytes are. -/
theorem pieceBad_source (h : SourceHere s c a n) (hm : 0 < m) (ho : o + m ≤ n) :
    pieceBad s c (addrBits (c.f 16 8) + o, m) = lpPoison s (a + o) m := by
  unfold pieceBad
  rw [Nat.add_sub_cancel_left, addrRead_source h hm ho]

/-- A piece is read here and goes on to its destination. -/
theorem copyLocal_cons {r : List (Nat × Nat)} (h : SourceHere t c a n) (hm : 0 < m) (ho : o + m ≤ n)
    (hcmd : t.cmd c.cid = some e) : copyLocal t c ((addrBits (c.f 16 8) + o, m) :: r) =
      copyLocal (copyWritePiece (lpReadEff t (a + o) m) e o (lpBytes t (a + o) m)) c r := by
  rw [copyLocal, hcmd]
  dsimp only
  rw [Nat.add_sub_cancel_left, addrRead_source h hm ho, localReadEff_source h hm ho]

theorem lpBytes_ne_nil (hm : 0 < m) : lpBytes t a m ≠ [] := List.ne_nil_of_length_pos (by rwa [length_lpBytes])

/-- A piece whose destination is here is moved there. -/
theorem copyWritePiece_here (hd : DestHere t c b n) (hm : 0 < m) (ho : o + m ≤ n) :
    copyWritePiece (lpReadEff t a m) c o (lpBytes t a m) = copied (pieceMoved t a (b + o) m) c.cid m := by
  have hd' : DestHere (lpReadEff t a m) c b n := hd.evolves (lpReadEff_ev ..)
  obtain ⟨hat, hspace, hhere, hmay, hin⟩ := hd'
  subst hat
  have hlt := usable_lt (lpReadEff t a m)
  have hmod : (c.f 24 8 + o) % 2 ^ 42 = c.f 24 8 % 2 ^ 42 + o := by omega
  have hw : addrWrite (lpReadEff t a m) c.fn (c.f 24 8 + o) (lpBytes t a m) false =
      (pieceMoved t a (c.f 24 8 % 2 ^ 42 + o) m, true) := by
    have := addrWrite_lpddr (s := lpReadEff t a m) (f := c.fn) (v := c.f 24 8 + o) (d := lpBytes t a m) (p := false)
      (by rwa [addrSpace_add (by omega)]) (lpBytes_ne_nil hm) (by rw [length_lpBytes, hmod]; omega)
    rwa [hmod] at this
  rw [copyWritePiece_writes rfl hhere (by rw [length_lpBytes]; exact mayName_part hmay hspace hhere (by omega) ho) (by rw [hw]),
    hw, length_lpBytes]

/-- What copying leaves of a state: host memory and the bytes outside of the destination. -/
structure CopyLeaves (s t : State) (b n : Nat) : Prop where
  hostMem : t.hostMem = s.hostMem
  bytes : ∀ x, x < b ∨ b + n ≤ x → byteAt t.mem x = byteAt s.mem x

theorem CopyLeaves.trans {u : State} (h : CopyLeaves s t b n) (k : CopyLeaves t u b n) : CopyLeaves s u b n :=
  ⟨k.hostMem.trans h.hostMem, fun x hx => (k.bytes x hx).trans (h.bytes x hx)⟩

theorem pieceMoved_leaves (s : State) (a : Nat) (ho : o + m ≤ n) : CopyLeaves s (pieceMoved s a (b + o) m) b n :=
  ⟨(pieceMoved_ev ..).frame .hostMem (by decide),
    fun x hx => pieceMoved_outside s a (by omega)⟩

theorem modCmd_leaves (s : State) (cid : Nat) (g : Cmd → Cmd) : CopyLeaves s (s.modCmd cid g) b n :=
  ⟨rfl, fun _ _ => rfl⟩

/-- One piece that is not the last: it is moved, and the COPY counts it. -/
theorem copyLocal_moves {r : List (Nat × Nat)} (hs : SourceHere t c a n) (hd : DestHere t c b n)
    (hcmd : t.cmd c.cid = some ((c.begun s).copying w z)) (hw : 1 < w) (hm : 0 < m) (ho : o + m ≤ n) :
    ∃ u, copyLocal t c ((addrBits (c.f 16 8) + o, m) :: r) = copyLocal u c r ∧
      u = (pieceMoved t (a + o) (b + o) m).modCmd c.cid (Cmd.pieceDone m) ∧ Evolves 25769820288 t u ∧
      SourceHere u c a n ∧ DestHere u c b n ∧ CopyLeaves t u b n ∧ u.cmd c.cid = some ((c.begun s).copying (w - 1) (z + m)) := by
  have hmoved : (pieceMoved t (a + o) (b + o) m).cmd c.cid = some ((c.begun s).copying w z) :=
    ((pieceMoved_ev ..).cmd (by decide) c.cid).trans hcmd
  have hev : Evolves 25769820288 t ((pieceMoved t (a + o) (b + o) m).modCmd c.cid (Cmd.pieceDone m)) :=
    .step (State.modCmd_ev ..) <| .step (pieceMoved_ev ..) <| .refl ..
  refine ⟨_, ?_, rfl, hev, hs.evolves hev, hd.evolves hev, (pieceMoved_leaves t _ ho).trans (modCmd_leaves ..), cmd_pieceDone hmoved⟩
  rw [copyLocal_cons hs hm ho hcmd]
  refine congrArg (copyLocal · c r) ?_
  exact (copyWritePiece_here (c := (c.begun s).copying w z) ⟨hd.at_, hd.space, hd.here, hd.may, hd.inside⟩ hm ho).trans
    (copied_more hmoved hw)

/-- The pieces of a source without poison are moved one after another, and the COPY completes with their bytes. -/
theorem copyLocal_completes (hT : Tiles (addrBits (c.f 16 8)) o m ps) (hs : SourceHere t c a n) (hd : DestHere t c b n)
    (hdis : b + n ≤ a ∨ a + n ≤ b) (hn : o + m = n) (hne : ps ≠ [])
    (hcmd : t.cmd c.cid = some ((c.begun s).copying ps.length o)) :
    CopyLeaves t (copyLocal t c ps) b n ∧ Completed t (copyLocal t c ps) c 0x00 0 n ∧
      (∀ i, i < o → byteAt (copyLocal t c ps).mem (b + i) = byteAt t.mem (b + i)) ∧
      ∀ i, o ≤ i → i < n → byteAt (copyLocal t c ps).mem (b + i) = lpByte t (a + i) := by
  induction hT generalizing t with
  | nil => exact absurd rfl hne
  | @cons o m' m ps hm hT ih =>
    by_cases hr : ps = []
    · subst hr
      cases hT
      have hmoved : (pieceMoved t (a + o) (b + o) m).cmd c.cid = some ((c.begun s).copying 1 o) :=
        ((pieceMoved_ev ..).cmd (by decide) c.cid).trans hcmd
      have heq : copyLocal t c [(addrBits (c.f 16 8) + o, m)] = copied (pieceMoved t (a + o) (b + o) m) c.cid m := by
        rw [copyLocal_cons hs hm (by omega) hcmd]
        exact copyWritePiece_here (c := (c.begun s).copying 1 o) ⟨hd.at_, hd.space, hd.here, hd.may, hd.inside⟩ hm (by omega)
      have hcop : Completed (pieceMoved t (a + o) (b + o) m) (copied (pieceMoved t (a + o) (b + o) m) c.cid m)
          ((c.begun s).copying 1 o) 0x00 0 (o + m) := copied_completes (c := (c.begun s).copying 1 o) hmoved (Nat.le_refl 1) rfl
      have hmem := copied_mem (pieceMoved t (a + o) (b + o) m) c.cid m
      have hhost : (copied (pieceMoved t (a + o) (b + o) m) c.cid m).hostMem = (pieceMoved t (a + o) (b + o) m).hostMem :=
        (copied_ev ..).frame .hostMem (by decide)
      have hleaves := pieceMoved_leaves (b := b) (n := n) t (a + o) (o := o) (m := m) (by omega)
      have hn' : o + m = n := by omega
      rw [heq]
      refine ⟨⟨hhost.trans hleaves.hostMem, fun x hx => by rw [hmem]; exact hleaves.bytes x hx⟩,
        hn' ▸ hcop.after (pieceMoved_ev ..), fun i hi => ?_, fun i hlo hhi => ?_⟩
      · rw [hmem]
        exact pieceMoved_outside t (a + o) (by omega)
      · obtain ⟨k, rfl⟩ := Nat.exists_eq_add_of_le hlo
        rw [hmem, ← Nat.add_assoc, ← Nat.add_assoc]
        exact pieceMoved_inside t (a + o) (b + o) (by omega)
    · have hlen := List.length_pos_of_ne_nil hr
      obtain ⟨u, hu, hdef, hev, hsu, hdu, hleaves, hcu⟩ := copyLocal_moves (o := o) (m := m) (n := n) (r := ps) hs hd hcmd
        (by rw [List.length_cons]; omega) hm (by omega)
      rw [hu]
      obtain ⟨hrest, hcop, hbefore, hafter⟩ := ih hsu hdu (by omega) hr hcu
      refine ⟨hleaves.trans hrest, hcop.after hev, fun i hi => ?_, fun i hlo hhi => ?_⟩
      · rw [hbefore i (by omega), hdef]
        exact pieceMoved_outside t (a + o) (by omega)
      · by_cases hin : i < o + m
        · obtain ⟨k, rfl⟩ := Nat.exists_eq_add_of_le hlo
          rw [hbefore _ hin, hdef, ← Nat.add_assoc, ← Nat.add_assoc]
          exact pieceMoved_inside t (a + o) (b + o) (by omega)
        · rw [hafter i (by omega) hhi, hdef]
          exact pieceMoved_lpByte t (a + o) (by omega)

/-- Some pieces of a source are moved, and the COPY goes on with one more due. -/
theorem copyLocal_goesOn (hps : ∀ p ∈ ps, ∃ k, p.1 = addrBits (c.f 16 8) + k ∧ 0 < p.2 ∧ k + p.2 ≤ n)
    (hs : SourceHere t c a n) (hd : DestHere t c b n) (hw : ps.length < w)
    (hcmd : t.cmd c.cid = some ((c.begun s).copying w z)) :
    CopyLeaves t (copyLocal t c ps) b n ∧ (copyLocal t c ps).rings = t.rings ∧
      ∃ w', (copyLocal t c ps).cmd c.cid = some ((c.begun s).copying w' (z + sumN (ps.map (·.2)))) := by
  induction ps generalizing t w z with
  | nil => exact ⟨⟨rfl, fun _ _ => rfl⟩, rfl, w, hcmd⟩
  | cons p ps ih =>
    obtain ⟨k, hk, hm, hin⟩ := hps p List.mem_cons_self
    rw [List.length_cons] at hw
    obtain ⟨u, hu, -, hev, hsu, hdu, hleaves, hcu⟩ := copyLocal_moves (r := ps) hs hd hcmd (by omega) hm hin
    obtain ⟨hrest, hrings, w', hcw⟩ := ih (fun q hq => hps q (List.mem_cons_of_mem _ hq)) hsu hdu (by omega) hcu
    have hp : p = (addrBits (c.f 16 8) + k, p.2) := Prod.ext hk rfl
    rw [hp, hu]
    refine ⟨hleaves.trans hrest, hrings.trans (hev.frame .rings (by decide)), w', ?_⟩
    rw [hcw, Nat.add_assoc]
    rfl

end

end Sys2Proof.Machine
end

section
/-! COPY (O56). -/

-- These proofs wait on the same definitions: they are elaborated in order.
set_option Elab.async false

namespace Sys2Proof.Machine

section
variable {s t u : State} {c e : Cmd} {a b n m o w z d p cid A : Nat} {ps : List (Nat × Nat)}

/-! ### The checks (R309) -/

/-- The parameters of a COPY are in order. -/
def copyOk (s : State) (c : Cmd) : Prop := c.only [(16, 24)] = true ∧ addrValid (c.f 16 8) = true ∧
  addrValid (c.f 24 8) = true ∧ copyOverlaps s c = false

/-- The function may copy these bytes. -/
def copyMay (s : State) (c : Cmd) : Prop := mayName s c.fn (c.f 16 8) (c.f 32 8) true = true ∧
  mayName s c.fn (c.f 24 8) (c.f 32 8) false = true ∧ intoObject s c = false

/-- No channel under the bytes of a COPY is looped back. -/
def copyFree (s : State) (c : Cmd) : Prop := memLooped s (c.f 16 8) (c.f 32 8) = false ∧
  memLooped s (c.f 24 8) (c.f 32 8) = false

theorem copyEff_badForm (h : ¬ copyOk s c) : copyEff c s = fail s c.cid stInvalidParameter := by
  refine if_pos ?_
  by_contra hn
  exact h (by simpa [copyOk, not_or, and_assoc] using hn)

theorem copyEff_mayNot (h : copyOk s c) (hm : ¬ copyMay s c) : copyEff c s = fail s c.cid stNotPermitted := by
  obtain ⟨h1, h2, h3, h4⟩ := h
  unfold copyEff
  dsimp only
  rw [if_neg (by simp [h1, h2, h3, h4]), if_pos]
  by_contra hn
  exact hm (by simpa [copyMay, not_or, and_assoc] using hn)

theorem copyEff_may (h : copyOk s c) (hm : copyMay s c) : copyEff c s =
    if memLooped s (c.f 16 8) (c.f 32 8) || memLooped s (c.f 24 8) (c.f 32 8) then fail s c.cid stBusy
    else if c.f 32 8 = 0 then finish s c.cid stOk 0 0
    else if addrRemote s (c.f 16 8) then
      if (issueReads (s.modCmd c.cid fun e => { e with final := some (stOk, 0, 0) }) (c.f 16 8)
        (fun _ => .copyRead c.cid) (blocks (addrBits (c.f 16 8)) (c.f 32 8))).2 then
        (issueReads (s.modCmd c.cid fun e => { e with final := some (stOk, 0, 0) }) (c.f 16 8)
          (fun _ => .copyRead c.cid) (blocks (addrBits (c.f 16 8)) (c.f 32 8))).1.modCmd c.cid
          fun e => { e with wanting := (blocks (addrBits (c.f 16 8)) (c.f 32 8)).length }
      else failCopy (issueReads (s.modCmd c.cid fun e => { e with final := some (stOk, 0, 0) }) (c.f 16 8)
          (fun _ => .copyRead c.cid) (blocks (addrBits (c.f 16 8)) (c.f 32 8))).1 c.cid stFabricUnreachable
    else match copyBus s c with
      | some a => (askCopy (s.modCmd c.cid fun e => { e with final := some (stOk, 0, 0) }) c
          (tlps s.pcie.maxRead a (c.f 32 8))).modCmd c.cid
          fun e => { e with wanting := (tlps s.pcie.maxRead a (c.f 32 8)).length }
      | none => copyHere (s.modCmd c.cid fun e => { e with final := some (stOk, 0, 0) }) c
          (blocks (addrBits (c.f 16 8)) (c.f 32 8)) := by
  obtain ⟨h1, h2, h3, h4⟩ := h
  obtain ⟨h5, h6, h7⟩ := hm
  exact (if_neg (by simp [h1, h2, h3, h4])).trans (if_neg (by simp [h5, h6, h7]))

/-- A COPY that has begun, none of its bytes copied. -/
def copyBegun (s : State) (c : Cmd) : State := (begin' s c.cid).modCmd c.cid fun e => { e with final := some (stOk, 0, 0) }

/-! ### A source on another device, or in host memory -/

/-- A destination that a request reaches. -/
def CanReach (s : State) (d : Nat) : Prop := unreachable s d = false ∧ routePort s d ≠ none

/-- Requests have been issued, and nothing else has happened to memory or the accepted commands. -/
structure Asks (s t : State) : Prop where
  mem : t.mem = s.mem
  hostMem : t.hostMem = s.hostMem
  cmds : t.cmds = s.cmds
  rings : t.rings = s.rings
  usable : usable t = usable s
  remote : ∀ v, addrRemote t v = addrRemote s v
  reaches : ∀ d, CanReach s d → CanReach t d
  reqs : ∀ q ∈ s.vertex.reqs, q ∈ t.vertex.reqs

theorem Asks.refl (s : State) : Asks s s := ⟨rfl, rfl, rfl, rfl, rfl, fun _ => rfl, fun _ => id, fun _ => id⟩

theorem Asks.trans (h : Asks s t) (k : Asks t u) : Asks s u :=
  ⟨k.mem.trans h.mem, k.hostMem.trans h.hostMem, k.cmds.trans h.cmds, k.rings.trans h.rings, k.usable.trans h.usable,
    fun v => (k.remote v).trans (h.remote v), fun d hd => k.reaches d (h.reaches d hd), fun q hq => k.reqs q (h.reqs q hq)⟩

theorem issueReq_asks {type : Nat} {x : Bool} {body : ReqBody} {why : ReqPurpose} (h : CanReach s d) :
    (issueReq s type d x body why).2 = true ∧ Asks s (issueReq s type d x body why).1 ∧
      ∃ q ∈ (issueReq s type d x body why).1.vertex.reqs, q.type = type ∧ q.dest = d ∧ q.purpose = why := by
  obtain ⟨hu, hr⟩ := h
  obtain ⟨p, hp⟩ := Option.ne_none_iff_exists'.mp hr
  obtain ⟨hok, l, hl⟩ := issueReq_issues (s := s) (type := type) (m := x) (b := body) (why := why) hu hp
  rw [hl]
  exact ⟨hok, ⟨rfl, rfl, rfl, rfl, rfl, fun _ => rfl, fun _ => id, fun q hq => List.mem_append_left _ hq⟩,
    _, List.mem_append_right _ (List.mem_singleton_self _), rfl, rfl, rfl⟩

theorem issueReads_asks {v : Nat} {why : Nat → ReqPurpose} (h : CanReach s (addrDevice v)) :
    (issueReads s v why ps).2 = true ∧ Asks s (issueReads s v why ps).1 ∧
      ∀ p ∈ ps, ∃ q ∈ (issueReads s v why ps).1.vertex.reqs, q.type = 1 ∧ q.dest = addrDevice v ∧ q.purpose = why p.1 := by
  induction ps generalizing s with
  | nil => exact ⟨rfl, .refl s, fun _ hp => absurd hp List.not_mem_nil⟩
  | cons p ps ih =>
    obtain ⟨hok, hasks, q, hq, hprops⟩ := issueReq_asks (type := 1) (x := false)
      (body := { address := p.1, length := p.2 }) (why := why p.1) h
    obtain ⟨hok', hasks', hall⟩ := ih (hasks.reaches _ h)
    rw [issueReads, if_pos hok]
    refine ⟨hok', hasks.trans hasks', fun x hx => ?_⟩
    rcases List.mem_cons.mp hx with rfl | hx
    · exact ⟨q, hasks'.reqs q hq, hprops⟩
    · exact hall x hx

theorem issueReads_fails {v : Nat} {why : Nat → ReqPurpose}
    (h : unreachable s (addrDevice v) = true ∨ routePort s (addrDevice v) = none) (hne : ps ≠ []) :
    issueReads s v why ps = (s, false) := by
  obtain ⟨p, ps, rfl⟩ := List.exists_cons_of_ne_nil hne
  rw [issueReads, issueReq_fails h]
  exact if_neg (by simp)

theorem issueWrites_asks {base : Nat} {data : Bytes} {body : ReqBody} {why : ReqPurpose} (h : CanReach s d) :
    (issueWrites s d base data body why ps).2 = true ∧ Asks s (issueWrites s d base data body why ps).1 ∧
      (ps ≠ [] → ∃ q ∈ (issueWrites s d base data body why ps).1.vertex.reqs, q.type = 2 ∧ q.dest = d ∧ q.purpose = why) := by
  induction ps generalizing s with
  | nil => exact ⟨rfl, .refl s, fun hn => absurd rfl hn⟩
  | cons p ps ih =>
    obtain ⟨hok, hasks, q, hq, hprops⟩ := issueReq_asks (type := 2) (x := false)
      (body := { body with address := p.1, length := p.2, data := slice data (p.1 - base) p.2 }) (why := why) h
    obtain ⟨hok', hasks', -⟩ := ih (hasks.reaches _ h)
    rw [issueWrites, if_pos hok]
    exact ⟨hok', hasks.trans hasks', fun _ => ⟨q, hasks'.reqs q hq, hprops⟩⟩

theorem copyBegun_cmd (h : Ready s cid 0x52 c) : (copyBegun s c).cmd c.cid = some { c.begun s with final := some (0, 0, 0) } := by
  have hbegun : (begin' s c.cid).cmd c.cid = some (c.begun s) := begin'_cmd (State.cmd_cid h.1 ▸ h.1)
  unfold copyBegun
  rw [State.cmd_modCmd (begin' s c.cid) c.cid (fun e => { e with final := some (stOk, 0, 0) }) fun _ => rfl, hbegun]
  rfl

/-- The number of pieces that are due is noted in the command. -/
theorem cmd_due (h : s.cmd cid = some e) :
    (s.modCmd cid fun e => { e with wanting := w }).cmd cid = some { e with wanting := w } := by
  rw [State.cmd_modCmd s cid (fun e => { e with wanting := w }) fun _ => rfl, h]
  rfl

theorem copyBegun_ev (s : State) (c : Cmd) : Evolves 16384 s (copyBegun s c) :=
  .step (State.modCmd_ev ..) <| .step (begin'_ev ..) <| .refl ..

theorem failCopy_copying {x y st : Nat} (h : s.cmd cid = some e) (ho : e.opcode = 0x52) (hf : e.final = some (x, y, z)) :
    failCopy s cid st = finish s cid st 0 z := by
  unfold failCopy
  rw [h]
  dsimp only
  rw [if_pos ho, hf]
  rfl

theorem Ready.copies (h : Ready s cid 0x52 c) : c.opcode = 0x52 := by
  have hr := h.2
  simp only [ready, Bool.and_eq_true, beq_iff_eq] at hr
  obtain ⟨⟨⟨⟨-, ho⟩, -⟩, -⟩, -⟩ := hr
  exact ho

/-- A COPY that fails before it has copied anything. -/
theorem copyBegun_fails (h : Ready s cid 0x52 c) (st : Nat) :
    failCopy (copyBegun s c) c.cid st = finish (copyBegun s c) c.cid st 0 0 ∧
      Completed s (settle (finish (copyBegun s c) c.cid st 0 0)) c st 0 0 := by
  have hc := copyBegun_cmd h
  exact ⟨failCopy_copying hc h.copies rfl, ((finish_completed hc st 0 0).mono (settle_ev _)).after (copyBegun_ev s c)⟩

/-! ### The parts of the statement -/

/-- What a COPY does once its checks have passed. -/
theorem copyEff_passes (h : Ready s cid 0x52 c) (ho : copyOk s c) (hm : copyMay s c) (hf : copyFree s c)
    (hn : c.f 32 8 ≠ 0) : copyEff c (begin' s cid) =
      if addrRemote s (c.f 16 8) then
        if (issueReads (copyBegun s c) (c.f 16 8) (fun _ => .copyRead c.cid)
            (blocks (addrBits (c.f 16 8)) (c.f 32 8))).2 then
          (issueReads (copyBegun s c) (c.f 16 8) (fun _ => .copyRead c.cid)
            (blocks (addrBits (c.f 16 8)) (c.f 32 8))).1.modCmd c.cid
            fun e => { e with wanting := (blocks (addrBits (c.f 16 8)) (c.f 32 8)).length }
        else failCopy (issueReads (copyBegun s c) (c.f 16 8) (fun _ => .copyRead c.cid)
            (blocks (addrBits (c.f 16 8)) (c.f 32 8))).1 c.cid stFabricUnreachable
      else match copyBus s c with
        | some a => (askCopy (copyBegun s c) c (tlps s.pcie.maxRead a (c.f 32 8))).modCmd c.cid
            fun e => { e with wanting := (tlps s.pcie.maxRead a (c.f 32 8)).length }
        | none => copyHere (copyBegun s c) c (blocks (addrBits (c.f 16 8)) (c.f 32 8)) := by
  obtain ⟨hl, hl'⟩ := hf
  have he := copyEff_may (s := begin' s cid) (c := c) ho hm
  have hloop (v : Nat) : memLooped (begin' s cid) v (c.f 32 8) = memLooped s v (c.f 32 8) := rfl
  rw [hloop, hloop, hl, hl', if_neg (by simp), if_neg hn] at he
  obtain rfl : c.cid = cid := State.cmd_cid h.1
  exact he

theorem modCmd_keeps_cmd {g : Cmd → Cmd} {j : Nat} (hg : ∀ e, (g e).cid = e.cid) (hc : s.cmd cid ≠ none) :
    (s.modCmd j g).cmd cid ≠ none := by
  by_cases hj : cid = j
  · subst hj
    exact cmd_modCmd_ne_none hg hc
  · rwa [cmd_modCmd_other hg hj]

/-- A COPY that ends at its checks. -/
theorem copy_ends {st : Nat} (h : Ready s cid 0x52 c) (hact : copyEff c (begin' s cid) = finish (begin' s cid) c.cid st 0 0) :
    ∃ t, exec (.copy cid) s = .next t ∧ t.mem = s.mem ∧ t.hostMem = s.hostMem ∧ Completed s t c st 0 0 := by
  obtain ⟨hex, hc⟩ := h.finishes hact
  exact ⟨_, hex, (finish_ev ..).frame .mem (by decide), (finish_ev ..).frame .hostMem (by decide), hc⟩

/-- A source on another device is asked for by READs, or is out of reach. -/
theorem copy_remote_fails (h : Ready s cid 0x52 c) (ho : copyOk s c) (hm : copyMay s c) (hf : copyFree s c)
    (hn : c.f 32 8 ≠ 0) (hr : addrRemote s (c.f 16 8) = true)
    (hu : unreachable s (addrDevice (c.f 16 8)) = true ∨ routePort s (addrDevice (c.f 16 8)) = none) :
    ∃ t, exec (.copy cid) s = .next t ∧ t.mem = s.mem ∧ t.hostMem = s.hostMem ∧ Completed s t c stFabricUnreachable 0 0 := by
  have hact := copyEff_passes h ho hm hf hn
  rw [if_pos hr, issueReads_fails (s := copyBegun s c) hu ((blocks_tiles ..).ne_nil hn), if_neg (by simp),
    (copyBegun_fails h _).1] at hact
  exact ⟨_, onCmd_acts h hact, (finish_ev ..).frame .mem (by decide), (finish_ev ..).frame .hostMem (by decide),
    (copyBegun_fails h _).2⟩

theorem copy_remote_asks (h : Ready s cid 0x52 c) (ho : copyOk s c) (hm : copyMay s c) (hf : copyFree s c)
    (hn : c.f 32 8 ≠ 0) (hr : addrRemote s (c.f 16 8) = true) (hu : CanReach s (addrDevice (c.f 16 8))) :
    ∃ t, exec (.copy cid) s = .next t ∧ t.mem = s.mem ∧ t.cmd cid ≠ none ∧
      ∃ q ∈ t.vertex.reqs, q.type = 1 ∧ q.dest = addrDevice (c.f 16 8) ∧ q.purpose = .copyRead cid := by
  have hact := copyEff_passes h ho hm hf hn
  obtain ⟨p, hp⟩ := List.exists_mem_of_ne_nil _ ((blocks_tiles (addrBits (c.f 16 8)) (c.f 32 8)).ne_nil hn)
  obtain ⟨hok, hasks, hall⟩ := issueReads_asks (s := copyBegun s c) (why := fun _ => .copyRead c.cid)
    (ps := blocks (addrBits (c.f 16 8)) (c.f 32 8)) hu
  obtain ⟨q, hq, htype, hdest, hpur⟩ := hall p hp
  rw [if_pos hr, if_pos hok] at hact
  refine ⟨_, onCmd_acts h hact, hasks.mem, modCmd_keeps_cmd (fun _ => rfl) ?_, q, hq, htype, hdest,
    hpur.trans (congrArg _ (State.cmd_cid h.1))⟩
  unfold State.cmd
  rw [hasks.cmds, ← State.cmd_cid h.1]
  exact ne_of_eq_of_ne (copyBegun_cmd h) (Option.some_ne_none _)

/-- A source in host memory is asked for by reads on PCIe. -/
theorem copyBus_host (hs : addrSpace (c.f 16 8) = 0) : copyBus s c = some (addrBits (c.f 16 8)) := by
  unfold copyBus place
  rw [if_pos hs]
  rfl

theorem askCopy_asks {tag x : Nat} (ht : nextPcieTag s = some tag) :
    ∃ r ∈ (askCopy s c ((x, m) :: ps)).pcieReads, r.fn = c.fn ∧ r.addr = x ∧ r.purpose = .copy c.cid := by
  rw [askCopy, ht]
  exact ⟨_, askCopy_reads _ c ps (List.mem_append_right _ (List.mem_singleton_self _)), rfl, rfl, rfl⟩

theorem askCopy_cmd_ne_none (hc : s.cmd cid ≠ none) : (askCopy s c ps).cmd cid ≠ none := by
  fun_induction askCopy s c ps with
  | case1 s => exact modCmd_keeps_cmd (fun _ => rfl) hc
  | case2 s => exact modCmd_keeps_cmd (fun _ => rfl) hc
  | case3 s a n r t ht ih => exact ih hc

theorem tlps_head {lim x : Nat} (hn : n ≠ 0) : ∃ m r, tlps lim x n = (x, m) :: r := by
  unfold tlps
  rw [tlpsN, if_neg hn]
  exact ⟨_, _, rfl⟩

theorem copy_host_asks (h : Ready s cid 0x52 c) (ho : copyOk s c) (hm : copyMay s c) (hf : copyFree s c)
    (hn : c.f 32 8 ≠ 0) (hs : addrSpace (c.f 16 8) = 0) (ht : nextPcieTag s ≠ none) :
    ∃ t, exec (.copy cid) s = .next t ∧ t.mem = s.mem ∧ t.cmd cid ≠ none ∧
      ∃ x ∈ t.pcieReads, x.fn = c.fn ∧ x.addr = addrBits (c.f 16 8) ∧ x.purpose = .copy cid := by
  have hact := copyEff_passes h ho hm hf hn
  obtain ⟨tag, ht⟩ := Option.ne_none_iff_exists'.mp ht
  obtain ⟨m, r, htlps⟩ := tlps_head (lim := s.pcie.maxRead) (x := addrBits (c.f 16 8)) hn
  obtain ⟨x, hx, hfn, haddr, hpur⟩ := askCopy_asks (s := copyBegun s c) (c := c) (m := m) (ps := r)
    (x := addrBits (c.f 16 8)) ht
  rw [if_neg (by simp [addrRemote, hs]), copyBus_host hs] at hact
  dsimp only at hact
  rw [htlps] at hact
  refine ⟨_, onCmd_acts h hact, (askCopy_ev ..).frame .mem (by decide), modCmd_keeps_cmd (fun _ => rfl) ?_, x, hx, hfn, haddr,
    hpur.trans (congrArg _ (State.cmd_cid h.1))⟩
  refine askCopy_cmd_ne_none ?_
  rw [← State.cmd_cid h.1]
  exact ne_of_eq_of_ne (copyBegun_cmd h) (Option.some_ne_none _)

/-! ### A source in LPDDR5X of this device -/

theorem place_here {f v : Nat} (hs : addrSpace v ≠ 0) (hr : addrRemote s v = false) (hin : v % 2 ^ 42 < usable s) :
    place s f v = (1, v % 2 ^ 42) := by
  have hreg : regionOf s (v % 2 ^ 42) = .lpddr := if_pos hin
  unfold place
  rw [if_neg hs, if_neg (by simp [hr]), hreg]

/-- Where nothing overlaps, source and destination in LPDDR5X are apart. -/
theorem copy_apart (ho : copyOverlaps s c = false) (hn : c.f 32 8 ≠ 0) (hs : SourceHere s c a (c.f 32 8))
    (hr : addrRemote s (c.f 16 8) = false) (hd : DestHere s c b (c.f 32 8)) :
    b + c.f 32 8 ≤ a ∨ a + c.f 32 8 ≤ b := by
  obtain ⟨rfl, hspace, hin⟩ := hs
  obtain ⟨rfl, hspace', hhere, -, hin'⟩ := hd
  unfold copyOverlaps at ho
  rw [place_here hspace hr (by omega), place_here hspace' hhere (by omega)] at ho
  simp at ho
  omega

/-- The effect of a COPY from LPDDR5X of this device. -/
theorem copyEff_here (h : Ready s cid 0x52 c) (ho : copyOk s c) (hm : copyMay s c) (hf : copyFree s c)
    (hn : c.f 32 8 ≠ 0) (hs : SourceHere s c a (c.f 32 8)) (hr : addrRemote s (c.f 16 8) = false) :
    copyEff c (begin' s cid) = copyHere (copyBegun s c) c (blocks (addrBits (c.f 16 8)) (c.f 32 8)) := by
  obtain ⟨rfl, hspace, hin⟩ := hs
  have hbus : copyBus s c = none := by
    unfold copyBus
    rw [place_here hspace hr (by omega)]
    rfl
  rw [copyEff_passes h ho hm hf hn, if_neg (by simp [hr]), hbus]

/-- The pieces of a source without poison, or those that are copied before a piece with poison ends the COPY. -/
theorem copyHere_eq (hs : SourceHere s c a n) (hT : Tiles (addrBits (c.f 16 8)) 0 n ps) :
    (lpPoison s a n = false → copyHere s c ps = copyLocal (s.modCmd c.cid fun e => { e with wanting := ps.length }) c ps) ∧
    (lpPoison s a n = true → ∃ qs, qs.Sublist (ps.filter fun p => !pieceBad s c p) ∧
      (∃ p ∈ ps, pieceBad s c p = true) ∧ copyHere s c ps =
        failCopy (copyLocal ((s.used ps.length).modCmd c.cid fun e => { e with wanting := ps.length }) c qs) c.cid
          stPoisonedData) := by
  have hbad (p : Nat × Nat) (hp : p ∈ ps) : pieceBad s c p = lpPoison s (a + (p.1 - addrBits (c.f 16 8))) p.2 := by
    obtain ⟨k, hk, hpos, -, hhi⟩ := hT.inside p hp
    have hpe : p = (addrBits (c.f 16 8) + k, p.2) := Prod.ext hk rfl
    rw [hpe, pieceBad_source hs hpos (by omega), Nat.add_sub_cancel_left]
  refine ⟨fun hclean => if_neg ?_, fun hpoison => ?_⟩
  · rw [Bool.not_eq_true, List.any_eq_false]
    intro p hp
    obtain ⟨k, hk, hpos, -, hhi⟩ := hT.inside p hp
    rw [hbad p hp, lpPoison_part hclean (by omega) (by omega)]
    exact Bool.false_ne_true
  · obtain ⟨p, hp, hpp⟩ := hT.poisoned (s := s) (a := a) hpoison
    rw [← hbad p hp] at hpp
    refine ⟨_, ?_, ⟨p, hp, hpp⟩, if_pos (List.any_eq_true.mpr ⟨p, hp, hpp⟩)⟩
    have hzip : (ps.zip (upTo ps.length)).map (·.1) = ps := List.map_fst_zip (by simp [upTo])
    have hsub : ((ps.zip (upTo ps.length)).filter fun q => !pieceBad s c q.1 &&
        decide (Config.freeNat (s.freeCtr + q.2) % 2 = 1)).Sublist
        ((ps.zip (upTo ps.length)).filter fun q => !pieceBad s c q.1) :=
      List.monotone_filter_right _ fun q hq => (Bool.and_eq_true_iff.mp hq).1
    have hmap := hsub.map (·.1)
    have hgood : ((ps.zip (upTo ps.length)).filter fun q => !pieceBad s c q.1).map (·.1) =
        ps.filter fun p => !pieceBad s c p := by
      conv_rhs => rw [← hzip, List.filter_map]
      rfl
    rwa [hgood] at hmap

theorem sumN_sublist {l l' : List Nat} (h : l.Sublist l') : sumN l ≤ sumN l' := by
  induction h with
  | slnil => exact Nat.le_refl _
  | cons x _ ih => exact ih.trans (Nat.le_add_left ..)
  | cons_cons x _ ih => exact Nat.add_le_add_left ih x

/-- The pieces without poison have fewer bytes where some piece has poison. -/
theorem sum_good_lt {bad : Nat × Nat → Bool} (hT : Tiles A o n ps) (hbad : ∃ p ∈ ps, bad p = true) :
    sumN ((ps.filter fun p => !bad p).map (·.2)) < n := by
  induction hT with
  | nil => exact absurd hbad (by simp)
  | @cons o n m ps hm hT ih =>
    cases hp : bad (A + o, m) with
    | true =>
      rw [List.filter_cons_of_neg (by simp [hp])]
      have hle := (sumN_sublist ((List.filter_sublist (p := fun p => !bad p) (l := ps)).map (·.2))).trans_eq hT.total
      omega
    | false =>
      obtain ⟨p, hmem, hb⟩ := hbad
      have htail : p ∈ ps := (List.mem_cons.mp hmem).resolve_left (by rintro rfl; simp [hp] at hb)
      rw [List.filter_cons_of_pos (by simp [hp])]
      exact Nat.add_lt_add_left (ih ⟨p, htail, hb⟩) m

/-- A COPY within LPDDR5X of a source without poison. -/
theorem copy_moves (h : Ready s cid 0x52 c) (ho : copyOk s c) (hm : copyMay s c) (hf : copyFree s c)
    (hn : c.f 32 8 ≠ 0) (hs : SourceHere s c a (c.f 32 8)) (hr : addrRemote s (c.f 16 8) = false)
    (hclean : lpPoison s a (c.f 32 8) = false) (hd : DestHere s c b (c.f 32 8)) :
    ∃ t, exec (.copy cid) s = .next t ∧ (∀ i < c.f 32 8, byteAt t.mem (b + i) = lpByte s (a + i)) ∧
      (∀ x, x < b ∨ b + c.f 32 8 ≤ x → byteAt t.mem x = byteAt s.mem x) ∧ t.hostMem = s.hostMem ∧
      Completed s t c 0x00 0 (c.f 32 8) := by
  have hT := blocks_tiles (addrBits (c.f 16 8)) (c.f 32 8)
  have hact := copyEff_here h ho hm hf hn hs hr
  rw [(copyHere_eq (hs.evolves (copyBegun_ev s c)) hT).1 hclean] at hact
  generalize blocks (addrBits (c.f 16 8)) (c.f 32 8) = ps at hT hact
  generalize hu : (copyBegun s c).modCmd c.cid (fun e => { e with wanting := ps.length }) = u at hact
  have hev : Evolves 16384 s u := by
    rw [← hu]
    exact .step (State.modCmd_ev ..) <| .step (copyBegun_ev ..) <| .refl ..
  have hcmd : u.cmd c.cid = some ((c.begun s).copying ps.length 0) := by
    rw [← hu]
    exact cmd_due (copyBegun_cmd h)
  have hmem : u.mem = s.mem := hev.frame .mem (by decide)
  have hbyte (x : Nat) : lpByte u x = lpByte s x := by
    rw [← hu]
    rfl
  obtain ⟨hleaves, hdone, -, hbytes⟩ := copyLocal_completes hT (hs.evolves hev) (hd.evolves hev)
    (copy_apart ho.2.2.2 hn hs hr hd) (Nat.zero_add _) (hT.ne_nil hn) hcmd
  refine ⟨_, onCmd_acts h hact, fun i hi => (hbytes i (Nat.zero_le i) hi).trans (hbyte _),
    fun x hx => (hleaves.bytes x hx).trans (by rw [hmem]), hleaves.hostMem.trans (hev.frame .hostMem (by decide)), ?_⟩
  exact (hdone.mono (settle_ev _)).after hev

/-- A COPY within LPDDR5X whose source has poison. -/
theorem copy_poisoned (h : Ready s cid 0x52 c) (ho : copyOk s c) (hm : copyMay s c) (hf : copyFree s c)
    (hn : c.f 32 8 ≠ 0) (hs : SourceHere s c a (c.f 32 8)) (hr : addrRemote s (c.f 16 8) = false)
    (hpoison : lpPoison s a (c.f 32 8) = true) (hd : DestHere s c b (c.f 32 8)) :
    ∃ t r, exec (.copy cid) s = .next t ∧ r < c.f 32 8 ∧
      (∀ x, x < b ∨ b + c.f 32 8 ≤ x → byteAt t.mem x = byteAt s.mem x) ∧ Completed s t c stPoisonedData 0 r := by
  have hT := blocks_tiles (addrBits (c.f 16 8)) (c.f 32 8)
  have hact := copyEff_here h ho hm hf hn hs hr
  obtain ⟨qs, hsub, hbad, he⟩ := (copyHere_eq (hs.evolves (copyBegun_ev s c)) hT).2 hpoison
  rw [he] at hact
  generalize blocks (addrBits (c.f 16 8)) (c.f 32 8) = ps at hT hact hsub hbad
  have hlen : qs.length < ps.length := by
    obtain ⟨p, hp, hb⟩ := hbad
    exact Nat.lt_of_le_of_lt hsub.length_le (List.length_filter_lt_length_iff_exists.mpr ⟨p, hp, by simp [hb]⟩)
  generalize hu : ((copyBegun s c).used ps.length).modCmd c.cid (fun e => { e with wanting := ps.length }) = u at hact
  have hev : Evolves 17592186060800 s u := by
    rw [← hu]
    exact .step (State.modCmd_ev ..) <| .step (State.used_ev ..) <| .step (copyBegun_ev ..) <| .refl ..
  have hcmd : u.cmd c.cid = some ((c.begun s).copying ps.length 0) := by
    rw [← hu]
    exact cmd_due (s := (copyBegun s c).used ps.length) (copyBegun_cmd h)
  have hmem : u.mem = s.mem := hev.frame .mem (by decide)
  obtain ⟨hleaves, hrings, w, hcw⟩ := copyLocal_goesOn (fun p hp => by
      obtain ⟨k, hk, hpos, -, hhi⟩ := hT.inside p (List.mem_of_mem_filter (hsub.subset hp))
      exact ⟨k, hk, hpos, by omega⟩) (hs.evolves hev) (hd.evolves hev) hlen hcmd
  rw [Nat.zero_add] at hcw
  rw [failCopy_copying hcw h.copies rfl] at hact
  refine ⟨_, _, onCmd_acts h hact, Nat.lt_of_le_of_lt (sumN_sublist (hsub.map _)) (sum_good_lt hT hbad), fun x hx => ?_, ?_⟩
  · have hfin : (finish (copyLocal u c qs) c.cid stPoisonedData 0 (sumN (qs.map (·.2)))).mem = (copyLocal u c qs).mem :=
      (finish_ev ..).frame .mem (by decide)
    exact (congrArg (byteAt · x) hfin).trans ((hleaves.bytes x hx).trans (by rw [hmem]))
  · have hcomp := (finish_completed hcw stPoisonedData 0 (sumN (qs.map (·.2)))).mono (settle_ev _)
    exact (hcomp.ofRing (by rw [State.ring, State.ring, hrings])).after hev

/-! ### A destination on another device -/

/-- A COPY of a source here to another device goes on: its next pieces may be sent. -/
structure SendsOn (t : State) (c e : Cmd) (a n d : Nat) : Prop where
  source : SourceHere t c a n
  remote : addrRemote t (c.f 24 8) = true
  reach : CanReach t d
  due : ∃ w z, 0 < w ∧ t.cmd c.cid = some (e.copying w z)

/-- A piece for another device leaves as WRITEs, which are then due. -/
theorem copyWritePiece_away {body : Bytes} (hr : addrRemote t (c.f 24 8) = true) (hu : CanReach t (addrDevice (c.f 24 8)))
    (hbody : body.length ≠ 0) (hw : 0 < w) (hcmd : t.cmd c.cid = some ((c.begun s).copying w z)) :
    ∃ x k, copyWritePiece t ((c.begun s).copying w z) o body =
        (x.modCmd c.cid fun e => { e with wanting := e.wanting + k }).modCmd c.cid (Cmd.pieceDone 0) ∧ 0 < k ∧ Asks t x ∧
      ((x.modCmd c.cid fun e => { e with wanting := e.wanting + k }).modCmd c.cid (Cmd.pieceDone 0)).cmd c.cid =
        some ((c.begun s).copying (w + k - 1) z) ∧
      ∃ q ∈ x.vertex.reqs, q.type = 2 ∧ q.dest = addrDevice (c.f 24 8) ∧ q.purpose = .copyWrite c.cid := by
  have hne : blocks (addrBits (c.f 24 8) + o) body.length ≠ [] := (blocks_tiles ..).ne_nil hbody
  obtain ⟨hok, hasks, hq⟩ := issueWrites_asks (s := t) (base := addrBits (c.f 24 8) + o) (data := body) (body := {})
    (why := .copyWrite c.cid) (ps := blocks (addrBits (c.f 24 8) + o) body.length) hu
  have he : copyWritePiece t ((c.begun s).copying w z) o body = copied ((issueWrites t (addrDevice (c.f 24 8))
      (addrBits (c.f 24 8) + o) body {} (.copyWrite c.cid) (blocks (addrBits (c.f 24 8) + o) body.length)).1.modCmd c.cid
        fun e => { e with wanting := e.wanting + (blocks (addrBits (c.f 24 8) + o) body.length).length }) c.cid 0 :=
    (if_pos hr).trans (if_pos hok)
  have hlen := List.length_pos_of_ne_nil hne
  have hq := hq hne
  generalize blocks (addrBits (c.f 24 8) + o) body.length = ps at *
  generalize (issueWrites t (addrDevice (c.f 24 8)) (addrBits (c.f 24 8) + o) body {} (.copyWrite c.cid) ps).1 = x at *
  have hx : x.cmd c.cid = some ((c.begun s).copying w z) := by
    rw [← hcmd, State.cmd, State.cmd, hasks.cmds]
  have hmore : (x.modCmd c.cid fun e => { e with wanting := e.wanting + ps.length }).cmd c.cid =
      some ((c.begun s).copying (w + ps.length) z) := by
    rw [State.cmd_modCmd x c.cid (fun e => { e with wanting := e.wanting + ps.length }) fun _ => rfl, hx]
    rfl
  have hdue : 1 < w + ps.length := by omega
  exact ⟨x, ps.length, he.trans (copied_more hmore hdue), hlen, hasks, cmd_pieceDone hmore, hq⟩

/-- One piece of a source here is read and sent, and the COPY goes on. -/
theorem copyLocal_sends {r : List (Nat × Nat)} (hg : SendsOn t c (c.begun s) a n (addrDevice (c.f 24 8))) (hm : 0 < m)
    (ho : o + m ≤ n) :
    ∃ u, copyLocal t c ((addrBits (c.f 16 8) + o, m) :: r) = copyLocal u c r ∧ u.mem = t.mem ∧
      SendsOn u c (c.begun s) a n (addrDevice (c.f 24 8)) ∧
      ∃ q ∈ u.vertex.reqs, q.type = 2 ∧ q.dest = addrDevice (c.f 24 8) ∧ q.purpose = .copyWrite c.cid := by
  obtain ⟨hs, hr, hu, w, z, hw, hcmd⟩ := hg
  have hev := lpReadEff_ev t (a + o) m
  have hread : (lpReadEff t (a + o) m).vertex = t.vertex := hev.frame .vertex (by decide)
  have hident : (lpReadEff t (a + o) m).ident = t.ident := hev.frame .ident (by decide)
  have hreach : CanReach (lpReadEff t (a + o) m) (addrDevice (c.f 24 8)) := by
    obtain ⟨h1, h2⟩ := hu
    unfold CanReach unreachable routePort State.fabPort at *
    rw [hread, hident]
    exact ⟨h1, h2⟩
  obtain ⟨x, k, he, hk, hasks, hdue, q, hq, hprops⟩ := copyWritePiece_away (s := s) (c := c) (o := o) (body := lpBytes t (a + o) m)
    ((addrRemote_evolves hev (by decide) _).trans hr) hreach (by rw [length_lpBytes]; omega) hw
    ((hev.cmd (by decide) _).trans hcmd)
  refine ⟨(x.modCmd c.cid fun e => { e with wanting := e.wanting + k }).modCmd c.cid (Cmd.pieceDone 0), ?_,
    hasks.mem.trans (hev.frame .mem (by decide)), ⟨?_, ?_, hasks.reaches _ hreach, w + k - 1, z, by omega, hdue⟩, q, hq,
    hprops⟩
  · rw [copyLocal_cons hs hm ho hcmd, he]
  · exact ⟨hs.at_, hs.space, (hasks.usable.trans (usable_evolves hev)) ▸ hs.inside⟩
  · exact (hasks.remote _).trans ((addrRemote_evolves hev (by decide) _).trans hr)

/-- The pieces of a source here leave for another device one after another. -/
theorem copyLocal_away (hps : ∀ p ∈ ps, ∃ k, p.1 = addrBits (c.f 16 8) + k ∧ 0 < p.2 ∧ k + p.2 ≤ n)
    (hg : SendsOn t c (c.begun s) a n (addrDevice (c.f 24 8)))
    (hq : ps ≠ [] ∨ ∃ q ∈ t.vertex.reqs, q.type = 2 ∧ q.dest = addrDevice (c.f 24 8) ∧ q.purpose = .copyWrite c.cid) :
    (copyLocal t c ps).mem = t.mem ∧ (copyLocal t c ps).cmd c.cid ≠ none ∧
      ∃ q ∈ (copyLocal t c ps).vertex.reqs, q.type = 2 ∧ q.dest = addrDevice (c.f 24 8) ∧ q.purpose = .copyWrite c.cid := by
  induction ps generalizing t with
  | nil =>
    obtain ⟨w, z, -, hcmd⟩ := hg.due
    exact ⟨rfl, ne_of_eq_of_ne hcmd (Option.some_ne_none _), hq.resolve_left (fun hn => hn rfl)⟩
  | cons p ps ih =>
    obtain ⟨k, hk, hm, hin⟩ := hps p List.mem_cons_self
    have hp : p = (addrBits (c.f 16 8) + k, p.2) := Prod.ext hk rfl
    obtain ⟨u, hu, hmem, hgu, hqu⟩ := copyLocal_sends (r := ps) hg hm hin
    rw [hp, hu, ← hmem]
    exact ih (fun q hq => hps q (List.mem_cons_of_mem _ hq)) hgu (.inr hqu)

theorem copy_sends (h : Ready s cid 0x52 c) (ho : copyOk s c) (hm : copyMay s c) (hf : copyFree s c)
    (hn : c.f 32 8 ≠ 0) (hs : SourceHere s c a (c.f 32 8)) (hr : addrRemote s (c.f 16 8) = false)
    (hclean : lpPoison s a (c.f 32 8) = false) (hd : addrRemote s (c.f 24 8) = true)
    (hu : CanReach s (addrDevice (c.f 24 8))) :
    ∃ t, exec (.copy cid) s = .next t ∧ t.mem = s.mem ∧ t.cmd cid ≠ none ∧
      ∃ q ∈ t.vertex.reqs, q.type = 2 ∧ q.dest = addrDevice (c.f 24 8) ∧ q.purpose = .copyWrite cid := by
  have hT := blocks_tiles (addrBits (c.f 16 8)) (c.f 32 8)
  have hact := copyEff_here h ho hm hf hn hs hr
  rw [(copyHere_eq (hs.evolves (copyBegun_ev s c)) hT).1 hclean] at hact
  generalize blocks (addrBits (c.f 16 8)) (c.f 32 8) = ps at hT hact
  have hne := hT.ne_nil hn
  have hgoes : SendsOn ((copyBegun s c).modCmd c.cid fun e => { e with wanting := ps.length }) c (c.begun s) a (c.f 32 8)
      (addrDevice (c.f 24 8)) :=
    ⟨hs.evolves (Evolves.step (A := 16384) (T := 16384) (State.modCmd_ev ..) (copyBegun_ev s c)), hd, hu, ps.length, 0,
      List.length_pos_of_ne_nil hne, cmd_due (copyBegun_cmd h)⟩
  obtain ⟨hmem, hcmd, hq⟩ := copyLocal_away (fun p hp => by
    obtain ⟨k, hk, hpos, -, hhi⟩ := hT.inside p hp
    exact ⟨k, hk, hpos, by omega⟩) hgoes (.inl hne)
  obtain rfl : c.cid = cid := State.cmd_cid h.1
  exact ⟨_, onCmd_acts h hact, hmem, hcmd, hq⟩

end

/-- Settles O56: windows enter and leave the table by their numbers; a COPY piece by piece, each read before what it
overwrites can be read again, as source and destination do not overlap. -/
theorem windowsAndCopies : Obligations.WindowsAndCopies := by
  refine ⟨?exports, ?imp, ?copy, fun s f v d _ hd => ⟨addrWrite_host, fun hs hv => addrWrite_local hs hd hv⟩⟩
  case exports =>
    rintro s cid c _ h rfl
    refine ⟨fun hb => windowExport_ends h (windowExportEff_badForm hb), fun ho h1 => ⟨fun hobj => ?_, ?_⟩⟩
    · refine ⟨fun hne => windowExport_ends h ?_, fun h0 hnone => windowExport_ends h ?_,
        fun q hq hn hown h0 => windowExport_withdraws h ho h1 hobj hq hn hown h0⟩
      · rw [windowExportEff_withdraw ho h1 hobj, if_pos hne]
        rfl
      · have hany : ((begin' s cid).vertex.windows.any fun q => q.1 + 1 == c.object && q.2.owner == c.partition) = false :=
          List.any_eq_false.mpr fun q hq => by simpa using hnone q hq
        rw [windowExportEff_withdraw ho h1 hobj, if_neg (by simpa using h0), hany]
        rfl
    · intro fits hobj hfits
      refine ⟨fun hf => windowExport_ends h (windowExportEff_noFit ho h1 hobj (hfits.not.mp hf)),
        fun hf hm => windowExport_ends h ?_, fun readers w hf hm hr hw => windowExport_exports h ho h1 hobj (hfits.mp hf) hm hr hw⟩
      rw [windowExportEff_fits ho h1 hobj (hfits.mp hf), if_pos]
      · rfl
      · rw [Bool.not_eq_true']
        exact hm
  case imp =>
    rintro s cid c _ h rfl
    refine ⟨fun hb => windowImport_ends h (windowImportEff_badForm hb), fun ho hd he => ⟨fun hn => windowImport_ends h ?_,
      fun q hq => ⟨fun hr => windowImport_ends h ?_, fun hr => ?_⟩⟩, fun ho hd he => ⟨fun hu => windowImport_ends h ?_,
        fun p hu hp => windowImport_asks h ho hd he hu hp⟩⟩
    · rw [windowImportEff_here (s := begin' s cid) ho hd he, windowInfo_none (s := begin' s cid) hn]
      rfl
    · rw [windowImportEff_here (s := begin' s cid) ho hd he, windowInfo_some (s := begin' s cid) hq, he,
        if_neg (by simp [hr])]
      rfl
    · obtain ⟨t, hex, -, hc⟩ := windowImport_ends (d := if q.2.writable then 1 else 0)
        (r := s.ident.number.toNat * 2 ^ 42 + q.2.base) (st := 0) h (by
          rw [windowImportEff_here (s := begin' s cid) ho hd he, windowInfo_some (s := begin' s cid) hq, he, if_pos hr]
          rfl)
      exact ⟨t, hex, hc⟩
    · rw [windowImportEff_away (s := begin' s cid) ho hd he, issueReq_fails (s := begin' s cid) hu]
      rfl
  case copy =>
    rintro s cid c _ _ _ _ _ _ - h rfl rfl rfl rfl rfl rfl ok may hok hmay
    refine ⟨fun ho => copy_ends h (copyEff_badForm (hok.not.mp ho)),
      fun ho hm => copy_ends h (copyEff_mayNot (hok.mp ho) (hmay.not.mp hm)), fun ho hm hl => copy_ends h ?_,
      fun ho hm hl hl' => ?_⟩
    · rw [copyEff_may (s := begin' s cid) (hok.mp ho) (hmay.mp hm), if_pos]
      · rfl
      · rw [Bool.or_eq_true]
        exact hl
    · have ho := hok.mp ho
      have hm := hmay.mp hm
      refine ⟨fun hn => copy_ends h ?_, fun hn hs hr hin => ⟨fun hp hs' hr' hin' => ?_, fun hp hs' hr' hin' => ?_,
          fun hp hr' hu hroute => ?_⟩, fun hn hr => ⟨fun hu => ?_, fun hu hroute => ?_⟩, fun hn hs ht => ?_⟩
      · have hfree : ¬ (memLooped (begin' s cid) (c.f 16 8) (c.f 32 8) || memLooped (begin' s cid) (c.f 24 8) (c.f 32 8)) = true := by
          rw [Bool.or_eq_true, not_or, Bool.not_eq_true, Bool.not_eq_true]
          exact ⟨hl, hl'⟩
        rw [copyEff_may (s := begin' s cid) ho hm, if_neg hfree, if_pos hn]
        rfl
      · exact copy_moves h ho hm ⟨hl, hl'⟩ hn ⟨rfl, hs, hin⟩ hr hp ⟨rfl, hs', hr', hm.2.1, hin'⟩
      · exact copy_poisoned h ho hm ⟨hl, hl'⟩ hn ⟨rfl, hs, hin⟩ hr hp ⟨rfl, hs', hr', hm.2.1, hin'⟩
      · exact copy_sends h ho hm ⟨hl, hl'⟩ hn ⟨rfl, hs, hin⟩ hr hp hr' ⟨hu, hroute⟩
      · exact copy_remote_fails h ho hm ⟨hl, hl'⟩ hn hr hu
      · exact copy_remote_asks h ho hm ⟨hl, hl'⟩ hn hr ⟨hu, hroute⟩
      · exact copy_host_asks h ho hm ⟨hl, hl'⟩ hn hs ht

end Sys2Proof.Machine
end

section
/-! PORT_CONFIG (O54): its checks, what it leaves of the clocks, and the completion of a command that a stop of ticks
may complete first. -/

-- These proofs wait on the same definitions: they are elaborated in order.
set_option Elab.async false

namespace Sys2Proof.Machine

/-! ### A change of every entry of a table -/

section
variable {α : Type} [DecidableEq α] {d : α} {t u : Tab α} {g : Nat → α → α} {b j : Nat}

theorem tabGet_mapAll_unlisted (h : ∀ kv ∈ t, kv.1 ≠ j) : tabGet d (tabMapAll d g t u) j = tabGet d u j := by
  induction t generalizing u with
  | nil => rfl
  | cons x r ih =>
    refine (ih fun kv hkv => h kv (List.mem_cons_of_mem _ hkv)).trans ?_
    rw [tabGet_set, if_neg (h x List.mem_cons_self).symm]

/-- A listed entry takes its changed value. -/
theorem tabGet_mapAll_listed {v : α} (w : tabWfFrom d b t = true) (h : (j, v) ∈ t) :
    tabGet d (tabMapAll d g t u) j = g j v := by
  induction t generalizing b u with
  | nil => exact absurd h List.not_mem_nil
  | cons x r ih =>
    obtain ⟨k, y⟩ := x
    simp only [tabWfFrom, Bool.and_eq_true, decide_eq_true_eq] at w
    obtain ⟨-, hr⟩ := w
    rcases List.mem_cons.mp h with he | hm
    · obtain ⟨rfl, rfl⟩ := Prod.mk.inj he
      have hrest : ∀ kv ∈ r, kv.1 ≠ j := fun kv hkv => (Nat.lt_of_succ_le (tabGet_of_mem hr hkv).1).ne'
      rw [tabMapAll, tabGet_mapAll_unlisted hrest, tabGet_set_self]
    · exact ih hr hm

theorem tabGet_mapV_listed (w : tabWf d t = true) (h : tabGet d t j ≠ d) :
    tabGet d (tabMapV d t g) j = g j (tabGet d t j) :=
  tabGet_mapAll_listed w (mem_of_tabGet_ne h)

end

section
variable {s t u : State} {c : Cmd} {cid p x i k id : Nat} {m : Commit}

/-! ### A command that is completed with OK, or still accepted -/

/-- From `s` to `t` no CQ_ENABLE has changed, and a command that has begun has completed with OK or is still
accepted. -/
def OkOrDue (s t : State) (c : Cmd) : Prop :=
  (∀ f r, (t.ring f r).cqEnable = (s.ring f r).cqEnable) ∧ (t.cmd c.cid = some (c.begun s) ∨ Completed s t c 0x00 0 0)

namespace OkOrDue

theorem evolves {T : Nat} (h : OkOrDue s t c) (k : Evolves T t u) (h14 : T.testBit 14 = false := by decide)
    (hT : T &&& 16801792 = 0 := by decide) : OkOrDue s u c := by
  have hr : u.rings = t.rings := k.frame .rings (by
    have := congrArg (·.testBit 13) hT
    simpa [Nat.testBit_and, Piece.bit, show (16801792 : Nat).testBit 13 = true by decide] using this)
  refine ⟨fun f r => ?_, h.2.imp (fun hc => (k.cmd h14 _).trans hc) (·.mono k hT)⟩
  rw [← h.1 f r, State.ring, State.ring, hr]

/-- The command completes with OK, unless it has done so. -/
theorem done (h : OkOrDue s t c) : Completed s (fail t c.cid stOk) c 0x00 0 0 := by
  rcases h.2 with hc | hc
  · obtain ⟨h1, h2, h3⟩ := finish_completed hc stOk 0 0
    exact ⟨h1, h2, fun ha hb hq => h3 ha hb ((h.1 ..).trans hq)⟩
  · exact hc.finishAll stOk [c.cid]

/-- Completions with OK, of this command too, lead on. -/
theorem finishAll (h : OkOrDue s t c) (l : List Nat) : OkOrDue s (finishAll t stOk l) c := by
  induction l generalizing t with
  | nil => exact h
  | cons y l ih =>
    refine ih ⟨fun f r => (cqEnable_finish ..).trans (h.1 f r), ?_⟩
    by_cases hy : c.cid = y
    · subst hy
      exact .inr h.done
    · exact h.2.imp ((cmd_finish_other hy).trans ·) (·.finishAll stOk [y])

theorem foldl {α : Type} {f : State → α → State} (hf : ∀ t y, OkOrDue s t c → OkOrDue s (f t y) c) (h : OkOrDue s t c)
    (l : List α) : OkOrDue s (l.foldl f t) c := by
  induction l generalizing t with
  | nil => exact h
  | cons y l ih => exact ih (hf t y h)

theorem switchNow (h : OkOrDue s t c) (k : Nat) : OkOrDue s (switchNow t k) c := by
  obtain ⟨u, hsw, hu⟩ := switchNow_switched t k
  rw [hu]
  exact (h.evolves hsw.moved).finishAll _

theorem stopTicksOf (h : OkOrDue s t c) (p : Nat) (l : List Nat) : OkOrDue s (stopTicksOf t p l) c := by
  induction l generalizing t with
  | nil => exact h
  | cons k l ih =>
    refine ih ?_
    have hstop : OkOrDue s ((t.modPart k fun q => { q with ticking := false }).setPartCause k 0) c :=
      (h.evolves (State.modPart_ev ..)).evolves (State.setPartCause_ev ..)
    split
    · split
      · exact hstop
      · exact hstop.switchNow k
    · exact h

/-- Ticks that stop may complete the command, but only with OK (R29, R199). -/
theorem restartTicks (h : OkOrDue s t c) (p : Nat) : OkOrDue s (restartTicks t p) c := by
  refine foldl (fun t k ht => ?_) (foldl (fun t q ht => ht.stopTicksOf q _) h _) _
  split
  · exact ht.evolves (State.modPart_ev ..)
  · exact ht

end OkOrDue

/-! ### The clocks of a port -/

/-- What decides whether the clocks of the ports run is the same. -/
def SameClocks (s t : State) : Prop := ∀ x, (t.port x).sharedClock = (s.port x).sharedClock ∧
  (t.port x).clock = (s.port x).clock ∧ (t.port x).clockOk = (s.port x).clockOk ∧ (t.port x).state = (s.port x).state

theorem SameClocks.clocksOn (h : SameClocks s t) (p : Nat) : clocksOn t p = clocksOn s p := by
  have hleader : leaderOf t p = leaderOf s p := by
    unfold leaderOf
    rw [(h p).1, show (fun q => (t.port q).sharedClock) = fun q => (s.port q).sharedClock from funext fun q => (h q).1]
  obtain ⟨-, hclock, hok, hstate⟩ := h (leaderOf s p)
  unfold Machine.clocksOn ownClocks
  rw [hleader, hclock, hok, hstate]

/-- The port at a key of a changed port, or another one. -/
theorem State.port_modPort_cases (s : State) (p : Nat) (g : Port → Port) (x : Nat) :
    (s.modPort p g).port x = if x = p then g (s.port p) else s.port x := by
  split
  · next hx => rw [hx, State.port_modPort]
  · next hx => exact State.port_modPort_other hx

theorem sameClocks_modPort {g : Port → Port} (hg : ∀ q, (g q).sharedClock = q.sharedClock ∧ (g q).clock = q.clock ∧
    (g q).clockOk = q.clockOk ∧ (g q).state = q.state) (s : State) (p : Nat) : SameClocks s (s.modPort p g) := by
  intro x
  rw [State.port_modPort_cases]
  split
  · next hx => exact hx ▸ hg _
  · exact ⟨rfl, rfl, rfl, rfl⟩

/-! ### The checks (R302) -/

/-- The parameters of a PORT_CONFIG. -/
def Cmd.config (c : Cmd) : Bytes := slice c.packet 16 24

/-- The parameters are in order. -/
def portConfigOk (s : State) (c : Cmd) : Prop := c.object < 16 ∧ c.only [(16, 24)] = true ∧
  ownerOk s (par c.config 30 2) = true ∧
  (if commitOnly c.config then commitOnlyOk s c.object c.config else configOk s c.object c.config) = true

/-- RATE changes. -/
def rateChanges (s : State) (c : Cmd) : Bool := !commitOnly c.config && (s.port c.object).configured &&
  par c.config 18 1 != (s.port c.object).rate.toNat

theorem portConfigEff_badForm (h : ¬ portConfigOk s c) : portConfigEff c s = fail s c.cid stInvalidParameter := by
  refine ite_eq_left_iff.2 fun h1 => if_pos ?_
  simp only [Bool.or_eq_true, decide_eq_true_eq, not_or, Nat.not_le, Bool.not_eq_true', Bool.not_eq_false] at h1
  obtain ⟨⟨hp, ho⟩, hown⟩ := h1
  by_contra hn
  exact h ⟨hp, ho, hown, (Bool.not_eq_false' _).mp ((Bool.not_eq_true _).mp hn)⟩

theorem portConfigEff_ok (h : portConfigOk s c) : portConfigEff c s =
    if c.fn ≠ 0 && par c.config 30 2 ≠ (s.port c.object).owner.toNat then fail s c.cid stNotPermitted
    else if (s.port c.object).armed && changesFields (s.port c.object) c.config then fail s c.cid stBusy
    else if rateChanges s c && (lcSource s c.object || (portStreams s c.object).any (hasRun s)) then fail s c.cid stBusy
    else takeCommit (if rateChanges s c then unbindPort s c.object else s) c.object
      { cid := c.cid, since := s.now, params := c.config } := by
  obtain ⟨hp, ho, hown, hok⟩ := h
  have hform : ¬ (16 ≤ c.object || !c.only [(16, 24)] || !ownerOk s (par c.config 30 2)) = true := by
    simp [ho, hown, hp]
  exact (if_neg hform).trans (if_neg fun h => Bool.false_ne_true ((congrArg not hok).symm.trans h))

end

end Sys2Proof.Machine
end

section
/-! PORT_CONFIG (O54): what it leaves, where its commit waits for a frame and where it applies at once. -/

-- These proofs wait on the same definitions: they are elaborated in order.
set_option Elab.async false

namespace Sys2Proof.Machine

section
variable {s t u : State} {c : Cmd} {cid op p x i k id st : Nat} {m : Commit} {q : Port} {b : Bytes}

/-- A packet's row that only completes its command leaves the ports and streams. -/
theorem Ready.refuses {act : Cmd → State → State} (h : Ready s cid op c)
    (hact : act c (begin' s cid) = fail (begin' s cid) c.cid st) :
    ∃ t, onCmd s cid op act = .next t ∧ t.ports = s.ports ∧ t.streams = s.streams ∧ Completed s t c st 0 0 := by
  obtain ⟨hex, hdone⟩ := h.finishes (u := begin' s cid) hact
  exact ⟨_, hex, (finish_ports ..).trans (begin'_ports ..), (finish_streams ..).trans (begin'_streams ..), hdone⟩

/-- A test of the accepted commands that the start of one does not change. -/
theorem any_begin' {P : Cmd → Bool} (hP : ∀ e : Cmd, P (e.begun s) = P e) :
    (begin' s cid).cmds.any P = s.cmds.any P := by
  refine List.any_map.trans (congrArg s.cmds.any (funext fun e => ?_))
  dsimp only [Function.comp]
  split
  · exact hP e
  · rfl

theorem hasRun_begin' (i : Nat) : hasRun (begin' s cid) i = hasRun s i := any_begin' fun _ => rfl

/-! ### The bindings of a port whose RATE changes (R341) -/

/-- The state in which the commit is taken. -/
def configBase (s : State) (c : Cmd) : State := if rateChanges s c then unbindPort s c.object else s

theorem configBase_ev (s : State) (c : Cmd) : Evolves 1077936128 s (configBase s c) := by
  unfold configBase
  split
  · exact unbindPort_ev ..
  · exact .refl ..

/-- Only the slots of the port, and the sinks of streams, differ. -/
theorem configBase_port (s : State) (c : Cmd) :
    (∃ tab, (configBase s c).port c.object = { s.port c.object with slotTab := tab }) ∧
      ∀ x, x ≠ c.object → (configBase s c).port x = s.port x := by
  unfold configBase
  split
  · exact ⟨⟨_, State.port_modPort ..⟩, fun x hx => State.port_modPort_other hx⟩
  · exact ⟨⟨_, rfl⟩, fun x _ => rfl⟩

theorem sameClocks_configBase (s : State) (c : Cmd) : SameClocks s (configBase s c) := by
  obtain ⟨⟨tab, hp⟩, hother⟩ := configBase_port s c
  intro x
  by_cases hx : x = c.object
  · rw [hx, hp]
    exact ⟨rfl, rfl, rfl, rfl⟩
  · rw [hother x hx]
    exact ⟨rfl, rfl, rfl, rfl⟩

/-- A stream that the port sinks is unbound. -/
theorem unbindPort_sink (w : tabWf {} s.streams = true) (h : (s.stream i).sink = some (.port p k id)) :
    ((unbindPort s p).stream i).sink = none := by
  have hi : tabGet {} s.streams i ≠ {} := fun he => by
    rw [State.stream, he] at h
    exact nomatch h
  rw [State.stream, unbindPort]
  dsimp only [State.modPort]
  rw [tabGet_mapV_listed w hi]
  rw [State.stream] at h
  simp only [h, if_pos]

theorem configBase_sink (w : tabWf {} s.streams = true) (hr : rateChanges s c = true)
    (h : (s.stream i).sink = some (.port c.object k id)) :
    ((configBase s c).stream i).sink = none := by
  rw [configBase, if_pos hr]
  exact unbindPort_sink w h

/-! ### A commit is taken (R339) -/

/-- The port with a commit that it has taken. -/
def Port.taken (q : Port) (m : Commit) : Port :=
  { q with
    txShadow := BitVec.ofNat 32 (par m.params 32 4), rxShadow := BitVec.ofNat 32 (par m.params 36 4)
    commits := q.commits ++ [m] }

theorem sameClocks_taken (s : State) (p : Nat) (m : Commit) : SameClocks s (s.modPort p (·.taken m)) :=
  sameClocks_modPort (g := (·.taken m)) (fun _ => ⟨rfl, rfl, rfl, rfl⟩) s p

theorem takeCommit_clocked (h : clocksOn s p = true) : takeCommit s p m = s.modPort p (·.taken m) :=
  if_pos ((sameClocks_taken s p m).clocksOn p |>.trans h)

theorem takeCommit_unclocked (h : clocksOn s p = false) (hc : (s.port p).commits = []) :
    takeCommit s p m = commitNow (s.modPort p (·.taken m)) p m := by
  have hoff : ¬ clocksOn (s.modPort p (·.taken m)) p = true := by simp [(sameClocks_taken s p m).clocksOn p, h]
  refine (if_neg hoff).trans ?_
  have hm : ((s.modPort p (·.taken m)).port p).commits = [m] := by
    rw [State.port_modPort, Port.taken, hc, List.nil_append]
  exact congrArg (flushCommits (s.modPort p (·.taken m)) p) hm

/-! ### A commit applies (R339, R340) -/

/-- The port with the parameters of a commit in force. -/
def Port.applied (q : Port) (m : Commit) : Port :=
  { applyConfig q m.params with
    txMask := BitVec.ofNat 32 (par m.params 32 4), rxMask := BitVec.ofNat 32 (par m.params 36 4)
    owner := BitVec.ofNat 16 (par m.params 30 2)
    cause := setBit q.cause 10, commits := q.commits.filter fun e => e.cid != m.cid }

/-- The state in which the parameters are in force; the ticks of a changed frame stop (R29, R329). -/
def commitApplied (s : State) (p : Nat) (m : Commit) : State :=
  if restarts (s.port p) m.params then restartTicks (s.modPort p (·.applied m)) p else s.modPort p (·.applied m)

theorem commitApplied_ports (s : State) (p : Nat) (m : Commit) :
    (commitApplied s p m).ports = (s.modPort p (·.applied m)).ports := by
  unfold commitApplied
  split
  · exact (restartTicks_ev ..).frame .ports (by decide)
  · rfl

theorem commitApplied_streams (s : State) (p : Nat) (m : Commit) : (commitApplied s p m).streams = s.streams := by
  unfold commitApplied
  split
  · exact (restartTicks_ev ..).frame .streams (by decide)
  · rfl

theorem commitApplied_okOrDue (h : OkOrDue t s c) (p : Nat) (m : Commit) : OkOrDue t (commitApplied s p m) c := by
  have hmod : OkOrDue t (s.modPort p (·.applied m)) c := h.evolves (State.modPort_ev ..)
  unfold commitApplied
  split
  · exact hmod.restartTicks p
  · exact hmod

/-- After a commit, the slots of its port are committed and its command completes with OK. -/
theorem commitNow_eq (s : State) (p : Nat) (m : Commit) : ∃ g : Port → Port,
    (∀ q, ∃ l f tab, g q = { q with lastCommit := l, commitFrame := f, slotTab := tab }) ∧
      commitNow s p m = fail ((commitApplied s p m).modPort p g) m.cid stOk :=
  ⟨_, fun _ => ⟨_, _, _, rfl⟩, rfl⟩

theorem commitNow_completes (h : OkOrDue t s c) (hm : m.cid = c.cid) : Completed t (commitNow s p m) c 0x00 0 0 := by
  obtain ⟨g, -, hg⟩ := commitNow_eq s p m
  rw [hg, hm]
  exact ((commitApplied_okOrDue h p m).evolves (State.modPort_ev ..)).done

theorem commitNow_streams (s : State) (p : Nat) (m : Commit) : (commitNow s p m).streams = s.streams := by
  obtain ⟨g, -, hg⟩ := commitNow_eq s p m
  rw [hg, fail, finish_streams]
  exact commitApplied_streams s p m

theorem commitNow_port (s : State) (p : Nat) (m : Commit) :
    (∃ l f tab, (commitNow s p m).port p =
      { (s.port p).applied m with lastCommit := l, commitFrame := f, slotTab := tab }) ∧
      ∀ x, x ≠ p → (commitNow s p m).port x = s.port x := by
  obtain ⟨g, hslots, hg⟩ := commitNow_eq s p m
  have hfail (y : Nat) : (commitNow s p m).port y = ((commitApplied s p m).modPort p g).port y := by
    rw [hg, State.port, fail, finish_ports]
    rfl
  have hports (y : Nat) : (commitApplied s p m).port y = (s.modPort p (·.applied m)).port y :=
    congrArg (fun t : Tab Port => tabGet ({} : Port) t y) (commitApplied_ports s p m)
  refine ⟨?_, fun x hx => ?_⟩
  · obtain ⟨l, f, tab, he⟩ := hslots ((commitApplied s p m).port p)
    refine ⟨l, f, tab, ?_⟩
    rw [hfail, State.port_modPort, he, hports, State.port_modPort]
  · rw [hfail, State.port_modPort_other hx, hports, State.port_modPort_other hx]

/-! ### The values of the configuration (R302) -/

theorem par_lt (b : Bytes) (off n : Nat) : par b off n < 256 ^ n :=
  (leNat_lt _).trans_le (Nat.pow_le_pow_right (by decide) (List.length_take_le ..))

/-- The fields that a full configuration sets hold its parameters. -/
def Configured (q : Port) (b : Bytes) : Prop := q.configured = true ∧ q.rate.toNat = par b 18 1 ∧
  q.slots.toNat = par b 19 1 ∧ q.sample.toNat = par b 21 1 ∧ q.format.toNat = par b 16 1 ∧
  q.clock.toNat = par b 17 1 ∧ q.preroll.toNat = par b 24 2 ∧ q.postroll.toNat = par b 26 2 ∧
  q.startOffset.toNat = par b 28 2

theorem withConfig_configured (h : configOk s p b = true) (q : Port) : Configured (withConfig q b) b := by
  simp only [configOk, Bool.and_eq_true, decide_eq_true_eq] at h
  obtain ⟨⟨⟨⟨⟨⟨⟨⟨⟨⟨hformat, hclock, hrate, -, hslots, hsample, -⟩, -⟩, -⟩, -⟩, -⟩, -⟩, -⟩, -⟩, -⟩, -⟩ := h
  exact ⟨rfl, toNat_ofNat_of_lt (by omega), toNat_ofNat_of_lt (by omega), toNat_ofNat_of_lt (by omega),
    toNat_ofNat_of_lt (by omega), toNat_ofNat_of_lt (by omega), toNat_ofNat_of_lt (par_lt ..),
    toNat_ofNat_of_lt (par_lt ..), toNat_ofNat_of_lt (par_lt ..)⟩

theorem applyConfig_configured (h : configOk s p b = true) (hf : commitOnly b = false) (q : Port) :
    Configured (applyConfig q b) b := by
  have hw := withConfig_configured h q
  unfold applyConfig
  rw [if_neg (by simp [hf])]
  dsimp only
  split
  · exact hw
  · exact hw

/-! ### The outcomes (R302, R339) -/

/-- The commit of a PORT_CONFIG. -/
def configCommit (s : State) (c : Cmd) : Commit := { cid := c.cid, since := s.now, params := c.config }

/-- Nothing refuses the PORT_CONFIG: its form, the OWNER, an armed port, and the users of a RATE that changes. -/
def ConfigFree (s : State) (c : Cmd) : Prop := portConfigOk s c ∧
  (c.fn = 0 ∨ par c.config 30 2 = (s.port c.object).owner.toNat) ∧
  ((s.port c.object).armed = false ∨ changesFields (s.port c.object) c.config = false) ∧
  (rateChanges s c = false ∨ lcSource s c.object = false ∧ ∀ i ∈ portStreams s c.object, hasRun s i = false)

theorem portConfigEff_free (h : ConfigFree s c) :
    portConfigEff c (begin' s cid) = takeCommit (configBase (begin' s cid) c) c.object (configCommit s c) := by
  obtain ⟨hok, hown, harm, hfree⟩ := h
  have hport : (begin' s cid).port c.object = s.port c.object := rfl
  have hrate : rateChanges (begin' s cid) c = rateChanges s c := rfl
  have hlc : lcSource (begin' s cid) c.object = lcSource s c.object := rfl
  have hstreams : portStreams (begin' s cid) c.object = portStreams s c.object := rfl
  refine (portConfigEff_ok (s := begin' s cid) hok).trans ?_
  refine (if_neg ?_).trans <| (if_neg ?_).trans <| (if_neg ?_).trans rfl
  · rcases hown with h | h <;> simp [hport, h]
  · rcases harm with h | h <;> simp [hport, h]
  · rcases hfree with h | ⟨h, hr⟩
    · simp [hrate, h]
    · simpa [hrate, hlc, hstreams, h, hasRun_begin'] using fun _ => hr

theorem portConfigEff_notOwner (h : portConfigOk s c) (hfn : c.fn ≠ 0)
    (ho : par c.config 30 2 ≠ (s.port c.object).owner.toNat) : portConfigEff c s = fail s c.cid stNotPermitted :=
  (portConfigEff_ok h).trans (if_pos (by simp [hfn, ho]))

theorem portConfigEff_armed (h : portConfigOk s c)
    (hown : c.fn = 0 ∨ par c.config 30 2 = (s.port c.object).owner.toNat) (ha : (s.port c.object).armed = true)
    (hch : changesFields (s.port c.object) c.config = true) : portConfigEff c s = fail s c.cid stBusy := by
  refine (portConfigEff_ok h).trans ((if_neg ?_).trans (if_pos (by simp [ha, hch])))
  rcases hown with h | h <;> simp [h]

theorem portConfigEff_used (h : portConfigOk s c)
    (hown : c.fn = 0 ∨ par c.config 30 2 = (s.port c.object).owner.toNat)
    (harm : (s.port c.object).armed = false ∨ changesFields (s.port c.object) c.config = false)
    (hr : rateChanges s c = true) (hu : lcSource s c.object = true ∨ ∃ i ∈ portStreams s c.object, hasRun s i = true) :
    portConfigEff c s = fail s c.cid stBusy := by
  refine (portConfigEff_ok h).trans <| (if_neg ?_).trans <| (if_neg ?_).trans (if_pos (by simp [hr, hu]))
  · rcases hown with h | h <;> simp [h]
  · rcases harm with h | h <;> simp [h]

theorem portConfig_waits (w : s.Canon) (h : Ready s cid 0x40 c) (hf : ConfigFree s c)
    (hc : clocksOn s c.object = true) : ∃ t, exec (.portConfig cid) s = .next t ∧ t.cmd cid ≠ none ∧
      (∃ tab, t.port c.object = { (s.port c.object).taken (configCommit s c) with slotTab := tab }) ∧
      (rateChanges s c = true → ∀ i k id, (s.stream i).sink = some (.port c.object k id) →
        (t.stream i).sink = none) := by
  have hclocks : clocksOn (configBase (begin' s cid) c) c.object = true :=
    ((sameClocks_configBase (begin' s cid) c).clocksOn c.object).trans hc
  obtain ⟨⟨tab, hport⟩, -⟩ := configBase_port (begin' s cid) c
  refine ⟨_, onCmd_ready h portConfigEff, ?_⟩
  rw [portConfigEff_free hf, takeCommit_clocked hclocks]
  refine ⟨?_, ⟨tab, ?_⟩, fun hr i k id hi => ?_⟩
  · rw [State.cmd_settle, (State.modPort_ev ..).cmd, (configBase_ev ..).cmd, begin'_cmd h.1]
    exact Option.some_ne_none _
  · change ((configBase (begin' s cid) c).modPort c.object (·.taken (configCommit s c))).port c.object = _
    rw [State.port_modPort, hport]
    rfl
  · exact configBase_sink (s := begin' s cid) w.streams hr hi

theorem portConfig_applies (w : s.Canon) (h : Ready s cid 0x40 c) (hf : ConfigFree s c)
    (hc : clocksOn s c.object = false) (hq : (s.port c.object).commits = []) :
    ∃ t, exec (.portConfig cid) s = .next t ∧ Completed s t c 0x00 0 0 ∧
      (∃ l f tab tab', t.port c.object = { (({ s.port c.object with slotTab := tab' }).taken
        (configCommit s c)).applied (configCommit s c) with lastCommit := l, commitFrame := f, slotTab := tab }) ∧
      (rateChanges s c = true → ∀ i k id, (s.stream i).sink = some (.port c.object k id) →
        (t.stream i).sink = none) ∧ ∀ x, x ≠ c.object → t.port x = s.port x := by
  have hclocks : clocksOn (configBase (begin' s cid) c) c.object = false :=
    ((sameClocks_configBase (begin' s cid) c).clocksOn c.object).trans hc
  obtain ⟨⟨tab, hport⟩, hother⟩ := configBase_port (begin' s cid) c
  have hcommits : ((configBase (begin' s cid) c).port c.object).commits = [] := by
    rw [hport]
    exact hq
  refine ⟨_, onCmd_ready h portConfigEff, ?_⟩
  rw [portConfigEff_free hf, takeCommit_unclocked hclocks hcommits]
  have hbegun : OkOrDue s (begin' s cid) c := ⟨fun _ _ => rfl, .inl ((State.cmd_cid h.1).symm ▸ begin'_cmd h.1)⟩
  obtain ⟨⟨l, f, tab', hcommit⟩, hrest⟩ := commitNow_port
    ((configBase (begin' s cid) c).modPort c.object (·.taken (configCommit s c))) c.object (configCommit s c)
  refine ⟨?_, ⟨l, f, tab', tab, ?_⟩, fun hr i k id hi => ?_, fun x hx => ?_⟩
  · exact (commitNow_completes ((hbegun.evolves (configBase_ev ..)).evolves (State.modPort_ev ..)) rfl).mono
      (settle_ev _)
  · refine hcommit.trans ?_
    rw [State.port_modPort, hport]
    rfl
  · rw [State.stream_settle, State.stream, commitNow_streams]
    exact configBase_sink (s := begin' s cid) w.streams hr hi
  · refine (hrest x hx).trans ?_
    rw [State.port_modPort_other hx]
    exact hother x hx

end

end Sys2Proof.Machine
end

section
/-! PORT_BIND (O54): its checks, the sink that it replaces, and the bindings to a port's slot and to a host buffer. -/

-- These proofs wait on the same definitions: they are elaborated in order.
set_option Elab.async false

namespace Sys2Proof.Machine

section
variable {s t u : State} {c : Cmd} {cid op p x i k id st A : Nat} {q : Port} {b : Bytes}

/-! ### A command that begins (R165, R303) -/

theorem beforeCid_begin' (e : Cmd) (k : Nat) : beforeCid (begin' s cid) e k = beforeCid s e k := by
  have hg (e : Cmd) : (if e.cid = cid then e.begun s else e).cid = e.cid := by split <;> rfl
  have hcmd := State.cmd_map (t := begin' s cid) hg rfl k
  unfold beforeCid
  rw [hcmd]
  cases hk : s.cmd k with
  | none => rfl
  | some x =>
    rw [Option.map_some]
    dsimp only
    split <;> rfl

theorem closing_begin' (i k : Nat) : closing (begin' s cid) i k = closing s i k := by
  simp only [closing, beforeCid_begin']
  exact any_begin' fun _ => rfl

theorem OnStream.begun (h : OnStream s c i) (cid : Nat) : OnStream (begin' s cid) c i := by
  obtain ⟨hi, hcheck, hclosing, hmig⟩ := h
  exact ⟨hi, hcheck, (closing_begin' ..).trans hclosing, hmig⟩

theorem runsNaming_isEmpty (s : State) (i k : Nat) : (runsNaming s i k).isEmpty =
    !s.cmds.any fun e => e.opcode == 0x34 && beforeCid s e k && e.names.contains (.stream i) := by
  rw [Bool.eq_iff_iff]
  simp [runsNaming]

theorem runsNaming_begin' (i k : Nat) : (runsNaming (begin' s cid) i k).isEmpty = (runsNaming s i k).isEmpty := by
  simp only [runsNaming_isEmpty, beforeCid_begin']
  exact congrArg not (any_begin' fun _ => rfl)

/-! ### The checks (R303) -/

theorem portBindEff_badForm (h : OnStream s c i) (hb : c.only [(16, 16)] = false ∨ 2 < c.f 16 1) :
    portBindEff c s = fail s c.cid stInvalidParameter :=
  (withStream_onStream h ..).trans (if_pos (by simpa using hb))

theorem portBindEff_formed (h : OnStream s c i) (ho : c.only [(16, 16)] = true) (h2 : c.f 16 1 ≤ 2) :
    portBindEff c s = if !(runsNaming s i c.cid).isEmpty then fail s c.cid stBusy
      else if c.f 16 1 = 1 then bindPort s c i
      else if c.f 16 1 = 2 then bindHost s c i
      else fail ((leaveSink s i none).modStream i fun t => { t with sink := none }) c.cid stOk :=
  (withStream_onStream h ..).trans (if_neg (by simp [ho, Nat.not_lt.2 h2]))

theorem portBindEff_busy (h : OnStream s c i) (ho : c.only [(16, 16)] = true) (h2 : c.f 16 1 ≤ 2)
    (hr : (runsNaming s i c.cid).isEmpty = false) : portBindEff c s = fail s c.cid stBusy :=
  (portBindEff_formed h ho h2).trans (if_pos (by simp [hr]))

theorem portBindEff_free (h : OnStream s c i) (ho : c.only [(16, 16)] = true) (h2 : c.f 16 1 ≤ 2)
    (hr : (runsNaming s i c.cid).isEmpty = true) : portBindEff c s = if c.f 16 1 = 1 then bindPort s c i
      else if c.f 16 1 = 2 then bindHost s c i
      else fail ((leaveSink s i none).modStream i fun t => { t with sink := none }) c.cid stOk :=
  (portBindEff_formed h ho h2).trans (if_neg (by simp [hr]))

/-! ### After a completion -/

theorem stream_ended (u : State) (k st i : Nat) : (settle (fail u k st)).stream i = u.stream i :=
  congrArg (fun t : Tab Stream => tabGet ({} : Stream) t i) (finish_streams ..)

theorem port_ended (u : State) (k st x : Nat) : (settle (fail u k st)).port x = u.port x :=
  congrArg (fun t : Tab Port => tabGet ({} : Port) t x) (finish_ports ..)

theorem regFind_ended (u : State) (k st : Nat) (key : Nat × Nat) :
    regFind (settle (fail u k st)) key = regFind u key :=
  congrArg (fun v : Vertex => (v.regs.find? fun q : (Nat × Nat) × BitVec 16 => q.1 == key).map Prod.snd)
    (finish_vertex ..)

/-- A packet's row that changes no ring and no accepted command, and then completes. -/
theorem Ready.finishesAfter {act : Cmd → State → State} (h : Ready s cid op c)
    (hact : act c (begin' s cid) = fail u c.cid st) (k : Evolves A (begin' s cid) u)
    (h14 : A.testBit 14 = false := by decide) (h13 : A.testBit 13 = false := by decide) :
    onCmd s cid op act = .next (settle (fail u c.cid st)) ∧ Completed s (settle (fail u c.cid st)) c st 0 0 :=
  h.finishes hact (k.frame .cmds h14) (k.frame .rings h13)

/-! ### A slot of a port (R303) -/

theorem slot_modSlot (s : State) (p k : Nat) (g : Slot → Slot) :
    ((s.modSlot p k g).port p).slot k = g ((s.port p).slot k) := by
  rw [State.modSlot, State.port_modPort]
  exact tabGet_mod_self ..

/-- The slot takes the voice's rows (R303, R326). -/
def slotFits (s : State) (c : Cmd) (i : Nat) : Prop := (s.port (c.f 17 1)).configured = true ∧
  c.f 18 1 < (s.port (c.f 17 1)).slots.toNat ∧ portVoiceOk s (c.f 17 1) (voiceOf s (s.stream i).voice) = true

theorem bindPort_noPort (hp : 16 ≤ c.f 17 1) : bindPort s c i = fail s c.cid stInvalidParameter := if_pos hp

theorem bindPort_notOwner (hp : c.f 17 1 < 16) (ho : (s.port (c.f 17 1)).owner.toNat ≠ c.partition) :
    bindPort s c i = fail s c.cid stNotPermitted := (if_neg (Nat.not_le.2 hp)).trans (if_pos ho)

theorem bindPort_owned (hp : c.f 17 1 < 16) (ho : (s.port (c.f 17 1)).owner.toNat = c.partition) :
    bindPort s c i = if !(s.port (c.f 17 1)).configured || (s.port (c.f 17 1)).slots.toNat ≤ c.f 18 1 ||
        !portVoiceOk s (c.f 17 1) (voiceOf s (s.stream i).voice) then fail s c.cid stInvalidParameter
      else if slotTaken ((s.port (c.f 17 1)).slot (c.f 18 1)) i then fail s c.cid stBusy
      else fail (((leaveSink s i (some (.port (c.f 17 1) (c.f 18 1) (c.f 20 4)))).modSlot (c.f 17 1) (c.f 18 1) fun q =>
        { q with staged := some (some (i, c.f 20 4)) }).modStream i fun t =>
        { t with sink := some (.port (c.f 17 1) (c.f 18 1) (c.f 20 4)), sinkRegistered := false }) c.cid stOk :=
  (if_neg (Nat.not_le.2 hp)).trans (if_neg (not_not_intro ho))

theorem bindPort_unfit (hp : c.f 17 1 < 16) (ho : (s.port (c.f 17 1)).owner.toNat = c.partition)
    (hf : ¬ slotFits s c i) : bindPort s c i = fail s c.cid stInvalidParameter := by
  refine (bindPort_owned hp ho).trans (if_pos ?_)
  by_contra hn
  simp only [Bool.or_eq_true, decide_eq_true_eq, not_or, Nat.not_le, Bool.not_eq_true', Bool.not_eq_false] at hn
  obtain ⟨⟨hc, hk⟩, hv⟩ := hn
  exact hf ⟨hc, hk, hv⟩

theorem bindPort_fits (hp : c.f 17 1 < 16) (ho : (s.port (c.f 17 1)).owner.toNat = c.partition) (hf : slotFits s c i) :
    bindPort s c i = if slotTaken ((s.port (c.f 17 1)).slot (c.f 18 1)) i then fail s c.cid stBusy
      else fail (((leaveSink s i (some (.port (c.f 17 1) (c.f 18 1) (c.f 20 4)))).modSlot (c.f 17 1) (c.f 18 1) fun q =>
        { q with staged := some (some (i, c.f 20 4)) }).modStream i fun t =>
        { t with sink := some (.port (c.f 17 1) (c.f 18 1) (c.f 20 4)), sinkRegistered := false }) c.cid stOk := by
  obtain ⟨hc, hk, hv⟩ := hf
  exact (bindPort_owned hp ho).trans (if_neg (by simp [hc, hv, Nat.not_le.2 hk]))

/-- What a binding may change before its command completes. -/
theorem leaveSink_bound_ev (s : State) (i : Nat) (next : Option Sink) (g : Stream → Stream) :
    Evolves 8797170958848 s ((leaveSink s i next).modStream i g) :=
  .step (State.modStream_ev ..) <| .step (leaveSink_ev ..) <| .refl ..

theorem portBind_unbinds (h : Ready s cid 0x41 c) (hs : OnStream s c i) (ho : c.only [(16, 16)] = true)
    (hr : (runsNaming s i c.cid).isEmpty = true) (h0 : c.f 16 1 = 0) :
    ∃ t, exec (.portBind cid) s = .next t ∧ (t.stream i).sink = none ∧ Completed s t c 0x00 0 0 := by
  have hact := portBindEff_free (hs.begun cid) ho (by omega) ((runsNaming_begin' ..).trans hr)
  rw [if_neg (by omega), if_neg (by omega)] at hact
  obtain ⟨hex, hdone⟩ := h.finishesAfter hact (leaveSink_bound_ev ..)
  exact ⟨_, hex, by rw [stream_ended, State.stream_modStream], hdone⟩

theorem portBind_port_ends (h : Ready s cid 0x41 c) (hs : OnStream s c i) (ho : c.only [(16, 16)] = true)
    (hr : (runsNaming s i c.cid).isEmpty = true) (h1 : c.f 16 1 = 1)
    (hb : bindPort (begin' s cid) c i = fail (begin' s cid) c.cid st) :
    ∃ t, exec (.portBind cid) s = .next t ∧ t.ports = s.ports ∧ t.streams = s.streams ∧ Completed s t c st 0 0 := by
  have hact := portBindEff_free (hs.begun cid) ho (by omega) ((runsNaming_begin' ..).trans hr)
  rw [if_pos h1, hb] at hact
  exact h.refuses hact

theorem portBind_binds (h : Ready s cid 0x41 c) (hs : OnStream s c i) (ho : c.only [(16, 16)] = true)
    (hr : (runsNaming s i c.cid).isEmpty = true) (h1 : c.f 16 1 = 1) (hp : c.f 17 1 < 16)
    (hown : (s.port (c.f 17 1)).owner.toNat = c.partition) (hf : slotFits s c i)
    (ht : slotTaken ((s.port (c.f 17 1)).slot (c.f 18 1)) i = false) :
    ∃ t, exec (.portBind cid) s = .next t ∧ Completed s t c 0x00 0 0 ∧
      (t.stream i).sink = some (.port (c.f 17 1) (c.f 18 1) (c.f 20 4)) ∧
      ((t.port (c.f 17 1)).slot (c.f 18 1)).staged = some (some (i, c.f 20 4)) := by
  have hact := portBindEff_free (hs.begun cid) ho (by omega) ((runsNaming_begin' ..).trans hr)
  have htaken : ¬ slotTaken (((begin' s cid).port (c.f 17 1)).slot (c.f 18 1)) i = true := Bool.not_eq_true _ ▸ ht
  rw [if_pos h1, bindPort_fits (s := begin' s cid) hp hown hf, if_neg htaken] at hact
  obtain ⟨hex, hdone⟩ := h.finishesAfter (A := 8797170958848) hact <|
    .step (State.modStream_ev ..) <| .step (State.modSlot_ev ..) <| .step (leaveSink_ev ..) <| .refl ..
  refine ⟨_, hex, hdone, ?_, ?_⟩
  · rw [stream_ended, State.stream_modStream]
  · rw [port_ended]
    exact congrArg Slot.staged (slot_modSlot ..)

end

end Sys2Proof.Machine
end

section
/-! PORT_BIND to a host buffer on this device and on another (O54). -/

-- These proofs wait on the same definitions: they are elaborated in order.
set_option Elab.async false

namespace Sys2Proof.Machine

section
variable {s t u : State} {c : Cmd} {cid i a a' n n' id id' st : Nat} {key key' : Nat × Nat}

/-! ### Registrations that stay while a sink is replaced (R169, R372) -/

theorem regFind_regDrop_other (g : BitVec 16) (h : key ≠ key') : regFind (regDrop s key' g) key = regFind s key := by
  refine congrArg (Option.map Prod.snd)
    (List.find?_filter.trans (congrArg (s.vertex.regs.find? ·) (funext fun q => ?_)))
  by_cases hq : q.1 = key
  · simp [hq, h]
  · simp [hq]

theorem regFind_issueReq (type d : Nat) (m : Bool) (b : ReqBody) (why : ReqPurpose) :
    regFind (issueReq s type d m b why).1 key = regFind s key := by
  unfold issueReq
  split
  · rfl
  · split
    · rfl
    · dsimp only
      split <;> rfl

theorem regFind_releaseSink (h : (s.stream i).sink = some (.host a n id)) (hk : hostRemote s a = true ∨ key.2 ≠ id) :
    regFind (releaseSink s i) key = regFind s key := by
  unfold releaseSink
  dsimp only
  rw [h]
  dsimp only
  split
  · exact regFind_issueReq ..
  · next hr =>
    have hid := hk.resolve_left hr
    exact regFind_regDrop_other _ fun he => hid (congrArg Prod.snd he)

/-- A sink that a buffer of this device replaces keeps the registrations under the buffer's identifier. -/
theorem regFind_leaveSink (hr : hostRemote s a' = false) (hk : key.2 = id') :
    regFind (leaveSink s i (some (.host a' n' id'))) key = regFind s key := by
  unfold leaveSink
  split
  · rfl
  · next a n id h he =>
    obtain ⟨rfl, -, rfl⟩ : a' = _ ∧ n' = _ ∧ id' = _ := by simpa using he
    split
    · rfl
    · next hsame =>
      refine regFind_releaseSink h (or_iff_not_imp_left.2 fun ha hid => hsame ?_)
      simp [sameRegistration, ha, hr, ← hk, hid]
  · next hne => exact (hne _ _ _ rfl).elim
  · rfl

theorem regPut_room (g : BitVec 16) (h : regFind s key ≠ none ∨ s.vertex.regs.length < 65536) :
    (regPut s key g).2 = true ∧ regFind (regPut s key g).1 key ≠ none := by
  cases hk : regFind s key with
  | none =>
    obtain ⟨hok, hf⟩ := regPut_new g hk (h.resolve_left (not_not_intro hk))
    exact ⟨hok, hf ▸ Option.some_ne_none _⟩
  | some old =>
    obtain ⟨hok, hf⟩ := regPut_known g hk
    exact ⟨hok, hf ▸ Option.some_ne_none _⟩

/-! ### The checks (R303) -/

/-- The buffer is in order. -/
def hostFits (c : Cmd) : Prop := 12 ≤ c.f 19 1 ∧ c.f 19 1 ≤ 30 ∧ addrSpace (c.f 24 8) = 2 ∧
  addrValid (c.f 24 8) = true ∧ c.f 24 8 % 4096 = 0

theorem bindHost_badForm (h : ¬ hostFits c) : bindHost s c i = fail s c.cid stInvalidParameter := by
  refine if_pos ?_
  by_contra hn
  simp only [Bool.or_eq_true, decide_eq_true_eq, not_or, Nat.not_lt, Bool.not_eq_true', Bool.not_eq_false,
    Decidable.not_not, ne_eq] at hn
  obtain ⟨⟨⟨⟨h1, h2⟩, h3⟩, h4⟩, h5⟩ := hn
  exact h ⟨h1, h2, h3, h4, h5⟩

theorem bindHost_formed (h : hostFits c) : bindHost s c i =
    if !mayName s c.fn (c.f 24 8) (2 ^ c.f 19 1) false then fail s c.cid stNotPermitted
    else if addrRemote s (c.f 24 8) then
      match sendRegister s (c.f 24 8 % 2 ^ 52) (c.f 20 4) (s.stream i).placementGen.toNat (.registerSink c.cid i) with
      | some s1 => bindAhead s1 c i
      | none => fail s c.cid stFabricUnreachable
    else if (regPut s (hostKey s c.partition (c.f 20 4)) (s.stream i).placementGen).2 then
      hostBound (regPut s (hostKey s c.partition (c.f 20 4)) (s.stream i).placementGen).1 c i
    else fail (regPut s (hostKey s c.partition (c.f 20 4)) (s.stream i).placementGen).1 c.cid stNoResource := by
  obtain ⟨h1, h2, h3, h4, h5⟩ := h
  refine (if_neg ?_).trans ?_
  · simp [Nat.not_lt.2 h1, Nat.not_lt.2 h2, h3, h4, h5]
  · rfl

theorem bindHost_unnamed (h : hostFits c) (hm : mayName s c.fn (c.f 24 8) (2 ^ c.f 19 1) false = false) :
    bindHost s c i = fail s c.cid stNotPermitted := (bindHost_formed h).trans (if_pos (by simp [hm]))

theorem bindHost_away (h : hostFits c) (hm : mayName s c.fn (c.f 24 8) (2 ^ c.f 19 1) false = true)
    (hr : addrRemote s (c.f 24 8) = true) : bindHost s c i =
      match sendRegister s (c.f 24 8 % 2 ^ 52) (c.f 20 4) (s.stream i).placementGen.toNat (.registerSink c.cid i) with
      | some s1 => bindAhead s1 c i
      | none => fail s c.cid stFabricUnreachable :=
  (bindHost_formed h).trans <| (if_neg (by simp [hm])).trans (if_pos hr)

theorem bindHost_here (h : hostFits c) (hm : mayName s c.fn (c.f 24 8) (2 ^ c.f 19 1) false = true)
    (hr : addrRemote s (c.f 24 8) = false) : bindHost s c i =
      if (regPut s (hostKey s c.partition (c.f 20 4)) (s.stream i).placementGen).2 then
        hostBound (regPut s (hostKey s c.partition (c.f 20 4)) (s.stream i).placementGen).1 c i
      else fail (regPut s (hostKey s c.partition (c.f 20 4)) (s.stream i).placementGen).1 c.cid stNoResource :=
  (bindHost_formed h).trans <| (if_neg (by simp [hm])).trans (if_neg (by simp [hr]))

theorem addrDevice_mod (v : Nat) : addrDevice (v % 2 ^ 52) = addrDevice v := by
  unfold addrDevice bits
  omega

/-- A PORT_BIND that names a host buffer. -/
theorem portBindEff_host (hs : OnStream s c i) (ho : c.only [(16, 16)] = true)
    (hr : (runsNaming s i c.cid).isEmpty = true) (h2 : c.f 16 1 = 2) :
    portBindEff c (begin' s cid) = bindHost (begin' s cid) c i := by
  refine (portBindEff_free (hs.begun cid) ho (by omega) ((runsNaming_begin' ..).trans hr)).trans ?_
  rw [if_neg (by omega), if_pos h2]

theorem portBind_host_ends (h : Ready s cid 0x41 c) (hs : OnStream s c i) (ho : c.only [(16, 16)] = true)
    (hr : (runsNaming s i c.cid).isEmpty = true) (h2 : c.f 16 1 = 2)
    (hb : bindHost (begin' s cid) c i = fail (begin' s cid) c.cid st) :
    ∃ t, exec (.portBind cid) s = .next t ∧ t.ports = s.ports ∧ t.streams = s.streams ∧ Completed s t c st 0 0 :=
  h.refuses ((portBindEff_host hs ho hr h2).trans hb)

/-! ### A buffer on another device (R169, R303) -/

theorem sendRegister_unreachable {g : Nat} {why : ReqPurpose}
    (h : unreachable s (addrDevice a) = true ∨ routePort s (addrDevice a) = none) :
    sendRegister s a id g why = none := by
  unfold sendRegister
  rw [issueReq_fails h]
  rfl

theorem portBind_away_unreachable (h : Ready s cid 0x41 c) (hs : OnStream s c i) (ho : c.only [(16, 16)] = true)
    (hr : (runsNaming s i c.cid).isEmpty = true) (h2 : c.f 16 1 = 2) (hf : hostFits c)
    (hm : mayName s c.fn (c.f 24 8) (2 ^ c.f 19 1) false = true) (ha : addrRemote s (c.f 24 8) = true)
    (hd : unreachable s (addrDevice (c.f 24 8 % 2 ^ 52)) = true ∨ routePort s (addrDevice (c.f 24 8 % 2 ^ 52)) = none) :
    ∃ t, exec (.portBind cid) s = .next t ∧ t.ports = s.ports ∧ t.streams = s.streams ∧
      Completed s t c stFabricUnreachable 0 0 := by
  refine portBind_host_ends h hs ho hr h2 ((bindHost_away (s := begin' s cid) hf hm ha).trans ?_)
  rw [sendRegister_unreachable (s := begin' s cid) hd]

theorem bindAhead_cmd (i : Nat) (hc : c.cid = cid) (h : s.cmd cid ≠ none) : (bindAhead s c i).cmd cid ≠ none := by
  subst hc
  unfold bindAhead
  dsimp only
  rw [(State.modStream_ev ..).cmd]
  refine cmd_modCmd_ne_none ?_ h
  exact fun _ => rfl

theorem bindAhead_stream (s : State) (c : Cmd) (i : Nat) : (bindAhead s c i).stream i =
    { s.stream i with sink := some (hostSink c), sinkRegistered := false } := by
  unfold bindAhead
  rw [State.stream_modStream]
  rfl

theorem portBind_away_asks (h : Ready s cid 0x41 c) (hs : OnStream s c i) (ho : c.only [(16, 16)] = true)
    (hr : (runsNaming s i c.cid).isEmpty = true) (h2 : c.f 16 1 = 2) (hf : hostFits c)
    (hm : mayName s c.fn (c.f 24 8) (2 ^ c.f 19 1) false = true) (ha : addrRemote s (c.f 24 8) = true)
    (hu : unreachable s (addrDevice (c.f 24 8 % 2 ^ 52)) = false)
    (hp : routePort s (addrDevice (c.f 24 8 % 2 ^ 52)) ≠ none) :
    ∃ t, exec (.portBind cid) s = .next t ∧ t.cmd cid ≠ none ∧
      t.stream i = { s.stream i with sink := some (hostSink c), sinkRegistered := false } ∧
      ∃ q ∈ t.vertex.reqs, q.type = 5 ∧ q.dest = addrDevice (c.f 24 8 % 2 ^ 52) ∧ q.purpose = .registerSink cid i ∧
        q.hdr.address = c.f 24 8 % 2 ^ 52 ∧ q.hdr.sinkId = c.f 20 4 := by
  obtain ⟨p, hp⟩ := Option.ne_none_iff_exists'.mp hp
  obtain ⟨hok, l, hstate⟩ := issueReq_issues (s := begin' s cid) (type := 5) (m := false)
    (b := { address := c.f 24 8 % 2 ^ 52, sinkId := c.f 20 4, generation := (s.stream i).placementGen.toNat % 2 ^ 16 })
    (why := .registerSink c.cid i) hu hp
  have hsend : sendRegister (begin' s cid) (c.f 24 8 % 2 ^ 52) (c.f 20 4) ((begin' s cid).stream i).placementGen.toNat
      (.registerSink c.cid i) = some _ := (if_pos hok).trans (congrArg some hstate)
  have hact := (portBindEff_host hs ho hr h2).trans (bindHost_away (s := begin' s cid) hf hm ha)
  rw [hsend] at hact
  dsimp only at hact
  have hcid := State.cmd_cid h.1
  refine ⟨_, onCmd_acts h hact, ?_, ?_, ?_⟩
  · rw [State.cmd_settle]
    exact bindAhead_cmd i hcid (h.cmd_ne_none rfl)
  · exact (State.stream_settle ..).trans (bindAhead_stream ..)
  · exact ⟨_, List.mem_append_right _ (List.mem_singleton_self _), rfl, rfl,
      congrArg (ReqPurpose.registerSink · i) hcid, rfl, rfl⟩

/-! ### A buffer on this device (R169, R303) -/

/-- The sink that the command remembers is back. -/
def oldSinkBack (s : State) (c : Cmd) (i : Nat) : State :=
  match c.oldSink with
  | some o => s.modStream i fun t => { t with sink := o.1, sinkRegistered := o.2 }
  | none => s

theorem oldSinkBack_ev (s : State) (c : Cmd) (i : Nat) : Evolves 4194304 s (oldSinkBack s c i) := by
  unfold oldSinkBack
  split
  · exact State.modStream_ev ..
  · exact .refl ..

theorem hostBound_eq (s : State) (c : Cmd) (i : Nat) : hostBound s c i =
    fail ((leaveSink (oldSinkBack s c i) i (some (hostSink c))).modStream i fun t =>
      { t with sink := some (hostSink c), sinkRegistered := true }) c.cid stOk := rfl

theorem regFind_oldSinkBack : regFind (oldSinkBack s c i) key = regFind s key := by
  unfold oldSinkBack
  split <;> rfl

theorem hostRemote_here (hf : hostFits c) (ha : addrRemote s (c.f 24 8) = false) :
    hostRemote s (c.f 24 8 % 2 ^ 52) = false := by
  obtain ⟨-, -, hspace, -, -⟩ := hf
  rw [addrRemote, hspace] at ha
  rw [hostRemote, addrDevice_mod]
  exact ha

theorem portBind_here_binds (h : Ready s cid 0x41 c) (hs : OnStream s c i) (ho : c.only [(16, 16)] = true)
    (hr : (runsNaming s i c.cid).isEmpty = true) (h2 : c.f 16 1 = 2) (hf : hostFits c)
    (hm : mayName s c.fn (c.f 24 8) (2 ^ c.f 19 1) false = true) (ha : addrRemote s (c.f 24 8) = false)
    (hroom : regFind s (hostKey s c.partition (c.f 20 4)) ≠ none ∨ s.vertex.regs.length < 65536) :
    ∃ t, exec (.portBind cid) s = .next t ∧ Completed s t c 0x00 0 0 ∧
      regFind t (hostKey s c.partition (c.f 20 4)) ≠ none ∧ (t.stream i).sink = some (hostSink c) ∧
      (t.stream i).sinkRegistered = true := by
  obtain ⟨hput, hreg⟩ := regPut_room (s := begin' s cid) (s.stream i).placementGen hroom
  have hact := (portBindEff_host hs ho hr h2).trans <| (bindHost_here (s := begin' s cid) hf hm ha).trans <|
    (if_pos hput).trans (hostBound_eq ..)
  obtain ⟨hex, hdone⟩ := h.finishesAfter (A := 8797170958848) hact <|
    .step (leaveSink_bound_ev ..) <| .step (oldSinkBack_ev ..) <| .step (regPut_ev ..) <| .refl ..
  refine ⟨_, hex, hdone, ?_, ?_, ?_⟩
  · have hremote : hostRemote (oldSinkBack (regPut (begin' s cid) (hostKey s c.partition (c.f 20 4))
        (s.stream i).placementGen).1 c i) (c.f 24 8 % 2 ^ 52) = false := by
      have hident := ((oldSinkBack_ev (regPut (begin' s cid) (hostKey s c.partition (c.f 20 4))
        (s.stream i).placementGen).1 c i).frame .ident (by decide)).trans ((regPut_ev ..).frame .ident (by decide))
      rw [hostRemote, hident]
      exact hostRemote_here hf ha
    rw [regFind_ended]
    refine ne_of_eq_of_ne (regFind_leaveSink (n' := c.f 19 1) hremote rfl) ?_
    rw [regFind_oldSinkBack]
    exact hreg
  · rw [stream_ended, State.stream_modStream]
  · rw [stream_ended, State.stream_modStream]

theorem portBind_here_full (h : Ready s cid 0x41 c) (hs : OnStream s c i) (ho : c.only [(16, 16)] = true)
    (hr : (runsNaming s i c.cid).isEmpty = true) (h2 : c.f 16 1 = 2) (hf : hostFits c)
    (hm : mayName s c.fn (c.f 24 8) (2 ^ c.f 19 1) false = true) (ha : addrRemote s (c.f 24 8) = false)
    (hn : regFind s (hostKey s c.partition (c.f 20 4)) = none) (hfull : 65536 ≤ s.vertex.regs.length) :
    ∃ t, exec (.portBind cid) s = .next t ∧ t.ports = s.ports ∧ t.streams = s.streams ∧
      Completed s t c stNoResource 0 0 := by
  have hput := regPut_full (s := begin' s cid) (s.stream i).placementGen hn hfull
  have hact := (portBindEff_host hs ho hr h2).trans (bindHost_here (s := begin' s cid) hf hm ha)
  rw [show regPut (begin' s cid) (hostKey (begin' s cid) c.partition (c.f 20 4))
    ((begin' s cid).stream i).placementGen = _ from hput, if_neg Bool.false_ne_true] at hact
  obtain ⟨hex, hdone⟩ := h.finishesAfter hact (State.setVertexCause_ev ..)
  exact ⟨_, hex, finish_ports .., finish_streams .., hdone⟩

end

end Sys2Proof.Machine
end

section
/-! PORT_ARM, PORT_STOP and ALIGN_GROUP_SET, and with them the port commands (O54). -/

-- These proofs wait on the same definitions: they are elaborated in order.
set_option Elab.async false

namespace Sys2Proof.Machine

section
variable {s t u : State} {c : Cmd} {cid p x k g r m st : Nat} {q : Port}

/-! ### PORT_ARM (R304) -/

/-- The parameters are in order. -/
def armOk (c : Cmd) : Prop := c.object < 16 ∧ c.only [(16, 1)] = true ∧ c.f 16 1 ≤ 3

/-- The port as PORT_ARM leaves it. -/
def Port.armedBy (q : Port) (c : Cmd) (now : Nat) (hold : Bool) : Port :=
  { q with
    armed := true, arm := some (c.cid, now), armFrame := none, immediate := bitAt (c.f 16 1) 0
    startMaster := bitAt (c.f 16 1) 1, dataKnown := false, heldState := 0, state := if hold then 5 else 0 }

theorem portArmEff_badForm (h : ¬ armOk c) : portArmEff c s = fail s c.cid stInvalidParameter := by
  refine if_pos ?_
  by_contra hn
  simp only [Bool.or_eq_true, decide_eq_true_eq, not_or, Nat.not_le, Nat.not_lt, Bool.not_eq_true', Bool.not_eq_false]
    at hn
  obtain ⟨⟨hp, ho⟩, hf⟩ := hn
  exact h ⟨hp, ho, hf⟩

theorem portArmEff_formed (h : armOk c) : portArmEff c s =
    if !(s.port c.object).configured then fail s c.cid stNotFound
    else if (s.port c.object).armed || s.test.loops.contains (3, c.object) then fail s c.cid stBusy
    else s.modPort c.object (·.armedBy c s.now ((s.port c.object).clock == 2 && !clocksOn s c.object)) := by
  obtain ⟨hp, ho, hf⟩ := h
  exact if_neg (by simp [ho, Nat.not_le.2 hp, Nat.not_lt.2 hf])

theorem portArmEff_notFound (h : armOk c) (hc : (s.port c.object).configured = false) :
    portArmEff c s = fail s c.cid stNotFound := (portArmEff_formed h).trans (if_pos (by simp [hc]))

theorem portArmEff_busy (h : armOk c) (hc : (s.port c.object).configured = true)
    (hb : (s.port c.object).armed = true ∨ (3, c.object) ∈ s.test.loops) : portArmEff c s = fail s c.cid stBusy :=
  (portArmEff_formed h).trans <| (if_neg (by simp [hc])).trans (if_pos (by simpa using hb))

theorem portArmEff_arms (h : armOk c) (hc : (s.port c.object).configured = true)
    (ha : (s.port c.object).armed = false) (hl : (3, c.object) ∉ s.test.loops) : portArmEff c s =
      s.modPort c.object (·.armedBy c s.now ((s.port c.object).clock == 2 && !clocksOn s c.object)) :=
  (portArmEff_formed h).trans <| (if_neg (by simp [hc])).trans (if_neg (by simp [ha, hl]))

theorem bitAt_one_iff {f : Nat} (h : f ≤ 3) : bitAt f 1 = true ↔ 2 ≤ f := by
  unfold bitAt
  interval_cases f <;> decide

theorem bitAt_zero_iff (f : Nat) : bitAt f 0 = true ↔ f % 2 = 1 := by
  rw [bitAt, Nat.testBit_zero, decide_eq_true_eq]

theorem portArm_arms (h : Ready s cid 0x42 c) (hok : armOk c) (hc : (s.port c.object).configured = true)
    (ha : (s.port c.object).armed = false) (hl : (3, c.object) ∉ s.test.loops) :
    ∃ t, exec (.portArm cid) s = .next t ∧ (t.port c.object).armed = true ∧
      (t.port c.object).arm = some (cid, s.now) ∧ ((t.port c.object).immediate = true ↔ c.f 16 1 % 2 = 1) ∧
      ((t.port c.object).startMaster = true ↔ 2 ≤ c.f 16 1) ∧ (t.port c.object).state =
        (if (s.port c.object).clock = 2 ∧ clocksOn s c.object = false then 5 else 0) ∧ t.cmd cid ≠ none := by
  have hport := State.port_modPort (begin' s cid) c.object
    (·.armedBy c s.now ((s.port c.object).clock == 2 && !clocksOn s c.object))
  have hact := portArmEff_arms (s := begin' s cid) hok hc ha hl
  obtain ⟨-, -, hf⟩ := hok
  refine ⟨_, onCmd_acts h hact, congrArg Port.armed hport, ?_, ?_, ?_, ?_, h.cmd_ne_none rfl⟩
  · rw [← State.cmd_cid h.1]
    exact congrArg Port.arm hport
  · exact (congrArg (·.immediate = true) hport).to_iff.trans (bitAt_zero_iff _)
  · exact (congrArg (·.startMaster = true) hport).to_iff.trans (bitAt_one_iff hf)
  · refine (congrArg Port.state hport).trans (if_congr ?_ rfl rfl)
    simp

/-! ### PORT_STOP (R305) -/

theorem portStopEff_badForm (h : 16 ≤ c.object ∨ c.only [] = false) :
    portStopEff c s = fail s c.cid stInvalidParameter := if_pos (by simpa using h)

theorem portStopEff_formed (hp : c.object < 16) (ho : c.only [] = true) : portStopEff c s =
    if !(s.port c.object).armed || (s.port c.object).stop.isSome then fail s c.cid stBusy
    else s.modPort c.object fun q => { q with stop := some (some c.cid, s.now) } :=
  if_neg (by simp [ho, Nat.not_le.2 hp])

theorem portStopEff_busy (hp : c.object < 16) (ho : c.only [] = true)
    (hb : (s.port c.object).armed = false ∨ (s.port c.object).stop ≠ none) :
    portStopEff c s = fail s c.cid stBusy :=
  (portStopEff_formed hp ho).trans (if_pos (by simpa [Option.isSome_iff_ne_none] using hb))

theorem portStop_stops (h : Ready s cid 0x43 c) (hp : c.object < 16) (ho : c.only [] = true)
    (ha : (s.port c.object).armed = true) (hs : (s.port c.object).stop = none) :
    ∃ t, exec (.portStop cid) s = .next t ∧ (t.port c.object).stop = some (some cid, s.now) ∧
      (t.port c.object).state = (s.port c.object).state ∧ t.cmd cid ≠ none := by
  have hport := State.port_modPort (begin' s cid) c.object fun q => { q with stop := some (some c.cid, s.now) }
  have hfree : ¬ (!((begin' s cid).port c.object).armed || ((begin' s cid).port c.object).stop.isSome) = true := by
    change ¬ (!(s.port c.object).armed || (s.port c.object).stop.isSome) = true
    simp [ha, hs]
  have hact := (portStopEff_formed (s := begin' s cid) hp ho).trans (if_neg hfree)
  refine ⟨_, onCmd_acts h hact, ?_, (congrArg Port.state hport).trans rfl, h.cmd_ne_none rfl⟩
  rw [← State.cmd_cid h.1]
  exact congrArg Port.stop hport

/-! ### ALIGN_GROUP_SET (R306) -/

/-- The mask of a port. -/
def Cmd.alignMask (c : Cmd) (q : Nat) : Nat := c.f (32 + 4 * q) 4

/-- The ports that the command names: a slot joins the group there, or one is in it. -/
def aligns (s : State) (c : Cmd) (q : Nat) : Prop :=
  q < 16 ∧ (c.alignMask q ≠ 0 ∨ inGroup (s.port q) (c.f 16 1) ≠ [])

/-- The same ports, listed. -/
def alignPorts (s : State) (c : Cmd) : List Nat :=
  (upTo 16).filter fun q => decide (c.alignMask q ≠ 0) || !(inGroup (s.port q) (c.f 16 1)).isEmpty

theorem mem_alignPorts : k ∈ alignPorts s c ↔ aligns s c k := by
  simp [alignPorts, aligns, upTo]

/-- The masks of the ports name their slots, none of them in another group. -/
def alignOk (s : State) (c : Cmd) : Prop := c.only [(16, 2), (32, 64)] = true ∧ c.f 16 1 ≤ 15 ∧ c.f 17 1 ≤ 1 ∧
  ∀ q, aligns s c q → c.alignMask q < 2 ^ (s.port q).slots.toNat ∧
    ∀ k < 32, (c.alignMask q).testBit k = true → (groupOf (s.port q) k).all (fun x => x % 16 == c.f 16 1) = true

/-- The function may change every port that the command names. -/
def alignOwned (s : State) (c : Cmd) : Prop := c.fn = 0 ∨ ∀ q, aligns s c q → ownsPort s c.fn q = true

theorem alignOwned_iff : alignOwned s c ↔
    ¬ (c.fn ≠ 0 && !((alignPorts s c).all fun q => ownsPort s c.fn q)) = true := by
  simp [alignOwned, mem_alignPorts, imp_iff_not_or]

theorem alignMasks_iff : (∀ q, aligns s c q → c.alignMask q < 2 ^ (s.port q).slots.toNat ∧
    ∀ k < 32, (c.alignMask q).testBit k = true → (groupOf (s.port q) k).all (fun x => x % 16 == c.f 16 1) = true) ↔
      ((alignPorts s c).all fun q => decide (c.alignMask q < 2 ^ (s.port q).slots.toNat) &&
        (maskBits 32 (c.alignMask q)).all fun k => (groupOf (s.port q) k).all fun x => x % 16 == c.f 16 1) = true := by
  simp only [List.all_eq_true, Bool.and_eq_true, decide_eq_true_eq, mem_alignPorts, mem_maskBits, and_imp]

theorem alignGroupEff_notOwner (h : ¬ alignOwned s c) : alignGroupEff c s = fail s c.cid stNotPermitted :=
  if_pos (not_not.1 (alignOwned_iff.not.1 h))

theorem alignGroupEff_badForm (hown : alignOwned s c) (h : ¬ alignOk s c) :
    alignGroupEff c s = fail s c.cid stInvalidParameter := by
  refine (if_neg (alignOwned_iff.1 hown)).trans (ite_eq_left_iff.2 fun hform => if_pos ?_)
  simp only [Bool.or_eq_true, decide_eq_true_eq, not_or, Nat.not_lt, Bool.not_eq_true', Bool.not_eq_false] at hform
  obtain ⟨⟨ho, hg⟩, hr⟩ := hform
  rw [Bool.not_eq_true', ← Bool.not_eq_true]
  exact fun hm => h ⟨ho, hg, hr, alignMasks_iff.2 hm⟩

theorem alignGroupEff_sets (hown : alignOwned s c) (h : alignOk s c) : alignGroupEff c s =
    fail ((alignPorts s c).foldl (fun s q => regroupPort s (c.f 16 1) (c.f 17 1) (c.alignMask q) q) s) c.cid stOk := by
  obtain ⟨ho, hg, hr, hm⟩ := h
  refine (if_neg (alignOwned_iff.1 hown)).trans <| (if_neg ?_).trans (if_neg ?_)
  · simp [ho, Nat.not_lt.2 hg, Nat.not_lt.2 hr]
  · exact fun h => Bool.false_ne_true ((congrArg not (alignMasks_iff.1 hm)).symm.trans h)

/-- The port with the changes that wait for its frame boundary (R338). -/
def Port.regrouped (q : Port) (g r m : Nat) : Port :=
  { q with regroup :=
      (q.regroup.filter fun x => !((inGroup q g).filter fun k => !m.testBit k).contains x.1 &&
        !(maskBits 32 m).contains x.1) ++
      ((inGroup q g).filter fun k => !m.testBit k).map (fun k => (k, none)) ++
      (maskBits 32 m).map fun k => (k, some (g + 16 * r)) }

/-- The listed ports change, each once. -/
theorem port_foldl_regroup {mask : Nat → Nat} {l : List Nat} (hl : l.Nodup) (hx : x ∈ l) :
    (l.foldl (fun s q => regroupPort s g r (mask q) q) s).port x = (s.port x).regrouped g r (mask x) := by
  have hother {l : List Nat} {s : State} (hx : x ∉ l) :
      (l.foldl (fun s q => regroupPort s g r (mask q) q) s).port x = s.port x := by
    induction l generalizing s with
    | nil => rfl
    | cons y l ih =>
      exact (ih (List.not_mem_of_not_mem_cons hx)).trans (State.port_modPort_other (List.ne_of_not_mem_cons hx))
  induction l generalizing s with
  | nil => exact absurd hx List.not_mem_nil
  | cons y l ih =>
    obtain ⟨hy, hl⟩ := List.nodup_cons.1 hl
    rcases List.mem_cons.1 hx with rfl | hm
    · exact (hother hy).trans (State.port_modPort ..)
    · exact (ih hl hm).trans
        (congrArg (Port.regrouped · g r (mask x)) (State.port_modPort_other (ne_of_mem_of_not_mem hm hy)))

theorem regrouped_joins (hk : k < 32) (h : m.testBit k = true) : (k, some (g + 16 * r)) ∈ (q.regrouped g r m).regroup :=
  List.mem_append_right _ (List.mem_map.2 ⟨k, mem_maskBits.2 ⟨hk, h⟩, rfl⟩)

theorem regrouped_leaves (hk : k ∈ inGroup q g) (h : m.testBit k = false) : (k, none) ∈ (q.regrouped g r m).regroup :=
  List.mem_append_left _ <| List.mem_append_right _ <|
    List.mem_map.2 ⟨k, List.mem_filter.2 ⟨hk, by simp [h]⟩, rfl⟩

theorem alignGroupSet_sets (h : Ready s cid 0x44 c) (hown : alignOwned s c) (hok : alignOk s c) :
    ∃ t, exec (.alignGroupSet cid) s = .next t ∧ Completed s t c 0x00 0 0 ∧ ∀ q < 16, ∀ k < 32,
      ((c.alignMask q).testBit k = true → (k, some (c.f 16 1 + 16 * c.f 17 1)) ∈ (t.port q).regroup) ∧
      ((c.alignMask q).testBit k = false → k ∈ inGroup (s.port q) (c.f 16 1) → (k, none) ∈ (t.port q).regroup) := by
  have hact := alignGroupEff_sets (s := begin' s cid) hown hok
  obtain ⟨hex, hdone⟩ := h.finishesAfter (A := 1073741824) hact
    (.foldl _ (fun _ _ => .step (regroupPort_ev ..) <| .refl ..) <| .refl ..)
  have hnodup : (alignPorts (begin' s cid) c).Nodup := List.nodup_range.filter _
  have hport {q : Nat} (hq : aligns s c q) := port_foldl_regroup (s := begin' s cid) (g := c.f 16 1) (r := c.f 17 1)
    (mask := c.alignMask) hnodup ((mem_alignPorts (s := begin' s cid)).2 hq)
  refine ⟨_, hex, hdone, fun q hq k hk => ⟨fun hb => ?_, fun hb hin => ?_⟩⟩
  · have hne : c.alignMask q ≠ 0 := fun h0 => by simp [h0] at hb
    rw [port_ended, hport ⟨hq, .inl hne⟩]
    exact regrouped_joins hk hb
  · rw [port_ended, hport ⟨hq, .inr (List.ne_nil_of_mem hin)⟩]
    exact regrouped_leaves hin hb

end

end Sys2Proof.Machine
end

section
/-! The five port commands (O54). -/

-- These proofs wait on the same definitions: they are elaborated in order.
set_option Elab.async false

namespace Sys2Proof.Machine

/-- Settles O54: PORT_CONFIG by its checks, and then by whether the port's clocks run, without which a commit that
completes commands with OK alone completes its own too; PORT_BIND by its form and by what it binds to; PORT_ARM and
PORT_STOP by the state of the port; ALIGN_GROUP_SET port by port. -/
theorem portCommandsTakeEffect : Obligations.PortCommandsTakeEffect := by
  rintro s cid c p w ends rfl
  refine ⟨?config, ?bind, ?arm, ?stop, ?align⟩
  case config =>
    rintro b q ok rate h rfl rfl rfl hok rfl
    have hok : ok ↔ portConfigOk s c := hok
    refine ⟨fun hn => h.refuses (portConfigEff_badForm (hok.not.1 hn)),
      fun ho hfn hown => h.refuses (portConfigEff_notOwner (hok.1 ho) hfn hown), fun ho hown => ⟨fun ha hch =>
        h.refuses (portConfigEff_armed (hok.1 ho) hown ha hch), fun harm => ⟨fun hr hu => ?used, fun hfree => ?_⟩⟩⟩
    case used =>
      refine h.refuses (portConfigEff_used (s := begin' s cid) (hok.1 ho) hown harm hr ?_)
      exact hu.imp_right fun ⟨i, hi, hrun⟩ => ⟨i, hi, (hasRun_begin' i).trans hrun⟩
    have hf : ConfigFree s c := ⟨hok.1 ho, hown, harm, hfree⟩
    refine ⟨fun hc => ?_, fun hc hq => ?_⟩
    · obtain ⟨t, hex, hcmd, ⟨tab, hport⟩, hsinks⟩ := portConfig_waits w h hf hc
      have hcommit : configCommit s c = { cid := cid, since := s.now, params := c.config } := by
        rw [configCommit, State.cmd_cid h.1]
      rw [hcommit] at hport
      refine ⟨t, hex, hcmd, ?_, ?_, ?_, ?_, ?_, hsinks⟩ <;> rw [hport]
      · rfl
      · rfl
      · exact toNat_ofNat_of_lt (par_lt ..)
      · exact toNat_ofNat_of_lt (par_lt ..)
      · rfl
    · obtain ⟨t, hex, hdone, ⟨l, f, tab, tab', hport⟩, hsinks, hother⟩ := portConfig_applies w h hf hc hq
      refine ⟨t, hex, hdone, ?_, ?_, ?_, ?_, fun hco => ?_, hsinks, hother⟩
      · rw [hport]
        exact toNat_ofNat_of_lt (par_lt ..)
      · rw [hport]
        exact toNat_ofNat_of_lt (par_lt ..)
      · rw [hport]
        exact toNat_ofNat_of_lt (par_lt ..)
      · rw [hport]
        exact getLsbD_setBit_self _ (by decide)
      · obtain ⟨-, -, -, hform⟩ := hok.1 ho
        have hco : commitOnly c.config = false := hco
        rw [hco] at hform
        rw [hport]
        exact applyConfig_configured hform hco _
  case bind =>
    intro i h hs
    have hempty (hr : runsNaming s i cid = []) : (runsNaming s i c.cid).isEmpty = true := by
      rw [State.cmd_cid h.1, hr]
      rfl
    refine ⟨fun hb => h.refuses (portBindEff_badForm (hs.begun cid) hb), fun ho h2 hr => h.refuses ?_,
      fun ho hr => ⟨fun h0 => portBind_unbinds h hs ho (hempty hr) h0, ?_, ?_⟩⟩
    · refine portBindEff_busy (hs.begun cid) ho h2 ((runsNaming_begin' ..).trans ?_)
      rw [State.cmd_cid h.1]
      simpa using hr
    · rintro h1 rfl
      refine ⟨fun hp => portBind_port_ends h hs ho (hempty hr) h1 (bindPort_noPort hp),
        fun hp hown => portBind_port_ends h hs ho (hempty hr) h1 (bindPort_notOwner hp hown),
        fun hp hown fits hfits => ?_⟩
      have hfits : fits ↔ slotFits s c i := hfits
      refine ⟨fun hn => portBind_port_ends h hs ho (hempty hr) h1
          (bindPort_unfit (s := begin' s cid) hp hown (hfits.not.1 hn)),
        fun hf ht => portBind_port_ends h hs ho (hempty hr) h1 ?_,
        fun hf ht => portBind_binds h hs ho (hempty hr) h1 hp hown (hfits.1 hf) ht⟩
      exact (bindPort_fits (s := begin' s cid) hp hown (hfits.1 hf)).trans (if_pos ht)
    · rintro v n id ok h2 rfl rfl rfl hok
      have hok : ok ↔ hostFits c := hok
      refine ⟨fun hn => portBind_host_ends h hs ho (hempty hr) h2 (bindHost_badForm (hok.not.1 hn)),
        fun hf hm => portBind_host_ends h hs ho (hempty hr) h2
          (bindHost_unnamed (s := begin' s cid) (hok.1 hf) hm), ?_, ?_⟩
      · rintro hf hm ha d rfl
        exact ⟨portBind_away_asks h hs ho (hempty hr) h2 (hok.1 hf) hm ha,
          portBind_away_unreachable h hs ho (hempty hr) h2 (hok.1 hf) hm ha⟩
      · rintro hf hm ha key rfl
        exact ⟨portBind_here_binds h hs ho (hempty hr) h2 (hok.1 hf) hm ha,
          portBind_here_full h hs ho (hempty hr) h2 (hok.1 hf) hm ha⟩
  case arm =>
    rintro h rfl ok hok
    have hok : ok ↔ armOk c := hok
    exact ⟨fun hn => h.refuses (portArmEff_badForm (hok.not.1 hn)),
      fun ho hc => h.refuses (portArmEff_notFound (s := begin' s cid) (hok.1 ho) hc),
      fun ho hc hb => h.refuses (portArmEff_busy (s := begin' s cid) (hok.1 ho) hc hb),
      fun ho hc ha hl => portArm_arms h (hok.1 ho) hc ha hl⟩
  case stop =>
    rintro h rfl
    exact ⟨fun hb => h.refuses (portStopEff_badForm hb),
      fun hp ho hb => h.refuses (portStopEff_busy (s := begin' s cid) hp ho hb), portStop_stops h⟩
  case align =>
    rintro g mask named own ok h rfl rfl rfl hown hok
    have hown : own ↔ alignOwned s c := hown
    have hok : ok ↔ alignOk s c := hok
    exact ⟨fun hn => h.refuses (alignGroupEff_notOwner (s := begin' s cid) (hown.not.1 hn)),
      fun hw hn => h.refuses (alignGroupEff_badForm (s := begin' s cid) (hown.1 hw) (hok.not.1 hn)),
      fun hw ho => alignGroupSet_sets h (hown.1 hw) (hok.1 ho)⟩

end Sys2Proof.Machine
end
